-- ==== Sys2Proof/Word.lean ====
section
/-! DEFINITION. The word types of the device (R8) and the two plain helpers on them that no rule
of the spec ever varies. -/
namespace Sys2Proof

/-- A byte on a port, a bus or in a store. -/
abbrev Byte := BitVec 8

/-- A register word (R8). -/
abbrev Word := BitVec 32

/-- A 64-bit value: two consecutive registers, a parameter or a binary64 image. -/
abbrev Quad := BitVec 64

/-- One bit as a word field. -/
def bit (b : Bool) : Nat := if b then 1 else 0

/-- Little-endian bytes of `n`, `k` of them (R8). -/
def leBytes : Nat → Nat → List Byte
  | 0, _ => []
  | k + 1, n => BitVec.ofNat 8 n :: leBytes k (n / 256)

/-- The number that little-endian bytes spell (R8). -/
def ofLeBytes : List Byte → Nat
  | [] => 0
  | b :: bs => b.toNat + 256 * ofLeBytes bs

/-- Replace the element at `i`; a list shorter than that is unchanged. -/
def setAt {α : Type} : List α → Nat → α → List α
  | [], _, _ => []
  | _ :: xs, 0, y => y :: xs
  | x :: xs, i + 1, y => x :: setAt xs i y

/-- Change the element at `i` by `f`; a list shorter than that is unchanged. -/
def modAt {α : Type} : List α → Nat → (α → α) → List α
  | [], _, _ => []
  | x :: xs, 0, f => f x :: xs
  | x :: xs, i + 1, f => x :: modAt xs i f

/-- Count up and stop at the field's largest value (every counter said to saturate). -/
def satInc (limit n : Nat) : Nat := if n + 1 ≤ limit then n + 1 else limit

end Sys2Proof
end

