-- ==== Sys2Proof/Machine/Codes.lean ====
section
/-! DEFINITION. The check codes of the device: the CRC units of R129 with CRC-32C (R119), the port and frame codes
built on them, and SHA-256 with its HMAC (R95, R451). -/
namespace Sys2Proof.Machine

/-- A CRC algorithm: width, polynomial, initial value, reflections and final XOR (R129, R134). -/
structure CrcAlg where
  width : Nat
  poly : Nat
  init : Nat
  refIn : Bool
  refOut : Bool
  xorOut : Nat
deriving DecidableEq, Repr

/-- The low `n` bits of `v` in reverse order. -/
def reflect : Nat → Nat → Nat
  | 0, _ => 0
  | n + 1, v => (v % 2) * 2 ^ n + reflect n (v / 2)

/-- Feed one bit, most significant first, into the register. -/
def crcBit (a : CrcAlg) (reg b : Nat) : Nat :=
  let top := reg / 2 ^ (a.width - 1) % 2
  let sh := 2 * reg % 2 ^ a.width
  if (top + b) % 2 == 1 then sh ^^^ a.poly else sh

/-- Feed the `n` low bits of `v`, most significant first. -/
def crcBits (a : CrcAlg) : Nat → Nat → Nat → Nat
  | 0, _, reg => reg
  | n + 1, v, reg => crcBits a n v (crcBit a reg (v / 2 ^ n % 2))

/-- Feed bytes. -/
def crcFeed (a : CrcAlg) (reg : Nat) : List Byte → Nat
  | [] => reg
  | b :: bs => crcFeed a (crcBits a 8 (if a.refIn then reflect 8 b.toNat else b.toNat) reg) bs

/-- The value of the algorithm over bytes. -/
def crc (a : CrcAlg) (bs : List Byte) : Nat :=
  let r := crcFeed a (a.init % 2 ^ a.width) bs
  ((if a.refOut then reflect a.width r else r) ^^^ a.xorOut) % 2 ^ a.width

/-- Unit 0: CRC-32C (R119). -/
def crc32cAlg : CrcAlg := ⟨32, 0x1EDC6F41, 0xFFFFFFFF, true, true, 0xFFFFFFFF⟩
/-- Unit 1: CRC-32 of IEEE 802.3 (R129). -/
def crc32Alg : CrcAlg := ⟨32, 0x04C11DB7, 0xFFFFFFFF, true, true, 0xFFFFFFFF⟩
/-- Unit 2: CRC-16 CCITT (R129). -/
def crc16Alg : CrcAlg := ⟨16, 0x1021, 0xFFFF, false, false, 0⟩
/-- CRC-24Q, the frame check of a correction message (R178). -/
def crc24qAlg : CrcAlg := ⟨24, 0x864CFB, 0, false, false, 0⟩

/-- CRC-32C of bytes (R119). -/
def crc32c (bs : List Byte) : Word := BitVec.ofNat 32 (crc crc32cAlg bs)
/-- CRC-16 CCITT of bytes (R129). -/
def crc16 (bs : List Byte) : BitVec 16 := BitVec.ofNat 16 (crc crc16Alg bs)

/-- Big-endian bytes as a number. -/
def ofBeBytes (bs : List Byte) : Nat := bs.foldl (fun a b => a * 256 + b.toNat) 0

/-- A number as `k` big-endian bytes. -/
def beBytes (k n : Nat) : List Byte := (leBytes k n).reverse

/-- Cut a list into pieces of `n`, at most `fuel` of them. -/
def pieces {α : Type} (n : Nat) : Nat → List α → List (List α)
  | 0, _ => []
  | fuel + 1, xs => if xs.isEmpty then [] else xs.take n :: pieces n fuel (xs.drop n)

/-! ## The secure hashes (FIPS 180-4), one definition for SHA-256 and SHA-512 -/

/-- What tells the two hashes apart: the word width in bits, and for the six bit mixers the rotations, the last entry of a schedule mixer
being a shift. -/
structure HashShape where
  width : Nat
  mixA : List Nat
  mixE : List Nat
  older : List Nat
  newer : List Nat
deriving DecidableEq, Repr

/-- SHA-256. -/
def shape256 : HashShape := ⟨32, [2, 13, 22], [6, 11, 25], [7, 18, 3], [17, 19, 10]⟩

/-- SHA-512. -/
def shape512 : HashShape := ⟨64, [28, 34, 39], [14, 18, 41], [1, 8, 7], [19, 61, 6]⟩

/-- A number without a divisor from 2 to 20, itself apart: below 441, a prime. -/
def smallPrime (n : Nat) : Bool := 2 ≤ n && (List.range 21).all fun k => k < 2 || k == n || n % k != 0

/-- The first `n` primes, `n` at most 80. -/
def firstPrimes (n : Nat) : List Nat := ((List.range 410).filter smallPrime).take n

/-- The whole `k`-th root of `n`, found bit by bit from bit `b` downward. -/
def wholeRoot (k n : Nat) : Nat → Nat → Nat
  | 0, r => r
  | b + 1, r => wholeRoot k n b (if (r + 2 ^ b) ^ k ≤ n then r + 2 ^ b else r)

/-- The first `w` bits of the fractional part of the `k`-th root of a prime, where the constants of the hashes come from. -/
def rootFraction (w k p : Nat) : Nat := wholeRoot k (p * 2 ^ (k * w)) (w + 3) 0 % 2 ^ w

/-- The constant of each round, from the cube roots: 64 of 32 bits, 80 of 64 bits. -/
def HashShape.rounds (h : HashShape) : List Nat := (firstPrimes (48 + h.width / 2)).map (rootFraction h.width 3)

/-- The words before the first block, from the square roots. -/
def HashShape.begin (h : HashShape) : List Nat := (firstPrimes 8).map (rootFraction h.width 2)

/-- Rotate a word right. -/
def HashShape.turn (h : HashShape) (x r : Nat) : Nat := x / 2 ^ r + x % 2 ^ r * 2 ^ (h.width - r)

/-- A mixer of three rotations. -/
def HashShape.turns (h : HashShape) (x : Nat) (rs : List Nat) : Nat := rs.foldl (fun m r => m ^^^ h.turn x r) 0

/-- A mixer of the schedule: two rotations and a shift. -/
def HashShape.fades (h : HashShape) (x : Nat) (rs : List Nat) : Nat := h.turns x (rs.take 2) ^^^ x / 2 ^ rs.getD 2 0

/-- The eight working words after a round whose constant and schedule word add up to `x`. -/
def HashShape.turnover (h : HashShape) (v : List Nat) (x : Nat) : List Nat :=
  let word (i : Nat) : Nat := v.getD i 0
  let choice := ((word 5 ^^^ word 6) &&& word 4) ^^^ word 6
  let most := (word 0 &&& word 1) ||| ((word 0 ||| word 1) &&& word 2)
  let part := word 7 + h.turns (word 4) h.mixE + choice + x
  let lead := (part + h.turns (word 0) h.mixA + most) % 2 ^ h.width
  lead :: (v.take 3 ++ (word 3 + part) % 2 ^ h.width :: (v.drop 4).take 3)

/-- Run the rounds whose constants are given, over the window of the schedule's sixteen latest words. -/
def HashShape.mill (h : HashShape) : List Nat → List Nat → List Nat → List Nat
  | [], _, v => v
  | k :: ks, win, v =>
    let next := (win.getD 0 0 + h.fades (win.getD 1 0) h.older + win.getD 9 0 + h.fades (win.getD 14 0) h.newer) % 2 ^ h.width
    h.mill ks (win.drop 1 ++ [next]) (h.turnover v (k + win.getD 0 0))

/-- Take one block of sixteen words into the hash. -/
def HashShape.block (h : HashShape) (ks v : List Nat) (blk : List Byte) : List Nat :=
  List.zipWith (fun a b => (a + b) % 2 ^ h.width) v (h.mill ks ((pieces (h.width / 8) 16 blk).map ofBeBytes) v)

/-- The message with its padding: a 1 bit, zeros, and the length in bits in the last two words of a block. -/
def HashShape.padded (h : HashShape) (m : List Byte) : List Byte :=
  let size := 2 * h.width
  let tail := h.width / 4
  m ++ 0x80 :: List.replicate ((2 * size - 1 - tail - m.length % size) % size) 0 ++ beBytes tail (8 * m.length)

/-- The digest of a message. -/
def HashShape.digest (h : HashShape) (m : List Byte) : List Byte :=
  let ks := h.rounds
  let blocks := pieces (2 * h.width) (m.length / (2 * h.width) + 2) (h.padded m)
  (blocks.foldl (h.block ks) h.begin).flatMap (beBytes (h.width / 8))

/-- SHA-256 (R95, R451). -/
def sha256 (m : List Byte) : List Byte := shape256.digest m

/-- SHA-512, inside Ed25519 (R95). -/
def sha512 (m : List Byte) : List Byte := shape512.digest m

/-- HMAC-SHA-256 (FIPS 198-1) under a key of at most 64 bytes. -/
def hmacSha256 (key msg : List Byte) : List Byte :=
  let k := key ++ List.replicate (64 - key.length) 0
  let inner := sha256 (k.map (· ^^^ 0x36) ++ msg)
  sha256 (k.map (· ^^^ 0x5C) ++ inner)

end Sys2Proof.Machine
end

