-- ==== Sys2Proof/Machine/Memory.lean ====
section
/-! DEFINITION. Byte memory as a list of cells in one canonical form: the memory that the host reaches through BAR2 and the stores that
the scan engine reads (R8, R130, R501). A byte that nothing has written reads 0. -/
namespace Sys2Proof.Machine
open Sys2Proof

/-- Bytes by address: addresses strictly rising, and no byte equal to 0. -/
abbrev Memory := List Host.Cell

/-- The byte at an address; 0 where none is listed. -/
def Memory.read : Memory → Nat → Byte
  | [], _ => 0
  | (b, v) :: m, a => if b = a then v else Memory.read m a

/-- Drop every cell of an address. -/
def Memory.drop : Memory → Nat → Memory
  | [], _ => []
  | (b, v) :: m, a => if b = a then Memory.drop m a else (b, v) :: Memory.drop m a

/-- List a byte at its place in the order. -/
def Memory.put : Memory → Nat → Byte → Memory
  | [], a, v => [(a, v)]
  | (b, x) :: m, a, v =>
    if a < b then (a, v) :: (b, x) :: m
    else if a = b then (a, v) :: m
    else (b, x) :: Memory.put m a v

/-- Write a byte; 0 leaves no cell. -/
def Memory.write (m : Memory) (a : Nat) (v : Byte) : Memory := if v = 0 then m.drop a else m.put a v

/-- The cells' addresses rise strictly. -/
def Memory.sorted : Memory → Bool
  | [] => true
  | [_] => true
  | (a, _) :: (b, v) :: m => a < b && Memory.sorted ((b, v) :: m)

/-- The canonical form. -/
def Memory.wf (m : Memory) : Bool := m.sorted && m.all (fun c => c.2 != 0)

/-- Write bytes from an address upward. -/
def Memory.writeAll : Memory → Nat → List Byte → Memory
  | m, _, [] => m
  | m, a, b :: bs => Memory.writeAll (m.write a b) (a + 1) bs

/-- `n` bytes from an address upward. -/
def Memory.readAll (m : Memory) (a : Nat) : Nat → List Byte
  | 0 => []
  | n + 1 => m.read a :: m.readAll (a + 1) n

end Sys2Proof.Machine
end

