-- ==== Sys2Proof/Machine/ParamTable.lean ====
section
/-! DEFINITION. The parameter table (R10, R107, R117 and the parameter rules of each block): the names of the
parameter indices, and for every parameter its type, its range, its factory value and its level. -/
namespace Sys2Proof.Machine

/-- The parameter types, coded as in PARAM_INFO.TYPE (R117). -/
inductive ParamType where
  | bool | u8 | u16 | u32 | s32 | fp32 | fp64 | bam32 | q
deriving DecidableEq, Repr

/-- One row of a parameter table: first index, number of elements, type, the closed ranges of allowed values and the
factory values as raw words of the type (one, or one for each element), and whether the level is expert. -/
structure ParamRow where
  base : Nat
  count : Nat
  type : ParamType
  ranges : List (Nat × Nat)
  factory : List Nat
  expert : Bool
deriving DecidableEq, Repr

namespace P

/-- R58; no unit. -/
abbrev SYS.FOLLOW_ENABLE : Nat := 0x0010
/-- R58; no unit. -/
abbrev SYS.M5_MIN_REFS : Nat := 0x0011
/-- R58; % of rated thrust. -/
abbrev SYS.SVC_THRUST_LIMIT : Nat := 0x0012
/-- R498; s. -/
abbrev SYS.CYCLE_WAIT : Nat := 0x0013
/-- R538; °C. -/
abbrev SYS.TEMP_WARN : Nat := 0x0014
/-- R538; V. -/
abbrev SYS.VIN_WARN_LO : Nat := 0x0015
/-- R538; V. -/
abbrev SYS.VIN_WARN_HI : Nat := 0x0016
/-- R481; no unit. -/
abbrev CLK.REF_PRIO : Nat := 0x0100
/-- R481; ppm. -/
abbrev CLK.REF_TOL : Nat := 0x0101
/-- R481; s. -/
abbrev CLK.REF_QUAL : Nat := 0x0102
/-- R481; no unit. -/
abbrev CLK.REF_REVERT : Nat := 0x0103
/-- R87; ids. -/
abbrev SCHED.POOL_LOW : Nat := 0x0300
/-- R87; fence hits per hyperframe. -/
abbrev SCHED.FENCE_PERSIST : Nat := 0x0301
/-- R87; ms. -/
abbrev SCHED.AGE_LIMIT : Nat := 0x0302
/-- R118; s. -/
abbrev IMG.KG_DWELL : Nat := 0x0400
/-- R118; mode. -/
abbrev IMG.KG_MIN_MODE : Nat := 0x0401
/-- R136; no unit. -/
abbrev CHK.BG_ENABLE : Nat := 0x0500
/-- R136; breaks per hyperframe. -/
abbrev CHK.BREAK_PERSIST : Nat := 0x0501
/-- R166; ns. -/
abbrev ENTRY.PORT_LAT (n : Nat) : Nat := 0x0600 + n
/-- R166; ns. -/
abbrev ENTRY.NET_LAT (n : Nat) : Nat := 0x060c + n
/-- R166; ns. -/
abbrev ENTRY.CAN_LAT (n : Nat) : Nat := 0x0610 + n
/-- R166; ns. -/
abbrev ENTRY.SLOT_LAT (n : Nat) : Nat := 0x0640 + n
/-- R166; ms. -/
abbrev ENTRY.SLOT_TIMEOUT (n : Nat) : Nat := 0x0680 + n
/-- R166; mA. -/
abbrev AFE.MA_LOW : Nat := 0x0700
/-- R166; mA. -/
abbrev AFE.MA_HIGH : Nat := 0x0701
/-- R191; Hz. -/
abbrev GNSS.RATE : Nat := 0x0800
/-- R191; °. -/
abbrev GNSS.ELEV_MASK : Nat := 0x0801
/-- R191; dB-Hz. -/
abbrev GNSS.CN0_MASK : Nat := 0x0802
/-- R191; no unit. -/
abbrev GNSS.ANT_BIAS_A : Nat := 0x0803
/-- R191; no unit. -/
abbrev GNSS.ANT_BIAS_B : Nat := 0x0804
/-- R191; m. -/
abbrev GNSS.BASELINE : Nat := 0x0805
/-- R191; mm. -/
abbrev GNSS.BASE_TOL : Nat := 0x0806
/-- R191; s. -/
abbrev GNSS.CORR_AGE_MAX : Nat := 0x0807
/-- R191; s. -/
abbrev GNSS.SPOOF_CLEAR : Nat := 0x0808
/-- R191; s. -/
abbrev GNSS.SPOOF_CONFIRM : Nat := 0x0809
/-- R191; ns. -/
abbrev GNSS.CLK_TOL : Nat := 0x080a
/-- R191; Hz. -/
abbrev GNSS.DOP_TOL : Nat := 0x080b
/-- R191; dB-Hz. -/
abbrev GNSS.CN0_SPREAD : Nat := 0x080c
/-- R191; dB. -/
abbrev GNSS.JAM_THRESH : Nat := 0x080d
/-- R191; mm. -/
abbrev GNSS.AOA_TOL : Nat := 0x080e
/-- R191; min. -/
abbrev GNSS.DORMANT_EPH : Nat := 0x080f
/-- R191; m. -/
abbrev GNSS.ANCHOR_RADIUS : Nat := 0x0810
/-- R191; no unit. -/
abbrev GNSS.SYS_MASK : Nat := 0x0811
/-- R191; Hz. -/
abbrev GNSS.DLL_BW : Nat := 0x0812
/-- R191; Hz. -/
abbrev GNSS.PLL_BW : Nat := 0x0813
/-- R214; no unit. -/
abbrev TIME.SRC_PRIO : Nat := 0x0900
/-- R214; s. -/
abbrev TIME.QUAL_TIME : Nat := 0x0901
/-- R214; no unit. -/
abbrev TIME.PPS_HOLDOVER : Nat := 0x0902
/-- R214; ns. -/
abbrev TIME.PPS_OFFSET : Nat := 0x0903
/-- R214; no unit. -/
abbrev TIME.HO_Y_TCXO : Nat := 0x0904
/-- R214; 1/s. -/
abbrev TIME.HO_D_TCXO : Nat := 0x0905
/-- R214; no unit. -/
abbrev TIME.HO_Y_EXT : Nat := 0x0906
/-- R214; 1/s. -/
abbrev TIME.HO_D_EXT : Nat := 0x0907
/-- R214; ns. -/
abbrev TIME.HO_LIMIT : Nat := 0x0908
/-- R214; s. -/
abbrev TIME.LEAP_INIT : Nat := 0x0909
/-- R214; log2 s. -/
abbrev TIME.SYNC_LOG : Nat := 0x090a
/-- R248; s. -/
abbrev FUS.LAG_WINDOW : Nat := 0x0a00
/-- R248; no unit. -/
abbrev FUS.GATE : Nat := 0x0a01
/-- R248; m. -/
abbrev FUS.MEDIAN_TOL : Nat := 0x0a02
/-- R248; °. -/
abbrev FUS.MEDIAN_TOL_HDG : Nat := 0x0a03
/-- R248; °. -/
abbrev FUS.MEDIAN_TOL_ATT : Nat := 0x0a04
/-- R248; s. -/
abbrev FUS.VOTE_AGE : Nat := 0x0a05
/-- R248; s. -/
abbrev FUS.READMIT_TIME : Nat := 0x0a06
/-- R248; data. -/
abbrev FUS.CLEAR_N : Nat := 0x0a07
/-- R248; data. -/
abbrev FUS.REJECT_N : Nat := 0x0a08
/-- R248; s. -/
abbrev FUS.SUSPECT_MAX : Nat := 0x0a09
/-- R248; data. -/
abbrev FUS.FREEZE_N : Nat := 0x0a0a
/-- R248; data. -/
abbrev FUS.VAR_WIN : Nat := 0x0a0b
/-- R248; no unit. -/
abbrev FUS.VAR_MULT : Nat := 0x0a0c
/-- R248; s. -/
abbrev FUS.WANDER_TC : Nat := 0x0a0d
/-- R248; m. -/
abbrev FUS.WANDER_TOL : Nat := 0x0a0e
/-- R248; s. -/
abbrev FUS.DR_LIMIT : Nat := 0x0a0f
/-- R248; m. -/
abbrev FUS.CONV_POS : Nat := 0x0a10
/-- R248; °. -/
abbrev FUS.CONV_HDG : Nat := 0x0a11
/-- R248; rad/s. -/
abbrev FUS.WAVE_W0 : Nat := 0x0a12
/-- R248; no unit. -/
abbrev FUS.WAVE_ZETA : Nat := 0x0a13
/-- R248; (m/s²)²/Hz; (°/s²)²/Hz. -/
abbrev FUS.Q_VEL (n : Nat) : Nat := 0x0a14 + n
/-- R248; kN²/s; (kN·m)²/s. -/
abbrev FUS.Q_BIAS (n : Nat) : Nat := 0x0a17 + n
/-- R248; m²/s³; °²/s³. -/
abbrev FUS.Q_WAVE (n : Nat) : Nat := 0x0a1a + n
/-- R248; no unit. -/
abbrev FUS.TARGET_OBJ : Nat := 0x0a1d
/-- R248; s. -/
abbrev FUS.OBJ_COAST : Nat := 0x0a1e
/-- R248; m. -/
abbrev FUS.OBJ_SIG_MAX : Nat := 0x0a1f
/-- R248; m²/s³. -/
abbrev FUS.OBJ_Q_ACC : Nat := 0x0a20
/-- R248; °²/s³. -/
abbrev FUS.OBJ_Q_YAW : Nat := 0x0a21
/-- R248; m; ° for heading and attitude. -/
abbrev FUS.REF_SIGMA (n : Nat) : Nat := 0x0a40 + n
/-- R283; steps. -/
abbrev ALLOC.PLAN_N : Nat := 0x0b00
/-- R283; s. -/
abbrev ALLOC.PLAN_DT : Nat := 0x0b01
/-- R283; m. -/
abbrev ALLOC.EXC_POS : Nat := 0x0b02
/-- R283; °. -/
abbrev ALLOC.EXC_HDG : Nat := 0x0b03
/-- R283; %. -/
abbrev ALLOC.MARGIN_LOW : Nat := 0x0b04
/-- R283; hyperframes. -/
abbrev ALLOC.PLAN_AGE_MAX : Nat := 0x0b05
/-- R283; s. -/
abbrev ALLOC.AZ_HORIZON : Nat := 0x0b06
/-- R283; s. -/
abbrev ALLOC.PLAN_AZ_T : Nat := 0x0b07
/-- R283; no unit. -/
abbrev ALLOC.AZ_WEIGHT : Nat := 0x0b08
/-- R283; no unit. -/
abbrev ALLOC.CHANGE_WEIGHT : Nat := 0x0b09
/-- R283; no unit. -/
abbrev ALLOC.SLACK_WEIGHT : Nat := 0x0b0a
/-- R283; % of T_rated. -/
abbrev ALLOC.AZ_HOLD_T : Nat := 0x0b0b
/-- R283; m. -/
abbrev ALLOC.ARREST_RADIUS : Nat := 0x0b0c
/-- R283; m/s. -/
abbrev ALLOC.ARREST_SPEED : Nat := 0x0b0d
/-- R283; % of T_rated. -/
abbrev ALLOC.ARREST_FRAC : Nat := 0x0b0e
/-- R283; m. -/
abbrev ALLOC.COUPLE_SHIFT_MAX : Nat := 0x0b0f
/-- R283; no unit. -/
abbrev ALLOC.COUPLE_HULL_W : Nat := 0x0b10
/-- R283; major frames. -/
abbrev ALLOC.COUPLE_HANDBACK : Nat := 0x0b11
/-- R283; s. -/
abbrev ALLOC.COUPLE_RESUME : Nat := 0x0b12
/-- R283; kW. -/
abbrev ALLOC.SEC_PWR (n : Nat) : Nat := 0x0b20 + n
/-- R283; m. -/
abbrev ALLOC.SCEN_EXC_POS (n : Nat) : Nat := 0x0b30 + n
/-- R307; no unit. -/
abbrev SOLV.OPT_TOL : Nat := 0x0c00
/-- R307; no unit. -/
abbrev SOLV.FEAS_TOL : Nat := 0x0c01
/-- R307; no unit. -/
abbrev SOLV.WS_PUSH : Nat := 0x0c02
/-- R307; major frames. -/
abbrev SOLV.FB_PERSIST : Nat := 0x0c03
/-- R340; m/s. -/
abbrev LOOP.RM_VMAX (n : Nat) : Nat := 0x0d00 + n
/-- R340; m/s². -/
abbrev LOOP.RM_AMAX (n : Nat) : Nat := 0x0d08 + n
/-- R340; m/s³. -/
abbrev LOOP.RM_JMAX (n : Nat) : Nat := 0x0d10 + n
/-- R340; m. -/
abbrev LOOP.RM_LAG_TOL (n : Nat) : Nat := 0x0d18 + n
/-- R340; %. -/
abbrev LOOP.SAT_TOL : Nat := 0x0d20
/-- R377; no unit. -/
abbrev CAN.WAKE_ID (n : Nat) : Nat := 0x0e00 + n
/-- R377; no unit. -/
abbrev CAN.WAKE_DATA (n : Nat) : Nat := 0x0e08 + n
/-- R377; no unit. -/
abbrev CAN.WAKE_MASK (n : Nat) : Nat := 0x0e10 + n
/-- R377; µs. -/
abbrev CAN.WAKE_FILT : Nat := 0x0e18
/-- R377; no unit. -/
abbrev CAN.AUTO_REC (n : Nat) : Nat := 0x0e20 + n
/-- R377; ms. -/
abbrev OUT.FB_TIMEOUT : Nat := 0x0f00
/-- R377; V or mA. -/
abbrev OUT.AO_SAFE (n : Nat) : Nat := 0x0f10 + n
/-- R407; s. -/
abbrev RED.REVERT_DWELL : Nat := 0x1000
/-- R407; no unit. -/
abbrev RED.REVERT_EN : Nat := 0x1001
/-- R407; no unit. -/
abbrev RED.REVERT_GRADE : Nat := 0x1002
/-- R407; no unit. -/
abbrev RED.UNFIT_GRADE : Nat := 0x1003
/-- R407; mirrors. -/
abbrev RED.SYNC_N : Nat := 0x1004
/-- R407; ms. -/
abbrev RED.LINK_TIMEOUT : Nat := 0x1005
/-- R407; ms. -/
abbrev RED.CLAIM_WAIT : Nat := 0x1006
/-- R407; h. -/
abbrev RED.DRILL_INTERVAL : Nat := 0x1007
/-- R407; mismatches per hyperframe. -/
abbrev RED.SHADOW_PERSIST : Nat := 0x1008
/-- R434; no unit. -/
abbrev SAFE.ARCH : Nat := 0x1100
/-- R434; m. -/
abbrev SAFE.PROX_RADIUS : Nat := 0x1101
/-- R434; m/s. -/
abbrev SAFE.SOG_MAX : Nat := 0x1102
/-- R434; m. -/
abbrev SAFE.WATCH_RADIUS : Nat := 0x1103
/-- R434; °. -/
abbrev SAFE.SDI_HALF : Nat := 0x1104
/-- R434; kN. -/
abbrev SAFE.SDI_MIN_F : Nat := 0x1105
/-- R434; m. -/
abbrev SAFE.XCHK_TOL : Nat := 0x1106
/-- R434; s. -/
abbrev SAFE.CLEAR_TIME : Nat := 0x1107
/-- R434; %. -/
abbrev SAFE.HYST : Nat := 0x1108
/-- R434; m. -/
abbrev SAFE.TIP_RADIUS : Nat := 0x1109
/-- R434; m. -/
abbrev SAFE.TIP_VBAND : Nat := 0x110a
/-- R434; no unit. -/
abbrev SAFE.WD_MASK : Nat := 0x110b
/-- R434; ms. -/
abbrev SAFE.IN_DISC : Nat := 0x110c
/-- R434; no unit. -/
abbrev SAFE.STOP_AUTORESET : Nat := 0x110d
/-- R434; no unit. -/
abbrev SAFE.FN_REACT (n : Nat) : Nat := 0x1110 + n
/-- R434; no unit. -/
abbrev SAFE.FN_OUTMASK (n : Nat) : Nat := 0x1118 + n
/-- R434; s. -/
abbrev SAFE.FN_ESC (n : Nat) : Nat := 0x1120 + n
/-- R434; no unit. -/
abbrev SAFE.IN_ROLE (n : Nat) : Nat := 0x1130 + n
/-- R434; µs. -/
abbrev SAFE.IN_FILT (n : Nat) : Nat := 0x1138 + n
/-- R434; no unit. -/
abbrev SAFE.IN_MASK (n : Nat) : Nat := 0x1140 + n
/-- R434; °/s. -/
abbrev SAFE.AZ_RATE (n : Nat) : Nat := 0x1150 + n
/-- R434; rad/s or m/s. -/
abbrev SAFE.JOINT_SPEED (n : Nat) : Nat := 0x1160 + n
/-- R434; °. -/
abbrev SAFE.INST_LAT (n : Nat) : Nat := 0x1170 + n
/-- R434; °. -/
abbrev SAFE.INST_LON (n : Nat) : Nat := 0x1174 + n
/-- R434; no unit. -/
abbrev SAFE.OUT_THRMASK (n : Nat) : Nat := 0x1180 + n
/-- R463; s. -/
abbrev REC.FREEZE_MAX : Nat := 0x1200
/-- R463; days. -/
abbrev NAND.SCRUB_DAYS : Nat := 0x1300
/-- R463; bits. -/
abbrev NAND.SCRUB_BITS : Nat := 0x1301
/-- R463; bits. -/
abbrev NAND.RETIRE_BITS : Nat := 0x1302
/-- R463; reads. -/
abbrev NAND.RD_LIMIT : Nat := 0x1303
/-- R463; erases. -/
abbrev NAND.WL_SPREAD : Nat := 0x1304
/-- R463; %. -/
abbrev NAND.SPARE_LOW : Nat := 0x1305
/-- R498; %. -/
abbrev BIST.MARGIN_WARN : Nat := 0x1400
/-- R214; quarter-ns. -/
abbrev NET.ING_CORR (n : Nat) : Nat := 0x1600 + n
/-- R214; quarter-ns. -/
abbrev NET.EGR_CORR (n : Nat) : Nat := 0x1604 + n
/-- R214; no unit. -/
abbrev NET.PRIORITY1 : Nat := 0x1608
/-- R214; no unit. -/
abbrev NET.PRIORITY2 : Nat := 0x1609
/-- R214; no unit. -/
abbrev NET.DOMAIN_P : Nat := 0x160a
/-- R214; no unit. -/
abbrev NET.DOMAIN_S : Nat := 0x160b
/-- R214; ns. -/
abbrev NET.LAUNCH_GRACE : Nat := 0x160c

end P

/-- Parameter rows, part 0. -/
def paramRows0 : List ParamRow := [
  ⟨0x0010, 1, .bool, [(0x0, 0x1)], [0x1], false⟩,
  ⟨0x0011, 1, .u8, [(0x1, 0x3)], [0x1], false⟩,
  ⟨0x0012, 1, .fp32, [(0x0, 0x41c80000)], [0x41200000], true⟩,
  ⟨0x0013, 1, .fp32, [(0x3f800000, 0x41200000)], [0x40000000], false⟩,
  ⟨0x0014, 1, .fp32, [(0x42700000, 0x42c80000)], [0x42b40000], false⟩,
  ⟨0x0015, 1, .fp32, [(0x41100000, 0x41a00000)], [0x41200000], false⟩,
  ⟨0x0016, 1, .fp32, [(0x41a00000, 0x42100000)], [0x420c0000], false⟩,
  ⟨0x0100, 1, .u8, [(0x0, 0x1)], [0x0], false⟩,
  ⟨0x0101, 1, .fp32, [(0x3f800000, 0x42480000)], [0x40a00000], true⟩,
  ⟨0x0102, 1, .fp32, [(0x3f800000, 0x44160000)], [0x41200000], false⟩,
  ⟨0x0103, 1, .bool, [(0x0, 0x1)], [0x1], false⟩,
  ⟨0x0300, 1, .u16, [(0x1, 0x80)], [0x10], false⟩,
  ⟨0x0301, 1, .u8, [(0x1, 0x32)], [0x2], true⟩,
  ⟨0x0302, 1, .fp32, [(0x41a00000, 0x447a0000)], [0x42480000], false⟩,
  ⟨0x0400, 1, .u16, [(0x3c, 0xe10)], [0x258], false⟩,
  ⟨0x0401, 1, .u8, [(0x1, 0x5)], [0x1], false⟩,
  ⟨0x0500, 1, .bool, [(0x0, 0x1)], [0x1], true⟩,
  ⟨0x0501, 1, .u8, [(0x1, 0x32)], [0x1], true⟩,
  ⟨0x0600, 12, .u32, [(0x0, 0xf4240)], [0x0], false⟩,
  ⟨0x060c, 4, .u32, [(0x0, 0xf4240)], [0x0], false⟩,
  ⟨0x0610, 6, .u32, [(0x0, 0xf4240)], [0x0], false⟩,
  ⟨0x0640, 64, .u32, [(0x0, 0xee6b2800)], [0x0], false⟩,
  ⟨0x0680, 64, .fp32, [(0x41200000, 0x476a6000)], [0x44fa0000], false⟩,
  ⟨0x0700, 1, .fp32, [(0x40000000, 0x40800000)], [0x40666666], false⟩,
  ⟨0x0701, 1, .fp32, [(0x41a00000, 0x41c00000)], [0x41a80000], false⟩,
  ⟨0x0800, 1, .u8, [(0x1, 0x1), (0x2, 0x2), (0x5, 0x5), (0xa, 0xa), (0x14, 0x14)], [0xa], false⟩,
  ⟨0x0801, 1, .fp32, [(0x0, 0x41f00000)], [0x41200000], false⟩,
  ⟨0x0802, 1, .fp32, [(0x41a00000, 0x42200000)], [0x41f00000], false⟩,
  ⟨0x0803, 1, .u8, [(0x0, 0x2)], [0x2], false⟩,
  ⟨0x0804, 1, .u8, [(0x0, 0x2)], [0x2], false⟩,
  ⟨0x0805, 1, .fp32, [(0x3f000000, 0x40a00000)], [0x3f800000], false⟩,
  ⟨0x0806, 1, .fp32, [(0x40a00000, 0x42c80000)], [0x41a00000], false⟩,
  ⟨0x0807, 1, .fp32, [(0x40a00000, 0x42f00000)], [0x41f00000], false⟩,
  ⟨0x0808, 1, .fp32, [(0x41200000, 0x44160000)], [0x42700000], false⟩,
  ⟨0x0809, 1, .fp32, [(0x3f800000, 0x42700000)], [0x40a00000], true⟩,
  ⟨0x080a, 1, .fp32, [(0x41a00000, 0x447a0000)], [0x43160000], true⟩,
  ⟨0x080b, 1, .fp32, [(0x3f000000, 0x41a00000)], [0x40000000], true⟩,
  ⟨0x080c, 1, .fp32, [(0x3f000000, 0x40a00000)], [0x3fc00000], true⟩,
  ⟨0x080d, 1, .fp32, [(0x40400000, 0x41f00000)], [0x41200000], false⟩,
  ⟨0x080e, 1, .fp32, [(0x3f800000, 0x42480000)], [0x41700000], true⟩,
  ⟨0x080f, 1, .fp32, [(0x41200000, 0x43700000)], [0x41f00000], false⟩,
  ⟨0x0810, 1, .fp32, [(0x0, 0x0), (0x41200000, 0x447a0000)], [0x42480000], false⟩,
  ⟨0x0811, 1, .u8, [(0x1, 0x1f)], [0x1f], false⟩,
  ⟨0x0812, 1, .fp32, [(0x3d4ccccd, 0x40000000)], [0x3f000000], true⟩,
  ⟨0x0813, 1, .fp32, [(0x40a00000, 0x41c80000)], [0x41700000], true⟩]

/-- Parameter rows, part 1. -/
def paramRows1 : List ParamRow := [
  ⟨0x0900, 1, .u8, [(0x0, 0x3f)], [0x24], false⟩,
  ⟨0x0901, 1, .fp32, [(0x40000000, 0x42f00000)], [0x41200000], false⟩,
  ⟨0x0902, 1, .bool, [(0x0, 0x1)], [0x1], false⟩,
  ⟨0x0903, 1, .s32, [(0xe2329b00, 0x1dcd6500)], [0x0], false⟩,
  ⟨0x0904, 1, .fp32, [(0x2edbe6ff, 0x358637bd)], [0x3209705f], true⟩,
  ⟨0x0905, 1, .fp32, [(0x0, 0x3089705f)], [0x2dafebff], true⟩,
  ⟨0x0906, 1, .fp32, [(0x2b8cbccc, 0x358637bd)], [0x2f5be6ff], true⟩,
  ⟨0x0907, 1, .fp32, [(0x0, 0x3089705f)], [0x29e12e13], true⟩,
  ⟨0x0908, 1, .fp32, [(0x42c80000, 0x47c35000)], [0x447a0000], false⟩,
  ⟨0x0909, 1, .s32, [(0x0, 0xff)], [0x25], false⟩,
  ⟨0x090a, 1, .s32, [(0xfffffffc, 0x0)], [0xfffffffd], false⟩,
  ⟨0x0a00, 1, .fp32, [(0x0, 0x41000000)], [0x40200000], false⟩,
  ⟨0x0a01, 1, .fp32, [(0x40933333, 0x41f00000)], [0x415d1eb8], false⟩,
  ⟨0x0a02, 1, .fp32, [(0x3f000000, 0x41a00000)], [0x40000000], false⟩,
  ⟨0x0a03, 1, .fp32, [(0x3e4ccccd, 0x41200000)], [0x3f800000], false⟩,
  ⟨0x0a04, 1, .fp32, [(0x3dcccccd, 0x40a00000)], [0x3f000000], false⟩,
  ⟨0x0a05, 1, .fp32, [(0x3f000000, 0x41200000)], [0x40400000], false⟩,
  ⟨0x0a06, 1, .fp32, [(0x40a00000, 0x43960000)], [0x41f00000], false⟩,
  ⟨0x0a07, 1, .u8, [(0x1, 0x14)], [0x3], false⟩,
  ⟨0x0a08, 1, .u8, [(0x1, 0x14)], [0x3], false⟩,
  ⟨0x0a09, 1, .fp32, [(0x41200000, 0x44160000)], [0x42700000], false⟩,
  ⟨0x0a0a, 1, .u8, [(0x3, 0x64)], [0xa], false⟩,
  ⟨0x0a0b, 1, .u8, [(0x5, 0x64)], [0x14], true⟩,
  ⟨0x0a0c, 1, .fp32, [(0x3fc00000, 0x41200000)], [0x40400000], true⟩,
  ⟨0x0a0d, 1, .fp32, [(0x41200000, 0x44160000)], [0x42700000], true⟩,
  ⟨0x0a0e, 1, .fp32, [(0x3e4ccccd, 0x41200000)], [0x3fc00000], false⟩,
  ⟨0x0a0f, 1, .fp32, [(0x41200000, 0x44e10000)], [0x42f00000], false⟩,
  ⟨0x0a10, 1, .fp32, [(0x3dcccccd, 0x40a00000)], [0x3f800000], false⟩,
  ⟨0x0a11, 1, .fp32, [(0x3d4ccccd, 0x40a00000)], [0x3f000000], false⟩,
  ⟨0x0a12, 1, .fp32, [(0x3e99999a, 0x3fcccccd)], [0x3f4ccccd], false⟩,
  ⟨0x0a13, 1, .fp32, [(0x3ca3d70a, 0x3f000000)], [0x3dcccccd], true⟩,
  ⟨0x0a14, 3, .fp32, [(0x322bcc77, 0x3f800000)], [0x3a83126f, 0x3a83126f, 0x3c23d70a], true⟩,
  ⟨0x0a17, 3, .fp32, [(0x0, 0x4cbebc20)], [0x42c80000, 0x42c80000, 0x461c4000], true⟩,
  ⟨0x0a1a, 3, .fp32, [(0x38d1b717, 0x41200000)], [0x3f000000, 0x3f000000, 0x3d4ccccd], true⟩,
  ⟨0x0a1d, 1, .u8, [(0x0, 0x7)], [0x0], false⟩,
  ⟨0x0a1e, 1, .fp32, [(0x40000000, 0x42f00000)], [0x41f00000], false⟩,
  ⟨0x0a1f, 1, .fp32, [(0x3f800000, 0x42480000)], [0x41200000], false⟩,
  ⟨0x0a20, 1, .fp32, [(0x358637bd, 0x3f800000)], [0x3a83126f], true⟩,
  ⟨0x0a21, 1, .fp32, [(0x358637bd, 0x3f800000)], [0x38d1b717], true⟩,
  ⟨0x0a40, 28, .fp32, [(0x3c23d70a, 0x42c80000)], [0x3f800000], false⟩,
  ⟨0x0b00, 1, .u8, [(0x14, 0x50)], [0x28], false⟩,
  ⟨0x0b01, 1, .fp32, [(0x3e800000, 0x40000000)], [0x3f000000], false⟩,
  ⟨0x0b02, 1, .fp32, [(0x3f000000, 0x41a00000)], [0x40400000], false⟩,
  ⟨0x0b03, 1, .fp32, [(0x3f000000, 0x41a00000)], [0x40400000], false⟩,
  ⟨0x0b04, 1, .fp32, [(0x0, 0x42480000)], [0x41700000], false⟩]

/-- Parameter rows, part 2. -/
def paramRows2 : List ParamRow := [
  ⟨0x0b05, 1, .u8, [(0x1, 0xa)], [0x3], true⟩,
  ⟨0x0b06, 1, .fp32, [(0x3dcccccd, 0x40a00000)], [0x3f800000], true⟩,
  ⟨0x0b07, 1, .fp32, [(0x3f800000, 0x42700000)], [0x41200000], true⟩,
  ⟨0x0b08, 1, .fp32, [(0x0, 0x42c80000)], [0x3f800000], true⟩,
  ⟨0x0b09, 1, .fp32, [(0x0, 0x42c80000)], [0x3e4ccccd], true⟩,
  ⟨0x0b0a, 1, .fp32, [(0x447a0000, 0x4e6e6b28)], [0x49742400], true⟩,
  ⟨0x0b0b, 1, .fp32, [(0x3f000000, 0x41200000)], [0x40000000], true⟩,
  ⟨0x0b0c, 1, .fp32, [(0x3f800000, 0x42480000)], [0x40a00000], false⟩,
  ⟨0x0b0d, 1, .fp32, [(0x3d4ccccd, 0x40000000)], [0x3e99999a], false⟩,
  ⟨0x0b0e, 1, .fp32, [(0x40a00000, 0x42c80000)], [0x41a00000], true⟩,
  ⟨0x0b0f, 1, .fp32, [(0x0, 0x41200000)], [0x40000000], false⟩,
  ⟨0x0b10, 1, .fp32, [(0x3c23d70a, 0x42c80000)], [0x3f800000], true⟩,
  ⟨0x0b11, 1, .u8, [(0x1, 0x32)], [0x3], false⟩,
  ⟨0x0b12, 1, .fp32, [(0x3f000000, 0x41f00000)], [0x3f800000], false⟩,
  ⟨0x0b20, 8, .fp32, [(0x0, 0x47435000)], [0x0], false⟩,
  ⟨0x0b30, 24, .fp32, [(0x0, 0x0), (0x3f000000, 0x41a00000)], [0x0], false⟩,
  ⟨0x0c00, 1, .fp64, [(0x3e112e0be826d695, 0x3f1a36e2eb1c432d)], [0x3eb0c6f7a0b5ed8d], true⟩,
  ⟨0x0c01, 1, .fp64, [(0x3e112e0be826d695, 0x3f50624dd2f1a9fc)], [0x3eb0c6f7a0b5ed8d], true⟩,
  ⟨0x0c02, 1, .fp64, [(0x3e45798ee2308c3a, 0x3f847ae147ae147b)], [0x3f1a36e2eb1c432d], true⟩,
  ⟨0x0c03, 1, .u8, [(0x1, 0x64)], [0xa], false⟩,
  ⟨0x0d00, 8, .fp32, [(0x3c23d70a, 0x40a00000)], [0x3f000000, 0x3f000000, 0x40400000, 0x3f000000, 0x3f000000, 0x3f000000, 0x3f000000, 0x3f000000], false⟩,
  ⟨0x0d08, 8, .fp32, [(0x3a83126f, 0x3f800000)], [0x3d4ccccd, 0x3d4ccccd, 0x3e99999a, 0x3d4ccccd, 0x3d4ccccd, 0x3d4ccccd, 0x3d4ccccd, 0x3d4ccccd], false⟩,
  ⟨0x0d10, 8, .fp32, [(0x38d1b717, 0x3f800000)], [0x3c23d70a, 0x3c23d70a, 0x3d75c28f, 0x3c23d70a, 0x3c23d70a, 0x3c23d70a, 0x3c23d70a, 0x3c23d70a], false⟩,
  ⟨0x0d18, 8, .fp32, [(0x3d4ccccd, 0x41a00000)], [0x3f000000, 0x3f000000, 0x40000000, 0x3f000000, 0x3f000000, 0x3f000000, 0x3f000000, 0x3f000000], false⟩,
  ⟨0x0d20, 1, .fp32, [(0x3dcccccd, 0x41a00000)], [0x3f800000], true⟩,
  ⟨0x0e00, 6, .u16, [(0x0, 0x7ff)], [0x0], false⟩,
  ⟨0x0e08, 6, .u32, [(0x0, 0xffffffff)], [0x0], false⟩,
  ⟨0x0e10, 6, .u32, [(0x0, 0xffffffff)], [0x0], false⟩,
  ⟨0x0e18, 1, .u8, [(0x1, 0x32)], [0x5], false⟩,
  ⟨0x0e20, 6, .bool, [(0x0, 0x1)], [0x1], false⟩,
  ⟨0x0f00, 1, .fp32, [(0x41700000, 0x447a0000)], [0x42480000], false⟩,
  ⟨0x0f10, 8, .fp32, [(0xc1200000, 0x41a00000)], [0x0], false⟩,
  ⟨0x1000, 1, .fp32, [(0x40a00000, 0x44160000)], [0x41f00000], false⟩,
  ⟨0x1001, 1, .bool, [(0x0, 0x1)], [0x1], false⟩,
  ⟨0x1002, 1, .u8, [(0x0, 0x1f)], [0x18], false⟩,
  ⟨0x1003, 1, .u8, [(0x0, 0x1f)], [0x8], true⟩,
  ⟨0x1004, 1, .u8, [(0x2, 0x64)], [0xa], true⟩,
  ⟨0x1005, 1, .fp32, [(0x40000000, 0x41a00000)], [0x40400000], true⟩,
  ⟨0x1006, 1, .fp32, [(0x41f00000, 0x447a0000)], [0x42c80000], false⟩,
  ⟨0x1007, 1, .fp32, [(0x41c00000, 0x44340000)], [0x43280000], false⟩,
  ⟨0x1008, 1, .u8, [(0x1, 0xa)], [0x2], true⟩,
  ⟨0x1100, 1, .u8, [(0x0, 0x1)], [0x0], false⟩,
  ⟨0x1101, 1, .fp32, [(0x42480000, 0x459c4000)], [0x43fa0000], false⟩,
  ⟨0x1102, 1, .fp32, [(0x3dcccccd, 0x40a00000)], [0x3f000000], false⟩,
  ⟨0x1103, 1, .fp32, [(0x3f800000, 0x42480000)], [0x40a00000], false⟩]

/-- Parameter rows, part 3. -/
def paramRows3 : List ParamRow := [
  ⟨0x1104, 1, .fp32, [(0x40a00000, 0x42b40000)], [0x41f00000], false⟩,
  ⟨0x1105, 1, .fp32, [(0x41200000, 0x447a0000)], [0x42480000], false⟩,
  ⟨0x1106, 1, .fp32, [(0x3f000000, 0x41a00000)], [0x40000000], false⟩,
  ⟨0x1107, 1, .fp32, [(0x3dcccccd, 0x41200000)], [0x3f800000], false⟩,
  ⟨0x1108, 1, .fp32, [(0x0, 0x41a00000)], [0x40a00000], false⟩,
  ⟨0x1109, 1, .fp32, [(0x3dcccccd, 0x40a00000)], [0x3f800000], false⟩,
  ⟨0x110a, 1, .fp32, [(0x3dcccccd, 0x40a00000)], [0x3fc00000], false⟩,
  ⟨0x110b, 1, .u8, [(0x0, 0xff)], [0xff], false⟩,
  ⟨0x110c, 1, .fp32, [(0x40a00000, 0x43fa0000)], [0x41a00000], false⟩,
  ⟨0x110d, 1, .bool, [(0x0, 0x1)], [0x0], false⟩,
  ⟨0x1110, 8, .u8, [(0x0, 0x3)], [0x1], false⟩,
  ⟨0x1118, 8, .u8, [(0x0, 0xff)], [0x0], false⟩,
  ⟨0x1120, 8, .fp32, [(0x0, 0x0), (0x3f800000, 0x44160000)], [0x0], false⟩,
  ⟨0x1130, 8, .u8, [(0x0, 0x4)], [0x0], false⟩,
  ⟨0x1138, 8, .u16, [(0x64, 0x7d0)], [0x1f4], false⟩,
  ⟨0x1140, 8, .u8, [(0x0, 0xff)], [0x0], false⟩,
  ⟨0x1150, 16, .fp32, [(0x3f000000, 0x41f00000)], [0x41200000], false⟩,
  ⟨0x1160, 8, .fp32, [(0x3c23d70a, 0x40a00000)], [0x3e4ccccd], false⟩,
  ⟨0x1170, 4, .fp64, [(0x0, 0x0), (0xc056400000000000, 0x4056400000000000)], [0x0], false⟩,
  ⟨0x1174, 4, .fp64, [(0xc066800000000000, 0x4066800000000000)], [0x0], false⟩,
  ⟨0x1180, 8, .u16, [(0x0, 0xffff)], [0x0], false⟩,
  ⟨0x1200, 1, .fp32, [(0x3f800000, 0x42700000)], [0x42700000], false⟩,
  ⟨0x1300, 1, .fp32, [(0x3f800000, 0x43b68000)], [0x41f00000], false⟩,
  ⟨0x1301, 1, .u8, [(0x8, 0x40)], [0x18], true⟩,
  ⟨0x1302, 1, .u8, [(0x18, 0x48)], [0x40], true⟩,
  ⟨0x1303, 1, .u32, [(0x3e8, 0xf4240)], [0x186a0], true⟩,
  ⟨0x1304, 1, .u32, [(0x64, 0x186a0)], [0x7d0], true⟩,
  ⟨0x1305, 1, .fp32, [(0x3f000000, 0x40000000)], [0x3f800000], false⟩,
  ⟨0x1400, 1, .fp32, [(0x0, 0x42480000)], [0x41a00000], false⟩,
  ⟨0x1600, 4, .s32, [(0xffff0000, 0xffff)], [0x0], false⟩,
  ⟨0x1604, 4, .s32, [(0xffff0000, 0xffff)], [0x0], false⟩,
  ⟨0x1608, 1, .u8, [(0x0, 0xff)], [0x80], false⟩,
  ⟨0x1609, 1, .u8, [(0x0, 0xff)], [0x80], false⟩,
  ⟨0x160a, 1, .u8, [(0x0, 0x7f)], [0x0], false⟩,
  ⟨0x160b, 1, .u8, [(0x0, 0x7f)], [0x1], false⟩,
  ⟨0x160c, 1, .u32, [(0x64, 0x186a0)], [0x1f4], true⟩]

/-- Every parameter of the manual. -/
def paramRows : List ParamRow := paramRows0 ++ paramRows1 ++ paramRows2 ++ paramRows3

end Sys2Proof.Machine
end

