-- ==== Sys2Proof/Machine/Blocks1.lean ====
section
/-! DEFINITION. State beside the registers, first part: tags and packets, the schedule, the check chain, the cellar with
its sets and images' certificates, the parameter layers, the recorder and its media, clocks and power, the lamp check,
and the host ports. Every field's docstring names its rule and its value at reset. -/
namespace Sys2Proof.Machine

/-- The 128-bit tag of a packet (R24). -/
structure Tag where
  check : Word
  tov : Word
  frame : BitVec 16
  alive : BitVec 16
  opId : BitVec 8
  source : BitVec 8
  kind : BitVec 8
  flags : BitVec 8
deriving DecidableEq, Repr, Inhabited

/-- A sealed datum: its tag, its payload as little-endian words, the schedule time of its seal in ns (R18), and the time of validity in
ns that TS32 and FRAME16 of the tag stand for (R24). -/
structure Packet where
  tag : Tag
  payload : List Word
  sealedAt : Nat
  tovNs : Int
deriving DecidableEq, Repr, Inhabited

/-- One entry of a lineage log (R124). -/
structure LineageEntry where
  resource : Nat
  opId : Nat
  check : Word
  lineage : Word
  ts : Word
deriving DecidableEq, Repr, Inhabited

/-- What a certified task does (R17, R23): the steps of the path and the monitoring beside it, or a customer's task. -/
inductive TaskRole where
  | excursion | arrestAllocation | arrestBuild | biquads | analogue | heartbeat | fusion | pid | fallback | qp
  | select | commandBuild | jointBuild | mirror | plan | margins | scan | customer
deriving DecidableEq, Repr, Inhabited

/-- One operation id of a task (R25, R64): the id, its retire-by time in ns from the period boundary, the channel of the task that uses it,
and kind and index of the output that it names. -/
structure OpRow where
  id : Nat
  retireBy : Nat
  chan : Nat
  kind : Nat
  index : Nat
deriving DecidableEq, Repr, Inhabited

/-- One task row of the timing certificate (R59, R64): `period` 0 minor, 1 major, 2 hyperframe; release and fence in ns from
the period boundary; worst-case execution time in CLK_FAB cycles and in ns; `subst` 0 hold, 1 release, 2 drop; the operation ids
it uses; `retires` are the ids whose results this task is the last to consume (R25). -/
structure TaskRow where
  name : String
  role : TaskRole
  resource : Nat
  period : Nat
  release : Nat
  fence : Nat
  cycles : Nat
  wcet : Nat
  anytime : Bool
  subst : Nat
  ops : List OpRow
  retires : List Nat
deriving DecidableEq, Repr, Inhabited

/-- The slot of a task in ns (R59). -/
def TaskRow.slot (r : TaskRow) : Nat := r.fence - r.release

/-- The margin of a task (R64): slot less worst-case execution time, in ns and in per cent of the slot. -/
def TaskRow.margin (r : TaskRow) : Nat × Nat := (r.slot - r.wcet, (r.slot - r.wcet) * 100 / r.slot)

/-- One path row of the timing certificate (R64): from an entry port or internal source to an output pin or record, the terms of its
worst-case latency in ns, its maximum data age in ns, and whether its sink is a thrust command (R76). -/
structure PathRow where
  source : String
  sink : String
  terms : List Nat
  maxAge : Nat
  thrust : Bool
deriving DecidableEq, Repr, Inhabited

/-- Worst-case latency of a path (R64). -/
def PathRow.latency (p : PathRow) : Nat := p.terms.foldl (· + ·) 0

/-- State of the schedule beside the SCHED registers. -/
structure SchedState where
  /-- Schedule time ST in ns (R22, R192). Reset 0. -/
  st : Nat
  /-- Operation ids in flight, each with the schedule time by which it has to retire (R25, R73). Reset none. -/
  inflight : List (Nat × Nat)
  /-- Tasks released before the last mode change that have not reached their fence (R56). Reset none. -/
  oldTasks : List Nat
  /-- Fence hits counted in this hyperframe (R71). Reset 0. -/
  hyperHits : Nat
  /-- Check-chain breaks counted in this hyperframe (R126). Reset 0. -/
  hyperBreaks : Nat
  /-- Latest output of each kind and index within the kind, which its consumers take and a Hold repeats (R70).
  Reset none. -/
  held : List ((Nat × Nat) × Packet)
  /-- The output before it, which a consumer that finds it broken takes under Hold (R126). Reset none. -/
  prior : List ((Nat × Nat) × Packet)
  /-- Alive counter of each sealing (source, kind), the last value sealed (R127). Reset none. -/
  aliveOut : List ((Nat × Nat) × Nat)
  /-- Last alive value taken from each (source, kind) stream by its consumer (R127). Reset none. -/
  aliveIn : List ((Nat × Nat) × Nat)
  /-- Fence hits, or check-chain breaks, reached their threshold in this or the last whole hyperframe (R71, R126).
  Reset false. -/
  hitsFault : Bool
  breaksFault : Bool
  /-- Schedule time at which the schedule last started (R62). Reset 0. -/
  startAt : Nat
  /-- Time of validity in ns of the data that a computation in progress works on, for the records it writes (R26, R29); none between
  commands. Reset none. -/
  subject : Option Int
  /-- Number of the task whose work is in progress, which its reports name (R71, R133); none between commands. Reset none. -/
  task : Option Nat
deriving DecidableEq, Repr, Inhabited

/-- A scan-engine job (R130, R132): its fields as they stood at GO. -/
structure ScanJob where
  unit : Nat
  space : Nat
  start : Nat
  len : Nat
  stride : Nat
  expect : Word
deriving DecidableEq, Repr, Inhabited

/-- State of the check chain beside the CHK registers. -/
structure ChkState where
  /-- Lineage logs, newest first, at most 1,024 entries of a resource (R124). Reset empty. -/
  logs : List LineageEntry
  /-- Host scan job running or suspended (R130). Reset none. -/
  job : Option ScanJob
deriving DecidableEq, Repr, Inhabited

/-- States of a cellar slot (R115). -/
inductive SlotState where
  | empty | staged | racked | knownGood | rejected | factory
deriving DecidableEq, Repr, Inhabited

/-- The code of a slot state in IMG_SLOT (R115). -/
def SlotState.code : SlotState → Nat
  | .empty => 0 | .staged => 1 | .racked => 2 | .knownGood => 3 | .rejected => 4 | .factory => 5

/-- One component (R91 to R95): its vintage in 32 bits, for each of the four kinds SI, AF, SF, GF the lowest and highest partner vintage it
declares, its bytes, the length and SHA-256 digest it states of them, and its Ed25519 signature. -/
structure Component where
  vintage : Word
  partners : List (Word × Word)
  content : List Byte
  length : Nat
  sha : List Byte
  sig : List Byte
deriving DecidableEq, Repr, Inhabited

/-- What SI carries of the Ramolo licence that compiled it (R95): public key, licensee id, Bascel's signature over the two. -/
structure Licence where
  key : List Byte
  licensee : List Byte
  sig : List Byte
deriving DecidableEq, Repr, Inhabited

/-- What a slot or the staging area holds (R91 to R95, R66): the components SI, AF, SF, GF, the licence of SI, the tested pairs with
Bascel's signature over their list, the set digest, the timing certificate in SI, and the CRC-32C of it that the image carries. -/
structure VintageSet where
  components : List Component
  licence : Licence
  tested : List (Nat × Word × Nat × Word)
  listSig : List Byte
  digest : List Byte
  cert : List Byte
  certCrc : Word
deriving DecidableEq, Repr, Inhabited

/-- The set that slot F holds when the model names one: every component empty and of vintage 0, every pair in range and tested (R89, R91).
Whether its signatures verify rests on the root key, which the manual does not give. -/
def VintageSet.made : VintageSet :=
  ⟨List.replicate 4 ⟨0, List.replicate 4 (0, 0xFFFFFFFF), [], 0, sha256 [], List.replicate 64 0⟩, ⟨List.replicate 32 0, [], List.replicate 64 0⟩,
    [(0, 0, 1, 0), (0, 0, 2, 0), (0, 0, 3, 0), (1, 0, 2, 0), (1, 0, 3, 0), (2, 0, 3, 0)], List.replicate 64 0,
    sha256 (sha256 [] ++ sha256 [] ++ sha256 [] ++ sha256 []), [], crc32c []⟩

/-- One entry of the slot directory (R90, R115). -/
structure DirSlot where
  state : SlotState
  vin : List Word
  digestLo : Word
  rackDt : Word
deriving DecidableEq, Repr, Inhabited

/-- One copy of the slot directory as the NOR holds it (R90), with the CRC-32C over the copy. -/
structure Directory where
  seq : Word
  active : Nat
  knownGood : Nat
  slots : List DirSlot
  check : Word
deriving DecidableEq, Repr, Inhabited

/-- A racking that runs (R104, R105): source, target, whether to activate, the step 1 to 8 in progress, whether a
shutdown has asked it to stop (R106), and the set that step 1 found good, against whose digests step 4 reads back. -/
structure Racking where
  src : Nat
  target : Nat
  activate : Bool
  step : Nat
  stop : Bool
  checked : Option VintageSet
deriving DecidableEq, Repr, Inhabited

/-- A stored acceptance record (R101). -/
structure AcceptRec where
  keySlot : Nat
  kind : Nat
  digest : List Byte
  raw : List Byte
deriving DecidableEq, Repr, Inhabited

/-- State of the cellar beside the IMG registers. -/
structure ImgState where
  /-- Slot directory, copies A and B (R88, R90). Reset both absent. -/
  dirA : Option Directory
  dirB : Option Directory
  /-- Sets held in slots F, 1 to 4 and S (R88, R115). Reset: F holds the factory set, the others none. -/
  sets : List (Option VintageSet)
  /-- Racking in progress (R104). Reset none. -/
  racking : Option Racking
  /-- A racking cut short, to be reported at the next start (R106). Reset false. -/
  rackCut : Bool
  /-- Stored acceptance records (R102), at most 64. Reset none. -/
  records : List AcceptRec
  /-- The record under verification, as it stood at SUBMIT (R102). Reset none. -/
  submitted : Option (List Byte)
  /-- The four one-time key slots (R103): 32 bytes once enrolled. Reset not enrolled. -/
  keys : List (Option (List Byte))
  /-- Revoked key slots, one bit each, kept with the keys (R103). Reset none. -/
  revoked : Nat
  /-- Digest of the set that has started (R96). Reset none. -/
  running : Option (List Byte)
  /-- Schedule time since when the running set has met the conditions of R100 without a break. Reset none. -/
  kgSince : Option Nat
deriving DecidableEq, Repr, Inhabited

/-- The bytes of an overlay copy from the start of its area in the NOR (R88, R109); none where the area is erased. -/
abbrev OverlayCopy := List Byte

/-- What a valid overlay copy says (R109): sequence number, layout id, and the value of each set mask bit in ascending index order. -/
structure Overlay where
  seq : Word
  layout : Word
  values : List (Nat × Quad)
deriving DecidableEq, Repr, Inhabited

/-- An overlay commit (R110): schedule time of GO, the operation, its index, and the values captured at the boundary after GO. -/
structure CommitJob where
  go : Nat
  op : Nat
  index : Nat
  captured : Option (List (Nat × Quad))
deriving DecidableEq, Repr, Inhabited

/-- State of the parameter layers beside the PARAM registers (R107). -/
structure ParamState where
  /-- Factory values that the set in slot F gives otherwise than the manual's table; none until the factory table is read (R107). Reset:
  read, with nothing otherwise. -/
  factory : Option (List (Nat × Quad))
  /-- Overlay values applied at the start (R111). Reset none. -/
  overlay : List (Nat × Quad)
  /-- Runtime values in force (R107). Reset none. -/
  runtime : List (Nat × Quad)
  /-- Runtime writes registered and not yet in effect, oldest first: schedule time, index, value (R108). Reset none. -/
  waiting : List (Nat × Nat × Quad)
  /-- Overlay copies A and B in the NOR (R88, R109). Reset erased. -/
  copyA : OverlayCopy
  copyB : OverlayCopy
  /-- Commit in progress. Reset none. -/
  commit : Option CommitJob
  /-- A SNAP copy runs (R501). Reset false. -/
  snapping : Bool
  /-- High word last written to PARAM_DATA_HI (R117). Reset 0. -/
  dataHi : Word
  /-- Parameter-table layout id of the image (R109). Reset 0. -/
  layout : Word
  /-- SAFE values loaded from the sealed set (R429). Reset none. -/
  sealedVals : List (Nat × Quad)
  /-- Runtime values that changes of the last 5 s replaced, with the schedule time of the change, newest first: the
  latencies in force at an earlier arrival, a frame lasting less than that (R140). Reset none. -/
  history : List (Nat × List (Nat × Quad))
deriving DecidableEq, Repr, Inhabited

/-- A record (R435): header fields and body. -/
structure Rec where
  type : Nat
  flags : Nat
  seq : Word
  oph : Nat
  pcc : Nat
  unit : Nat
  utcSec : Nat
  utcNs : Nat
  tov : Word
  frame : BitVec 16
  body : List Byte
deriving DecidableEq, Repr, Inhabited

/-- One sector of the NOR ring (R443): log epoch, sector sequence number, records oldest first, and what records cut short in the second
phase of their commit left (R444): how many records lie before, and the bytes up to the next word. -/
structure NorSector where
  epoch : Nat
  seq : Nat
  oph : Nat
  pcc : Nat
  recs : List Rec
  torn : List (Nat × List Byte)
deriving DecidableEq, Repr, Inhabited

/-- One committed NAND batch (R445): log epoch, the blocks it lies in, records oldest first, and what its commit page lists of each data
page, the sequence number and the CRC-32C; its first and last SEQ are those of the records. -/
structure NandBatch where
  epoch : Nat
  blocks : List Nat
  recs : List Rec
  pages : List (Word × Word)
deriving DecidableEq, Repr, Inhabited

/-- State of the recorder beside the REC registers. -/
structure RecState where
  /-- SEQ of the last record created (R437). Reset 0: no record yet. -/
  lastSeq : Word
  /-- Log epoch (R452), 16 bits. Reset 0. -/
  epoch : Nat
  /-- Staged records, oldest first (R441). Reset none. -/
  staging : List Rec
  /-- First and last dropped SEQ of the episode of full staging (R441). Reset none. -/
  dropped : Option (Word × Word)
  /-- NOR ring, oldest sector first (R443). Reset empty. -/
  nor : List NorSector
  /-- Committed NAND batches, oldest first (R445). Reset none. -/
  nand : List NandBatch
  /-- The open batch: records written to data pages and not yet listed by a commit page (R445). Reset none. -/
  openBatch : List Rec
  /-- Schedule time at which the first record of the open batch was drained (R445). Reset 0. -/
  batchAt : Nat
  /-- First record after a start still to be written, FLAGS bit 4 (R435). Reset true. -/
  first : Bool
  /-- Read window: records last copied (R446). Reset none. -/
  window : List Rec
  /-- Copy asked for and running (R446). Reset false. -/
  copying : Bool
  /-- The records of the NAND as a copy that began in a freeze finds them (R449). Reset none. -/
  copySrc : Option (List Rec)
  /-- Enrolled clearing key (R450). Reset none. -/
  key : Option (List Byte)
  /-- Nonce in force and the schedule time it was placed (R451). Reset none. -/
  nonce : Option (List Byte × Nat)
  /-- Number of nonces drawn, which indexes the free nonce values. Reset 0. -/
  nonces : Nat
  /-- Accepted clear waiting for its commit: first and last SEQ before, and key replacement (R452). Reset none. -/
  clearing : Option (Word × Word × Bool)
  /-- Schedule time at which the freeze began. Reset 0. -/
  freezeAt : Nat
  /-- Operating milliseconds when they were last fixed, and the schedule time of that (R438). Reset 0, 0. -/
  ophBase : Nat
  ophFrom : Nat
  /-- Operating milliseconds at the last checkpoint of the operating hours (R438). Reset 0. -/
  hoursAt : Nat
deriving DecidableEq, Repr, Inhabited

/-- One NAND block (R457 to R459): erase count, reads since erase, worst corrected bits, and whether it holds committed
records, is bad from the factory, is grown bad, or is a spare. -/
structure NandBlock where
  erases : Nat
  reads : Nat
  corrected : Nat
  holds : Bool
  factoryBad : Bool
  grownBad : Bool
  spare : Bool
deriving DecidableEq, Repr, Inhabited

/-- State of the NAND medium beside the NAND registers. -/
structure NandState where
  /-- Blocks, by number over all chip enables (R455). Reset none: no part fitted. -/
  blocks : List NandBlock
  /-- Chip enables, page size code and pages per block of the parts fitted (R462). Reset 0. -/
  ce : Nat
  page : Nat
  ppb : Nat
  /-- Good blocks at format (R459). Reset 0. -/
  goodBlocks : Nat
  /-- Blocks of the log ring (R455, R459). Reset 0. -/
  ring : Nat
  /-- Page sequence number of the next page (R445, R456). Reset 0. -/
  pageSeq : Word
  /-- The block that is being written, and its pages used (R445). Reset none. -/
  cur : Option (Nat × Nat)
  /-- Relocations that wait, the first one under way: old block, new block, and the cause of a retirement or 0 (R458). Reset none. -/
  moving : List (Nat × Nat × Nat)
  /-- Index of free values for choices among blocks that the manual leaves open. Reset 0. -/
  picks : Nat
  /-- DT second, while DT was valid, and operating ms of the last complete scrub pass (R458). Reset none, 0. -/
  passDt : Option Nat
  passOph : Nat
deriving DecidableEq, Repr, Inhabited

/-- Where the device stands between off and running (R471 to R475, R484, R524). -/
inductive PowerPhase where
  /-- CORE is up: starting, or running in M1 to M7. -/
  | up
  /-- Dormant entry runs: its steps 2 to 5 (R474). -/
  | enteringDormant
  /-- M0 (R35). -/
  | dormant
  /-- A shutdown runs (R484). -/
  | shuttingDown
  /-- Powered down at the end of a shutdown, or VIN absent. -/
  | off
  /-- RESET_N held low (R471). -/
  | resetHeld
  /-- VAON lost (R471). -/
  | aonLost
  /-- Thermal trip holds SOLV, FAB and CORE off (R524). -/
  | tripped
  /-- Rung 4 waits for VIN to go (R494). -/
  | cycling
  /-- No set started: the boot loader serves the host ports (R99). -/
  | halted
deriving DecidableEq, Repr, Inhabited

/-- State of the clocks, the power sequencer and the resets beside the CLK registers. -/
structure ClkState where
  /-- Power phase. Reset up. -/
  phase : PowerPhase
  /-- Clean-shutdown flag, AON domain (R472). Reset false. -/
  clean : Bool
  /-- VIN was out of its range since the last start (R439). Reset false. -/
  vinLost : Bool
  /-- VIN lies in its range (R471, R520). Reset true. -/
  vinHere : Bool
  /-- Schedule time at which the CORE domain stopped, from which a start counts on (R198, R438); none while it is up. Reset none. -/
  stopAt : Option Nat
  /-- VAON was lost since the last start (R471). Reset false. -/
  aonGone : Bool
  /-- Conditions of R523, each with warning and out of range: temperature, VIN, VAON, VIO_A, VIO_B, VIO_C. Reset false each. -/
  env : List (Bool × Bool)
  /-- Wake sources latched in the AON domain (R475). Reset none. -/
  wakes : BitVec 5
  /-- Controller whose wake frame fired, 7 none (R349). Reset 7. -/
  wakeCtrl : Nat
  /-- DT seconds counted by the AON domain while DT is not valid, with the schedule time at which the count stood there (R198); none while
  DT has never been valid. Reset none. -/
  aonDt : Option (Nat × Nat)
  /-- Start cause pending until STANDBY_REACHED (R43). Reset 0. -/
  startCause : Nat
  /-- Schedule time at which STARTED became 1, so that a request decided there is still refused (R43). Reset none. -/
  standbyAt : Option Nat
  /-- PLL oscillator qualification: a reference is present. Reset TCXO present, REFCLK_IN absent. -/
  tcxoPresent : Bool
  extPresent : Bool
  /-- Schedule time at which the TCXO and REFCLK_IN were last lost (R464). Reset none. -/
  goneAt : List (Option Nat)
  /-- The measured offset of the reference that the fractional-N word carries over from switches, in 0.01 ppm (R466). Reset 0. -/
  carry : Int
  /-- A shutdown that runs: trigger (0 host, 1 pin, 2 Dormant) and the schedule time at which it began (R474, R484). Reset none. -/
  shutdown : Option (Nat × Nat)
  /-- A shutdown pin fell during a Dormant entry (R485). Reset false. -/
  dormantAbandon : Bool
  /-- PWR_HOLD output (R483). Reset false. -/
  pwrHold : Bool
  /-- PWR_CYCLE_REQ driven low (R494). Reset false. -/
  cycleReq : Bool
  /-- Schedule time at which PWR_CYCLE_REQ fell (R494), and at which the PLL last unlocked (R467). Reset 0. -/
  cycleAt : Nat
  unlockAt : Nat
  /-- Unqualified restriction timer: the vintage restriction's change to M7 is due (R44). Reset false. -/
  restrictDue : Bool
  /-- Milliseconds that the last start took before schedule time 0 (R473). Reset 0. -/
  lead : Nat
deriving DecidableEq, Repr, Inhabited

/-- One memory failure entry (R487). -/
structure MemFail where
  mem : Nat
  bit : Nat
  step : Nat
  repair : Nat
  addr : Word
deriving DecidableEq, Repr, Inhabited

/-- One loop-back or reference check result (R488): result code, measured value and limit as binary32, margin in 0.1 %. -/
structure AnCheck where
  result : Nat
  measured : Word
  limit : Word
  margin : Nat
deriving DecidableEq, Repr, Inhabited

/-- Lamp-check results as the cellar holds them (R490). -/
structure LampResults where
  passed : Bool
  duration : Nat
  trigger : Nat
  failures : Nat
  mem : List MemFail
  an : List AnCheck
  unrepairable : Bool
deriving DecidableEq, Repr, Inhabited

/-- One copy of the results in the cellar (R490), with its sequence number and CRC-32C. -/
structure LampCopy where
  seq : Word
  results : LampResults
  check : Word
deriving DecidableEq, Repr, Inhabited

/-- State of the lamp check and the recovery ladder beside their registers. -/
structure BistState where
  /-- The two mirrored copies of the results in the cellar (R88, R490). Reset none. -/
  resultsA : Option LampCopy
  resultsB : Option LampCopy
  /-- Repairs assigned and still to apply at the next start (R487). Reset false. -/
  repairDue : Bool
  /-- AOUT checks that failed since a lamp check last passed, one bit each (R489). Reset 0. -/
  aoutFail : BitVec 8
  /-- Recovery level, AON domain (R495). Reset 0. -/
  level : Nat
  /-- E18 owed once the restart reaches STARTED (R495). Reset false. -/
  levelEvent : Bool
  /-- CYCLE_FAIL to set after the restart (R494). Reset false. -/
  cycleFail : Bool
  /-- Block whose rung-2 reset is requested (R493). Reset none. -/
  blockReset : Option Nat
deriving DecidableEq, Repr, Inhabited

/-- State of the host ports beside the HOST, EVT and SYS_EXPERT registers. -/
structure HostState where
  /-- BAR2 bytes that hold something other than 0 (R501). Reset none listed. -/
  bar2 : Memory
  /-- First key words taken: port and stamp in ns (R505). Reset none. -/
  keyAt : List (Nat × Nat)
  /-- Schedule time of the last expert-page write (R506). Reset 0. -/
  expertAt : Nat
  /-- SPI status bits 0 and 1: last write accepted, a CRC failed (R502). Reset false. -/
  spiOk : Bool
  spiCrc : Bool
  /-- Last bytes the SPI port returned (R502). Reset none. -/
  spiOut : List Byte
  /-- Value the last host read returned (R8, R11). Reset 0. -/
  readOut : Word
  /-- Latched high words, by the address of the high register (R8, R194, R243). Reset none. -/
  latched : List (Nat × Word)
  /-- Messages each MSI-X vector has sent (R511). Reset 0 each. -/
  sent : List Nat
  /-- Events raised in the last CLK_IO cycle of 10 ns in which one was raised, each with that cycle's number (R511). Reset none. -/
  raised : List (Nat × Nat)
  /-- Causes found so far for the register write that is being carried out (R507); none between writes. Reset none. -/
  causes : Option (List Nat)
deriving DecidableEq, Repr, Inhabited

end Sys2Proof.Machine
end

