-- ==== Sys2Proof/Machine/Blocks2.lean ====
section
/-! DEFINITION. State beside the registers, second part: sensor entry and the analogue chain, with what the structure
image fixes for them (R137 to R165). -/
namespace Sys2Proof.Machine

/-- How a field's raw value is written into its destination words (R149). -/
inductive DestFormat where
  | q32 (m n : Nat)
  | q64 (m n : Nat)
  | bam32
  | fp32
deriving DecidableEq, Repr, Inhabited

/-- One extracted field (R147, R148): field index or byte offset, format code, byte count of a binary integer,
destination word and format, scale and offset as binary64 images. -/
structure ExtField where
  index : Nat
  code : Nat
  size : Nat
  dest : Nat
  format : DestFormat
  scale : Quad
  offset : Quad
  required : Bool
deriving DecidableEq, Repr, Inhabited

/-- The check algorithm of a binary frame (R143). -/
inductive FrameCheck where
  | none | xor8 | sum8 | fletcher16 | crc16 | crc32c
deriving DecidableEq, Repr, Inhabited

/-- What an extraction entry matches (R147): an address field with "?" wildcards and an "s:" value; sync bytes, message
identifier and length rule of a binary frame; or an identifier on a CAN controller. -/
inductive EntryMatch where
  | text (address : List Byte) (source : List Byte)
  | binary (sync : List Byte) (msgId : List Byte) (msgAt : Nat) (fixedLen : Nat) (lenAt : Nat) (lenSize : Nat)
      (check : FrameCheck)
  | can (ctrl : Nat) (id : Nat) (extended : Bool)
deriving DecidableEq, Repr, Inhabited

/-- An extraction entry (R147); `alive` is the byte offset of a CAN alive counter (R146). -/
structure ExtEntry where
  pattern : EntryMatch
  slot : Nat
  kind : Nat
  alive : Option Nat
  fields : List ExtField
deriving DecidableEq, Repr, Inhabited

/-- The image's binding of an analogue channel (R138): slot, kind, destination format, scale and offset, and the 65 by 16
resampler coefficients of R155. -/
structure AfeBinding where
  slot : Nat
  kind : Nat
  format : DestFormat
  scale : Quad
  offset : Quad
  coeffs : List (List Int)
deriving DecidableEq, Repr, Inhabited

/-- The image's part of sensor entry. -/
structure EntryImage where
  /-- Extraction entries of each serial port (R147). -/
  serial : List (List ExtEntry)
  /-- Extraction entries shared by the Ethernet ports. -/
  net : List ExtEntry
  /-- Extraction entries on the CAN controllers (R146). -/
  can : List ExtEntry
  /-- Largest number of arrivals of each source 0 to 21 in a hyperframe (R150). -/
  rates : List Nat
  /-- Slot and destination of each analogue channel. -/
  afe : List AfeBinding
  /-- Slot of each pulse input. -/
  pulseSlots : List Nat
  /-- Operation ids that the data of each slot take in turn, and the time in ns after a seal by which its id has to retire (R25, R73). -/
  ops : List (List Nat × Nat)
  /-- The multicast groups that each Ethernet port joins, up to 8 (R145). -/
  groups : List (List Word)
deriving DecidableEq, Repr, Inhabited

/-- The alive reference of a received bus identifier (R128): counter value and SOF of the reference. -/
structure AliveRef where
  ctrl : Nat
  id : Nat
  xtd : Bool
  value : Nat
  sof : Nat
deriving DecidableEq, Repr, Inhabited

/-- State of sensor entry beside the ENTRY registers. -/
structure EntryState where
  /-- Arrivals of each source counted in a hyperframe: source, hyperframe number, count, E33 already raised (R150).
  Reset none. -/
  counts : List (Nat × Nat × Nat × Bool)
  /-- The t_arr of the sentences or frames of each serial port that lost a byte and whose end has not been seen, oldest first (R144). Reset
  none. -/
  lost : List (List Nat)
  /-- Close of each slot's timeout window, ST in ns, fixed when the window opened (R151). Reset no window. -/
  closes : List (Option Nat)
  /-- Latest sealed datum of each slot, and every datum sealed and not yet consumed by fusion (R18). Reset none. -/
  slots : List (Option Packet)
  fresh : List (Nat × Packet)
  /-- Alive references of received identifiers (R128). Reset none. -/
  refs : List AliveRef
  /-- Slots that timed out at the instant of their next seal, of which fusion has not heard yet (R151). Reset none. -/
  timed : List Nat
deriving DecidableEq, Repr, Inhabited

/-- State of one analogue channel (R153 to R158). -/
structure AfeChan where
  /-- Modulator values, newest first, at most 76, the length of stage 1 (R153). Reset none. -/
  x0 : List Bool
  /-- Number of modulator values since ST 0, that is, the index of the next one (R152, R155). Reset 0. -/
  n0 : Nat
  /-- Stage-1 samples, newest first, at most 23 (R153). Reset none. -/
  x1 : List Int
  /-- Stage-2 samples, newest first, at most 23. Reset none. -/
  x2 : List Int
  /-- Stage-3 samples, newest first, at most 256. Reset none. -/
  x3 : List Int
  /-- Stage-4 samples, newest first, at most 16. Reset none. -/
  x4 : List Int
  /-- Index k of the newest stage-4 sample (R155). Reset none. -/
  k4 : Option Nat
  /-- Stages saturated and overload seen since the previous output instant (R154). Reset none. -/
  sat : BitVec 6
  /-- End of settling, ST in ns (R158). Reset 0. -/
  settleEnd : Nat
  /-- RWS configuration written and not yet in effect (R158). Reset false. -/
  dirty : Bool
  /-- Configuration in effect: the words of CH_CFG and CH_SHIFT, and the stage-4 coefficients (R153, R158). Reset 0, none. -/
  cfg : Word
  shift : Word
  taps : List Int
deriving DecidableEq, Repr, Inhabited

/-- State of one pulse input: configuration in effect, level behind the filter, edges of the minor frame running now, first and last
edge times in ns (R159). -/
structure PulseChan where
  cfg : Word
  level : Bool
  edges : Nat
  firstAt : Nat
  lastAt : Nat
deriving DecidableEq, Repr, Inhabited

/-- State of the analogue front end beside the AFE registers. -/
structure AfeState where
  chans : List AfeChan
  pulses : List PulseChan
deriving DecidableEq, Repr, Inhabited

end Sys2Proof.Machine
end

