-- ==== Sys2Proof/Machine/Float.lean ====
section
/-! DEFINITION. IEEE 754 binary32 and binary64 arithmetic (R6), with every operation correctly rounded
(nearest, ties to even) and computed on natural numbers, so that the exact results of R311 can be evaluated. -/
namespace Sys2Proof.Machine

/-- The two parameters of a binary interchange format: exponent bits and fraction bits. -/
structure FloatFmt where
  ebits : Nat
  mbits : Nat
deriving DecidableEq, Repr

/-- binary32. -/
def fmt32 : FloatFmt := ⟨8, 23⟩

/-- binary64. -/
def fmt64 : FloatFmt := ⟨11, 52⟩

/-- What a bit pattern stands for: a finite value is `(-1)^neg * m * 2^e`, exactly. -/
inductive FloatVal where
  | nan
  | inf (neg : Bool)
  | fin (neg : Bool) (m : Nat) (e : Int)
deriving DecidableEq, Repr

namespace FloatFmt

/-- The exponent of the last place of the subnormal numbers. -/
def eMin (f : FloatFmt) : Int := 2 - (2 ^ (f.ebits - 1) : Nat) - (f.mbits : Int)

/-- The bit pattern of an infinity, sign apart. -/
def infBits (f : FloatFmt) : Nat := (2 ^ f.ebits - 1) * 2 ^ f.mbits

/-- The quiet NaN pattern that an invalid operation gives. -/
def nanBits (f : FloatFmt) : Nat := f.infBits + 2 ^ (f.mbits - 1)

/-- Put the sign on a magnitude pattern. -/
def signed (f : FloatFmt) (neg : Bool) (b : Nat) : Nat :=
  b + bit neg * 2 ^ (f.ebits + f.mbits)

/-- Read a bit pattern. -/
def decode (f : FloatFmt) (b : Nat) : FloatVal :=
  let neg := b / 2 ^ (f.ebits + f.mbits) % 2 == 1
  let ex := b / 2 ^ f.mbits % 2 ^ f.ebits
  let fr := b % 2 ^ f.mbits
  if ex == 2 ^ f.ebits - 1 then (if fr == 0 then .inf neg else .nan)
  else if ex == 0 then .fin neg fr f.eMin
  else .fin neg (fr + 2 ^ f.mbits) (f.eMin + (ex : Int) - 1)

/-- Round `(-1)^neg * (m + δ) * 2^e` to the format, where `δ` lies strictly between 0 and 1 if
`sticky` and is 0 otherwise: nearest, ties to even, overflow to infinity. -/
def round (f : FloatFmt) (neg : Bool) (m : Nat) (e : Int) (sticky : Bool) : Nat :=
  if m == 0 then f.signed neg 0
  else
    let q := max (e + (Nat.log2 m : Int) - f.mbits) f.eMin
    let sh := q - e
    let m' :=
      if sh ≤ 0 then m * 2 ^ (-sh).toNat
      else
        let d := 2 ^ sh.toNat
        let keep := m / d
        let rest := 2 * (m % d)
        if rest > d || (rest == d && (sticky || keep % 2 == 1)) then keep + 1 else keep
    let b := (q - f.eMin).toNat * 2 ^ f.mbits + m'
    f.signed neg (min b f.infBits)

/-- A finite value as a signed integer at exponent `e0`, which is no larger than its own. -/
def signedAt (neg : Bool) (m : Nat) (e e0 : Int) : Int :=
  let v : Int := (m * 2 ^ (e - e0).toNat : Nat)
  if neg then -v else v

/-- Addition. -/
def add (f : FloatFmt) (a b : Nat) : Nat :=
  match f.decode a, f.decode b with
  | .nan, _ => f.nanBits
  | _, .nan => f.nanBits
  | .inf s, .inf t => if s == t then f.signed s f.infBits else f.nanBits
  | .inf s, _ => f.signed s f.infBits
  | _, .inf t => f.signed t f.infBits
  | .fin s m e, .fin t n g =>
    let e0 := min e g
    let v := signedAt s m e e0 + signedAt t n g e0
    if v == 0 then f.signed (s && t) 0 else f.round (v < 0) v.natAbs e0 false

/-- The sign bit turned over. -/
def neg (f : FloatFmt) (a : Nat) : Nat :=
  let h := 2 ^ (f.ebits + f.mbits)
  if a / h % 2 == 1 then a - h else a + h

/-- Multiplication. -/
def mul (f : FloatFmt) (a b : Nat) : Nat :=
  match f.decode a, f.decode b with
  | .nan, _ => f.nanBits
  | _, .nan => f.nanBits
  | .inf s, .inf t => f.signed (s != t) f.infBits
  | .inf s, .fin t n _ => if n == 0 then f.nanBits else f.signed (s != t) f.infBits
  | .fin s m _, .inf t => if m == 0 then f.nanBits else f.signed (s != t) f.infBits
  | .fin s m e, .fin t n g => f.round (s != t) (m * n) (e + g) false

/-- The quotient `num * 2^e / den`, rounded. -/
def roundRatio (f : FloatFmt) (neg : Bool) (num den : Nat) (e : Int) : Nat :=
  let k := f.mbits + 3 + Nat.log2 den - Nat.log2 num
  let n := num * 2 ^ k
  f.round neg (n / den) (e - k) (n % den != 0)

/-- Division. -/
def div (f : FloatFmt) (a b : Nat) : Nat :=
  match f.decode a, f.decode b with
  | .nan, _ => f.nanBits
  | _, .nan => f.nanBits
  | .inf _, .inf _ => f.nanBits
  | .inf s, .fin t _ _ => f.signed (s != t) f.infBits
  | .fin s _ _, .inf t => f.signed (s != t) 0
  | .fin s m e, .fin t n g =>
    if n == 0 then (if m == 0 then f.nanBits else f.signed (s != t) f.infBits)
    else if m == 0 then f.signed (s != t) 0
    else f.roundRatio (s != t) m n (e - g)

/-- The integer square root of `n` by its bits from `k` down, given the root `r` of the higher bits. -/
def isqrtBits (n : Nat) : Nat → Nat → Nat
  | 0, r => r
  | k + 1, r =>
    let t := r + 2 ^ k
    isqrtBits n k (if t * t ≤ n then t else r)

/-- The integer square root. -/
def isqrt (n : Nat) : Nat := isqrtBits n (Nat.log2 n / 2 + 1) 0

/-- Square root: the root of a negative number is a NaN, that of -0 is -0. -/
def sqrt (f : FloatFmt) (a : Nat) : Nat :=
  match f.decode a with
  | .nan => f.nanBits
  | .inf s => if s then f.nanBits else f.infBits
  | .fin s m e =>
    if m == 0 then f.signed s 0
    else if s then f.nanBits
    else
      let k0 := 2 * f.mbits + 6
      let k := if (e - (k0 : Int)) % 2 == 0 then k0 else k0 + 1
      let n := m * 2 ^ k
      let r := isqrt n
      f.round false r ((e - k) / 2) (r * r != n)

/-- Ordered less-than: false where an operand is a NaN. -/
def lt (f : FloatFmt) (a b : Nat) : Bool :=
  match f.decode a, f.decode b with
  | .nan, _ => false
  | _, .nan => false
  | .inf s, .inf t => s && !t
  | .inf s, _ => s
  | _, .inf t => !t
  | .fin s m e, .fin t n g =>
    let e0 := min e g
    signedAt s m e e0 < signedAt t n g e0

/-- Ordered equality: the two zeros are equal and a NaN equals nothing. -/
def eq (f : FloatFmt) (a b : Nat) : Bool :=
  match f.decode a, f.decode b with
  | .nan, _ => false
  | _, .nan => false
  | .inf s, .inf t => s == t
  | .fin s m e, .fin t n g =>
    let e0 := min e g
    signedAt s m e e0 == signedAt t n g e0
  | _, _ => false

/-- Is the pattern a NaN or an infinity (R6)? -/
def bad (f : FloatFmt) (a : Nat) : Bool := a / 2 ^ f.mbits % 2 ^ f.ebits == 2 ^ f.ebits - 1

/-- Convert between formats. -/
def convert (f g : FloatFmt) (a : Nat) : Nat :=
  match f.decode a with
  | .nan => g.nanBits
  | .inf s => g.signed s g.infBits
  | .fin s m e => g.round s m e false

/-- The value `num / den`, rounded to the format. -/
def ofRatio (f : FloatFmt) (num : Int) (den : Nat) : Nat :=
  if num == 0 then 0 else f.roundRatio (num < 0) num.natAbs den 0

/-- The value times `2^n` as an integer, rounded to nearest with ties away from zero (R5, R7). An infinity stands beyond every field, so
that the field's limit follows (R7); a NaN, which no field of the device holds (R6), gives 0. -/
def toFixed (f : FloatFmt) (n : Nat) (a : Nat) : Int :=
  match f.decode a with
  | .fin s m e =>
    let x := e + n
    let v : Nat :=
      if x ≥ 0 then m * 2 ^ x.toNat
      else
        let d := 2 ^ (-x).toNat
        (2 * m + d) / (2 * d)
    if s then -(v : Int) else v
  | .inf s => if s then -(2 ^ 256) else 2 ^ 256
  | .nan => 0

/-- The value as an integer, rounded toward minus infinity. -/
def floorInt (f : FloatFmt) (a : Nat) : Int :=
  match f.decode a with
  | .fin s m e =>
    let v : Int := if s then -(m : Int) else m
    if e ≥ 0 then v * (2 ^ e.toNat : Nat) else v / ((2 ^ (-e).toNat : Nat) : Int)
  | _ => 0

end FloatFmt

/-- A binary64 value. -/
structure F64 where
  bits : Quad
deriving DecidableEq, Repr, Inhabited

/-- A binary32 value. -/
structure F32 where
  bits : Word
deriving DecidableEq, Repr, Inhabited

/-- A binary64 value from its bit pattern as a number. -/
def F64.ofBits (n : Nat) : F64 := ⟨BitVec.ofNat 64 n⟩
/-- A binary32 value from its bit pattern as a number. -/
def F32.ofBits (n : Nat) : F32 := ⟨BitVec.ofNat 32 n⟩

/-- Zero. -/
def F64.zero : F64 := ⟨0⟩
/-- Zero. -/
def F32.zero : F32 := ⟨0⟩

/-- Correctly rounded binary64 sum. -/
def F64.add (a b : F64) : F64 := .ofBits (fmt64.add a.bits.toNat b.bits.toNat)
/-- The sign turned over. -/
def F64.neg (a : F64) : F64 := .ofBits (fmt64.neg a.bits.toNat)
/-- Correctly rounded binary64 difference. -/
def F64.sub (a b : F64) : F64 := a.add b.neg
/-- Correctly rounded binary64 product. -/
def F64.mul (a b : F64) : F64 := .ofBits (fmt64.mul a.bits.toNat b.bits.toNat)
/-- Correctly rounded binary64 quotient. -/
def F64.div (a b : F64) : F64 := .ofBits (fmt64.div a.bits.toNat b.bits.toNat)
/-- Correctly rounded binary64 square root. -/
def F64.sqrt (a : F64) : F64 := .ofBits (fmt64.sqrt a.bits.toNat)
/-- Ordered less-than. -/
def F64.lt (a b : F64) : Bool := fmt64.lt a.bits.toNat b.bits.toNat
/-- Ordered less-or-equal. -/
def F64.le (a b : F64) : Bool := fmt64.lt a.bits.toNat b.bits.toNat || fmt64.eq a.bits.toNat b.bits.toNat
/-- Ordered equality. -/
def F64.eq (a b : F64) : Bool := fmt64.eq a.bits.toNat b.bits.toNat
/-- The magnitude. -/
def F64.abs (a : F64) : F64 := .ofBits (a.bits.toNat % 2 ^ 63)
/-- The larger of two. -/
def F64.max (a b : F64) : F64 := if a.lt b then b else a
/-- The smaller of two. -/
def F64.min (a b : F64) : F64 := if b.lt a then b else a
/-- Hold a value inside two limits. -/
def F64.clamp (lo hi a : F64) : F64 := if a.lt lo then lo else if hi.lt a then hi else a
/-- NaN or infinity (R6). -/
def F64.bad (a : F64) : Bool := fmt64.bad a.bits.toNat
/-- The nearest binary64 value of a ratio. -/
def F64.ofRatio (num : Int) (den : Nat) : F64 := .ofBits (fmt64.ofRatio num den)
/-- The nearest binary64 value of an integer. -/
def F64.ofInt (n : Int) : F64 := .ofRatio n 1
/-- One. -/
def F64.one : F64 := .ofInt 1
/-- The square. -/
def F64.sq (a : F64) : F64 := a.mul a
/-- Half-turn sign test. -/
def F64.isNeg (a : F64) : Bool := a.lt F64.zero
/-- A binary32 value widened, which is exact. -/
def F32.to64 (a : F32) : F64 := .ofBits (fmt32.convert fmt64 a.bits.toNat)
/-- A binary64 value rounded to binary32. -/
def F64.to32 (a : F64) : F32 := .ofBits (fmt64.convert fmt32 a.bits.toNat)

/-- Correctly rounded binary32 sum. -/
def F32.add (a b : F32) : F32 := .ofBits (fmt32.add a.bits.toNat b.bits.toNat)
/-- The sign turned over. -/
def F32.neg (a : F32) : F32 := .ofBits (fmt32.neg a.bits.toNat)
/-- Correctly rounded binary32 difference. -/
def F32.sub (a b : F32) : F32 := a.add b.neg
/-- Correctly rounded binary32 product. -/
def F32.mul (a b : F32) : F32 := .ofBits (fmt32.mul a.bits.toNat b.bits.toNat)
/-- Correctly rounded binary32 quotient. -/
def F32.div (a b : F32) : F32 := .ofBits (fmt32.div a.bits.toNat b.bits.toNat)
/-- Correctly rounded binary32 square root. -/
def F32.sqrt (a : F32) : F32 := .ofBits (fmt32.sqrt a.bits.toNat)
/-- Ordered less-than. -/
def F32.lt (a b : F32) : Bool := fmt32.lt a.bits.toNat b.bits.toNat
/-- Ordered less-or-equal. -/
def F32.le (a b : F32) : Bool := fmt32.lt a.bits.toNat b.bits.toNat || fmt32.eq a.bits.toNat b.bits.toNat
/-- The magnitude. -/
def F32.abs (a : F32) : F32 := .ofBits (a.bits.toNat % 2 ^ 31)
/-- The larger of two. -/
def F32.max (a b : F32) : F32 := if a.lt b then b else a
/-- The smaller of two. -/
def F32.min (a b : F32) : F32 := if b.lt a then b else a
/-- Hold a value inside two limits. -/
def F32.clamp (lo hi a : F32) : F32 := if a.lt lo then lo else if hi.lt a then hi else a
/-- NaN or infinity (R6). -/
def F32.bad (a : F32) : Bool := fmt32.bad a.bits.toNat
/-- The nearest binary32 value of a ratio. -/
def F32.ofRatio (num : Int) (den : Nat) : F32 := .ofBits (fmt32.ofRatio num den)
/-- The nearest binary32 value of an integer. -/
def F32.ofInt (n : Int) : F32 := .ofRatio n 1

/-- Saturate an integer into `[lo, hi]` (R7). -/
def satInt (lo hi v : Int) : Int := if v < lo then lo else if hi < v then hi else v

/-- Convert into a signed Qm.n field of `m + n` bits (R7): nearest, ties away from zero, saturating. -/
def F64.toQ (m n : Nat) (a : F64) : Int :=
  let h : Int := 2 ^ (m + n - 1)
  satInt (-h) (h - 1) (fmt64.toFixed n a.bits.toNat)

/-- The value of a Qm.n field's integer (R7). -/
def F64.ofQ (n : Nat) (v : Int) : F64 := .ofRatio v (2 ^ n)

/-- Convert into an unsigned field of `w` bits with `n` fraction bits, saturating (the rounding of R7). -/
def F64.toU (w n : Nat) (a : F64) : Nat :=
  (satInt 0 (2 ^ w - 1) (fmt64.toFixed n a.bits.toNat)).toNat

/-- A BAM32 angle in degrees (R5). -/
def bamToDeg (b : Word) : F64 := .ofRatio (b.toInt * 45) (2 ^ 29)

/-- An angle in degrees as BAM32 (R5): reduced modulo a turn, then rounded with ties away from zero,
with a result of 2^31 written as -2^31. The reduction is exact, so the ratio is formed on integers. -/
def degToBam (a : F64) : Word :=
  match fmt64.decode a.bits.toNat with
  | .fin s m e =>
    -- the angle is num / den degrees; one turn is 360 * den
    let num : Int := (if s then -1 else 1) * ((m * 2 ^ e.toNat : Nat) : Int)
    let den : Int := ((2 ^ (-e).toNat : Nat) : Int)
    let turn := 360 * den
    let r := (num + turn / 2) % turn - turn / 2
    -- v = r * 2^32 / (360 * den), nearest with ties away from zero
    let p := r.natAbs * 2 ^ 33 + turn.toNat
    let q : Int := ((p / (2 * turn.toNat) : Nat) : Int)
    BitVec.ofInt 32 (if r < 0 then -q else q)
  | _ => 0

/-- The signed difference of two angles in `[-180°, 180°)`, as BAM32 (R5). -/
def bamDiff (a b : Word) : Word := a - b

/-- A rounded signed integer as a register word, two's complement. -/
def wordOfInt (v : Int) : Word := BitVec.ofInt 32 v

end Sys2Proof.Machine
end

