-- ==== Sys2Proof/Machine/Blocks3.lean ====
section
/-! DEFINITION. State beside the registers, third part: the GNSS baseband (R167 to R191), device time and the Ethernet
ports (R192 to R214), with what the structure image fixes for them. -/
namespace Sys2Proof.Machine

/-- Supervision of one antenna input (R169): since when the current has stood in its present range, whether bias is on,
retries since the short, and when the next retry is due. -/
structure AntState where
  lowSince : Option Nat
  highSince : Option Nat
  okSince : Option Nat
  biasOn : Bool
  tries : Nat
  retryAt : Option Nat
deriving DecidableEq, Repr, Inhabited

/-- An ephemeris held: satellite, schedule time in ns from which its age counts, before 0 where it was held over a start, whether it came
by RTCM, and whether it was decoded from the signal while in a spoofing state (R184, R186). -/
structure Ephemeris where
  system : Nat
  sv : Nat
  age0 : Int
  rtcm : Bool
  tainted : Bool
deriving DecidableEq, Repr, Inhabited

/-- How the ionosphere is taken out of a range (R177): by two bands, by the Galileo model, by the GPS model. -/
inductive Iono where
  | free | galileo | gps
deriving DecidableEq, Repr, Inhabited

/-- The range of a satellite that the solution uses (R177), code and carrier in metres. -/
structure SatRange where
  system : Nat
  sv : Nat
  iono : Iono
  code : Quad
  carrier : Quad
deriving DecidableEq, Repr, Inhabited

/-- The image's part of the receiver (R175, R178). -/
structure GnssImage where
  pvtSlot : Option Nat
  headingSlot : Option Nat
  rawSlot : Option Nat
deriving DecidableEq, Repr, Inhabited

/-- State of the receiver beside the GNSS registers. -/
structure GnssState where
  /-- Antenna supervision, ANT_A and ANT_B (R169). Reset: bias on, no range held. -/
  ants : List AntState
  /-- An indicator has stood above the threshold since (R182). Reset none. -/
  jamSince : Option Nat
  /-- Both indicators have stood at or below the threshold since (R182). Reset none. -/
  calmSince : Option Nat
  /-- Consecutive epochs with a failed test (R184). Reset 0. -/
  failRun : Nat
  /-- For each test T1 to T4, the epoch its unbroken failing run began (R184). Reset none. -/
  failSince : List (Option Nat)
  /-- Every evaluated test has passed since (R184). Reset none. -/
  passSince : Option Nat
  /-- Ephemerides held (R184, R186, R188). Reset none. -/
  ephemerides : List Ephemeris
  /-- An almanac is held, and it was decoded in a spoofing state (R184). Reset false. -/
  almanac : Bool
  almanacTainted : Bool
  /-- A spoofing state has been left since the last epoch (R184). Reset false. -/
  left : Bool
  /-- Receipt time of the latest accepted frame of each RTCM message type (R178, R179). Reset none. -/
  receipts : List (Nat × Nat)
  /-- Receipt of the latest SBAS corrections decoded from the signal (R179). Reset none. -/
  sbasAt : Option Nat
  /-- Bytes of the host correction path that do not yet complete a frame (R178). Reset none. -/
  fifo : List Byte
  /-- Position held: latitude, longitude in degrees and height (R188). Reset none. -/
  position : Option (Quad × Quad × Quad)
  /-- Position held on entry to M0 (R186). Reset none. -/
  anchor : Option (Quad × Quad × Quad)
  /-- Consecutive burst positions beyond the anchor radius (R186). Reset 0. -/
  outside : Nat
  /-- Start of the ephemeris renewal that runs (R186). Reset none. -/
  renewing : Option Nat
  /-- T4 is not evaluated before this time (R185). Reset 0. -/
  t4Blocked : Nat
  /-- Corrections used in the last epoch's fix, for the correction age. Reset none. -/
  corrAt : Option Nat
  /-- The last burst's position (R186). Reset none. -/
  coarse : Option (Quad × Quad × Quad)
  /-- Doppler predictions kept in M0: system, satellite, Hz on its L1 signal (R186). Reset none. -/
  predicted : List (Nat × Nat × F64)
  /-- Calibrated noise floors of the four chains in dB: ANT_A L1, L5, ANT_B L1, L5 (R182). Reset 0 each: powers count from the floor. -/
  floors : List F32
  /-- C/N0 of each satellite at the epochs of the last second, newest first (R183). Reset none. -/
  cn0s : List (Nat × List ((Nat × Nat) × F32))
  /-- Clock bias of the epochs of the last 60 s in quarter-ns, newest first (R183). Reset none. -/
  biases : List (Nat × Int)
  /-- Ranges that the last solution used (R177). Reset none. -/
  ranges : List SatRange
  /-- For each output, PVT, heading, raw, the epoch it was last sealed for, withheld or dropped (R174). Reset none. -/
  outDone : List (Option Nat)
  /-- The last raw record, which the safety island reads (R175, R412). Reset none. -/
  raw : Option Packet
deriving DecidableEq, Repr, Inhabited

/-- A captured time (R192, R195): ST in ns, and the fraction in quarter-ns where the capture has one. -/
structure Stamp where
  ns : Nat
  frac : Option Nat
deriving DecidableEq, Repr, Inhabited

/-- One captured time lies before another (R195): to the quarter-ns where both carry a fraction, else to the ns. -/
def Stamp.before (a b : Stamp) : Bool :=
  match a.frac, b.frac with
  | some f, some g => 4 * a.ns + f < 4 * b.ns + g
  | _, _ => a.ns < b.ns

/-- A captured time some ns later. -/
def Stamp.later (a : Stamp) (n : Nat) : Stamp := { a with ns := a.ns + n }

/-- What the device keeps of one time source: 0 GNSS, 1 PTP primary, 2 PTP secondary (R199, R200). -/
structure SourceState where
  /-- Something of it is received: it is not absent (R212). Reset false. -/
  here : Bool
  /-- Available with a steady offset since. Reset none. -/
  steadySince : Option Nat
  qualified : Bool
  /-- Source time minus DT in quarter-ns, as last measured and moved with DT since, and its standard deviation in ns. Reset 0. -/
  delta : Int
  sigma : Nat
  /-- Leap count the source gives (R206), and an announced leap: 1 insert, 2 delete, at DT seconds. Reset none. -/
  leap : Option Int
  announced : Option (Nat × Nat)
deriving DecidableEq, Repr, Inhabited

/-- State of device time beside the TIME registers. -/
structure TimeState where
  /-- TIME offset: DT minus ST in quarter-ns (R196). Reset 0. -/
  offset : Int
  /-- The three sources. Reset none available. -/
  sources : List SourceState
  /-- Uncertainty at entry to holdover in ns, and the entry (R202). Reset 0. -/
  u0 : Nat
  hoSince : Nat
  /-- Scheduled step: the DT second it falls on and the error in quarter-ns (R203). Reset none. -/
  step : Option (Nat × Int)
  /-- It was scheduled on the return from holdover (R204). Reset false. -/
  stepBack : Bool
  /-- The step applied last: the offset before it and the whole second of the uncorrected DT it fell on, whose edge is still emitted
  (R204). Reset none. -/
  stepped : Option (Int × Int)
  /-- PPS_OUT has risen and not fallen since, and the captured time of its last edge (R204, R205). Reset low, none. -/
  ppsHigh : Bool
  ppsLast : Option Stamp
  /-- DT seconds at which OFFSET changes (R206), all 48 bits. Reset 0. -/
  leapAt : Nat
  /-- Steering the selected source asks for, in 0.001 ppm (R193). Reset 0. -/
  steerTarget : Int
deriving DecidableEq, Repr, Inhabited

/-- The kinds of PTP message (R207). -/
inductive PtpKind where
  /-- Announce: grandmaster identity, clock class and, in `leap`, currentUtcOffset with the leap announced. -/
  | announce
  /-- Sync, of another clock with its Follow_Up, giving t1 in the body and t2 at ingress. -/
  | sync
  /-- Follow_Up of the device's own Sync. -/
  | syncFollow
  /-- Delay request leaving the device, giving t3 at egress. -/
  | delayReq
  /-- Delay response, giving t4 in the body. -/
  | delayResp
  /-- Delay request of another clock, received. -/
  | delayReqIn
  /-- Peer-delay request leaving the device, giving t1 at egress. -/
  | peerReq
  /-- Peer-delay request of the neighbour, received. -/
  | peerReqIn
  /-- Peer-delay response, giving t2 in the body and t4 at ingress. -/
  | peerResp
  /-- Follow-up of a peer-delay response, giving t3 in the body. -/
  | peerFollow
deriving DecidableEq, Repr, Inhabited

/-- The peer-delay exchange of a port (R207): its four timestamps in quarter-ns, and the mean link delay that they gave. -/
structure PeerDelay where
  t1 : Int
  t2 : Int
  t4 : Int
  delay : Int
deriving DecidableEq, Repr, Inhabited

/-- What an Announce says of its grandmaster, for the BMCA (R207): priority1, clockClass, accuracy, variance, priority2, identity, and the
steps to it. -/
structure PtpClock where
  priority1 : Nat
  clockClass : Nat
  accuracy : Nat
  variance : Nat
  priority2 : Nat
  identity : Nat
  steps : Nat
deriving DecidableEq, Repr, Inhabited

/-- A clock heard on a port of a domain (R207): the port, the sender's port identity, the clock that it announces, its UTC offset and
announced leap, and the receipt of its last Announce. -/
structure PtpForeign where
  port : Nat
  sender : Nat
  clock : PtpClock
  leap : Option Int
  announced : Option (Nat × Nat)
  at_ : Nat
deriving DecidableEq, Repr, Inhabited

/-- The servo and BMCA state of one PTP domain (R207): identity of the last grandmaster, the clocks heard, and the four timestamps in
quarter-ns. -/
structure PtpDomain where
  grandmaster : Option Nat
  foreign : List PtpForeign
  t1 : Int
  t2 : Int
  t3 : Int
  t4 : Int
deriving DecidableEq, Repr, Inhabited

/-- A PTP transmission (R207, R208): port, domain number, the device's clock identity, clock class, priorities, kind, transport, and in
quarter-ns the timestamp that it carries: of a follow-up the egress of the message before it, of a response the ingress of the request. -/
structure PtpSent where
  port : Nat
  domain : Nat
  identity : Nat
  clockClass : Nat
  priority1 : Nat
  priority2 : Nat
  kind : PtpKind
  udp : Bool
  stamp : Int
deriving DecidableEq, Repr, Inhabited

/-- State of the Ethernet ports beside the NET registers. -/
structure NetState where
  /-- The two domains (R207). Reset no grandmaster. -/
  domains : List PtpDomain
  /-- Last PTP transmission: an Announce, a response, or a two-step message with its follow-up (R207). Reset none. -/
  ptp : List PtpSent
  /-- Peer-delay exchanges of the four ports (R207). Reset 0. -/
  peers : List PeerDelay
  /-- Time of the last Sync of each port and domain (R207). Reset none. -/
  syncAt : List ((Nat × Nat) × Nat)
  /-- Frames waiting at the head of a queue: port, queue, launch time (R210). Reset none. -/
  waiting : List (Nat × Nat × Nat)
  /-- Frames at the head of a queue that may start and wait for the medium: port, queue (R210). Reset none. -/
  ready : List (Nat × Nat)
  /-- Queue of the frame last started on each port (R210). Reset none. -/
  onWire : List (Option Nat)
  /-- Frames started on each port since reset (R210). Reset 0 each. -/
  started : List Nat
deriving DecidableEq, Repr, Inhabited

end Sys2Proof.Machine
end

