-- ==== Sys2Proof/Config.lean ====
section
/-! DEFINITION. What the manual leaves open: values that nothing in the model can evaluate, so that a claim about them holds for
every value they could have (each is named in the assumption log). -/
namespace Sys2Proof.Config
open Sys2Proof Sys2Proof.Machine

/-- Sine of an angle in radians, as the device's binary64 arithmetic gives it. -/
opaque sin : F64 → F64
/-- Cosine of an angle in radians. -/
opaque cos : F64 → F64
/-- Angle of the vector (x, y) in radians, y first. -/
opaque atan2 : F64 → F64 → F64
/-- Arc sine in radians. -/
opaque asin : F64 → F64
/-- Exponential. -/
opaque exp : F64 → F64
/-- Power with a real exponent. -/
opaque pow : F64 → F64 → F64
/-- The estimated rate of a measurement that the manual names no rate of (R321): loop channel and measured value. -/
opaque estimatedRate : Nat → F64 → F64
/-- The acceleration of gravity that the chain dynamics use (R288), in m/s². -/
opaque gravity : F64
/-- Where the REC of a controller resumes after a good frame above 127 (ISO 11898-1 leaves a range). -/
opaque recResume : Nat → Nat
/-- What a frame field carries where the arithmetic gave a NaN or an infinity, which R6 keeps out of it, by that pattern; a pattern of
that kind stands for 0. -/
opaque finite : BitVec 32 → BitVec 32
/-- The same of a binary64 field. -/
opaque finite64 : BitVec 64 → BitVec 64
/-- The bytes that a cut or failed write leaves in an overlay copy, by the sequence number it was to carry (R110). -/
opaque torn : BitVec 32 → List (BitVec 8)
/-- Bascel's root public key in the mask ROM (R95). -/
opaque rootKey : List (BitVec 8)
/-- The coefficients of the fixed halfbands, stages 2 and 3 of the analogue chain, by stage and tap (R153): the manual gives their length.
-/
opaque halfband : Nat → Nat → Int
/-- The least-squares position of the safety island from a raw measurement payload (R412): satellites used, latitude and longitude in
degrees, height, and velocity north and east. -/
opaque islandFix : List Word → List F64
/-- The test value of an analogue output in step 5 of the handover drill (R404). -/
opaque aoTest : Nat → F32
/-- The 16-bit code of a value at an analogue output (R368), by the output's mode: the manual gives no coding. -/
opaque aoCode : Nat → F32 → BitVec 16
/-- The values that the factory kept for checks 8 to 11, the C/N0 of the loop-back tones, and for check 24, the bandgap (R488). -/
opaque factoryCheck : Nat → F32
/-- Delay in metres that a broadcast ionosphere model (R177) gives: 0 the Galileo model, 1 the GPS model; then the signal code, the
satellite's azimuth and elevation, and the epoch in ns. -/
opaque ionoDelay : Nat → Nat → F32 → F32 → Nat → F64
/-- Doppler in Hz of a signal that an ephemeris and a position predict (R171, R186): system, satellite, signal, age origin of the
ephemeris, latitude, longitude and height, and the time in ns. -/
opaque predictedDoppler : Nat → Nat → Nat → Int → BitVec 64 × BitVec 64 × BitVec 64 → Int → F64
/-- Clock bias in quarter-ns that the oscillator model predicts for an epoch from those before it (R183). -/
opaque clockModel : List (Nat × Int) → Nat → Int
/-- The device's clock identity, and the accuracy and variance that its PTP announces (R207): the manual gives none. -/
opaque clockIdentity : Nat
opaque clockAccuracy : Nat
opaque clockVariance : Nat
/-- The random nonces of a clear (R451), 32 bytes each, by the number drawn before. -/
opaque nonce : Nat → List Byte
/-- Which of several blocks that R457 puts level is taken, by the number of choices made before. -/
opaque pickBlock : Nat → Nat

/-- The bytes of a NOR sector's header before its CRC (R443), from the log epoch, the sector sequence number, OPH and PCC: the manual gives
neither the marker nor the places of the fields. -/
opaque norHeader : Nat → Nat → Nat → Nat → List Byte

end Sys2Proof.Config
end

