-- ==== Sys2Proof/Machine/Linear.lean ====
section
/-! DEFINITION. Vectors and matrices of binary64 numbers as lists, and the angles and rotations of R218, in the order of
operations that a plain loop takes. -/
namespace Sys2Proof.Machine

abbrev Vec := List F64
abbrev Mat := List (List F64)

/-- Sum, from the left. -/
def F64.sum (l : List F64) : F64 := l.foldl F64.add F64.zero

/-- Element of a vector; 0 beyond its end. -/
def Vec.at (v : Vec) (i : Nat) : F64 := v.getD i F64.zero

/-- Inner product. -/
def Vec.dot (a b : Vec) : F64 := F64.sum (List.zipWith F64.mul a b)

/-- Sum of two vectors. -/
def Vec.add (a b : Vec) : Vec := List.zipWith F64.add a b

/-- Difference of two vectors. -/
def Vec.sub (a b : Vec) : Vec := List.zipWith F64.sub a b

/-- A vector times a number. -/
def Vec.scale (k : F64) (a : Vec) : Vec := a.map (fun x => k.mul x)

/-- Length of a vector. -/
def Vec.norm (a : Vec) : F64 := (Vec.dot a a).sqrt

/-- A vector of zeros. -/
def Vec.zeros (n : Nat) : Vec := List.replicate n F64.zero

/-- Element of a matrix. -/
def Mat.at (m : Mat) (i j : Nat) : F64 := Vec.at (m.getD i []) j

/-- A matrix from its elements. -/
def Mat.build (r c : Nat) (f : Nat → Nat → F64) : Mat := (List.range r).map fun i => (List.range c).map fun j => f i j

/-- The identity. -/
def Mat.one (n : Nat) : Mat := Mat.build n n (fun i j => if i = j then F64.one else F64.zero)

/-- A diagonal matrix. -/
def Mat.diag (v : Vec) : Mat := Mat.build v.length v.length (fun i j => if i = j then v.at i else F64.zero)

/-- Transpose of a matrix with `c` columns. -/
def Mat.trans (m : Mat) (c : Nat) : Mat := Mat.build c m.length (fun i j => m.at j i)

/-- Matrix times vector. -/
def Mat.mulVec (m : Mat) (v : Vec) : Vec := m.map (fun r => Vec.dot r v)

/-- Product of two matrices; `c` is the number of columns of the second. -/
def Mat.mul (a b : Mat) (c : Nat) : Mat :=
  let t := Mat.trans b c
  a.map (fun r => t.map (fun q => Vec.dot r q))

/-- Sum of two matrices. -/
def Mat.add (a b : Mat) : Mat := List.zipWith Vec.add a b

/-- Difference of two matrices. -/
def Mat.sub (a b : Mat) : Mat := List.zipWith Vec.sub a b

/-- A matrix times a number. -/
def Mat.scale (k : F64) (a : Mat) : Mat := a.map (Vec.scale k)

/-- Half of a matrix and its transpose: the symmetric part. -/
def Mat.sym (a : Mat) : Mat := Mat.scale (.ofRatio 1 2) (Mat.add a (Mat.trans a a.length))

/-- Inverse of a matrix of one or two rows. -/
def Mat.inv2 (m : Mat) : Mat :=
  match m with
  | [[a]] => [[F64.one.div a]]
  | [[a, b], [c, e]] =>
    let det := (a.mul e).sub (b.mul c)
    [[e.div det, b.neg.div det], [c.neg.div det, a.div det]]
  | _ => m

/-- Inverse of a matrix of three rows, by cofactors. -/
def Mat.inv3 (m : Mat) : Mat :=
  let c (i j : Nat) : F64 :=
    let r := (List.range 3).filter (· != i)
    let k := (List.range 3).filter (· != j)
    let x := ((m.at (r.getD 0 0) (k.getD 0 0)).mul (m.at (r.getD 1 0) (k.getD 1 0))).sub
      ((m.at (r.getD 0 0) (k.getD 1 0)).mul (m.at (r.getD 1 0) (k.getD 0 0)))
    if (i + j) % 2 = 0 then x else x.neg
  let det := F64.sum [(m.at 0 0).mul (c 0 0), (m.at 0 1).mul (c 0 1), (m.at 0 2).mul (c 0 2)]
  Mat.build 3 3 (fun i j => (c j i).div det)

/-- π in binary64. -/
def piF : F64 := F64.ofBits 0x400921FB54442D18

/-- Degrees to radians. -/
def radOfDeg (x : F64) : F64 := (x.mul piF).div (.ofInt 180)

/-- Radians to degrees. -/
def degOfRad (x : F64) : F64 := (x.mul (.ofInt 180)).div piF

/-- A BAM32 angle in radians (R5). -/
def radOfBam (w : Word) : F64 := radOfDeg (bamToDeg w)

/-- An angle in radians as BAM32 (R5). -/
def bamOfRad (x : F64) : Word := degToBam (degOfRad x)

/-- An angle in radians reduced to the turn around 0 (R5, R218). -/
def wrapRad (x : F64) : F64 :=
  if x.lt piF.neg then x.add (piF.add piF) else if piF.le x then x.sub (piF.add piF) else x

/-- Rotation about x. -/
def rotX (a : F64) : Mat :=
  let c := Config.cos a; let s := Config.sin a
  [[F64.one, F64.zero, F64.zero], [F64.zero, c, s.neg], [F64.zero, s, c]]

/-- Rotation about y. -/
def rotY (a : F64) : Mat :=
  let c := Config.cos a; let s := Config.sin a
  [[c, F64.zero, s], [F64.zero, F64.one, F64.zero], [s.neg, F64.zero, c]]

/-- Rotation about z. -/
def rotZ (a : F64) : Mat :=
  let c := Config.cos a; let s := Config.sin a
  [[c, s.neg, F64.zero], [s, c, F64.zero], [F64.zero, F64.zero, F64.one]]

/-- R_z(yaw) R_y(pitch) R_x(roll) (R217, R218). -/
def rotZYX (roll pitch yaw : F64) : Mat := Mat.mul (Mat.mul (rotZ yaw) (rotY pitch) 3) (rotX roll) 3

end Sys2Proof.Machine
end

