-- ==== Sys2Proof/Machine/Kalman.lean ====
section
/-! DEFINITION. The own-vessel filter's model, propagation and update (R222 to R224), and the object filter's (R239). States are
in SI and radians in the order of R222: η (3), ν (3), b (3), then x1 and x2 of north, east and heading. -/
namespace Sys2Proof.Machine

/-- The numbers that the filter's model takes from the image and the parameters (R222). -/
structure FilterModel where
  massInv : Mat
  damping : Mat
  w0 : F64
  zeta : F64
  qVel : Vec
  qBias : Vec
  qWave : Vec
deriving DecidableEq, Repr, Inhabited

/-- R(ψ)ᵀ b in the body frame. -/
def bodyBias (psi : F64) (b : Vec) : Vec :=
  let c := Config.cos psi; let s := Config.sin psi
  [(c.mul (b.at 0)).add (s.mul (b.at 1)), (c.mul (b.at 1)).sub (s.mul (b.at 0)), b.at 2]

/-- The time derivative of the state (R222); `tau` is τ_thr + τ_chain. -/
def FilterModel.deriv (m : FilterModel) (tau : Vec) (x : Vec) : Vec :=
  let psi := x.at 2
  let c := Config.cos psi; let s := Config.sin psi
  let nu := [x.at 3, x.at 4, x.at 5]
  let force := Vec.add (Vec.sub tau (m.damping.mulVec nu)) (bodyBias psi [x.at 6, x.at 7, x.at 8])
  let acc := m.massInv.mulVec force
  let wave (i : Nat) : Vec :=
    let x1 := x.at (9 + 2 * i); let x2 := x.at (10 + 2 * i)
    [x2, (((m.w0.sq).mul x1).neg).sub ((((F64.ofInt 2).mul m.zeta).mul m.w0).mul x2)]
  [(c.mul (x.at 3)).sub (s.mul (x.at 4)), (s.mul (x.at 3)).add (c.mul (x.at 4)), x.at 5] ++ acc
    ++ [F64.zero, F64.zero, F64.zero] ++ wave 0 ++ wave 1 ++ wave 2

/-- The Jacobian of the model (R223). -/
def FilterModel.jacobian (m : FilterModel) (x : Vec) : Mat :=
  let psi := x.at 2
  let c := Config.cos psi; let s := Config.sin psi
  let a := Mat.mul m.massInv m.damping 3
  let b : Vec := [x.at 6, x.at 7, x.at 8]
  let db : Vec := [(c.mul (b.at 1)).sub (s.mul (b.at 0)), ((c.mul (b.at 0)).add (s.mul (b.at 1))).neg, F64.zero]
  let rT : Mat := [[c, s, F64.zero], [s.neg, c, F64.zero], [F64.zero, F64.zero, F64.one]]
  let mr := Mat.mul m.massInv rT 3
  let md := m.massInv.mulVec db
  let damp := ((((F64.ofInt 2).mul m.zeta).mul m.w0)).neg
  Mat.build 15 15 fun i j =>
    if i = 0 then
      if j = 2 then ((s.mul (x.at 3)).add (c.mul (x.at 4))).neg else if j = 3 then c else if j = 4 then s.neg else F64.zero
    else if i = 1 then
      if j = 2 then (c.mul (x.at 3)).sub (s.mul (x.at 4)) else if j = 3 then s else if j = 4 then c else F64.zero
    else if i = 2 then (if j = 5 then F64.one else F64.zero)
    else if i < 6 then
      if j = 2 then md.at (i - 3)
      else if 3 ≤ j && j < 6 then (a.at (i - 3) (j - 3)).neg
      else if 6 ≤ j && j < 9 then mr.at (i - 3) (j - 6)
      else F64.zero
    else if i < 9 then F64.zero
    else if i % 2 = 1 then (if j = i + 1 then F64.one else F64.zero)
    else if j + 1 = i then (m.w0.sq).neg else if j = i then damp else F64.zero

/-- The diagonal of G Q Gᵀ. -/
def FilterModel.noise (m : FilterModel) : Vec :=
  Vec.zeros 3 ++ m.qVel ++ m.qBias
    ++ [F64.zero, m.qWave.at 0, F64.zero, m.qWave.at 1, F64.zero, m.qWave.at 2]

/-- One step of the filter's propagation over `dt` seconds (R223): Heun for the mean, Φ P Φᵀ + G Q Gᵀ δ for the covariance. -/
def FilterModel.step (m : FilterModel) (tau : Vec) (dt : F64) (xp : Vec × Mat) : Vec × Mat :=
  let x := xp.1; let p := xp.2
  let k1 := m.deriv tau x
  let k2 := m.deriv tau (Vec.add x (Vec.scale dt k1))
  let x' := Vec.add x (Vec.scale (dt.mul (.ofRatio 1 2)) (Vec.add k1 k2))
  let f := m.jacobian x
  let phi := Mat.add (Mat.add (Mat.one 15) (Mat.scale dt f)) (Mat.scale ((dt.sq).mul (.ofRatio 1 2)) (Mat.mul f f 15))
  let p' := Mat.add (Mat.mul (Mat.mul phi p 15) (phi.trans 15) 15) (Mat.diag (Vec.scale dt m.noise))
  (x'.take 2 ++ [wrapRad (x'.at 2)] ++ x'.drop 3, p')

/-- Propagate over `ns` nanoseconds in steps of at most 10 ms (R223); `fuel` bounds the steps. -/
def FilterModel.propagate (m : FilterModel) (tau : Vec) : Nat → Nat → Vec × Mat → Vec × Mat
  | 0, _, xp => xp
  | fuel + 1, ns, xp =>
    if ns = 0 then xp
    else
      let h := min ns 10000000
      m.propagate tau fuel (ns - h) (m.step tau (.ofRatio h 1000000000) xp)

/-- A measurement as the filter takes it: which model of R224 (0 position, 1 heading, 2 GNSS velocity, 3 log), its value and
its covariance. -/
structure Measure where
  model : Nat
  z : Vec
  r : Mat
deriving DecidableEq, Repr, Inhabited

/-- A unit row of 15 with the entries given. -/
def row15 (l : List (Nat × F64)) : Vec :=
  (List.range 15).map fun j => match l.find? (fun e => e.1 == j) with
    | some e => e.2
    | none => F64.zero

/-- Prediction and its Jacobian for a measurement (R224). -/
def FilterModel.predict (m : FilterModel) (k : Nat) (x : Vec) : Vec × Mat :=
  if k = 0 then
    ([(x.at 0).add (x.at 10), (x.at 1).add (x.at 12)], [row15 [(0, F64.one), (10, F64.one)], row15 [(1, F64.one), (12, F64.one)]])
  else if k = 1 then ([(x.at 2).add (x.at 14)], [row15 [(2, F64.one), (14, F64.one)]])
  else if k = 2 then
    let c := Config.cos (x.at 2); let s := Config.sin (x.at 2)
    let damp := ((((F64.ofInt 2).mul m.zeta).mul m.w0)).neg
    let w2 := (m.w0.sq).neg
    let dx (i : Nat) : F64 := (w2.mul (x.at (9 + 2 * i))).add (damp.mul (x.at (10 + 2 * i)))
    ([((c.mul (x.at 3)).sub (s.mul (x.at 4))).add (dx 0), ((s.mul (x.at 3)).add (c.mul (x.at 4))).add (dx 1)],
     [row15 [(2, ((s.mul (x.at 3)).add (c.mul (x.at 4))).neg), (3, c), (4, s.neg), (9, w2), (10, damp)],
      row15 [(2, (c.mul (x.at 3)).sub (s.mul (x.at 4))), (3, s), (4, c), (11, w2), (12, damp)]])
  else ([x.at 3, x.at 4], [row15 [(3, F64.one)], row15 [(4, F64.one)]])

/-- Innovation of a measurement, with headings modulo one turn, and NIS (R223). -/
def FilterModel.innovation (m : FilterModel) (z : Measure) (xp : Vec × Mat) : Vec × F64 :=
  let (h, hm) := m.predict z.model xp.1
  let nu := (Vec.sub z.z h).map (fun e => if z.model = 1 then wrapRad e else e)
  let s := Mat.add (Mat.mul (Mat.mul hm xp.2 15) (hm.trans 15) hm.length) z.r
  (nu, Vec.dot nu ((Mat.inv2 s).mulVec nu))

/-- Apply a measurement in the Joseph form (R223). -/
def FilterModel.apply (m : FilterModel) (z : Measure) (xp : Vec × Mat) : Vec × Mat :=
  let (h, hm) := m.predict z.model xp.1
  let n := hm.length
  let nu := (Vec.sub z.z h).map (fun e => if z.model = 1 then wrapRad e else e)
  let ht := hm.trans 15
  let s := Mat.add (Mat.mul (Mat.mul hm xp.2 15) ht n) z.r
  let k := Mat.mul (Mat.mul xp.2 ht n) (Mat.inv2 s) n
  let x := Vec.add xp.1 (k.mulVec nu)
  let i := Mat.sub (Mat.one 15) (Mat.mul k hm 15)
  let p := Mat.add (Mat.mul (Mat.mul i xp.2 15) (i.trans 15) 15) (Mat.mul (Mat.mul k z.r n) (k.trans n) 15)
  (x, p.sym)

/-! ## The object filter (R239): (N, E, v_N, v_E, ψ_o, r_o) -/

/-- Propagate an object over `dt` seconds: constant velocity and yaw rate, with white acceleration noise. -/
def objectStep (qAcc qYaw dt : F64) (xp : Vec × Mat) : Vec × Mat :=
  let phi := Mat.build 6 6 fun i j =>
    if i = j then F64.one
    else if (i = 0 && j = 2) || (i = 1 && j = 3) || (i = 4 && j = 5) then dt else F64.zero
  let g := Mat.diag [F64.zero, F64.zero, dt.mul qAcc, dt.mul qAcc, F64.zero, dt.mul qYaw]
  (phi.mulVec xp.1, Mat.add (Mat.mul (Mat.mul phi xp.2 6) (phi.trans 6) 6) g)

/-- Propagate an object over `ns` nanoseconds in steps of at most 10 ms (R223, R239). -/
def objectPropagate (qAcc qYaw : F64) : Nat → Nat → Vec × Mat → Vec × Mat
  | 0, _, xp => xp
  | fuel + 1, ns, xp =>
    if ns = 0 then xp
    else
      let n := min ns 10000000
      objectPropagate qAcc qYaw fuel (ns - n) (objectStep qAcc qYaw (F64.ofRatio n 1000000000) xp)

/-- The rows of an object measurement: position, or heading. -/
def objectRows (heading : Bool) : Mat :=
  let row (k : Nat) : Vec := (List.range 6).map (fun j => if j = k then F64.one else F64.zero)
  if heading then [row 4] else [row 0, row 1]

/-- Innovation and NIS of an object measurement. -/
def objectInnovation (heading : Bool) (z : Vec) (r : Mat) (xp : Vec × Mat) : Vec × F64 :=
  let h := objectRows heading
  let nu := (Vec.sub z (h.mulVec xp.1)).map (fun e => if heading then wrapRad e else e)
  let s := Mat.add (Mat.mul (Mat.mul h xp.2 6) (h.trans 6) h.length) r
  (nu, Vec.dot nu ((Mat.inv2 s).mulVec nu))

/-- Apply an object measurement in the Joseph form. -/
def objectApply (heading : Bool) (z : Vec) (r : Mat) (xp : Vec × Mat) : Vec × Mat :=
  let h := objectRows heading
  let n := h.length
  let nu := (Vec.sub z (h.mulVec xp.1)).map (fun e => if heading then wrapRad e else e)
  let s := Mat.add (Mat.mul (Mat.mul h xp.2 6) (h.trans 6) n) r
  let k := Mat.mul (Mat.mul xp.2 (h.trans 6) n) (Mat.inv2 s) n
  let i := Mat.sub (Mat.one 6) (Mat.mul k h 6)
  (Vec.add xp.1 (k.mulVec nu),
   (Mat.add (Mat.mul (Mat.mul i xp.2 6) (i.trans 6) 6) (Mat.mul (Mat.mul k r n) (k.trans n) 6)).sym)

end Sys2Proof.Machine
end

