-- ==== Sys2Proof/Machine/Blocks4.lean ====
section
/-! DEFINITION. State beside the registers, fourth part: reference fusion (R215 to R248), with what the structure image fixes
for it. -/
namespace Sys2Proof.Machine

/-- A datum that was applied: effective time, slot and measurement (R215). -/
structure Applied where
  tEff : Int
  slot : Nat
  ms : Measure
deriving DecidableEq, Repr, Inhabited

/-- An entry of the history ring (R236): release in ns, state and covariance, the data applied in the interval that ends here,
the force input of that interval, and from which times position dead reckoning held or not, latest first. -/
structure HistEntry where
  rel : Nat
  x : Vec
  p : Mat
  log : List Applied
  tau : Vec
  dr : List (Int × Bool)
deriving DecidableEq, Repr, Inhabited

/-- What fusion keeps of one reference beside its registers (R229 to R233): latest innovation, NIS, effective time and gate
verdict; consecutive passes; since when every datum has passed; since when SUSPECT; bit-identical data in a row; the last
innovations, newest first; and the wander mean with its time. -/
structure RefTrack where
  innov : Vec
  nis : F64
  tEff : Option Int
  gate : Bool
  passes : Nat
  passSince : Option Nat
  suspectSince : Option Nat
  same : Nat
  lastWords : List Word
  window : List Vec
  wander : Vec
  wanderAt : Option Int
deriving DecidableEq, Repr, Inhabited

/-- A sample of the attitude source: effective time, roll and pitch in radians, heave in m (R218, R228). -/
structure AttSample where
  t : Int
  roll : F64
  pitch : F64
  heave : F64
deriving DecidableEq, Repr, Inhabited

/-- An object's filter (R239, R240): state, covariance, accepted data since NONE or LOST, time of the last update. -/
structure ObjTrack where
  x : Vec
  p : Mat
  accepted : Nat
  lastAt : Option Int
deriving DecidableEq, Repr, Inhabited

/-- The image's part of fusion: the order and format of the values in each slot's payload (R147, R218), and the hull's mass
and damping (R222). -/
structure FusImage where
  formats : List (List DestFormat)
  mass : Mat
  damping : Mat
deriving DecidableEq, Repr, Inhabited

/-- State of fusion beside the FUS registers. -/
structure FusState where
  /-- History ring, newest first, at most 801 entries (R236). Reset empty. -/
  hist : List HistEntry
  /-- References 0 to 27 (R229). Reset nothing judged. -/
  refs : List RefTrack
  /-- Samples that the attitude source takes of each MRU 20 to 22, newest first (R218, R228). Reset none. -/
  att : List (List AttSample)
  /-- Latest datum of each MRU 20 to 22 (R228). Reset none. -/
  mru : List (Option AttSample)
  /-- Two MRUs have disagreed since (R228). Reset none. -/
  attSince : Option Nat
  /-- Objects 0 to 7 (R239). Reset no track. -/
  objs : List ObjTrack
  /-- Origin in force: latitude and longitude in degrees, height in m (R221). Reset none. -/
  origin : Option (F64 × F64 × F64)
  /-- Release at which the filter last initialised (R226, R238). Reset none. -/
  initAt : Option Nat
  /-- Schedule time of the filter's last reset (R238). Reset none. -/
  resetAt : Option Nat
  /-- Both conditions of convergence have held since (R227). Reset none. -/
  convSince : Option Nat
  /-- Dead reckoning of position and of heading has held since (R234). Reset none. -/
  drSince : Option Nat
  hdgSince : Option Nat
  /-- The position and the heading references disagree in pairs (R232). Reset false. -/
  disagreePos : Bool
  disagreeHdg : Bool
  /-- Late data deferred to the next update (R238). Reset none. -/
  lateKept : List (Nat × Packet)
  /-- Data ahead of the last update's release, which a later one takes (R215). Reset none. -/
  ahead : List (Nat × Packet)
  /-- Release of the last update that did not reach its fence (R216). Reset none. -/
  lastRel : Option Nat
  /-- Two MRUs that disagree are held SUSPECT (R228). Reset false. -/
  attPair : Bool
  /-- Asked for and due at the next boundary: filter reset, origin move, anchors written or set (R220, R221, R226).
  Reset none. -/
  resetDue : Bool
  originDue : Bool
  anchorDue : List Nat
  anchorSet : List Nat
  /-- Anchors in force, as north, east, down (R220). Reset none set. -/
  anchors : List Vec
  /-- True wind: speed in m/s and direction from, in radians (R228). Reset 0. -/
  wind : F64 × F64
  /-- Whether the present update retrodicted a datum, and whether it carries on after a stopped one (R216, R236).
  Reset false. -/
  late : Bool
  carry : Bool
deriving DecidableEq, Repr, Inhabited

end Sys2Proof.Machine
end

