-- ==== Sys2Proof/Machine/Blocks5.lean ====
section
/-! DEFINITION. State beside the registers, fifth part: the allocation and coupled transfer (R249 to R283) and the solver engine
(R284 to R307), with what the structure image fixes for them. -/
namespace Sys2Proof.Machine

/-- The kind of a thruster (R4, R249). -/
inductive ThrType where
  | azimuth | tunnel
deriving DecidableEq, Repr, Inhabited

/-- One thruster of the image (R249): position in m, ratings in kN and kW, the thrust curve as (demand, thrust) in ascending
demand, thrust rate in kN/s, azimuth rate limit in degrees a second, forbidden sectors as half-open BAM32 intervals, tunnel
derating as (surge speed, factor), section, and whether its demand is pitch. -/
structure Thruster where
  type : ThrType
  x : F64
  y : F64
  tRated : F64
  pRated : F64
  curve : List (F64 × F64)
  rate : F64
  azRate : F32
  forbidden : List (Word × Word)
  derate : List (F64 × F64)
  sec : Nat
  pitch : Bool
deriving DecidableEq, Repr, Inhabited

/-- One failure scenario of the image (R258): kind, class, thrusters and sections lost. -/
structure Scenario where
  kind : Nat
  cls : Nat
  thrusters : Nat
  sections : Nat
deriving DecidableEq, Repr, Inhabited

/-- One joint of the chain (R287): prismatic or revolute, the fixed transform before it as rotation and offset in m, mass in t, centre
of mass and inertia of its link, limits, rate limit, margin, and weight of R274. -/
structure Joint where
  prismatic : Bool
  rot : Mat
  off : Vec
  mass : F64
  com : Vec
  inertia : Mat
  lo : F32
  hi : F32
  rate : F32
  margin : F32
  weight : F64
deriving DecidableEq, Repr, Inhabited

/-- The chain (R287): joints from the hull outward, tip transform, landing point in north, east, down, the CAN controllers that
carry its joint commands, and the equilibration table numbers are with the tasks. -/
structure Chain where
  joints : List Joint
  tipRot : Mat
  tipOff : Vec
  landing : Vec
  ctrls : List Nat
deriving DecidableEq, Repr, Inhabited

/-- One solver task of the image (R285, R302): task of the certificate, lanes, kind (0 allocation QP, 1 plan, 2 customer), method, iteration
cap, iteration time and overhead in ns, equilibration table; first byte and size of its region of the solver SRAM, and where it needs one,
of its spill region in LPDDR4X with the prefetch order of the spill's blocks (R284). -/
structure SolvTask where
  task : Nat
  laneFirst : Nat
  laneCount : Nat
  kind : Nat
  method : Nat
  cap : Nat
  tIt : Nat
  tOvh : Nat
  table : Nat
  sram : Nat × Nat
  spill : Option (Nat × Nat × List Nat)
deriving DecidableEq, Repr, Inhabited

/-- The image's part of the allocation and the solver. -/
structure AllocImage where
  thrusters : List (Option Thruster)
  /-- General-measurement slot bound to each section (R252). -/
  sections : List (Option Nat)
  scenarios : List Scenario
  /-- Certified horizon in steps (R260). -/
  nMax : Nat
  chain : Option Chain
  solver : List SolvTask
deriving DecidableEq, Repr, Inhabited

/-- What the press takes for one thruster at a release (R253): fed-back azimuth, previous force, plan target, floor and ceiling. -/
structure ThrIn where
  alpha : Option Word
  prev : Vec
  target : Option Word
  tMin : F64
  tMax : F64
deriving DecidableEq, Repr, Inhabited

/-- The chain's part of the press (R288, R274): tip, low-frequency tip error, Jacobians by column, wrench, joint positions and
speeds. -/
structure ChainIn where
  tip : Vec
  err : Vec
  jq : List Vec
  jeta : List Vec
  wrench : Vec
  q : Vec
  qd : Vec
deriving DecidableEq, Repr, Inhabited

/-- The inputs of an allocation QP as they stand at its release (R253); `ins` are the tagged ones but for the plan bounds, which are none
while the plan does not bound the QP. -/
structure QpIn where
  rel : Nat
  tau : Vec
  avail : List Nat
  thr : List ThrIn
  u : F64
  power : List F64
  caps : List F64
  stale : Bool
  coupled : Bool
  chain : Option ChainIn
  tov : Int
  ins : List Packet
  bounds : Option Packet
deriving DecidableEq, Repr, Inhabited

/-- The inputs of a plan as they stand at its release (R260): `thrust` the fed-back thrusts, `azT` ALLOC.PLAN_AZ_T in s, `excPos` the
position bound of each scenario in m and `excHdg` the heading bound in degrees (R258), `minRating` the smallest rating (R268). -/
structure PlanIn where
  rel : Nat
  state : Vec
  bias : Vec
  tau : Vec
  avail : List Nat
  thr : List ThrIn
  thrust : List F64
  power : List F64
  n : Nat
  dt : Word
  azT : F64
  excPos : List F64
  excHdg : F64
  minRating : F64
  solved : List Nat
  moot : List Nat
  tov : Int
  ins : List Packet
deriving DecidableEq, Repr, Inhabited

/-- What a plan's iterate says of one scenario (R266, R268): largest excursion in m and degrees, utilisation, terminal shortfall
by axis. -/
structure ScenReading where
  d : F64
  h : F64
  u : F64
  short : Vec
deriving DecidableEq, Repr, Inhabited

/-- What a plan's iterate says (R264, R266): the step-0 force of each thruster, the headroom found for each thruster and each section,
and its scenarios. -/
structure PlanReading where
  u0 : List Vec
  headroom : List F64
  capRoom : List F64
  scen : List (Nat × ScenReading)
deriving DecidableEq, Repr, Inhabited

/-- The judgement of one scenario (R266 to R269): index, excursions, utilisation, margin as a fraction, whether relaxed. -/
structure ScenJudged where
  f : Nat
  d : F64
  h : F64
  u : F64
  m : F64
  relaxed : Bool
deriving DecidableEq, Repr, Inhabited

/-- A sealed plan (R262 to R264): bounds, judgements, arrest table, the set of thrusters it was computed for,
horizon, time of validity, the scenarios moot in it, and the sealed bounds, arrest table and margins. -/
structure PlanSet where
  targets : List (Option Word)
  tMax : List F64
  tMin : List F64
  caps : List F64
  scen : List ScenJudged
  moot : List Nat
  table : List Nat
  avail : List Nat
  n : Nat
  dt : Word
  tov : Int
  bounds : Packet
  arrests : Packet
  margins : Packet
deriving DecidableEq, Repr, Inhabited

/-- State of the allocation beside the ALLOC registers. -/
structure AllocState where
  /-- Plan sealed and waiting for a hyperframe boundary (R263). Reset none. -/
  sealed : Option PlanSet
  /-- Plan in force (R263), when it came into force, and hyperframe boundaries passed since (R265). Reset none. -/
  plan : Option PlanSet
  planAt : Nat
  planAge : Nat
  /-- The plan before it, whose bounds and arrest table a consumer takes under Hold where those in force are broken (R126). Reset none. -/
  before : Option PlanSet
  /-- Scenarios enabled, as the last hyperframe boundary took them (R258). Reset as the image sets them; none before. -/
  enabled : Nat
  /-- Force of the previous allocation for each thruster (R254). Reset 0. -/
  prev : List Vec
  /-- Generalised force that the last sealed allocation produces (R256). Reset 0. -/
  achieved : Vec
  /-- Force of the drives by their feedback, as the latest fusion update took it (R222, R390). Reset 0. -/
  fed : Vec
  /-- A drive-off detection that holds, with the position behind it and its time of validity (R270). Reset none. -/
  detected : Option (Vec × Int)
  /-- Sector and stop mask that the arrest allocation formed for the detection (R271). Reset none. -/
  stop : Option (Nat × Nat)
  /-- Last mask handed to the transmit buffer (R272). Reset none. -/
  lastMask : Option Nat
  /-- Thrusters stopped by an arrest (R251 cause 4). Reset none. -/
  arrested : Nat
  /-- Accumulated hull shift S, north and east (R274). Reset 0. -/
  shift : Vec
  /-- Joint set-points of the last allocation (R274). Reset none. -/
  joints : Vec
  /-- Conditions of coupled transfer have held again since (R276). Reset none. -/
  coupleOk : Option Nat
  /-- Hand-back frames still to send on each joint (R276). Reset 0. -/
  handback : Nat
  /-- The last two data of each joint (R288), newest first. Reset none. -/
  jointData : List (List Packet)
deriving DecidableEq, Repr, Inhabited

/-- A convex QP in the standard form of R290; rows list (column, value) for each element that the structure can make non-zero. `order` names
the unknowns of the KKT system that method 1 of R285 eliminates, in their order: the variables by column, then the multipliers. -/
structure QpProblem where
  n : Nat
  h : List (List (Nat × F64))
  g : Vec
  a : List (List (Nat × F64))
  b : Vec
  c : List (List (Nat × F64))
  d : Vec
  order : List Nat
deriving DecidableEq, Repr, Inhabited

/-- A point of the iteration (R290). -/
structure Iterate where
  x : Vec
  y : Vec
  z : Vec
  w : Vec
deriving DecidableEq, Repr, Inhabited

/-- What a solution of the KKT system takes beside the matrices (R290): w, z and the four right-hand sides. -/
structure KktArgs where
  w : Vec
  z : Vec
  rd : Vec
  rp : Vec
  ri : Vec
  rc : Vec
deriving DecidableEq, Repr, Inhabited

/-- A sealed checkpoint (R296): its number, iterate, residual norms, complementarity, verdicts, the schedule time of its seal, and the
sealed packet. -/
structure Checkpoint where
  k : Nat
  it : Iterate
  rd : F64
  rp : F64
  ri : F64
  mu : F64
  feasible : Bool
  converged : Bool
  at_ : Nat
  pkt : Packet
deriving DecidableEq, Repr, Inhabited

/-- What a solve solves: the allocation QP, the plan, or a customer's problem. -/
inductive SolveIn where
  | qp (i : QpIn)
  | plan (i : PlanIn)
  | customer (rel : Nat)
deriving DecidableEq, Repr, Inhabited

/-- A solve in progress (R286 to R296): its inputs, problem as scaled, unscaling of the variables, cold-start cause (0 warm), the
iterate reached, the two release buffers, whether its warm start is lost (R299), and the override's iteration cap where the unit left M7
while it ran (R79). -/
structure Solve where
  input : SolveIn
  problem : QpProblem
  scaled : QpProblem
  sig : Word
  cause : Nat
  point : Iterate
  latest : Option Checkpoint
  feasible : Option Checkpoint
  noWarm : Bool
  xcap : Option Nat
deriving DecidableEq, Repr, Inhabited

/-- A result released at a fence (R297): outcome 0 to 3, the inputs, the variables released, whether the solve started cold, and the sealed
packet; none where nothing is released. -/
structure Release where
  outcome : Nat
  input : SolveIn
  x : Vec
  cold : Bool
  pkt : Option Packet
deriving DecidableEq, Repr, Inhabited

/-- State of one solver task beside its registers. -/
structure SolvSlot where
  /-- Solve in progress. Reset none. -/
  run : Option Solve
  /-- Result released at the last fence and not yet taken (R297). Reset none. -/
  out : Option Release
  /-- Warm start held: iterate and signature (R294, R298). Reset none. -/
  warm : Option (Iterate × Word)
  /-- A solve has run since reset (R294 cause 3). Reset false. -/
  ran : Bool
  /-- The warm start was discarded by command or filter reset (R294 cause 4). Reset false. -/
  discarded : Bool
deriving DecidableEq, Repr, Inhabited

/-- State of the solver engine beside the SOLV registers. -/
structure SolvState where
  slots : List SolvSlot
  /-- Inputs of the latest allocation QP (R300). Reset none. -/
  qp : Option QpIn
  /-- Release and inputs of the latest fallback allocation (R300). Reset none. -/
  fallback : Option (Nat × QpIn)
  /-- Consecutive major frames with outcome 2 (R301). Reset 0. -/
  fbRun : Nat
  /-- Demand τ_d of the latest QP, for the plan (R260). Reset 0. -/
  tau : Vec
  /-- Next entry of the expert log ring (R306). Reset 0. -/
  logAt : Nat
deriving DecidableEq, Repr, Inhabited

end Sys2Proof.Machine
end

