-- ==== Sys2Proof/Machine/Blocks6.lean ====
section
/-! DEFINITION. State beside the registers, sixth part: the loop engine (R308 to R339), with what the structure image fixes for
it. -/
namespace Sys2Proof.Machine

/-- What a channel's input is bound to (R308, R311, R316): another biquad channel's output, the demand or the azimuth of a thruster
(the allocation's, or the host's levers by mode), value `k` of a sensor slot, or word `w` of a sealed output (as BAM32 when `bam`). -/
inductive Bind where
  | biquad (c : Nat)
  | demand (t : Nat)
  | azimuth (t : Nat)
  | slot (s k : Nat)
  | word (kind index w : Nat) (bam : Bool)
deriving DecidableEq, Repr, Inhabited

/-- A biquad channel of the image (R312, R328): its source code, binding, divisor, whether it is an angle channel, and the words of its
two banks. -/
structure BqImage where
  src : Nat
  bind : Bind
  div : Nat
  angle : Bool
  bankA : List Word
  bankB : List Word
deriving DecidableEq, Repr, Inhabited

/-- A PID channel of the image (R316, R328): rate 1 kHz, angle, external achieved output, host opening in M2 to M6, reference model,
bindings of reference and measurement for channels 3 to 15, kind sealed, banks. -/
structure PidImage where
  fast : Bool
  angle : Bool
  extAch : Bool
  hostOpen : Bool
  rm : Option Nat
  ref : Option Bind
  meas : Option Bind
  kind : Nat
  bankA : List Word
  bankB : List Word
deriving DecidableEq, Repr, Inhabited

/-- The image's part of the loop engine; `nodes` are the trace nodes of class 3 (R334). -/
structure LoopImage where
  bq : List BqImage
  pid : List PidImage
  rmValid : List Bool
  nodes : List Bind
deriving DecidableEq, Repr, Inhabited

/-- A bank request (R331): bank, N, the write's schedule time, and whether a blend held it (R333). -/
structure BankReq where
  bank : Nat
  len : Nat
  at_ : Nat
  carried : Bool
deriving DecidableEq, Repr, Inhabited

/-- State of a biquad channel: banks, section states of the active bank and of a blend's target, requests, the blend's length, the last
input word with its binary64 value and its packet, its unwrapped copy, whether the next run initialises the states, and the hyperframe of
the last E58. -/
structure BqState where
  bankA : List Word
  bankB : List Word
  z : List (F64 × F64)
  zT : List (F64 × F64)
  req : Option BankReq
  held : Option BankReq
  blendN : Nat
  last : Option (Word × F64 × Packet)
  turn : F64
  init : Bool
  satAt : Option Nat
deriving DecidableEq, Repr, Inhabited

/-- State of a PID channel (R316 to R320): banks, integrator and derivative of the active bank and of a blend's target, previous error,
pre-saturation output, output and achieved output, time of the last run, requests, blend, the preset owed at the next run,
an achieved output that a mirror gave for it. -/
structure PidState where
  bankA : List Word
  bankB : List Word
  i : F64
  d : F64
  iT : F64
  dT : F64
  ePrev : F64
  vPrev : F64
  uPrev : F64
  ranAt : Nat
  req : Option BankReq
  held : Option BankReq
  blendN : Nat
  preset : Option F64
  aNext : Option F64
  satAt : Option Nat
deriving DecidableEq, Repr, Inhabited

/-- State of a reference model (R321, R322), heading in degrees; `sp` is the set-point in force; `hold` says that the next run hands
over the start state without a step (R45); `wrote` that host software has written RM_SP since the last boundary (R321). -/
structure RmState where
  p : F64
  v : F64
  a : F64
  sp : F64
  hold : Bool
  wrote : Bool
deriving DecidableEq, Repr, Inhabited

/-- A waypoint of the path in force (R325). -/
structure Waypoint where
  n : F64
  e : F64
  hdg : Word
  speed : F64
deriving DecidableEq, Repr, Inhabited

/-- A trace unit (R334, R335): next index of the ring, samples held, their stamps newest first, previous value of the trigger node,
samples still to capture, updates of the node since the last sample. -/
structure TraceUnit where
  pos : Nat
  count : Nat
  stamps : List Word
  prev : Option F32
  left : Nat
  seen : Nat
deriving DecidableEq, Repr, Inhabited

/-- State of the loop engine beside the LOOP registers. -/
structure LoopState where
  bq : List BqState
  pid : List PidState
  rm : List RmState
  /-- Path in force (R325) with its heading mode. Reset none. -/
  path : List Waypoint
  hdgMode : Bool
  /-- Path point, and whether the next run places it (R325). Reset 0, true. -/
  point : Vec
  place : Bool
  /-- Path request waiting for the boundary: clear, commit, COUNT and HDG_MODE as written (R325). Reset none. -/
  pathReq : Option (Bool × Bool × Nat × Bool)
  /-- Target offset in force (R326): X, Y and heading. Reset 0. -/
  offset : Vec
  /-- The set-point has been brought to rest since the target's loss (R48, R50). Reset false. -/
  restHeld : Bool
  trace : List TraceUnit
  /-- Events raised that an armed unit waits for (R335). Reset none. -/
  due : List Nat
deriving DecidableEq, Repr, Inhabited

end Sys2Proof.Machine
end

