-- ==== Sys2Proof/Machine/Blocks7.lean ====
section
/-! DEFINITION. State beside the registers, seventh part: the CAN controllers and the thrust-command output (R341 to R377), with what
the structure image fixes for them. -/
namespace Sys2Proof.Machine

/-- A frame to be sent (R342, R373): identifier, 29-bit form, CAN FD form, bit-rate switching, data length code, data. -/
structure TxFrame where
  id : Nat
  xtd : Bool
  fd : Bool
  brs : Bool
  dlc : Nat
  data : List Byte
deriving DecidableEq, Repr, Inhabited

/-- The transmit buffer of a protocol identifier, or host buffer 48 + `b` (R343). -/
inductive TxKey where
  | proto (id : Nat)
  | host (b : Nat)
deriving DecidableEq, Repr, Inhabited

/-- A transmit buffer with a frame in it (R344, R350): the frame, its SOF in ns once transmitted, whether a cancel was registered after
the SOF, the newer frame in the shadow, and the schedule time in ns since when a frame is pending in it. -/
structure TxBuf where
  key : TxKey
  frame : TxFrame
  sof : Option Nat
  cancel : Bool
  shadow : Option TxFrame
  since : Nat
deriving DecidableEq, Repr, Inhabited

/-- The start of a frame of the device on a bus: controller, buffer, SOF in ns. -/
structure TxSof where
  ctrl : Nat
  key : TxKey
  sof : Nat
deriving DecidableEq, Repr, Inhabited

/-- A frame as a controller receives it (R351): identifier and form, data, the CRC sequence of R123, SOF in ns. -/
structure RxFrame where
  id : Nat
  xtd : Bool
  fd : Bool
  brs : Bool
  dlc : Nat
  remote : Bool
  data : List Byte
  crc : Word
  sof : Nat
deriving DecidableEq, Repr, Inhabited

/-- A receive filter element (R351); `dest` 0 entry, 1 host, 2 discard. -/
structure RxFilter where
  id : Nat
  mask : Nat
  xtd : Bool
  dest : Nat
deriving DecidableEq, Repr, Inhabited

/-- A controller as the image sets it (R341, R345, R347, R349, R372), with its filter elements. -/
structure CanChImage where
  nbr : Nat
  dbr : Nat
  oneshot : Bool
  wake : Nat
  mirror : Option Nat
  proto : Bool
  filters : List RxFilter
deriving DecidableEq, Repr, Inhabited

/-- The output of one thruster (R358, R374): command controller, kind of demand, and the biquad channel that is its loop. -/
structure ThrOut where
  bus : Nat
  pitch : Bool
  chan : Option Nat
deriving DecidableEq, Repr, Inhabited

/-- An analogue output (R368, R375): mode, source code, binding, scale and offset. -/
structure AoImage where
  mode : Nat
  src : Nat
  bind : Bind
  scale : F64
  offset : F64
deriving DecidableEq, Repr, Inhabited

/-- The image's part of the buses and the outputs; `jointIds` gives each joint's identifier for units A, B and C (R275), `gpioIn` binds
an input to a slot with its kind, `gpioBound` marks the outputs that the image drives, `owner` is the command-owner line (R369, R370). -/
structure OutImage where
  can : List CanChImage
  thr : List (Option ThrOut)
  ao : List (Option AoImage)
  gpioDir : Nat
  gpioBound : Nat
  gpioIn : List (Nat × Nat × Nat)
  owner : Option Nat
  jointIds : List (List Nat)
deriving DecidableEq, Repr, Inhabited

/-- What the readback of an analogue output measures (R369): level in V or mA, and an open loop. -/
structure AoBack where
  level : F32
  isOpen : Bool
deriving DecidableEq, Repr, Inhabited

/-- State of one CAN controller (R343 to R351): error counters as they stand before saturation, transmit buffers, hyperframe of the last
E71, next entry of the host ring, the result of each host buffer (R373), the frames that wait in the receive FIFO, oldest first (R351), and
the frames cancelled before a SOF was known, with the time of the cancel (R350). -/
structure CanCtl where
  tec : Nat
  rxe : Nat
  bufs : List TxBuf
  oneShotAt : Option Nat
  ringAt : Nat
  results : List Nat
  fifo : List RxFrame
  gone : List (TxBuf × Nat)
deriving DecidableEq, Repr, Inhabited

/-- A protocol frame the unit has transmitted (R366): identifier, schedule time, tally, alive counter, time of validity. -/
structure SentFrame where
  id : Nat
  sentAt : Nat
  tally : Nat
  alive : Nat
  tov : Word
deriving DecidableEq, Repr, Inhabited

/-- What the unit keeps of one thruster's command and feedback (R366, R367, R396): tally of its last frame, since when it sends one other
than 0, seal of the last valid feedback, an episode of E75, last echo (tally, SOF, accepted as its own), last demand and azimuth sent. -/
structure ThrEcho where
  tally : Nat
  since : Option Nat
  fbAt : Option Nat
  episode : Bool
  echo : Option (Nat × Nat × Bool)
  dem : Word
  az : Word
deriving DecidableEq, Repr, Inhabited

/-- State of the buses and the outputs beside the CAN and OUT registers. -/
structure OutState where
  can : List CanCtl
  /-- Alive counter of each identifier, as last sent (R353). Reset none sent. -/
  alive : List (Nat × Nat)
  /-- Protocol frames transmitted in the last 30 ms, newest first (R366). Reset none. -/
  sent : List SentFrame
  thr : List ThrEcho
  /-- Lever demands in force: demand, azimuth, TEST_EN (R376). Reset 0. -/
  lever : List (Word × Word × Bool)
  /-- The 16-bit codes of the analogue outputs, none while they are unpowered (R368, R369). Reset none. -/
  aoBall : List (Option (BitVec 16))
  /-- Levels of the discrete outputs (R370). Reset 0. -/
  gpio : Nat
deriving DecidableEq, Repr, Inhabited

end Sys2Proof.Machine
end

