-- ==== Sys2Proof/Machine/Blocks8.lean ====
section
/-! DEFINITION. State beside the registers, eighth part: redundancy, tallies and the Coruz links (R378 to R407), with what the structure
image fixes for them. -/
namespace Sys2Proof.Machine

/-- The image's part of redundancy (R379): number of units. -/
structure RedImage where
  units : Nat
deriving DecidableEq, Repr, Inhabited

/-- One Coruz link (R381): last valid frame from the direct peer, and consecutive valid heartbeats. -/
structure CoruzLink where
  validAt : Option Nat
  run : Nat
deriving DecidableEq, Repr, Inhabited

/-- What the unit keeps of one peer (R383 to R392): last heartbeat by link 0, link 1 and relayed; sequences taken, by type; canary byte,
mode, links byte; send time of its last direct heartbeat with the receipt; receipt of its last mirror. -/
structure CoruzPeer where
  heard : List (Option Nat)
  seqs : List (Nat × Word)
  canary : Nat
  mode : Nat
  links : Nat
  sentTs : Word
  rxTs : Word
  mirrorAt : Option Nat
deriving DecidableEq, Repr, Inhabited

/-- A state mirror as verified (R386, R387): sender, sequence, and its records resealed. -/
structure Mirror where
  unit : Nat
  seq : Word
  recs : List Packet
deriving DecidableEq, Repr, Inhabited

/-- A drill that runs on this unit (R404): start, step 0 to 5, controllers and identifiers on which a release frame appeared, drives
that reported ARRESTED since the arrest frame, and whether the analogue outputs read back. -/
structure Drill where
  start : Nat
  step : Nat
  seen : List (Nat × Nat)
  arrested : Nat
  analogueOk : Bool
deriving DecidableEq, Repr, Inhabited

/-- State of redundancy beside the RED registers. -/
structure RedState where
  links : List CoruzLink
  peers : List CoruzPeer
  /-- Sequence numbers of the next heartbeat and mirror (R382). Reset 0. -/
  seqHb : Word
  seqMirror : Word
  /-- Last frame sent on each link (R382, R383). Reset none. -/
  out : List (List Byte)
  /-- Mirror captured and waiting for the boundary (R386). Reset none. -/
  captured : Option (List Byte)
  /-- Mirrors of the unit in command: the last verified, the one before it, and when the one to be loaded was verified (R389, R391).
  Reset none. -/
  mirror : Option Mirror
  mirrorPrev : Option Mirror
  loadDue : Option Nat
  /-- Sender whose mirrors are counted, and major frames in a row without a verified one (R388). Reset none, 0. -/
  syncUnit : Option Nat
  missed : Nat
  /-- Shadow words held: sequence, unit, word; and the last sequence judged (R392). Reset none. -/
  words : List (Word × Nat × Word)
  judged : Option Word
  /-- Attributed mismatches in this hyperframe, and the fault (R392, R394). Reset 0, false. -/
  shadowHits : Nat
  shadowFault : Bool
  /-- Forcing conditions that hold until reset, by bit of RED_CANARY.FORCING (R394). Reset 0. -/
  latched : Nat
  /-- The PLL has unlocked and the clocks are not yet sound again (R394). Reset false. -/
  clockFault : Bool
  /-- The environment is outside its conditions, and since when it is back (R394). Reset false, none. -/
  envFault : Bool
  envOk : Option Nat
  /-- Hyperframe of the last E74 (R394). Reset none. -/
  echoBad : Option Nat
  /-- The unit sends its own tally (R395, R398). Reset false. -/
  holds : Bool
  /-- Tally given up whose frames are still to be cancelled, behind a frame build in its slot (R399 step 2). Reset none. -/
  cutDue : Option Nat
  /-- Give-up decided, mode change due at the next boundary (R399). Reset false. -/
  gaveUp : Bool
  /-- No tally has been echoed since (R398). Reset none. -/
  quietSince : Option Nat
  /-- End of the claim window after a withdrawal, and start of a claim of this unit (R398). Reset none. -/
  claimUntil : Option Nat
  claimAt : Option Nat
  /-- Revert dwell began, and E82 was raised (R400). Reset none. -/
  dwellAt : Option Nat
  revertAt : Option Nat
  /-- Drill running on this unit; this unit has withdrawn for a drill of another (R404). Reset none, false. -/
  drill : Option Drill
  yielded : Bool
  /-- Operating milliseconds since the last passed drill (R403). Reset 0. -/
  drillMs : Nat
  /-- Host software or the loss of both links has ended following (R54). Reset false. -/
  followOff : Bool
  /-- Sequence of the mirror in hand when following began: a later one is adopted (R53). Reset none. -/
  followFrom : Option Word
  /-- The unit has given up and its verdict has not been clear since (R51). Reset false. -/
  followWait : Bool
  /-- Strap pattern read at the start (R378). Reset not read yet. -/
  strap : Option Nat
deriving DecidableEq, Repr, Inhabited

end Sys2Proof.Machine
end

