-- ==== Sys2Proof/Machine/Blocks9.lean ====
section
/-! DEFINITION. State beside the registers, ninth part: the safety functions, the safety inputs and outputs, and the load test
(R408 to R434). -/
namespace Sys2Proof.Machine

/-- State of a safety function (R413 to R415): start of the violation that holds, since when its quantity has stayed inside the limit by
the hysteresis, and the direction of its clamp in the earth frame. -/
structure SafeFn where
  since : Option Nat
  okSince : Option Nat
  dir : Vec
deriving DecidableEq, Repr, Inhabited

/-- State of a safety input pair (R424): since when its channels differ, and whether both have been low since the discrepancy. -/
structure SafeIn where
  diffSince : Option Nat
  bothLow : Bool
deriving DecidableEq, Repr, Inhabited

/-- State of a safety output pair (R425 to R427): since when it is ON, consecutive bad readbacks, stamp of the last real demand, time of a
rescheduled test, scheduled time of the test that is deferred, deferral time counted before the pair was last opened, and whether a
discard has been reported since the last passed test. -/
structure SafeOut where
  onSince : Option Nat
  bad : Nat
  demandAt : Option Nat
  retestAt : Option Nat
  deferFrom : Option Nat
  deferred : Nat
  discarded : Bool
  /-- The channels, B true, whose discarded test is owed. Reset none. -/
  owed : List Bool
deriving DecidableEq, Repr, Inhabited

/-- The island's own position (R412): time of validity in ns, control point north, east, velocity north, east. -/
structure IslandFix where
  tov : Int
  n : F64
  e : F64
  vn : F64
  ve : F64
deriving DecidableEq, Repr, Inhabited

/-- A load test that runs (R428): start in ns, pairs in turn, and for each pair the thrusters seen to trip and to be ready again. -/
structure LoadTest where
  start : Nat
  pairs : List Nat
  trip : List Nat
  back : List Nat
deriving DecidableEq, Repr, Inhabited

/-- A stop demand that is latched (R423): its cause as SAFE_STOP codes it, the demanding pair, the pairs it opens, the schedule time at
which the demanding pair read ON again, and whether the main die has learnt of it. -/
structure StopDemand where
  cause : Nat
  input : Nat
  pairs : Nat
  onAt : Option Nat
  told : Bool
deriving DecidableEq, Repr, Inhabited

/-- State of the safety functions beside the SAFE registers. -/
structure SafeState where
  fns : List SafeFn
  ins : List SafeIn
  outs : List SafeOut
  /-- Stop demands latched in the monitor die, newest first (R423). Reset none. -/
  stops : List StopDemand
  /-- An inhibit has opened pairs, or the main die has learnt of a stop, since the last major-frame boundary (R52). Reset false. -/
  inhibitDue : Bool
  stopDue : Bool
  /-- The island is halted by a lockstep mismatch (R421). Reset false. -/
  halted : Bool
  /-- Installation entry in force, and a selection waiting for the minor-frame boundary (R410). Reset none, false. -/
  inst : Option Nat
  instDue : Bool
  /-- The island's own solution (R412). Reset none. -/
  own : Option IslandFix
  /-- The two positions have differed by more than the tolerance since (R412). Reset none. -/
  xchkSince : Option Nat
  /-- Consecutive evaluations with differing verdicts, by function (R420). Reset 0. -/
  differ : List Nat
  /-- The monitor die's own verified copy of the limits (R420). Reset none. -/
  dieVals : Option (List (Nat × Quad))
  /-- Sequence number of the quantities last handed to the monitor die (R420), and the schedule time of the fence at which the island's last
  heartbeat was sent (R421). Reset 0. -/
  handSeq : Nat
  beat : Nat
  /-- Last feedback azimuth of each thruster with its stamp, and the rate in °/s (R408). Reset none. -/
  azLast : List (Option (Int × Word × F64))
  /-- Load test in progress (R428). Reset none. -/
  load : Option LoadTest
  /-- Switch code matched at the start, and whether the start has judged it (R431). Reset none, false. -/
  matched : Option Nat
  judged : Bool
  /-- Test access port open (R491). Reset false. -/
  scanOpen : Bool
deriving DecidableEq, Repr, Inhabited

end Sys2Proof.Machine
end

