-- ==== Sys2Proof/Machine/Operands.lean ====
section
/-! DEFINITION. What commands carry: data that arrive at a pin or a port, quantities the device measures and whose
physics the manual does not compute, and the evidence of a physical fault. -/
namespace Sys2Proof.Machine

/-- A datagram at an Ethernet port (R145): the multicast group it was sent to, and its UDP payload. -/
structure Datagram where
  group : Word
  payload : List Byte
deriving DecidableEq, Repr, Inhabited

/-- A byte lost at a serial port (R144): the port, and the t_arr of the sentence or frame that contains it. -/
structure LostByte where
  port : Nat
  first : Nat
deriving DecidableEq, Repr, Inhabited

/-- Measurement of one antenna's bias over 10 ms (R169): current in 0.1 mA, and whether the 110 mA limit held 1 ms. -/
structure AntMeasure where
  current : Nat
  limited : Bool
deriving DecidableEq, Repr, Inhabited

/-- One channel at an epoch (R171, R189): whether its loops have closed, azimuth and elevation of the satellite in degrees by its
ephemeris, C/N0 in dB-Hz, Doppler in Hz, time since carrier lock in ms, pseudorange in m and carrier phase in cycles. -/
structure GnssChannel where
  n : Nat
  sv : Nat
  system : Nat
  signal : Nat
  locked : Bool
  azimuth : F32
  elevation : F32
  cn0 : F32
  doppler : F32
  lock : Nat
  code : F64
  carrier : F64
deriving DecidableEq, Repr, Inhabited

/-- What the fix types rest on beside the receipts of corrections (R179): integer ambiguities fixed and validated, and the satellites
used, in all and on both bands. -/
structure FixEvidence where
  fixed : Bool
  nsat : Nat
  dual : Nat
deriving DecidableEq, Repr, Inhabited

/-- In-band noise power of one band's chains of ANT_A and ANT_B, in dB (R182). -/
structure ChainNoise where
  a : F32
  b : F32
deriving DecidableEq, Repr, Inhabited

/-- The baseline's measurement (R180): ambiguities fixed, azimuth, elevation, length in m, and the
standard deviation of the epoch in degrees. -/
structure BaselineMeasure where
  fixed : Bool
  azimuth : Word
  elevation : Word
  length : F32
  sigma : F32
deriving DecidableEq, Repr, Inhabited

/-- A measurement epoch (R173): its schedule time in ns; for each output, PVT, heading, raw, the delay in ns after which it is ready, none
where that is left to GNSS_EPOCH_DROP; the channels; the solution with its position in degrees and metres, velocity, standard deviations
and correlation; the receipt of the latest SBAS corrections decoded; integer ambiguities fixed and validated; the baseline; the noise of
the L1 and L5 chains; GPS time at the epoch in quarter-ns on the count of DT, none while it is not solved, its standard deviation in ns and
the steering it asks for in 0.001 ppm; leap count and announced leap; satellites whose ephemeris was decoded from the signal since the
last epoch, and whether an almanac was. -/
structure GnssEpoch where
  epoch : Nat
  delays : List (Option Nat)
  channels : List GnssChannel
  lat : Quad
  lon : Quad
  height : Word
  velocity : List Word
  sd : List Word
  corr : Word
  sbas : Option Nat
  fixed : Bool
  baseline : BaselineMeasure
  noiseL1 : ChainNoise
  noiseL5 : ChainNoise
  gpsTime : Option Int
  sigma : Nat
  steer : Int
  leap : Option Int
  announced : Option (Nat × Nat)
  decoded : List (Nat × Nat)
  almanac : Bool
deriving DecidableEq, Repr, Inhabited

/-- The offset measured against a time source (R199, R200): source minus DT in quarter-ns, standard deviation in ns, the
steering correction it needs in 0.001 ppm (R193), leap count and announced leap. -/
structure SourceMeasure where
  delta : Int
  sigma : Nat
  steer : Int
  leap : Option Int
  announced : Option (Nat × Nat)
deriving DecidableEq, Repr, Inhabited

/-- A PTP message (R207, R209): port, domain number, kind, whether it came over UDP, the raw timestamp taken at the PCS and the timestamp in
the body, both in quarter-ns of TAI for the body and of ST for the PCS (of a neighbour's peer-delay request the body is the raw timestamp at
which the response leaves), the port it came from and the clock that it announces, the servo's standard deviation in ns and the steering it
needs in 0.001 ppm, and the UTC offset with an announced leap. -/
structure PtpMessage where
  port : Nat
  dom : Nat
  kind : PtpKind
  udp : Bool
  raw : Int
  body : Int
  sender : Nat
  clock : PtpClock
  sigma : Nat
  steer : Int
  leap : Option Int
  announced : Option (Nat × Nat)
deriving DecidableEq, Repr, Inhabited

/-- What goes wrong while a stage runs: the recomputed check of one of its inputs, in order, the two datapath results of one of its outputs,
in the order in which it seals them, or the recomputed check at the exit (R125); or one of its inputs arrives a second time, or after a
datum of its stream was lost (R127). -/
inductive ChainFault where
  | none
  | input (i : Nat) (got : Word)
  | datapath (out : Nat) (d0 d1 : Word)
  | exit (got : Word)
  | replayed (i : Nat)
  | skipped (i : Nat)
deriving DecidableEq, Repr, Inhabited

/-- What the modulator of an analogue channel delivers between two minor-frame boundaries (R152): its one-bit values, oldest first, one
each 160 ns, and whether it reported overload. -/
structure AfeIn where
  bits : List Bool
  overload : Bool
deriving DecidableEq, Repr, Inhabited

/-- What reading one NAND block met (R456): the block, the most corrected bits of a codeword, above 72 when one was uncorrectable, and the
SEQs of the records that lay in such a codeword. -/
structure BlockRead where
  block : Nat
  corrected : Nat
  lost : List Word
deriving DecidableEq, Repr, Inhabited

/-- One output that a customer's task sealed in its slot (R121): kind 0xF0 to 0xFF and index, the outputs it was made from by kind and
index, time of validity, payload, and what goes wrong with it (R125). -/
structure CustomerOut where
  kind : Nat
  index : Nat
  ins : List (Nat × Nat)
  tov : Int
  payload : List Word
  fault : ChainFault
deriving DecidableEq, Repr, Inhabited

/-- What a customer's task that finished did in its slot: the ns it ran, the outputs it sealed, the records it wrote, type and body
(R121, R436). -/
structure CustomerEnd where
  used : Nat
  outs : List CustomerOut
  recs : List (Nat × List Byte)
deriving DecidableEq, Repr, Inhabited

/-- A quantity of a safety function as the monitor die received it, where that is not as the island handed it over (R420): function, which
of its quantities, value, complement and sequence number. -/
structure Handover where
  f : Nat
  k : Nat
  value : Quad
  complement : Quad
  seq : Nat
deriving DecidableEq, Repr, Inhabited

/-- What the recorder drains (R441): the number of records, and of those whose exit verification fails the SEQ and the check recomputed
(R123); with each block whose program (1) or erase (2) reported failure meanwhile (R457). -/
structure DrainIn where
  count : Nat
  broken : List (Word × Word)
  fails : List (Nat × Nat)
deriving DecidableEq, Repr, Inhabited

/-- What a start finds (R464, R473, R487): strap pattern, ms from its beginning to schedule time 0, ns without CLK_TIME, the seconds that
the always-on crystal has counted since the CORE domain stopped (R198), REFCLK_IN present, slots with a component that cannot be read,
memory failures of its March tests, wake sources that fired beside the first, NAND parts (chip enables, page code, pages per block, blocks),
the levels of the safety inputs, channels A and B of pair 0 first, and the bytes of a record of the NOR ring whose commit was cut short in
its second phase (R444). -/
structure StartIn where
  strap : Nat
  lead : Nat
  dark : Nat
  dt : Nat
  ext : Bool
  bad : List Nat
  mem : List MemFail
  wakes : Nat
  nand : Option (Nat × Nat × Nat × Nat)
  safeIn : Nat
  torn : List Byte
deriving DecidableEq, Repr, Inhabited

/-- What a lamp check measures (R486 to R488): ms it took, failures found, the first 32 of them, whether every failure has a spare row, and
for each check that was run its measured value, in the check's unit. -/
structure LampIn where
  duration : Nat
  failures : Nat
  mem : List MemFail
  spared : Bool
  an : List (Option F32)
deriving DecidableEq, Repr, Inhabited

/-- What a write of a register may need beside the word: starts of frames up to now, what the start finds when the write resets the device,
the output pairs that pass an immediate test (R426), records drained before a power cycle (R494), blocks with a factory-bad marker (R462),
and the lengths of the handshakes of a burst (R477). -/
structure WriteIn where
  sofs : List TxSof
  inp : StartIn
  pass : Nat
  drained : Nat
  marks : List Nat
  lens : List Nat
deriving DecidableEq, Repr, Inhabited

/-- What the monitors measure (R523): case and hottest die sensor in 0.1 °C, VIN, VAON and the VIO banks A, B, C in mV, and whether bank A
and bank B are supplied at 3.3 V. -/
structure EnvIn where
  lid : Int
  die : Int
  vin : Nat
  vaon : Nat
  vio : List Nat
  high : List Bool
deriving DecidableEq, Repr, Inhabited

end Sys2Proof.Machine
end

