-- ==== Sys2Proof/Syntax.lean ====
section
/-! DEFINITION. The commands of the device: one constructor for each row of the opcode table, with the operands the row's
rule names. `t` is the schedule time in ns at which an asynchronous command happens. -/
namespace Sys2Proof
open Sys2Proof.Machine

/-- A command: an access, an event on a pin or port, a timer's expiry, or a boundary of schedule time. -/
inductive Instr where
  /-- R22: MINOR_FRAME_BOUNDARY. -/
  | minorFrameBoundary (t : Nat) (ins : List AfeIn) (levels : Nat) (back : List (Bool × Bool)) (stall : Bool)
  /-- R22: MAJOR_FRAME_BOUNDARY. -/
  | majorFrameBoundary (t : Nat) (strap : Nat) (sofs : List TxSof)
  /-- R22: HYPERFRAME_BOUNDARY. -/
  | hyperframeBoundary (t : Nat) (ddr : Nat) (sram : Nat)
  /-- R68: TASK_FENCE. -/
  | taskFence (t : Nat) (task : Nat) (inFact : Bool) (waited : Bool) (done : Option CustomerEnd) (rel : Nat) (fence : Nat) (alarms : List (Nat × Word))
  /-- R73: OPERATION_ID_FORCE_RETIRE. -/
  | operationIdForceRetire (t : Nat) (op : Nat)
  /-- R62: SCHEDULE_START. -/
  | scheduleStart (t : Nat)
  /-- R36: MODE_REQUEST_SUBMIT. -/
  | modeRequestSubmit (t : Nat) (target : Nat) (coupled : Bool) (trackTarget : Bool) (follow : Bool) (seq : Nat) (port : Nat)
  /-- R43: STANDBY_REACHED. -/
  | standbyReached (t : Nat)
  /-- R270: EXCURSION_MONITOR. -/
  | excursionMonitor (t : Nat) (fault : ChainFault)
  /-- R271: ARREST_ALLOCATION. -/
  | arrestAllocation (t : Nat) (fault : ChainFault)
  /-- R272: ARREST_FRAME_BUILD. -/
  | arrestFrameBuild (t : Nat) (fault : ChainFault) (sofs : List TxSof)
  /-- R311: THRUSTER_LOOP_RUN. -/
  | thrusterLoopRun (t : Nat) (channel : Nat) (fault : ChainFault)
  /-- R368: ANALOGUE_OUTPUT_WRITE. -/
  | analogueOutputWrite (t : Nat) (n : Nat) (fault : ChainFault) (back : List AoBack)
  /-- R384: CORUZ_HEARTBEAT_SEND. -/
  | coruzHeartbeatSend (t : Nat) (fault : ChainFault)
  /-- R215: FUSION_UPDATE. -/
  | fusionUpdate (t : Nat) (rel : Nat) (fault : ChainFault)
  /-- R316: POSITION_PID_RUN. -/
  | positionPidRun (t : Nat) (channel : Nat) (fault : ChainFault)
  /-- R300: FALLBACK_ALLOCATION. -/
  | fallbackAllocation (t : Nat) (fault : ChainFault)
  /-- R286: SOLVER_PRESS. -/
  | solverPress (t : Nat) (task : Nat) (fault : ChainFault)
  /-- R290: SOLVER_ITERATION. -/
  | solverIteration (t : Nat) (task : Nat) (sram : Bool) (fault : ChainFault)
  /-- R255: ALLOCATION_SELECT_AND_SEAL. -/
  | allocationSelectAndSeal (t : Nat) (fault : ChainFault)
  /-- R359: THRUST_COMMAND_BUILD. -/
  | thrustCommandBuild (t : Nat) (thr : Nat) (fault : ChainFault) (sofs : List TxSof)
  /-- R275: JOINT_COMMAND_SEND. -/
  | jointCommandSend (t : Nat) (fault : ChainFault) (sofs : List TxSof)
  /-- R386: STATE_MIRROR_CAPTURE. -/
  | stateMirrorCapture (t : Nat) (fault : ChainFault)
  /-- R266: CAPABILITY_MARGINS. -/
  | capabilityMargins (t : Nat) (fault : ChainFault)
  /-- R131: BACKGROUND_TABLE_SCAN. -/
  | backgroundTableScan (t : Nat) (wrong : List (Nat × Word))
  /-- R417: SAFETY_EVALUATION. -/
  | safetyEvaluation (t : Nat) (bad : List Handover)
  /-- R83: SCHED_HWM_CLR. -/
  | schedHwmClr (t : Nat)
  /-- R80: SCHED_XINJ_GO. -/
  | schedXinjGo (t : Nat) (task : Nat) (port : Nat)
  /-- R130: SCAN_JOB_START. -/
  | scanJobStart (t : Nat) (unit : Nat) (space : Nat) (port : Nat)
  /-- R130: SCAN_JOB_COMPLETE. -/
  | scanJobComplete (t : Nat) (mem : Memory)
  /-- R135: LINEAGE_LOOKUP. -/
  | lineageLookup (t : Nat) (resource : Nat) (op : Nat) (nth : Nat) (port : Nat)
  /-- R142: SERIAL_SENTENCE_RECEIVED. -/
  | serialSentenceReceived (t : Nat) (port : Nat) (tArr : Nat) (chars : List Byte) (bad : Bool) (fill : Nat)
  /-- R143: SERIAL_BINARY_FRAME_RECEIVED. -/
  | serialBinaryFrameReceived (t : Nat) (port : Nat) (tArr : Nat) (bytes : List Byte) (bad : Bool) (fill : Nat)
  /-- R144: SERIAL_FIFO_OVERFLOW. -/
  | serialFifoOverflow (t : Nat) (b : LostByte)
  /-- R145: NET_DATAGRAM_RECEIVED. -/
  | netDatagramReceived (t : Nat) (port : Nat) (ingress : Nat) (m : Datagram)
  /-- R351: CAN_FRAME_RECEIVED. -/
  | canFrameReceived (t : Nat) (c : Nat) (f : RxFrame) (waits : Bool)
  /-- R151: SLOT_TIMEOUT. -/
  | slotTimeout (t : Nat) (slot : Nat)
  /-- R158: AFE_SETTLING_END. -/
  | afeSettlingEnd (t : Nat) (n : Nat)
  /-- R159: PULSE_EDGE. -/
  | pulseEdge (t : Nat) (p : Nat) (high : Bool) (hold : Nat)
  /-- R173: GNSS_EPOCH. -/
  | gnssEpoch (o : GnssEpoch)
  /-- R174: GNSS_EPOCH_DROP. -/
  | gnssEpochDrop (t : Nat) (output : Nat)
  /-- R169: ANT_BIAS_MEASURE. -/
  | antBiasMeasure (t : Nat) (a : AntMeasure) (b : AntMeasure)
  /-- R169: ANT_BIAS_RETRY. -/
  | antBiasRetry (t : Nat) (ant : Nat)
  /-- R188: ANT_RETRY. -/
  | antRetry (t : Nat)
  /-- R171: ACQUISITION_COMPLETE. -/
  | acquisitionComplete (t : Nat) (first : GnssChannel) (second : Option GnssChannel)
  /-- R178: RTCM_FRAME_RECEIVED. -/
  | rtcmFrameReceived (t : Nat) (source : Nat) (udpPort : Nat) (frame : List Byte)
  /-- R178: GNSS_CORR_FIFO_WRITE. -/
  | gnssCorrFifoWrite (t : Nat) (w : Word) (port : Nat)
  /-- R179: CORRECTION_AGE_EXPIRY. -/
  | correctionAgeExpiry (t : Nat) (rest : FixEvidence)
  /-- R182: INTERFERENCE_TIMER. -/
  | interferenceTimer (t : Nat) (l1 : ChainNoise) (l5 : ChainNoise)
  /-- R184: SPOOF_ACK. -/
  | spoofAck (t : Nat) (port : Nat)
  /-- R188: COLD_RESTART. -/
  | coldRestart (t : Nat) (port : Nat)
  /-- R186: GNSS_DORMANT_BURST. -/
  | gnssDormantBurst (seconds : Nat) (position : Option (Quad × Quad × Quad)) (used : List (Nat × Nat)) (decoded : List (Nat × Nat)) (expired : List (Nat × Nat)) (inp : StartIn)
  /-- R186: EPHEMERIS_RENEWAL_COMPLETE. -/
  | ephemerisRenewalComplete (seconds : Nat) (renewed : List (Nat × Nat))
  /-- R199: TIME_SOURCE_QUALIFIED. -/
  | timeSourceQualified (t : Nat) (source : Nat) (m : SourceMeasure)
  /-- R199: TIME_SOURCE_LOST. -/
  | timeSourceLost (t : Nat) (source : Nat)
  /-- R203: TIME_STEP_APPLY. -/
  | timeStepApply (t : Nat)
  /-- R205: PPS_EDGE. -/
  | ppsEdge (t : Nat)
  /-- R206: LEAP_SECOND_APPLY. -/
  | leapSecondApply (t : Nat)
  /-- R197: TIME_SET. -/
  | timeSet (t : Nat) (port : Nat)
  /-- R207: PTP_MESSAGE_RECEIVED. -/
  | ptpMessageReceived (t : Nat) (m : PtpMessage)
  /-- R207: PTP_SYNC_TRANSMIT. -/
  | ptpSyncTransmit (t : Nat) (port : Nat) (dom : Nat) (announce : Bool) (stamp : Int)
  /-- R210: LAUNCH_FRAME_AT_HEAD. -/
  | launchFrameAtHead (t : Nat) (port : Nat) (queue : Nat) (launch : Nat) (busy : Bool)
  /-- R210: LAUNCH_TIME_REACHED. -/
  | launchTimeReached (t : Nat) (port : Nat) (queue : Nat) (busy : Bool)
  /-- R226: FILTER_RESET. -/
  | filterReset (t : Nat) (port : Nat)
  /-- R221: ORIGIN_SET. -/
  | originSet (t : Nat) (port : Nat)
  /-- R220: ANCHOR_SET. -/
  | anchorSet (t : Nat) (slot : Nat)
  /-- R235: DR_LIMIT_EXPIRED. -/
  | drLimitExpired (t : Nat)
  /-- R227: CONVERGENCE_TIMER. -/
  | convergenceTimer (t : Nat)
  /-- R229: READMIT_TIME_EXPIRY. -/
  | readmitTimeExpiry (t : Nat) (slot : Nat)
  /-- R229: SUSPECT_MAX_EXPIRY. -/
  | suspectMaxExpiry (t : Nat) (slot : Nat)
  /-- R228: ATTITUDE_DISAGREE_TIMER. -/
  | attitudeDisagreeTimer (t : Nat)
  /-- R240: TRACK_COAST_TIMER. -/
  | trackCoastTimer (t : Nat) (object : Nat)
  /-- R272: ARREST_CLR. -/
  | arrestClr (t : Nat)
  /-- R276: COUPLE_RESUME_TIMER. -/
  | coupleResumeTimer (t : Nat)
  /-- R303: WS_DISCARD. -/
  | wsDiscard (t : Nat) (port : Nat)
  /-- R315: BIQUAD_OPEN. -/
  | biquadOpen (t : Nat) (channel : Nat) (on : Bool) (port : Nat)
  /-- R319: PID_OPEN. -/
  | pidOpen (t : Nat) (channel : Nat) (on : Bool) (port : Nat)
  /-- R330: COEFFICIENT_WRITE. -/
  | coefficientWrite (t : Nat) (w : Word) (port : Nat)
  /-- R336: COEFFICIENT_READ. -/
  | coefficientRead (t : Nat)
  /-- R329: BANK_VALIDATE. -/
  | bankValidate (t : Nat)
  /-- R331: BANK_REQUEST. -/
  | bankRequest (t : Nat) (pid : Bool) (channel : Nat) (bank : Nat) (lenM1 : Nat)
  /-- R325: PATH_COMMIT. -/
  | pathCommit (t : Nat) (count : Nat) (hdgMode : Bool) (clear : Bool)
  /-- R325: PATH_CLEAR. -/
  | pathClear (t : Nat)
  /-- R335: TRACE_ARM. -/
  | traceArm (t : Nat) (u : Nat)
  /-- R335: TRACE_FORCE. -/
  | traceForce (t : Nat) (u : Nat)
  /-- R335: TRACE_STOP. -/
  | traceStop (t : Nat) (u : Nat)
  /-- R344: CAN_TX_COMPLETE. -/
  | canTxComplete (t : Nat) (f : TxSof)
  /-- R346: CAN_TX_ERROR. -/
  | canTxError (t : Nat) (f : TxSof) (code : Nat) (inc : Nat) (dataPhase : Bool)
  /-- R346: CAN_RECOVER. -/
  | canRecover (t : Nat) (c : Nat)
  /-- R346: CAN_BUSOFF_RECOVERY_COMPLETE. -/
  | canBusoffRecoveryComplete (t : Nat) (c : Nat)
  /-- R348: CAN_LISTEN. -/
  | canListen (t : Nat) (c : Nat) (on : Bool) (port : Nat)
  /-- R373: HOST_TX_GO. -/
  | hostTxGo (t : Nat) (port : Nat) (c : Nat) (buf : Nat) (dlc : Nat)
  /-- R350: HOST_TX_CANCEL. -/
  | hostTxCancel (t : Nat) (c : Nat) (buf : Nat) (sofs : List TxSof)
  /-- R349: CAN_WAKE. -/
  | canWake (t : Nat) (c : Nat) (dominant : Nat) (frame : Option (Nat × Word)) (inp : StartIn)
  /-- R367: FEEDBACK_TIMEOUT. -/
  | feedbackTimeout (t : Nat) (thr : Nat)
  /-- R382: CORUZ_FRAME_RECEIVED. -/
  | coruzFrameReceived (t : Nat) (l : Nat) (bs : List Byte)
  /-- R381: CORUZ_LINK_TIMEOUT. -/
  | coruzLinkTimeout (t : Nat) (l : Nat)
  /-- R381: CORUZ_BLOCK_LOCK_LOSS. -/
  | coruzBlockLockLoss (t : Nat) (l : Nat)
  /-- R391: SHADOW_REPEAT_COMPLETE. -/
  | shadowRepeatComplete (t : Nat) (done : Bool)
  /-- R393: CANARY_FORCING_REPORT. -/
  | canaryForcingReport (t : Nat) (cond : Nat) (sram : Bool) (addr : Word) (sofs : List TxSof)
  /-- R398: CLAIM_WAIT_EXPIRY. -/
  | claimWaitExpiry (t : Nat)
  /-- R396: ECHO_WINDOW_EXPIRY. -/
  | echoWindowExpiry (t : Nat)
  /-- R400: REVERT_DWELL_COMPLETE. -/
  | revertDwellComplete (t : Nat)
  /-- R400: REVERT_ECHO_TIMEOUT. -/
  | revertEchoTimeout (t : Nat)
  /-- R404: DRILL_GO. -/
  | drillGo (t : Nat) (port : Nat)
  /-- R404: DRILL_END. -/
  | drillEnd (t : Nat)
  /-- R404: DRILL_ABORT. -/
  | drillAbort (t : Nat)
  /-- R403: DRILL_DUE. -/
  | drillDue (t : Nat)
  /-- R424: SAFE_INPUT_CHANGE. -/
  | safeInputChange (t : Nat) (n : Nat) (chB : Bool) (level : Bool)
  /-- R424: SAFE_INPUT_DISCREPANCY. -/
  | safeInputDiscrepancy (t : Nat) (n : Nat)
  /-- R423: STOP_AUTORESET. -/
  | stopAutoreset (t : Nat)
  /-- R416: INH_RESET. -/
  | inhReset (t : Nat) (port : Nat)
  /-- R426: OUT_RESET. -/
  | outReset (t : Nat) (port : Nat) (pass : Nat)
  /-- R428: LOADTEST. -/
  | loadtest (t : Nat) (port : Nat)
  /-- R410: INST_SEL. -/
  | instSel (t : Nat) (sel : Nat) (port : Nat)
  /-- R426: SAFE_OUT_TEST_PULSE. -/
  | safeOutTestPulse (t : Nat) (n : Nat) (chB : Bool) (low : Bool) (high : Bool)
  /-- R421: SAFETY_WATCHDOG. -/
  | safetyWatchdog (t : Nat)
  /-- R430: SEAL_SWITCH_READ. -/
  | sealSwitchRead (t : Nat) (p : Nat × Nat) (q : Nat × Nat)
  /-- R415: SAFE_ESCALATION. -/
  | safeEscalation (t : Nat) (f : Nat)
  /-- R427: TEST_DEFER_FAULT. -/
  | testDeferFault (t : Nat) (n : Nat)
  /-- R441: RECORD_DRAIN. -/
  | recordDrain (t : Nat) (n : DrainIn)
  /-- R445: NAND_BATCH_CLOSE. -/
  | nandBatchClose (t : Nat)
  /-- R438: HOURS_CHECKPOINT. -/
  | hoursCheckpoint (t : Nat)
  /-- R446: RECORD_READ_GO. -/
  | recordReadGo (t : Nat) (port : Nat)
  /-- R446: RECORD_READ_COMPLETE. -/
  | recordReadComplete (t : Nat) (reads : List BlockRead)
  /-- R448: FREEZE. -/
  | freeze (t : Nat) (port : Nat)
  /-- R448: THAW. -/
  | thaw (t : Nat)
  /-- R448: FREEZE_TIMEOUT. -/
  | freezeTimeout (t : Nat)
  /-- R451: CLEAR_CHALLENGE. -/
  | clearChallenge (t : Nat)
  /-- R451: CLEAR_SUBMIT. -/
  | clearSubmit (t : Nat) (replace : Bool) (port : Nat)
  /-- R452: CLEAR_COMMIT. -/
  | clearCommit (t : Nat)
  /-- R450: CLEAR_KEY_ENROL. -/
  | clearKeyEnrol (t : Nat) (port : Nat)
  /-- R462: NAND_FORMAT. -/
  | nandFormat (t : Nat) (port : Nat) (marks : List Nat)
  /-- R458: SCRUB_NOW. -/
  | scrubNow (t : Nat) (port : Nat)
  /-- R458: SCRUB_PASS_START. -/
  | scrubPassStart (t : Nat)
  /-- R458: SCRUB_PASS_COMPLETE. -/
  | scrubPassComplete (t : Nat) (reads : List BlockRead)
  /-- R458: BLOCK_RELOCATION_COMPLETE. -/
  | blockRelocationComplete (t : Nat) (fail : Nat)
  /-- R457: STATIC_WEAR_LEVELLING. -/
  | staticWearLevelling (t : Nat)
  /-- R104: RACKING_GO. -/
  | rackingGo (t : Nat) (target : Nat) (src : Nat) (activate : Bool) (port : Nat)
  /-- R105: RACKING_STEP_COMPLETE. -/
  | rackingStepComplete (t : Nat) (fail : Bool)
  /-- R102: ACCEPTANCE_SUBMIT. -/
  | acceptanceSubmit (t : Nat) (port : Nat)
  /-- R103: ACCKEY_ENROL. -/
  | acckeyEnrol (t : Nat) (slot : Nat) (port : Nat)
  /-- R103: ACCKEY_REVOKE. -/
  | acckeyRevoke (t : Nat) (slot : Nat) (port : Nat)
  /-- R100: KNOWN_GOOD_DWELL. -/
  | knownGoodDwell (t : Nat)
  /-- R108: PARAM_DATA_WRITE. -/
  | paramDataWrite (t : Nat) (lo : Word) (port : Nat)
  /-- R117: PARAM_COMMIT_ALL. -/
  | paramCommitAll (t : Nat) (port : Nat)
  /-- R117: PARAM_COMMIT_INDEX. -/
  | paramCommitIndex (t : Nat) (index : Nat) (port : Nat)
  /-- R117: PARAM_CLEAR_MASK_BIT. -/
  | paramClearMaskBit (t : Nat) (index : Nat) (port : Nat)
  /-- R117: PARAM_CLEAR_ALL_MASK. -/
  | paramClearAllMask (t : Nat) (port : Nat)
  /-- R110: PARAM_COMMIT_COMPLETE. -/
  | paramCommitComplete (t : Nat) (fail : Bool)
  /-- R117: PARAM_BULK_SNAP. -/
  | paramBulkSnap (t : Nat) (port : Nat)
  /-- R517: PARAM_BULK_SNAP_COMPLETE. -/
  | paramBulkSnapComplete (t : Nat)
  /-- R117: PARAM_BULK_APPLY. -/
  | paramBulkApply (t : Nat) (port : Nat)
  /-- R465: REF_LOSS. -/
  | refLoss (t : Nat) (ref : Nat)
  /-- R464: REF_QUALIFIED. -/
  | refQualified (t : Nat) (ref : Nat) (ofs : Int)
  /-- R467: PLL_UNLOCK. -/
  | pllUnlock (t : Nat)
  /-- R467: PLL_RELOCK_ATTEMPT. -/
  | pllRelockAttempt (t : Nat) (ok : Bool)
  /-- R470: DOMAIN_POWER_FAIL. -/
  | domainPowerFail (t : Nat) (domain : Nat) (coreKept : Bool) (inp : StartIn)
  /-- R471: POWER_ON. -/
  | powerOn (inp : StartIn)
  /-- R471: VAON_LOSS. -/
  | vaonLoss (t : Nat)
  /-- R471: RESET_N_ASSERT. -/
  | resetNAssert (t : Nat)
  /-- R471: DEVICE_RESET. -/
  | deviceReset (t : Nat) (w : Word) (port : Nat) (inp : StartIn)
  /-- R471: WATCHDOG_PREWARN. -/
  | watchdogPrewarn (t : Nat)
  /-- R471: WATCHDOG_RESET. -/
  | watchdogReset (t : Nat) (inp : StartIn)
  /-- R475: WAKE_N_ASSERT. -/
  | wakeNAssert (t : Nat) (inp : StartIn)
  /-- R475: SPI_WAKE. -/
  | spiWake (t : Nat) (inp : StartIn)
  /-- R475: WAKE_TIMER_EXPIRY. -/
  | wakeTimerExpiry (t : Nat) (inp : StartIn)
  /-- R480: XPULSE_BURST. -/
  | xpulseBurst (t : Nat) (count : Nat) (spacing : Nat) (lens : List Nat) (port : Nat)
  /-- R480: FORCE_REF_SWITCH. -/
  | forceRefSwitch (t : Nat) (port : Nat)
  /-- R482: SHUTDOWN_REQUEST. -/
  | shutdownRequest (t : Nat) (w : Word) (port : Nat) (sofs : List TxSof)
  /-- R482: SHUTDOWN_PIN. -/
  | shutdownPin (t : Nat) (sofs : List TxSof)
  /-- R486: LAMP_CHECK_COMPLETE. -/
  | lampCheckComplete (t : Nat) (x : LampIn) (inp : StartIn)
  /-- R492: RECOVER_RUNG_1. -/
  | recoverRung1 (t : Nat) (port : Nat)
  /-- R493: RECOVER_BLOCK_RESET. -/
  | recoverBlockReset (t : Nat) (block : Nat) (port : Nat)
  /-- R492: RECOVER_DEVICE_RESET. -/
  | recoverDeviceReset (t : Nat) (key : Nat) (port : Nat) (inp : StartIn)
  /-- R494: RECOVER_POWER_CYCLE. -/
  | recoverPowerCycle (t : Nat) (key : Nat) (n : Nat) (port : Nat)
  /-- R494: CYCLE_WAIT_EXPIRY. -/
  | cycleWaitExpiry (t : Nat) (inp : StartIn)
  /-- R495: RECOVER_ACK. -/
  | recoverAck (t : Nat)
  /-- R491: SCAN_ENABLE. -/
  | scanEnable (t : Nat) (port : Nat)
  /-- R505: EXPERT_KEY_WRITE. -/
  | expertKeyWrite (t : Nat) (w : Word) (port : Nat)
  /-- R506: EXPERT_IDLE_LAPSE. -/
  | expertIdleLapse (t : Nat)
  /-- R500: BAR0_MALFORMED. -/
  | bar0Malformed (t : Nat)
  /-- R501: BAR2_WRITE. -/
  | bar2Write (t : Nat) (port : Nat) (addr : Nat) (bytes : List Byte)
  /-- R502: SPI_WRITE_BAR0. -/
  | spiWriteBar0 (t : Nat) (addr : Nat) (words : List Word) (check : Nat) (x : WriteIn)
  /-- R502: SPI_READ_BAR0. -/
  | spiReadBar0 (t : Nat) (addr : Nat) (n : Nat)
  /-- R502: SPI_WRITE_BAR2. -/
  | spiWriteBar2 (t : Nat) (addr : Nat) (words : List Word) (check : Nat)
  /-- R502: SPI_READ_BAR2. -/
  | spiReadBar2 (t : Nat) (addr : Nat) (n : Nat)
  /-- R502: SPI_STATUS. -/
  | spiStatus (t : Nat)
  /-- R511: EVT_STATUS_CLEAR. -/
  | evtStatusClear (t : Nat) (b : Nat) (w : Word)
  /-- R512: EVT_FORCE. -/
  | evtForce (t : Nat) (n : Nat) (port : Nat)
  /-- R511: MSIX_SEND_ENABLE. -/
  | msixSendEnable (t : Nat) (width : Nat) (speed : Nat) (master : Bool) (masks : Nat)
  /-- R500: PCIE_ERROR. -/
  | pcieError (t : Nat) (uncorrectable : Bool)
  /-- R510: ETH_LINK_CHANGE. -/
  | ethLinkChange (t : Nat) (port : Nat) (up : Bool)
  /-- R523: ENV_MEASURE. -/
  | envMeasure (t : Nat) (x : EnvIn)
  /-- R524: THERMAL_TRIP. -/
  | thermalTrip (t : Nat)
  /-- R520: VIN_BROWNOUT. -/
  | vinBrownout (t : Nat)
  /-- R11: REGISTER_WRITE. -/
  | registerWrite (t : Nat) (port : Nat) (addr : Nat) (w : Word) (x : WriteIn)
  /-- R8: LATCHED_LOW_WORD_READ. -/
  | latchedLowWordRead (t : Nat) (addr : Nat)
  /-- R11: READ_CLEAR_REGISTER_READ. -/
  | readClearRegisterRead (t : Nat) (addr : Nat)
  /-- R346: CAN_RX_ERROR. -/
  | canRxError (t : Nat) (c : Nat) (code : Nat) (inc : Nat) (dataPhase : Bool)
  /-- R428: LOAD_TEST_COMPLETE. -/
  | loadTestComplete (t : Nat)
  /-- R102: ACCEPTANCE_VERIFY_COMPLETE. -/
  | acceptanceVerifyComplete (t : Nat)
  /-- R524: THERMAL_TRIP_RELEASE. -/
  | thermalTripRelease (inp : StartIn)
  /-- R471: VAON_RESTORE. -/
  | vaonRestore (inp : StartIn)
  /-- R471: RESET_N_RELEASE. -/
  | resetNRelease (inp : StartIn)
  /-- R464: REF_DISQUALIFY. -/
  | refDisqualify (t : Nat) (ofs : Int)
  /-- R511: PCIE_LINK_LOSS. -/
  | pcieLinkLoss (t : Nat)
deriving DecidableEq, Repr, Inhabited

end Sys2Proof
end

