-- ==== Sys2Proof/Machine/Reg.lean ====
section
/-! DEFINITION. Register fields and the rows of the register table (R8 to R12), and the arithmetic on the bits of a
register word. -/
namespace Sys2Proof.Machine

/-- A field of a register: byte address in BAR0, lowest bit, width. -/
structure Field where
  addr : Nat
  lo : Nat
  width : Nat
deriving DecidableEq, Repr

/-- The access codes of R11. -/
inductive Access where
  | ro | rw | w1c | w1s | wo | rc | rwx | rwo | rws
deriving DecidableEq, Repr

/-- The sources of a reset value (R12). -/
inductive ResetSource where
  | h | f | u | i
deriving DecidableEq, Repr

/-- One field of a register row: place, access code, reset value, number format (0 plain, 1 binary32,
2 the high word of a binary64) and the source of the reset value. -/
structure FieldRow where
  lo : Nat
  width : Nat
  access : Access
  reset : Nat
  format : Nat
  source : ResetSource
deriving DecidableEq, Repr

/-- One dimension of an arrayed register. -/
structure Dim where
  stride : Nat
  count : Nat
deriving DecidableEq, Repr

/-- A register, or an array of registers in at most two dimensions. -/
structure RegRow where
  base : Nat
  d1 : Dim
  d2 : Dim
  fields : List FieldRow
deriving DecidableEq, Repr

/-- The bits `[lo + width - 1 : lo]` of a register word, as a number. -/
def getBits (w : Word) (lo width : Nat) : Nat := (w.extractLsb' lo width).toNat

/-- A word with ones in `[lo + width - 1 : lo]`. -/
def fieldMask (lo width : Nat) : Word := BitVec.ofNat 32 (2 ^ width - 1) <<< lo

/-- Put the low bits of `v` into the bits `[lo + width - 1 : lo]` of a register word. -/
def setBits (w : Word) (lo width v : Nat) : Word :=
  (w &&& ~~~(fieldMask lo width)) ||| (BitVec.ofNat 32 (v % 2 ^ width) <<< lo)

/-- Does the row hold the register at this address? -/
def RegRow.holds (r : RegRow) (a : Nat) : Bool :=
  if a < r.base then false
  else
    let o := a - r.base
    let i := o / r.d1.stride
    let q := o % r.d1.stride
    i < r.d1.count && q % r.d2.stride == 0 && q / r.d2.stride < r.d2.count

/-- The word that the row's fields give at reset (R12). -/
def RegRow.resetWord (r : RegRow) : Word :=
  r.fields.foldl (fun w f => setBits w f.lo f.width f.reset) 0

end Sys2Proof.Machine
end

