-- ==== Sys2Proof/Machine/RegMap.lean ====
section
/-! DEFINITION. The names of the register fields of BAR0 (R31 and the register rules of each block): for every
field its address, its lowest bit and its width. An arrayed register's field takes its index. -/
namespace Sys2Proof.Machine.Reg

/-! SYS block, base 0x0 -/

abbrev SYS_ID.PART : Field := ⟨0x0, 0, 16⟩
abbrev SYS_ID.STEPPING : Field := ⟨0x0, 16, 8⟩
abbrev SYS_SERIAL_LO.SERIAL : Field := ⟨0x4, 0, 32⟩
abbrev SYS_SERIAL_HI.SERIAL : Field := ⟨0x8, 0, 32⟩
abbrev SYS_STHI.ST : Field := ⟨0xc, 0, 32⟩
abbrev SYS_MODE.MODE : Field := ⟨0x10, 0, 3⟩
abbrev SYS_MODE.CHANGING : Field := ⟨0x10, 3, 1⟩
abbrev SYS_MODE.PREV : Field := ⟨0x10, 4, 3⟩
abbrev SYS_MODE.FOLLOW : Field := ⟨0x10, 7, 1⟩
abbrev SYS_MODE.IN_COMMAND : Field := ⟨0x10, 8, 1⟩
abbrev SYS_MODE.RESTRICT : Field := ⟨0x10, 9, 1⟩
abbrev SYS_MODE.COUPLED : Field := ⟨0x10, 10, 1⟩
abbrev SYS_MODE.TRACK_TARGET : Field := ⟨0x10, 11, 1⟩
abbrev SYS_MODE.STARTED : Field := ⟨0x10, 12, 1⟩
abbrev SYS_MODE.CAUSE : Field := ⟨0x10, 16, 4⟩
abbrev SYS_MODE.STATES : Field := ⟨0x10, 20, 12⟩
abbrev SYS_MODEREQ.TARGET : Field := ⟨0x14, 0, 3⟩
abbrev SYS_MODEREQ.COUPLED : Field := ⟨0x14, 4, 1⟩
abbrev SYS_MODEREQ.TRACK_TARGET : Field := ⟨0x14, 5, 1⟩
abbrev SYS_MODEREQ.FOLLOW : Field := ⟨0x14, 6, 1⟩
abbrev SYS_MODEREQ.SEQ : Field := ⟨0x14, 8, 8⟩
abbrev SYS_MODEREQ.REASON : Field := ⟨0x14, 16, 8⟩
abbrev SYS_MODEREQ.ACCEPTED : Field := ⟨0x14, 24, 1⟩
abbrev SYS_MODEREQ.REFUSED : Field := ⟨0x14, 25, 1⟩
abbrev SYS_MODEREQ.GO : Field := ⟨0x14, 31, 1⟩
abbrev SYS_RECOVER.LEVEL : Field := ⟨0x18, 0, 3⟩
abbrev SYS_RECOVER.RUNG : Field := ⟨0x18, 3, 3⟩
abbrev SYS_RECOVER.REFUSED : Field := ⟨0x18, 6, 1⟩
abbrev SYS_RECOVER.CYCLE_FAIL : Field := ⟨0x18, 7, 1⟩
abbrev SYS_RECOVER.BLOCK : Field := ⟨0x18, 8, 8⟩
abbrev SYS_RECOVER.KEY : Field := ⟨0x18, 16, 8⟩
abbrev SYS_RECOVER.ACK : Field := ⟨0x18, 30, 1⟩
abbrev SYS_RECOVER.GO : Field := ⟨0x18, 31, 1⟩
abbrev SYS_EXPERT.UNLOCKED : Field := ⟨0x1c, 0, 1⟩
abbrev SYS_EXPERT.PORT : Field := ⟨0x1c, 1, 1⟩
abbrev SYS_EXPERT.IDLE_LEFT : Field := ⟨0x1c, 16, 16⟩
abbrev SYS_MEMERR.CORR_DDR : Field := ⟨0x30, 0, 16⟩
abbrev SYS_MEMERR.CORR_SRAM : Field := ⟨0x30, 16, 16⟩
abbrev SYS_MEMERR_ADDR.ADDR : Field := ⟨0x34, 0, 32⟩
abbrev SYS_ALARM.WORD (n : Nat) : Field := ⟨0x40 + 0x4 * n, 0, 32⟩
abbrev SYS_ENV_TEMP.CASE : Field := ⟨0x50, 0, 16⟩
abbrev SYS_ENV_TEMP.DIE : Field := ⟨0x50, 16, 16⟩
abbrev SYS_ENV_VIN.VIN : Field := ⟨0x54, 0, 16⟩
abbrev SYS_ENV_VIN.VAON : Field := ⟨0x54, 16, 16⟩
abbrev SYS_ENV_VIO.VIO_A : Field := ⟨0x58, 0, 10⟩
abbrev SYS_ENV_VIO.VIO_B : Field := ⟨0x58, 10, 10⟩
abbrev SYS_ENV_VIO.VIO_C : Field := ⟨0x58, 20, 10⟩
abbrev SYS_ENV_STAT.TEMP_WARN : Field := ⟨0x5c, 0, 1⟩
abbrev SYS_ENV_STAT.TEMP_OOR : Field := ⟨0x5c, 1, 1⟩
abbrev SYS_ENV_STAT.VIN_WARN : Field := ⟨0x5c, 2, 1⟩
abbrev SYS_ENV_STAT.VIN_OOR : Field := ⟨0x5c, 3, 1⟩
abbrev SYS_ENV_STAT.VAON_WARN : Field := ⟨0x5c, 4, 1⟩
abbrev SYS_ENV_STAT.VIO_WARN : Field := ⟨0x5c, 5, 1⟩
abbrev SYS_ENV_STAT.VIO_OOR : Field := ⟨0x5c, 6, 1⟩
abbrev SYS_ENV_STAT.TRIP_LAST : Field := ⟨0x5c, 7, 1⟩
abbrev SYS_ENV_STAT.TEMP_STICKY : Field := ⟨0x5c, 8, 1⟩
abbrev SYS_ENV_STAT.SUPPLY_STICKY : Field := ⟨0x5c, 9, 1⟩

/-! CLK block, base 0x10000 -/

abbrev CLK_STATUS.LOCKED : Field := ⟨0x10000, 0, 1⟩
abbrev CLK_STATUS.HOLD : Field := ⟨0x10000, 1, 1⟩
abbrev CLK_STATUS.REF : Field := ⟨0x10000, 2, 1⟩
abbrev CLK_STATUS.TCXO_OK : Field := ⟨0x10000, 3, 1⟩
abbrev CLK_STATUS.EXT_OK : Field := ⟨0x10000, 4, 1⟩
abbrev CLK_STATUS.UNLOCK_STICKY : Field := ⟨0x10000, 5, 1⟩
abbrev CLK_STATUS.SWITCH_STICKY : Field := ⟨0x10000, 6, 1⟩
abbrev CLK_STATUS.XOVF_STICKY : Field := ⟨0x10000, 7, 1⟩
abbrev CLK_STATUS.START_KIND : Field := ⟨0x10000, 8, 2⟩
abbrev CLK_STATUS.CLEAN : Field := ⟨0x10000, 10, 1⟩
abbrev CLK_DOMAIN.PGOOD : Field := ⟨0x10004, 0, 7⟩
abbrev CLK_REF.EXT_OFS : Field := ⟨0x10008, 0, 16⟩
abbrev CLK_REF.SWITCHES : Field := ⟨0x10008, 16, 8⟩
abbrev CLK_RST_CAUSE.CAUSE : Field := ⟨0x1000c, 0, 3⟩
abbrev CLK_RST_CAUSE.DOMAIN : Field := ⟨0x1000c, 3, 3⟩
abbrev CLK_START.TIME : Field := ⟨0x10010, 0, 14⟩
abbrev CLK_START.CANDIDATES : Field := ⟨0x10010, 16, 2⟩
abbrev CLK_RESET.KEY : Field := ⟨0x10014, 0, 8⟩
abbrev CLK_RESET.GO : Field := ⟨0x10014, 31, 1⟩
abbrev CLK_WAKE_EN.EN : Field := ⟨0x10020, 0, 5⟩
abbrev CLK_WAKE_CAUSE.CAUSE : Field := ⟨0x10024, 0, 5⟩
abbrev CLK_WAKE_TIMER.SECONDS : Field := ⟨0x10028, 0, 32⟩
abbrev CLK_CTRL.FULL_NEXT : Field := ⟨0x10030, 0, 1⟩
abbrev CLK_XOVF_LO.OVF : Field := ⟨0x10040, 0, 32⟩
abbrev CLK_XOVF_HI.OVF : Field := ⟨0x10044, 0, 32⟩
abbrev CLK_XPULSE.COUNT : Field := ⟨0x18000, 8, 6⟩
abbrev CLK_XPULSE.SPACING : Field := ⟨0x18000, 16, 8⟩
abbrev CLK_XPULSE.GO : Field := ⟨0x18000, 31, 1⟩
abbrev CLK_XPULSE_RES.RECEIVED : Field := ⟨0x18004, 0, 16⟩
abbrev CLK_XPULSE_RES.DONE : Field := ⟨0x18004, 16, 1⟩
abbrev CLK_XREF.FORCE_SWITCH : Field := ⟨0x18008, 0, 1⟩

/-! EVT block, base 0x20000 -/

abbrev EVT_STATUS.STATUS (n : Nat) : Field := ⟨0x20000 + 0x4 * n, 0, 32⟩
abbrev EVT_ENABLE.EN (n : Nat) : Field := ⟨0x20010 + 0x4 * n, 0, 32⟩
abbrev EVT_PEND.VEC : Field := ⟨0x20020, 0, 4⟩
abbrev EVT_PEND.PIN : Field := ⟨0x20020, 4, 2⟩
abbrev EVT_LAST.EVENT : Field := ⟨0x20024, 0, 7⟩
abbrev EVT_LAST_TS.TS : Field := ⟨0x20028, 0, 32⟩
abbrev EVT_ROUTE.VEC0 (n : Nat) : Field := ⟨0x20100 + 0x4 * n, 0, 2⟩
abbrev EVT_ROUTE.VEN0 (n : Nat) : Field := ⟨0x20100 + 0x4 * n, 2, 1⟩
abbrev EVT_ROUTE.PIN00 (n : Nat) : Field := ⟨0x20100 + 0x4 * n, 3, 1⟩
abbrev EVT_ROUTE.PIN10 (n : Nat) : Field := ⟨0x20100 + 0x4 * n, 4, 1⟩
abbrev EVT_ROUTE.VEC1 (n : Nat) : Field := ⟨0x20100 + 0x4 * n, 8, 2⟩
abbrev EVT_ROUTE.VEN1 (n : Nat) : Field := ⟨0x20100 + 0x4 * n, 10, 1⟩
abbrev EVT_ROUTE.PIN01 (n : Nat) : Field := ⟨0x20100 + 0x4 * n, 11, 1⟩
abbrev EVT_ROUTE.PIN11 (n : Nat) : Field := ⟨0x20100 + 0x4 * n, 12, 1⟩
abbrev EVT_ROUTE.VEC2 (n : Nat) : Field := ⟨0x20100 + 0x4 * n, 16, 2⟩
abbrev EVT_ROUTE.VEN2 (n : Nat) : Field := ⟨0x20100 + 0x4 * n, 18, 1⟩
abbrev EVT_ROUTE.PIN02 (n : Nat) : Field := ⟨0x20100 + 0x4 * n, 19, 1⟩
abbrev EVT_ROUTE.PIN12 (n : Nat) : Field := ⟨0x20100 + 0x4 * n, 20, 1⟩
abbrev EVT_ROUTE.VEC3 (n : Nat) : Field := ⟨0x20100 + 0x4 * n, 24, 2⟩
abbrev EVT_ROUTE.VEN3 (n : Nat) : Field := ⟨0x20100 + 0x4 * n, 26, 1⟩
abbrev EVT_ROUTE.PIN03 (n : Nat) : Field := ⟨0x20100 + 0x4 * n, 27, 1⟩
abbrev EVT_ROUTE.PIN13 (n : Nat) : Field := ⟨0x20100 + 0x4 * n, 28, 1⟩
abbrev EVT_FORCE.EVENT : Field := ⟨0x28000, 0, 7⟩
abbrev EVT_FORCE.GO : Field := ⟨0x28000, 31, 1⟩

/-! SCHED block, base 0x30000 -/

abbrev SCHED_STATUS.RUNNING : Field := ⟨0x30000, 0, 1⟩
abbrev SCHED_STATUS.CERT_OK : Field := ⟨0x30000, 1, 1⟩
abbrev SCHED_STATUS.COVERED : Field := ⟨0x30000, 2, 1⟩
abbrev SCHED_STATUS.FENCE_STICKY : Field := ⟨0x30000, 3, 1⟩
abbrev SCHED_STATUS.POOL_LOW : Field := ⟨0x30000, 4, 1⟩
abbrev SCHED_STATUS.FORCE_RET : Field := ⟨0x30000, 5, 1⟩
abbrev SCHED_STATUS.AGE_WITHHELD : Field := ⟨0x30000, 6, 1⟩
abbrev SCHED_STATUS.UNCOVER : Field := ⟨0x30000, 16, 5⟩
abbrev SCHED_FRAME.FRAME16 : Field := ⟨0x30004, 0, 16⟩
abbrev SCHED_FRAME.MINOR_IN_MAJOR : Field := ⟨0x30004, 16, 4⟩
abbrev SCHED_FRAME.MAJOR_IN_HYPER : Field := ⟨0x30004, 20, 4⟩
abbrev SCHED_INFLIGHT.COUNT : Field := ⟨0x30008, 0, 9⟩
abbrev SCHED_INFLIGHT.HWM : Field := ⟨0x30008, 16, 9⟩
abbrev SCHED_CTRL.HWM_CLR : Field := ⟨0x3000c, 0, 1⟩
abbrev SCHED_POOL.SIZE : Field := ⟨0x30010, 0, 9⟩
abbrev SCHED_POOL.THRESH : Field := ⟨0x30010, 16, 9⟩
abbrev SCHED_FENCE_LAST.TASK : Field := ⟨0x30014, 0, 10⟩
abbrev SCHED_FENCE_LAST.KIND : Field := ⟨0x30014, 12, 4⟩
abbrev SCHED_FENCE_LAST.RESOURCE : Field := ⟨0x30014, 16, 8⟩
abbrev SCHED_FENCE_TS.TS : Field := ⟨0x30018, 0, 32⟩
abbrev SCHED_FENCE_CNT.COUNT : Field := ⟨0x3001c, 0, 16⟩
abbrev SCHED_FORCERET_CNT.COUNT : Field := ⟨0x30020, 0, 16⟩
abbrev SCHED_CERT_ID.CRC : Field := ⟨0x30024, 0, 32⟩
abbrev SCHED_CERT_SIZE.TASKS : Field := ⟨0x30028, 0, 10⟩
abbrev SCHED_CERT_SIZE.PATHS : Field := ⟨0x30028, 16, 10⟩
abbrev SCHED_JITTER.MAX_REL : Field := ⟨0x3002c, 0, 4⟩
abbrev SCHED_JITTER.MAX_FENCE : Field := ⟨0x3002c, 4, 4⟩
abbrev SCHED_TASK.TASK_CFG.RESOURCE (n : Nat) : Field := ⟨0x30100 + 0x10 * n, 0, 8⟩
abbrev SCHED_TASK.TASK_CFG.PERIOD (n : Nat) : Field := ⟨0x30100 + 0x10 * n, 8, 2⟩
abbrev SCHED_TASK.TASK_CFG.ANYTIME (n : Nat) : Field := ⟨0x30100 + 0x10 * n, 10, 1⟩
abbrev SCHED_TASK.TASK_CFG.SUBST (n : Nat) : Field := ⟨0x30100 + 0x10 * n, 11, 2⟩
abbrev SCHED_TASK.TASK_RELEASE.OFFSET (n : Nat) : Field := ⟨0x30104 + 0x10 * n, 0, 27⟩
abbrev SCHED_TASK.TASK_FENCE.OFFSET (n : Nat) : Field := ⟨0x30108 + 0x10 * n, 0, 27⟩
abbrev SCHED_TASK.TASK_OBS.MAX_USE (n : Nat) : Field := ⟨0x3010c + 0x10 * n, 0, 16⟩
abbrev SCHED_TASK.TASK_OBS.FENCE_HITS (n : Nat) : Field := ⟨0x3010c + 0x10 * n, 16, 16⟩
abbrev SCHED_XOVR.TASK : Field := ⟨0x38000, 0, 10⟩
abbrev SCHED_XOVR.ITER_CAP : Field := ⟨0x38000, 12, 12⟩
abbrev SCHED_XOVR.EN : Field := ⟨0x38000, 31, 1⟩
abbrev SCHED_XINJ.TASK : Field := ⟨0x38004, 0, 10⟩
abbrev SCHED_XINJ.GO : Field := ⟨0x38004, 31, 1⟩

/-! IMG block, base 0x40000 -/

abbrev IMG_STATUS.BOOTED : Field := ⟨0x40000, 0, 3⟩
abbrev IMG_STATUS.FALLBACK : Field := ⟨0x40000, 3, 1⟩
abbrev IMG_STATUS.UNTESTED : Field := ⟨0x40000, 4, 1⟩
abbrev IMG_STATUS.ACC_USED : Field := ⟨0x40000, 5, 1⟩
abbrev IMG_STATUS.HALT : Field := ⟨0x40000, 6, 1⟩
abbrev IMG_STATUS.E7_KIND : Field := ⟨0x40000, 8, 3⟩
abbrev IMG_STATUS.OVL_STATE : Field := ⟨0x40000, 12, 3⟩
abbrev IMG_STATUS.UNTESTED_PAIRS : Field := ⟨0x40000, 16, 6⟩
abbrev IMG_ACTIVE.ACTIVE : Field := ⟨0x40004, 0, 3⟩
abbrev IMG_ACTIVE.KG : Field := ⟨0x40004, 4, 3⟩
abbrev IMG_DIR_SEQ.SEQ : Field := ⟨0x40008, 0, 32⟩
abbrev IMG_RACK.TARGET : Field := ⟨0x40010, 0, 3⟩
abbrev IMG_RACK.SRC : Field := ⟨0x40010, 4, 3⟩
abbrev IMG_RACK.ACTIVATE : Field := ⟨0x40010, 8, 1⟩
abbrev IMG_RACK.GO : Field := ⟨0x40010, 31, 1⟩
abbrev IMG_RACK_RES.BUSY : Field := ⟨0x40014, 0, 1⟩
abbrev IMG_RACK_RES.STEP : Field := ⟨0x40014, 1, 3⟩
abbrev IMG_RACK_RES.RESULT : Field := ⟨0x40014, 8, 8⟩
abbrev IMG_ACC_CTRL.SUBMIT : Field := ⟨0x40020, 0, 1⟩
abbrev IMG_ACC_RES.RESULT : Field := ⟨0x40024, 0, 8⟩
abbrev IMG_ACC_RES.COUNT : Field := ⟨0x40024, 8, 8⟩
abbrev IMG_SLOT.SLOT.STATE (n : Nat) : Field := ⟨0x40100 + 0x20 * n, 0, 3⟩
abbrev IMG_SLOT.SLOT.ACC (n : Nat) : Field := ⟨0x40100 + 0x20 * n, 3, 1⟩
abbrev IMG_SLOT.SI.VIN_SI (n : Nat) : Field := ⟨0x40104 + 0x20 * n, 0, 32⟩
abbrev IMG_SLOT.AF.VIN_AF (n : Nat) : Field := ⟨0x40108 + 0x20 * n, 0, 32⟩
abbrev IMG_SLOT.SF.VIN_SF (n : Nat) : Field := ⟨0x4010c + 0x20 * n, 0, 32⟩
abbrev IMG_SLOT.GF.VIN_GF (n : Nat) : Field := ⟨0x40110 + 0x20 * n, 0, 32⟩
abbrev IMG_SLOT.DIGEST.DIGEST_LO (n : Nat) : Field := ⟨0x40114 + 0x20 * n, 0, 32⟩
abbrev IMG_SLOT.RACK_DT.RACK_DT (n : Nat) : Field := ⟨0x40118 + 0x20 * n, 0, 32⟩
abbrev IMG_ACCKEY_DATA.KEY (n : Nat) : Field := ⟨0x48000 + 0x4 * n, 0, 32⟩
abbrev IMG_ACCKEY_CTRL.SLOT : Field := ⟨0x48020, 0, 2⟩
abbrev IMG_ACCKEY_CTRL.ENROL : Field := ⟨0x48020, 2, 1⟩
abbrev IMG_ACCKEY_CTRL.REVOKE : Field := ⟨0x48020, 3, 1⟩
abbrev IMG_ACCKEY_CTRL.ENROLLED : Field := ⟨0x48020, 4, 4⟩
abbrev IMG_ACCKEY_CTRL.REVOKED : Field := ⟨0x48020, 8, 4⟩

/-! CHK block, base 0x50000 -/

abbrev CHK_STATUS.BREAK_STICKY : Field := ⟨0x50000, 0, 1⟩
abbrev CHK_STATUS.ALIVE_STICKY : Field := ⟨0x50000, 1, 1⟩
abbrev CHK_STATUS.SCAN_MISMATCH : Field := ⟨0x50000, 2, 1⟩
abbrev CHK_STATUS.BG_MISMATCH : Field := ⟨0x50000, 3, 1⟩
abbrev CHK_STATUS.SCAN_BUSY : Field := ⟨0x50000, 4, 1⟩
abbrev CHK_BREAK_OP.OPID : Field := ⟨0x50004, 0, 8⟩
abbrev CHK_BREAK_OP.SOURCE : Field := ⟨0x50004, 8, 8⟩
abbrev CHK_BREAK_OP.KIND : Field := ⟨0x50004, 16, 8⟩
abbrev CHK_BREAK_OP.STAGE : Field := ⟨0x50004, 24, 4⟩
abbrev CHK_BREAK_LOC.RESOURCE : Field := ⟨0x50008, 0, 8⟩
abbrev CHK_BREAK_LOC.TASK : Field := ⟨0x50008, 8, 10⟩
abbrev CHK_BREAK_TS.TS : Field := ⟨0x5000c, 0, 32⟩
abbrev CHK_BREAK_EXP.CHECK : Field := ⟨0x50010, 0, 32⟩
abbrev CHK_BREAK_CALC.CHECK : Field := ⟨0x50014, 0, 32⟩
abbrev CHK_BREAK_PLOG.CHECK : Field := ⟨0x50018, 0, 32⟩
abbrev CHK_BREAK_PLIN.LINEAGE : Field := ⟨0x5001c, 0, 32⟩
abbrev CHK_BREAK_CNT.COUNT : Field := ⟨0x50020, 0, 16⟩
abbrev CHK_ALIVE_LAST.SOURCE : Field := ⟨0x50024, 0, 8⟩
abbrev CHK_ALIVE_LAST.KIND : Field := ⟨0x50024, 8, 8⟩
abbrev CHK_ALIVE_LAST.TYPE : Field := ⟨0x50024, 16, 2⟩
abbrev CHK_ALIVE_CNT.COUNT : Field := ⟨0x50028, 0, 16⟩
abbrev CHK_BG_FAIL.TABLE : Field := ⟨0x5002c, 0, 8⟩
abbrev CHK_SCAN_CTRL.UNIT : Field := ⟨0x50040, 0, 2⟩
abbrev CHK_SCAN_CTRL.SPACE : Field := ⟨0x50040, 2, 2⟩
abbrev CHK_SCAN_CTRL.GO : Field := ⟨0x50040, 31, 1⟩
abbrev CHK_SCAN_START.ADDR : Field := ⟨0x50044, 0, 32⟩
abbrev CHK_SCAN_LEN.LEN : Field := ⟨0x50048, 0, 29⟩
abbrev CHK_SCAN_STRIDE.STRIDE : Field := ⟨0x5004c, 0, 24⟩
abbrev CHK_SCAN_EXPECT.EXPECT : Field := ⟨0x50050, 0, 32⟩
abbrev CHK_SCAN_RES.RESULT : Field := ⟨0x50054, 0, 2⟩
abbrev CHK_SCAN_VALUE.VALUE : Field := ⟨0x50058, 0, 32⟩
abbrev CHK_PROG_CFG.WIDTH : Field := ⟨0x50060, 0, 6⟩
abbrev CHK_PROG_CFG.REFIN : Field := ⟨0x50060, 6, 1⟩
abbrev CHK_PROG_CFG.REFOUT : Field := ⟨0x50060, 7, 1⟩
abbrev CHK_PROG_POLY.POLY : Field := ⟨0x50064, 0, 32⟩
abbrev CHK_PROG_INIT.INIT : Field := ⟨0x50068, 0, 32⟩
abbrev CHK_PROG_XOR.XOROUT : Field := ⟨0x5006c, 0, 32⟩
abbrev CHK_LIN_SEL.RESOURCE : Field := ⟨0x58000, 0, 8⟩
abbrev CHK_LIN_SEL.OPID : Field := ⟨0x58000, 8, 8⟩
abbrev CHK_LIN_SEL.NTH : Field := ⟨0x58000, 16, 8⟩
abbrev CHK_LIN_SEL.GO : Field := ⟨0x58000, 31, 1⟩
abbrev CHK_LIN_RES.FOUND : Field := ⟨0x58004, 0, 1⟩
abbrev CHK_LIN_OUT.CHECK : Field := ⟨0x58008, 0, 32⟩
abbrev CHK_LIN_WORD.LINEAGE : Field := ⟨0x5800c, 0, 32⟩
abbrev CHK_LIN_TS.TS : Field := ⟨0x58010, 0, 32⟩

/-! ENTRY block, base 0x60000 -/

abbrev ENTRY_STATUS.CHK_STICKY : Field := ⟨0x60000, 0, 1⟩
abbrev ENTRY_STATUS.OVF_STICKY : Field := ⟨0x60000, 1, 1⟩
abbrev ENTRY_STATUS.RATE_STICKY : Field := ⟨0x60000, 2, 1⟩
abbrev ENTRY_STATUS.TIMEOUT_ANY : Field := ⟨0x60000, 3, 1⟩
abbrev ENTRY_PORT.PORT_CFG.BAUD (n : Nat) : Field := ⟨0x60100 + 0x20 * n, 0, 4⟩
abbrev ENTRY_PORT.PORT_CFG.MODE (n : Nat) : Field := ⟨0x60100 + 0x20 * n, 4, 2⟩
abbrev ENTRY_PORT.PORT_CFG.PARITY (n : Nat) : Field := ⟨0x60100 + 0x20 * n, 6, 2⟩
abbrev ENTRY_PORT.PORT_CFG.STOP2 (n : Nat) : Field := ⟨0x60100 + 0x20 * n, 8, 1⟩
abbrev ENTRY_PORT.PORT_CFG.ENTRIES (n : Nat) : Field := ⟨0x60100 + 0x20 * n, 9, 6⟩
abbrev ENTRY_PORT.PORT_LAT.LAT (n : Nat) : Field := ⟨0x60104 + 0x20 * n, 0, 32⟩
abbrev ENTRY_PORT.PORT_OK.COUNT (n : Nat) : Field := ⟨0x60108 + 0x20 * n, 0, 32⟩
abbrev ENTRY_PORT.PORT_ERR.CHK (n : Nat) : Field := ⟨0x6010c + 0x20 * n, 0, 8⟩
abbrev ENTRY_PORT.PORT_ERR.FRAMING (n : Nat) : Field := ⟨0x6010c + 0x20 * n, 8, 8⟩
abbrev ENTRY_PORT.PORT_ERR.FORMAT (n : Nat) : Field := ⟨0x6010c + 0x20 * n, 16, 8⟩
abbrev ENTRY_PORT.PORT_ERR.UNMATCHED (n : Nat) : Field := ⟨0x6010c + 0x20 * n, 24, 8⟩
abbrev ENTRY_PORT.PORT_DROP.OVERFLOW (n : Nat) : Field := ⟨0x60110 + 0x20 * n, 0, 8⟩
abbrev ENTRY_PORT.PORT_DROP.RATE (n : Nat) : Field := ⟨0x60110 + 0x20 * n, 8, 8⟩
abbrev ENTRY_PORT.PORT_FILL.LEVEL (n : Nat) : Field := ⟨0x60114 + 0x20 * n, 0, 13⟩
abbrev ENTRY_PORT.PORT_FILL.HWM (n : Nat) : Field := ⟨0x60114 + 0x20 * n, 16, 13⟩
abbrev ENTRY_PORT.PORT_LAST_TS.TS (n : Nat) : Field := ⟨0x60118 + 0x20 * n, 0, 32⟩
abbrev ENTRY_NET_OK.COUNT : Field := ⟨0x60300, 0, 32⟩
abbrev ENTRY_NET_ERR.CHK : Field := ⟨0x60304, 0, 8⟩
abbrev ENTRY_NET_ERR.SIZE : Field := ⟨0x60304, 8, 8⟩
abbrev ENTRY_NET_ERR.RATE : Field := ⟨0x60304, 16, 8⟩
abbrev ENTRY_NET_ERR.UNMATCHED : Field := ⟨0x60304, 24, 8⟩
abbrev ENTRY_CAN_OK.COUNT : Field := ⟨0x60308, 0, 32⟩
abbrev ENTRY_CAN_ERR.ALIVE : Field := ⟨0x6030c, 0, 8⟩
abbrev ENTRY_CAN_ERR.RATE : Field := ⟨0x6030c, 8, 8⟩
abbrev ENTRY_SLOT.SLOT_STAT.TIMED_OUT (n : Nat) : Field := ⟨0x60400 + 0x10 * n, 0, 1⟩
abbrev ENTRY_SLOT.SLOT_STAT.CONFIGURED (n : Nat) : Field := ⟨0x60400 + 0x10 * n, 1, 1⟩
abbrev ENTRY_SLOT.SLOT_STAT.SOURCE (n : Nat) : Field := ⟨0x60400 + 0x10 * n, 8, 8⟩
abbrev ENTRY_SLOT.SLOT_STAT.TIMEOUTS (n : Nat) : Field := ⟨0x60400 + 0x10 * n, 16, 16⟩
abbrev ENTRY_SLOT.SLOT_SEAL.TS (n : Nat) : Field := ⟨0x60404 + 0x10 * n, 0, 32⟩
abbrev ENTRY_SLOT.SLOT_TOV.TS (n : Nat) : Field := ⟨0x60408 + 0x10 * n, 0, 32⟩
abbrev ENTRY_SLOT.SLOT_LAT.LAT (n : Nat) : Field := ⟨0x6040c + 0x10 * n, 0, 32⟩

/-! AFE block, base 0x70000 -/

abbrev AFE_STATUS.SAT_STICKY : Field := ⟨0x70000, 0, 1⟩
abbrev AFE_STATUS.SLIP_STICKY : Field := ⟨0x70000, 1, 1⟩
abbrev AFE_STATUS.WIRE_STICKY : Field := ⟨0x70000, 2, 1⟩
abbrev AFE_GD.GD (n : Nat) : Field := ⟨0x70040 + 0x4 * n, 0, 32⟩
abbrev AFE_CH.CH_CFG.EN (n : Nat) : Field := ⟨0x70100 + 0x40 * n, 0, 1⟩
abbrev AFE_CH.CH_CFG.MODE (n : Nat) : Field := ⟨0x70100 + 0x40 * n, 1, 1⟩
abbrev AFE_CH.CH_CFG.RS_DIV (n : Nat) : Field := ⟨0x70100 + 0x40 * n, 4, 10⟩
abbrev AFE_CH.CH_CFG.FIR_DEC (n : Nat) : Field := ⟨0x70100 + 0x40 * n, 14, 6⟩
abbrev AFE_CH.CH_CFG.FIR_TAPS (n : Nat) : Field := ⟨0x70100 + 0x40 * n, 20, 9⟩
abbrev AFE_CH.CH_CFG.FIR_SYM (n : Nat) : Field := ⟨0x70100 + 0x40 * n, 29, 1⟩
abbrev AFE_CH.CH_SHIFT.SH (n : Nat) : Field := ⟨0x70104 + 0x40 * n, 0, 25⟩
abbrev AFE_CH.CH_LAST.VALUE (n : Nat) : Field := ⟨0x70108 + 0x40 * n, 0, 24⟩
abbrev AFE_CH.CH_LAST_TOV.TS (n : Nat) : Field := ⟨0x7010c + 0x40 * n, 0, 32⟩
abbrev AFE_CH.CH_CNT.SAT (n : Nat) : Field := ⟨0x70110 + 0x40 * n, 0, 8⟩
abbrev AFE_CH.CH_CNT.SLIP (n : Nat) : Field := ⟨0x70110 + 0x40 * n, 8, 8⟩
abbrev AFE_CH.CH_CNT.WIRE (n : Nat) : Field := ⟨0x70110 + 0x40 * n, 16, 8⟩
abbrev AFE_CH.CH_STAT.SETTLING (n : Nat) : Field := ⟨0x70114 + 0x40 * n, 0, 1⟩
abbrev AFE_CH.CH_STAT.SAT_STAGE (n : Nat) : Field := ⟨0x70114 + 0x40 * n, 1, 5⟩
abbrev AFE_PULSE.PCFG.EN (n : Nat) : Field := ⟨0x70600 + 0x10 * n, 0, 1⟩
abbrev AFE_PULSE.PCFG.EDGE (n : Nat) : Field := ⟨0x70600 + 0x10 * n, 1, 1⟩
abbrev AFE_PULSE.PCFG.FILT (n : Nat) : Field := ⟨0x70600 + 0x10 * n, 8, 6⟩
abbrev AFE_PULSE.PCOUNT.COUNT (n : Nat) : Field := ⟨0x70604 + 0x10 * n, 0, 32⟩
abbrev AFE_PULSE.PLAST.TS (n : Nat) : Field := ⟨0x70608 + 0x10 * n, 0, 32⟩
abbrev AFE_PULSE.PWIN.EDGES (n : Nat) : Field := ⟨0x7060c + 0x10 * n, 0, 16⟩
abbrev AFE_FIR.COEF (n : Nat) : Field := ⟨0x71000 + 0x4 * n, 0, 24⟩

/-! GNSS block, base 0x80000 -/

abbrev GNSS_STATUS.RUNNING : Field := ⟨0x80000, 0, 1⟩
abbrev GNSS_STATUS.FIX : Field := ⟨0x80000, 1, 3⟩
abbrev GNSS_STATUS.FIX_STICKY : Field := ⟨0x80000, 4, 1⟩
abbrev GNSS_STATUS.INTEG : Field := ⟨0x80000, 5, 2⟩
abbrev GNSS_STATUS.JAM : Field := ⟨0x80000, 7, 1⟩
abbrev GNSS_STATUS.TIME_OK : Field := ⟨0x80000, 8, 1⟩
abbrev GNSS_STATUS.BURST : Field := ⟨0x80000, 9, 1⟩
abbrev GNSS_STATUS.EPOCH_DROP_STICKY : Field := ⟨0x80000, 10, 1⟩
abbrev GNSS_FIX.NSAT : Field := ⟨0x80004, 0, 8⟩
abbrev GNSS_FIX.NSIG : Field := ⟨0x80004, 8, 8⟩
abbrev GNSS_FIX.ANT : Field := ⟨0x80004, 16, 1⟩
abbrev GNSS_FIX.CORR_AGE : Field := ⟨0x80004, 24, 8⟩
abbrev GNSS_ANT.BIAS (n : Nat) : Field := ⟨0x80010 + 0x4 * n, 0, 2⟩
abbrev GNSS_ANT.STATE (n : Nat) : Field := ⟨0x80010 + 0x4 * n, 2, 2⟩
abbrev GNSS_ANT.CURRENT (n : Nat) : Field := ⟨0x80010 + 0x4 * n, 8, 8⟩
abbrev GNSS_ANT.RETRIES (n : Nat) : Field := ⟨0x80010 + 0x4 * n, 16, 8⟩
abbrev GNSS_INTEG.FAIL : Field := ⟨0x80018, 0, 4⟩
abbrev GNSS_INTEG.EVAL : Field := ⟨0x80018, 4, 4⟩
abbrev GNSS_INTEG.JAM_L1 : Field := ⟨0x80018, 16, 8⟩
abbrev GNSS_INTEG.JAM_L5 : Field := ⟨0x80018, 24, 8⟩
abbrev GNSS_HDG_STAT.VALID : Field := ⟨0x80020, 0, 1⟩
abbrev GNSS_HDG_STAT.CAUSE : Field := ⟨0x80020, 1, 3⟩
abbrev GNSS_HDG_STAT.NSAT : Field := ⟨0x80020, 8, 8⟩
abbrev GNSS_HDG_STAT.LEN : Field := ⟨0x80020, 16, 16⟩
abbrev GNSS_HDG_AZ.AZ : Field := ⟨0x80024, 0, 32⟩
abbrev GNSS_HDG_EL.EL : Field := ⟨0x80028, 0, 32⟩
abbrev GNSS_EPOCH.TOV : Field := ⟨0x80030, 0, 32⟩
abbrev GNSS_LAT.MAX : Field := ⟨0x80034, 0, 11⟩
abbrev GNSS_LAT.DROPS : Field := ⟨0x80034, 16, 16⟩
abbrev GNSS_CORR_CFG.SRC : Field := ⟨0x80040, 0, 5⟩
abbrev GNSS_CORR_CFG.UDP_PORT : Field := ⟨0x80040, 16, 16⟩
abbrev GNSS_CORR_STAT.CRC : Field := ⟨0x80044, 0, 8⟩
abbrev GNSS_CORR_STAT.UNSUPPORTED : Field := ⟨0x80044, 8, 8⟩
abbrev GNSS_CORR_STAT.FRAMES : Field := ⟨0x80044, 16, 16⟩
abbrev GNSS_CORR_FIFO.BYTES : Field := ⟨0x80048, 0, 32⟩
abbrev GNSS_CTRL.SPOOF_ACK : Field := ⟨0x80050, 0, 1⟩
abbrev GNSS_CTRL.ANT_RETRY : Field := ⟨0x80050, 1, 1⟩
abbrev GNSS_CTRL.COLD_RESTART : Field := ⟨0x80050, 2, 1⟩
abbrev GNSS_CH.CH_STAT.SV (n : Nat) : Field := ⟨0x81000 + 0x10 * n, 0, 8⟩
abbrev GNSS_CH.CH_STAT.SYSTEM (n : Nat) : Field := ⟨0x81000 + 0x10 * n, 8, 3⟩
abbrev GNSS_CH.CH_STAT.SIGNAL (n : Nat) : Field := ⟨0x81000 + 0x10 * n, 12, 4⟩
abbrev GNSS_CH.CH_STAT.STATE (n : Nat) : Field := ⟨0x81000 + 0x10 * n, 16, 2⟩
abbrev GNSS_CH.CH_STAT.CN0 (n : Nat) : Field := ⟨0x81000 + 0x10 * n, 24, 8⟩
abbrev GNSS_CH.CH_DOP.DOPPLER (n : Nat) : Field := ⟨0x81004 + 0x10 * n, 0, 32⟩
abbrev GNSS_CH.CH_LOCK.LOCK (n : Nat) : Field := ⟨0x81008 + 0x10 * n, 0, 32⟩
abbrev GNSS_XSIG.DISABLE : Field := ⟨0x88000, 0, 12⟩
abbrev GNSS_XTEST.INHIBIT : Field := ⟨0x88004, 0, 4⟩

/-! TIME block, base 0x90000 -/

abbrev TIME_STATUS.DT_VALID : Field := ⟨0x90000, 0, 1⟩
abbrev TIME_STATUS.HOLDOVER : Field := ⟨0x90000, 1, 1⟩
abbrev TIME_STATUS.SLEWING : Field := ⟨0x90000, 2, 1⟩
abbrev TIME_STATUS.STEP_PEND : Field := ⟨0x90000, 3, 1⟩
abbrev TIME_STATUS.SRC : Field := ⟨0x90000, 4, 2⟩
abbrev TIME_STATUS.STEP_STICKY : Field := ⟨0x90000, 6, 1⟩
abbrev TIME_STATUS.STEER : Field := ⟨0x90000, 16, 16⟩
abbrev TIME_ST_LO.ST : Field := ⟨0x90008, 0, 32⟩
abbrev TIME_ST_HI.ST : Field := ⟨0x9000c, 0, 32⟩
abbrev TIME_DT_NS.NS : Field := ⟨0x90010, 0, 30⟩
abbrev TIME_DT_NS.FRAC : Field := ⟨0x90010, 30, 2⟩
abbrev TIME_DT_SEC_LO.SEC : Field := ⟨0x90014, 0, 32⟩
abbrev TIME_DT_SEC_HI.SEC : Field := ⟨0x90018, 0, 16⟩
abbrev TIME_UNC.UNC : Field := ⟨0x9001c, 0, 32⟩
abbrev TIME_LEAP.OFFSET : Field := ⟨0x90020, 0, 16⟩
abbrev TIME_LEAP.VALID : Field := ⟨0x90020, 16, 1⟩
abbrev TIME_LEAP.PENDING : Field := ⟨0x90020, 17, 2⟩
abbrev TIME_LEAP_AT.AT : Field := ⟨0x90024, 0, 32⟩
abbrev TIME_SLEW.RESID : Field := ⟨0x90028, 0, 32⟩
abbrev TIME_PPS_TS.TS : Field := ⟨0x9002c, 0, 32⟩
abbrev TIME_CTRL.SET : Field := ⟨0x90030, 0, 1⟩
abbrev TIME_SET_SEC.SEC : Field := ⟨0x90034, 0, 32⟩
abbrev TIME_SET_NS.NS : Field := ⟨0x90038, 0, 30⟩
abbrev TIME_DOM.DOM_STAT.DOMAIN (n : Nat) : Field := ⟨0x90040 + 0x10 * n, 0, 8⟩
abbrev TIME_DOM.DOM_STAT.STATE (n : Nat) : Field := ⟨0x90040 + 0x10 * n, 8, 2⟩
abbrev TIME_DOM.DOM_STAT.PORT (n : Nat) : Field := ⟨0x90040 + 0x10 * n, 10, 2⟩
abbrev TIME_DOM.DOM_STAT.GM_CHG (n : Nat) : Field := ⟨0x90040 + 0x10 * n, 16, 16⟩
abbrev TIME_DOM.DOM_OFFSET.DELTA (n : Nat) : Field := ⟨0x90044 + 0x10 * n, 0, 32⟩
abbrev TIME_DOM.DOM_SIGMA.SIGMA (n : Nat) : Field := ⟨0x90048 + 0x10 * n, 0, 32⟩

/-! FUS block, base 0xa0000 -/

abbrev FUS_STATUS.INIT : Field := ⟨0xa0000, 0, 1⟩
abbrev FUS_STATUS.CONVERGED : Field := ⟨0xa0000, 1, 1⟩
abbrev FUS_STATUS.DR : Field := ⟨0xa0000, 2, 1⟩
abbrev FUS_STATUS.HDG_DR : Field := ⟨0xa0000, 3, 1⟩
abbrev FUS_STATUS.DR_EXPIRED : Field := ⟨0xa0000, 4, 1⟩
abbrev FUS_STATUS.REF_LOW : Field := ⟨0xa0000, 5, 1⟩
abbrev FUS_STATUS.ATT_DEG : Field := ⟨0xa0000, 6, 1⟩
abbrev FUS_STATUS.N_POS_ADM : Field := ⟨0xa0000, 8, 5⟩
abbrev FUS_STATUS.N_HDG_ADM : Field := ⟨0xa0000, 13, 3⟩
abbrev FUS_STATUS.REJ_STICKY : Field := ⟨0xa0000, 16, 1⟩
abbrev FUS_STATUS.READMIT_STICKY : Field := ⟨0xa0000, 17, 1⟩
abbrev FUS_STATUS.DISAGREE_STICKY : Field := ⟨0xa0000, 18, 1⟩
abbrev FUS_STATUS.LATE_DROP_STICKY : Field := ⟨0xa0000, 19, 1⟩
abbrev FUS_STATUS.LOST_STICKY : Field := ⟨0xa0000, 20, 1⟩
abbrev FUS_STATUS.CARRY_STICKY : Field := ⟨0xa0000, 21, 1⟩
abbrev FUS_DR.POS_TIME : Field := ⟨0xa0004, 0, 16⟩
abbrev FUS_DR.HDG_TIME : Field := ⟨0xa0004, 16, 16⟩
abbrev FUS_OOSM.INCORP : Field := ⟨0xa0008, 0, 16⟩
abbrev FUS_OOSM.DROPPED : Field := ⟨0xa0008, 16, 16⟩
abbrev FUS_OOSM_LAST.TOV : Field := ⟨0xa000c, 0, 32⟩
abbrev FUS_OOSM_INFO.SLOT : Field := ⟨0xa0010, 0, 8⟩
abbrev FUS_OOSM_INFO.DROPPED : Field := ⟨0xa0010, 8, 1⟩
abbrev FUS_OOSM_INFO.DEFERRED : Field := ⟨0xa0010, 16, 16⟩
abbrev FUS_CAP.LAG_MAX : Field := ⟨0xa0014, 0, 10⟩
abbrev FUS_CAP.OOSM_MAX : Field := ⟨0xa0014, 16, 8⟩
abbrev FUS_CAP.N_OBJ : Field := ⟨0xa0014, 24, 4⟩
abbrev FUS_EST_TOV.TOV : Field := ⟨0xa0020, 0, 32⟩
abbrev FUS_EST_N_LO.N : Field := ⟨0xa0024, 0, 32⟩
abbrev FUS_EST_N_HI.N : Field := ⟨0xa0028, 0, 32⟩
abbrev FUS_EST_E_LO.E : Field := ⟨0xa002c, 0, 32⟩
abbrev FUS_EST_E_HI.E : Field := ⟨0xa0030, 0, 32⟩
abbrev FUS_EST_HDG.HDG : Field := ⟨0xa0034, 0, 32⟩
abbrev FUS_EST_SIGP.SIGP : Field := ⟨0xa0038, 0, 32⟩
abbrev FUS_EST_SIGH.SIGH : Field := ⟨0xa003c, 0, 32⟩
abbrev FUS_ORIGIN_LAT_LO.LAT : Field := ⟨0xa0040, 0, 32⟩
abbrev FUS_ORIGIN_LAT_HI.LAT : Field := ⟨0xa0044, 0, 32⟩
abbrev FUS_ORIGIN_LON_LO.LON : Field := ⟨0xa0048, 0, 32⟩
abbrev FUS_ORIGIN_LON_HI.LON : Field := ⟨0xa004c, 0, 32⟩
abbrev FUS_ORIGIN_H.H : Field := ⟨0xa0050, 0, 32⟩
abbrev FUS_CTRL.ORIGIN_SET : Field := ⟨0xa0054, 0, 1⟩
abbrev FUS_CTRL.FILTER_RESET : Field := ⟨0xa0054, 1, 1⟩
abbrev FUS_CTRL_RES.RESULT : Field := ⟨0xa0058, 0, 8⟩
abbrev FUS_CTRL_RES.ORIGIN_VALID : Field := ⟨0xa0058, 8, 1⟩
abbrev FUS_REF.REF_STAT.STATE (n : Nat) : Field := ⟨0xa0100 + 0x20 * n, 0, 3⟩
abbrev FUS_REF.REF_STAT.USED (n : Nat) : Field := ⟨0xa0100 + 0x20 * n, 3, 1⟩
abbrev FUS_REF.REF_STAT.CAUSE (n : Nat) : Field := ⟨0xa0100 + 0x20 * n, 4, 4⟩
abbrev FUS_REF.REF_STAT.FAILS (n : Nat) : Field := ⟨0xa0100 + 0x20 * n, 8, 8⟩
abbrev FUS_REF.REF_STAT.REJECTS (n : Nat) : Field := ⟨0xa0100 + 0x20 * n, 16, 16⟩
abbrev FUS_REF.REF_INNOV_N.INNOV (n : Nat) : Field := ⟨0xa0104 + 0x20 * n, 0, 32⟩
abbrev FUS_REF.REF_INNOV_E.INNOV (n : Nat) : Field := ⟨0xa0108 + 0x20 * n, 0, 32⟩
abbrev FUS_REF.REF_NIS.NIS (n : Nat) : Field := ⟨0xa010c + 0x20 * n, 0, 32⟩
abbrev FUS_REF.REF_SIGMA.SIGMA (n : Nat) : Field := ⟨0xa0110 + 0x20 * n, 0, 32⟩
abbrev FUS_REF.REF_TOV.TS (n : Nat) : Field := ⟨0xa0114 + 0x20 * n, 0, 32⟩
abbrev FUS_REF.REF_CTRL.DESELECT (n : Nat) : Field := ⟨0xa0118 + 0x20 * n, 0, 1⟩
abbrev FUS_REF.REF_CTRL.ANCHOR_SET (n : Nat) : Field := ⟨0xa0118 + 0x20 * n, 1, 1⟩
abbrev FUS_XFORM.XF_CFG.SLOT (n : Nat) : Field := ⟨0xa0800 + 0x20 * n, 0, 6⟩
abbrev FUS_XFORM.XF_CFG.ANT (n : Nat) : Field := ⟨0xa0800 + 0x20 * n, 6, 2⟩
abbrev FUS_XFORM.XF_CFG.TYPE (n : Nat) : Field := ⟨0xa0800 + 0x20 * n, 8, 3⟩
abbrev FUS_XFORM.XF_CFG.OBJ_EN (n : Nat) : Field := ⟨0xa0800 + 0x20 * n, 11, 1⟩
abbrev FUS_XFORM.XF_CFG.OBJ (n : Nat) : Field := ⟨0xa0800 + 0x20 * n, 12, 3⟩
abbrev FUS_XFORM.XF_CFG.ANCHOR (n : Nat) : Field := ⟨0xa0800 + 0x20 * n, 16, 3⟩
abbrev FUS_XFORM.XF_CFG.VALID (n : Nat) : Field := ⟨0xa0800 + 0x20 * n, 31, 1⟩
abbrev FUS_XFORM.X.X (n : Nat) : Field := ⟨0xa0804 + 0x20 * n, 0, 32⟩
abbrev FUS_XFORM.Y.Y (n : Nat) : Field := ⟨0xa0808 + 0x20 * n, 0, 32⟩
abbrev FUS_XFORM.Z.Z (n : Nat) : Field := ⟨0xa080c + 0x20 * n, 0, 32⟩
abbrev FUS_XFORM.ROLL.ROLL (n : Nat) : Field := ⟨0xa0810 + 0x20 * n, 0, 32⟩
abbrev FUS_XFORM.PITCH.PITCH (n : Nat) : Field := ⟨0xa0814 + 0x20 * n, 0, 32⟩
abbrev FUS_XFORM.YAW.YAW (n : Nat) : Field := ⟨0xa0818 + 0x20 * n, 0, 32⟩
abbrev FUS_XFORM.TOFF.TOFF (n : Nat) : Field := ⟨0xa081c + 0x20 * n, 0, 32⟩
abbrev FUS_ANCHOR.N.N (n : Nat) : Field := ⟨0xa0c00 + 0x10 * n, 0, 32⟩
abbrev FUS_ANCHOR.E.E (n : Nat) : Field := ⟨0xa0c04 + 0x10 * n, 0, 32⟩
abbrev FUS_ANCHOR.D.D (n : Nat) : Field := ⟨0xa0c08 + 0x10 * n, 0, 32⟩
abbrev FUS_ANCHOR.VALID.VALID (n : Nat) : Field := ⟨0xa0c0c + 0x10 * n, 0, 1⟩
abbrev FUS_OBJ.OBJ.STATE (n : Nat) : Field := ⟨0xa0d00 + 0x20 * n, 0, 3⟩
abbrev FUS_OBJ.OBJ.LOSSES (n : Nat) : Field := ⟨0xa0d00 + 0x20 * n, 16, 16⟩
abbrev FUS_OBJ.N.N (n : Nat) : Field := ⟨0xa0d04 + 0x20 * n, 0, 32⟩
abbrev FUS_OBJ.E.E (n : Nat) : Field := ⟨0xa0d08 + 0x20 * n, 0, 32⟩
abbrev FUS_OBJ.VN.VN (n : Nat) : Field := ⟨0xa0d0c + 0x20 * n, 0, 32⟩
abbrev FUS_OBJ.VE.VE (n : Nat) : Field := ⟨0xa0d10 + 0x20 * n, 0, 32⟩
abbrev FUS_OBJ.HDG.HDG (n : Nat) : Field := ⟨0xa0d14 + 0x20 * n, 0, 32⟩
abbrev FUS_OBJ.SIG.SIG (n : Nat) : Field := ⟨0xa0d18 + 0x20 * n, 0, 32⟩
abbrev FUS_OBJ.TOV.TOV (n : Nat) : Field := ⟨0xa0d1c + 0x20 * n, 0, 32⟩
abbrev FUS_XTEST.INHIBIT : Field := ⟨0xa8000, 0, 4⟩

/-! ALLOC block, base 0xb0000 -/

abbrev ALLOC_STATUS.QP_OK : Field := ⟨0xb0000, 0, 1⟩
abbrev ALLOC_STATUS.FALLBACK : Field := ⟨0xb0000, 1, 1⟩
abbrev ALLOC_STATUS.COLD : Field := ⟨0xb0000, 2, 1⟩
abbrev ALLOC_STATUS.PARTIAL : Field := ⟨0xb0000, 3, 1⟩
abbrev ALLOC_STATUS.PWR_SCALED : Field := ⟨0xb0000, 4, 1⟩
abbrev ALLOC_STATUS.SLACK : Field := ⟨0xb0000, 5, 1⟩
abbrev ALLOC_STATUS.PLAN_VALID : Field := ⟨0xb0000, 6, 1⟩
abbrev ALLOC_STATUS.PLAN_STALE : Field := ⟨0xb0000, 7, 1⟩
abbrev ALLOC_STATUS.RELAX : Field := ⟨0xb0000, 8, 3⟩
abbrev ALLOC_STATUS.ARREST : Field := ⟨0xb0000, 11, 1⟩
abbrev ALLOC_STATUS.MARGIN_STICKY : Field := ⟨0xb0000, 12, 1⟩
abbrev ALLOC_STATUS.INFEAS_STICKY : Field := ⟨0xb0000, 13, 1⟩
abbrev ALLOC_STATUS.ARREST_STICKY : Field := ⟨0xb0000, 14, 1⟩
abbrev ALLOC_STATUS.COUPLE_ACTIVE : Field := ⟨0xb0000, 16, 1⟩
abbrev ALLOC_STATUS.COUPLE_HELD : Field := ⟨0xb0000, 17, 1⟩
abbrev ALLOC_STATUS.HANDBACK : Field := ⟨0xb0000, 18, 1⟩
abbrev ALLOC_DEMAND_X.TAU : Field := ⟨0xb0004, 0, 32⟩
abbrev ALLOC_DEMAND_Y.TAU : Field := ⟨0xb0008, 0, 32⟩
abbrev ALLOC_DEMAND_N.TAU : Field := ⟨0xb000c, 0, 32⟩
abbrev ALLOC_SLACK_X.SLACK : Field := ⟨0xb0010, 0, 32⟩
abbrev ALLOC_SLACK_Y.SLACK : Field := ⟨0xb0014, 0, 32⟩
abbrev ALLOC_SLACK_N.SLACK : Field := ⟨0xb0018, 0, 32⟩
abbrev ALLOC_TOV.TS : Field := ⟨0xb001c, 0, 32⟩
abbrev ALLOC_PLAN.N : Field := ⟨0xb0020, 0, 7⟩
abbrev ALLOC_PLAN.DT : Field := ⟨0xb0020, 8, 8⟩
abbrev ALLOC_PLAN.SCEN : Field := ⟨0xb0020, 16, 5⟩
abbrev ALLOC_PLAN.N_MAX : Field := ⟨0xb0020, 24, 7⟩
abbrev ALLOC_PLAN_TOV.TS : Field := ⟨0xb0024, 0, 32⟩
abbrev ALLOC_MARGIN_MIN.MARGIN : Field := ⟨0xb0028, 0, 16⟩
abbrev ALLOC_MARGIN_MIN.SCEN : Field := ⟨0xb0028, 16, 5⟩
abbrev ALLOC_ARREST.STATE : Field := ⟨0xb0030, 0, 2⟩
abbrev ALLOC_ARREST.SECTOR : Field := ⟨0xb0030, 4, 4⟩
abbrev ALLOC_ARREST.MASK : Field := ⟨0xb0030, 16, 16⟩
abbrev ALLOC_ARREST_TS.TS : Field := ⟨0xb0034, 0, 32⟩
abbrev ALLOC_CTRL.ARREST_CLR : Field := ⟨0xb0040, 0, 1⟩
abbrev ALLOC_COUPLE_SHIFT_N.S : Field := ⟨0xb0050, 0, 32⟩
abbrev ALLOC_COUPLE_SHIFT_E.S : Field := ⟨0xb0054, 0, 32⟩
abbrev ALLOC_TIP_ERR.ERR : Field := ⟨0xb0058, 0, 32⟩
abbrev ALLOC_COUPLE_CAUSE.CAUSE : Field := ⟨0xb005c, 0, 3⟩
abbrev ALLOC_THR.THR_CFG.TYPE (n : Nat) : Field := ⟨0xb0100 + 0x20 * n, 0, 2⟩
abbrev ALLOC_THR.THR_CFG.SECTION (n : Nat) : Field := ⟨0xb0100 + 0x20 * n, 2, 3⟩
abbrev ALLOC_THR.THR_CFG.AVAIL (n : Nat) : Field := ⟨0xb0100 + 0x20 * n, 5, 1⟩
abbrev ALLOC_THR.THR_CFG.CAUSE (n : Nat) : Field := ⟨0xb0100 + 0x20 * n, 6, 3⟩
abbrev ALLOC_THR.THR_CFG.ENABLE (n : Nat) : Field := ⟨0xb0100 + 0x20 * n, 9, 1⟩
abbrev ALLOC_THR.THR_F.F (n : Nat) : Field := ⟨0xb0104 + 0x20 * n, 0, 32⟩
abbrev ALLOC_THR.THR_AZ.AZ (n : Nat) : Field := ⟨0xb0108 + 0x20 * n, 0, 32⟩
abbrev ALLOC_THR.THR_DEM.DEM (n : Nat) : Field := ⟨0xb010c + 0x20 * n, 0, 32⟩
abbrev ALLOC_THR.THR_TMAX.TMAX (n : Nat) : Field := ⟨0xb0110 + 0x20 * n, 0, 32⟩
abbrev ALLOC_THR.THR_TMIN.TMIN (n : Nat) : Field := ⟨0xb0114 + 0x20 * n, 0, 32⟩
abbrev ALLOC_THR.THR_AZT.AZT (n : Nat) : Field := ⟨0xb0118 + 0x20 * n, 0, 32⟩
abbrev ALLOC_THR.THR_PWR.P (n : Nat) : Field := ⟨0xb011c + 0x20 * n, 0, 32⟩
abbrev ALLOC_SCEN.SC_CFG.KIND (n : Nat) : Field := ⟨0xb0400 + 0x10 * n, 0, 2⟩
abbrev ALLOC_SCEN.SC_CFG.CLASS (n : Nat) : Field := ⟨0xb0400 + 0x10 * n, 2, 2⟩
abbrev ALLOC_SCEN.SC_CFG.ENABLE (n : Nat) : Field := ⟨0xb0400 + 0x10 * n, 4, 1⟩
abbrev ALLOC_SCEN.SC_CFG.STATE (n : Nat) : Field := ⟨0xb0400 + 0x10 * n, 5, 3⟩
abbrev ALLOC_SCEN.SC_CFG.SECTIONS (n : Nat) : Field := ⟨0xb0400 + 0x10 * n, 16, 8⟩
abbrev ALLOC_SCEN.SC_THR.THRUSTERS (n : Nat) : Field := ⟨0xb0404 + 0x10 * n, 0, 16⟩
abbrev ALLOC_SCEN.SC_MARGIN.MARGIN (n : Nat) : Field := ⟨0xb0408 + 0x10 * n, 0, 16⟩
abbrev ALLOC_SCEN.SC_MARGIN.EXC (n : Nat) : Field := ⟨0xb0408 + 0x10 * n, 16, 16⟩
abbrev ALLOC_SCEN.SC_EXC.HDG (n : Nat) : Field := ⟨0xb040c + 0x10 * n, 0, 16⟩
abbrev ALLOC_SCEN.SC_EXC.UTIL (n : Nat) : Field := ⟨0xb040c + 0x10 * n, 16, 16⟩
abbrev ALLOC_SEC.AVAIL.AVAIL (n : Nat) : Field := ⟨0xb0600 + 0x10 * n, 0, 32⟩
abbrev ALLOC_SEC.USED.USED (n : Nat) : Field := ⟨0xb0604 + 0x10 * n, 0, 32⟩
abbrev ALLOC_SEC.CAP.CAP (n : Nat) : Field := ⟨0xb0608 + 0x10 * n, 0, 32⟩
abbrev ALLOC_SEC.STAT.SRC (n : Nat) : Field := ⟨0xb060c + 0x10 * n, 0, 1⟩
abbrev ALLOC_SEC.STAT.SCALED (n : Nat) : Field := ⟨0xb060c + 0x10 * n, 1, 1⟩
abbrev ALLOC_ARREST_TBL.MASK (n : Nat) : Field := ⟨0xb0700 + 0x4 * n, 0, 16⟩
abbrev ALLOC_XPLAN.NO_TIGHTEN : Field := ⟨0xb8000, 0, 1⟩
abbrev ALLOC_XPLAN.FORCE_SCEN : Field := ⟨0xb8000, 4, 5⟩
abbrev ALLOC_XPLAN.FORCE_EN : Field := ⟨0xb8000, 9, 1⟩

/-! SOLV block, base 0xc0000 -/

abbrev SOLV_STATUS.READY : Field := ⟨0xc0000, 0, 1⟩
abbrev SOLV_STATUS.PARTIAL_STICKY : Field := ⟨0xc0000, 1, 1⟩
abbrev SOLV_STATUS.FALLBACK_STICKY : Field := ⟨0xc0000, 2, 1⟩
abbrev SOLV_STATUS.COLD_STICKY : Field := ⟨0xc0000, 3, 1⟩
abbrev SOLV_STATUS.FACT_ABORT_STICKY : Field := ⟨0xc0000, 4, 1⟩
abbrev SOLV_STATUS.PLAN_MISS_STICKY : Field := ⟨0xc0000, 5, 1⟩
abbrev SOLV_STATUS.FB_PERSIST : Field := ⟨0xc0000, 6, 1⟩
abbrev SOLV_STATUS.SRAM_ERR_STICKY : Field := ⟨0xc0000, 7, 1⟩
abbrev SOLV_LANES.BUSY : Field := ⟨0xc0004, 0, 16⟩
abbrev SOLV_LANES.ASSIGNED : Field := ⟨0xc0004, 16, 16⟩
abbrev SOLV_CHAIN.JOINTS : Field := ⟨0xc0040, 0, 4⟩
abbrev SOLV_CHAIN.PRESENT : Field := ⟨0xc0040, 4, 1⟩
abbrev SOLV_TIP_N.TIP : Field := ⟨0xc0044, 0, 32⟩
abbrev SOLV_TIP_E.TIP : Field := ⟨0xc0048, 0, 32⟩
abbrev SOLV_TIP_D.TIP : Field := ⟨0xc004c, 0, 32⟩
abbrev SOLV_WRENCH_X.W : Field := ⟨0xc0050, 0, 32⟩
abbrev SOLV_WRENCH_Y.W : Field := ⟨0xc0054, 0, 32⟩
abbrev SOLV_WRENCH_N.W : Field := ⟨0xc0058, 0, 32⟩
abbrev SOLV_CTRL.WS_DISCARD : Field := ⟨0xc0060, 0, 1⟩
abbrev SOLV_TASK.ST_CFG.TASK (n : Nat) : Field := ⟨0xc0100 + 0x40 * n, 0, 10⟩
abbrev SOLV_TASK.ST_CFG.LANE_FIRST (n : Nat) : Field := ⟨0xc0100 + 0x40 * n, 10, 4⟩
abbrev SOLV_TASK.ST_CFG.LANE_COUNT (n : Nat) : Field := ⟨0xc0100 + 0x40 * n, 14, 5⟩
abbrev SOLV_TASK.ST_CFG.KIND (n : Nat) : Field := ⟨0xc0100 + 0x40 * n, 19, 2⟩
abbrev SOLV_TASK.ST_CFG.METHOD (n : Nat) : Field := ⟨0xc0100 + 0x40 * n, 21, 2⟩
abbrev SOLV_TASK.ST_DIMS.NVAR (n : Nat) : Field := ⟨0xc0104 + 0x40 * n, 0, 16⟩
abbrev SOLV_TASK.ST_DIMS.NCON (n : Nat) : Field := ⟨0xc0104 + 0x40 * n, 16, 16⟩
abbrev SOLV_TASK.ST_CAP.CAP (n : Nat) : Field := ⟨0xc0108 + 0x40 * n, 0, 12⟩
abbrev SOLV_TASK.ST_TIT.T_IT (n : Nat) : Field := ⟨0xc010c + 0x40 * n, 0, 32⟩
abbrev SOLV_TASK.ST_OVH.T_OVH (n : Nat) : Field := ⟨0xc0110 + 0x40 * n, 0, 32⟩
abbrev SOLV_TASK.ST_LAST.ITERS (n : Nat) : Field := ⟨0xc0114 + 0x40 * n, 0, 12⟩
abbrev SOLV_TASK.ST_LAST.OUTCOME (n : Nat) : Field := ⟨0xc0114 + 0x40 * n, 12, 4⟩
abbrev SOLV_TASK.ST_LAST.COLD (n : Nat) : Field := ⟨0xc0114 + 0x40 * n, 16, 1⟩
abbrev SOLV_TASK.ST_LAST.COLD_CAUSE (n : Nat) : Field := ⟨0xc0114 + 0x40 * n, 17, 3⟩
abbrev SOLV_TASK.ST_LAST.FACT_ABORT (n : Nat) : Field := ⟨0xc0114 + 0x40 * n, 20, 1⟩
abbrev SOLV_TASK.ST_SIG.SIG (n : Nat) : Field := ⟨0xc0118 + 0x40 * n, 0, 32⟩
abbrev SOLV_TASK.ST_WSIG.SIG (n : Nat) : Field := ⟨0xc011c + 0x40 * n, 0, 32⟩
abbrev SOLV_TASK.ST_RP.RP (n : Nat) : Field := ⟨0xc0120 + 0x40 * n, 0, 32⟩
abbrev SOLV_TASK.ST_RD.RD (n : Nat) : Field := ⟨0xc0124 + 0x40 * n, 0, 32⟩
abbrev SOLV_TASK.ST_MU.MU (n : Nat) : Field := ⟨0xc0128 + 0x40 * n, 0, 32⟩
abbrev SOLV_TASK.ST_CNT1.PARTIAL (n : Nat) : Field := ⟨0xc012c + 0x40 * n, 0, 16⟩
abbrev SOLV_TASK.ST_CNT1.FALLBACK (n : Nat) : Field := ⟨0xc012c + 0x40 * n, 16, 16⟩
abbrev SOLV_TASK.ST_CNT2.COLD (n : Nat) : Field := ⟨0xc0130 + 0x40 * n, 0, 16⟩
abbrev SOLV_TASK.ST_CNT2.FACT_ABORT (n : Nat) : Field := ⟨0xc0130 + 0x40 * n, 16, 16⟩
abbrev SOLV_TASK.ST_ITMAX.ITER_HWM (n : Nat) : Field := ⟨0xc0134 + 0x40 * n, 0, 12⟩
abbrev SOLV_TASK.ST_REL.REL_ITER (n : Nat) : Field := ⟨0xc0138 + 0x40 * n, 0, 12⟩
abbrev SOLV_JOINT.JT_CFG.TYPE (n : Nat) : Field := ⟨0xc0400 + 0x20 * n, 0, 1⟩
abbrev SOLV_JOINT.JT_CFG.VALID (n : Nat) : Field := ⟨0xc0400 + 0x20 * n, 1, 1⟩
abbrev SOLV_JOINT.Q_LO.Q_LO (n : Nat) : Field := ⟨0xc0404 + 0x20 * n, 0, 32⟩
abbrev SOLV_JOINT.Q_HI.Q_HI (n : Nat) : Field := ⟨0xc0408 + 0x20 * n, 0, 32⟩
abbrev SOLV_JOINT.RATE.RATE (n : Nat) : Field := ⟨0xc040c + 0x20 * n, 0, 32⟩
abbrev SOLV_JOINT.MARGIN.MARGIN (n : Nat) : Field := ⟨0xc0410 + 0x20 * n, 0, 32⟩
abbrev SOLV_JOINT.Q.Q (n : Nat) : Field := ⟨0xc0414 + 0x20 * n, 0, 32⟩
abbrev SOLV_JOINT.QD.QD (n : Nat) : Field := ⟨0xc0418 + 0x20 * n, 0, 32⟩
abbrev SOLV_XLOG.TASK : Field := ⟨0xc8000, 0, 3⟩
abbrev SOLV_XLOG.EN : Field := ⟨0xc8000, 31, 1⟩

/-! LOOP block, base 0xd0000 -/

abbrev LOOP_STATUS.SAT_STICKY : Field := ⟨0xd0000, 0, 1⟩
abbrev LOOP_STATUS.BLEND_STICKY : Field := ⟨0xd0000, 1, 1⟩
abbrev LOOP_STATUS.HELD_STICKY : Field := ⟨0xd0000, 2, 1⟩
abbrev LOOP_STATUS.TRIG_STICKY : Field := ⟨0xd0000, 3, 1⟩
abbrev LOOP_STATUS.FULL_STICKY : Field := ⟨0xd0000, 4, 1⟩
abbrev LOOP_STATUS.RMLIM_STICKY : Field := ⟨0xd0000, 5, 1⟩
abbrev LOOP_STATUS.REFUSED_STICKY : Field := ⟨0xd0000, 6, 1⟩
abbrev LOOP_REFUSE.OFFSET : Field := ⟨0xd0004, 0, 16⟩
abbrev LOOP_REFUSE.CAUSE : Field := ⟨0xd0004, 16, 4⟩
abbrev LOOP_CW_SEL.WORD : Field := ⟨0xd0010, 0, 8⟩
abbrev LOOP_CW_SEL.BANK : Field := ⟨0xd0010, 8, 1⟩
abbrev LOOP_CW_SEL.KIND : Field := ⟨0xd0010, 9, 1⟩
abbrev LOOP_CW_SEL.CHAN : Field := ⟨0xd0010, 10, 7⟩
abbrev LOOP_CW_SEL.AUTOINC : Field := ⟨0xd0010, 31, 1⟩
abbrev LOOP_CW_DATA.DATA : Field := ⟨0xd0014, 0, 32⟩
abbrev LOOP_CW_VAL.GO : Field := ⟨0xd0018, 0, 1⟩
abbrev LOOP_CW_VAL.RESULT : Field := ⟨0xd0018, 1, 3⟩
abbrev LOOP_BQ.BQ_CFG.SRC (n : Nat) : Field := ⟨0xd1000 + 0x20 * n, 0, 16⟩
abbrev LOOP_BQ.BQ_CFG.DIV (n : Nat) : Field := ⟨0xd1000 + 0x20 * n, 16, 7⟩
abbrev LOOP_BQ.BQ_CFG.ANGLE (n : Nat) : Field := ⟨0xd1000 + 0x20 * n, 23, 1⟩
abbrev LOOP_BQ.CTRL.OPEN (n : Nat) : Field := ⟨0xd1004 + 0x20 * n, 0, 1⟩
abbrev LOOP_BQ.CTRL.REQ (n : Nat) : Field := ⟨0xd1004 + 0x20 * n, 1, 1⟩
abbrev LOOP_BQ.CTRL.REQ_BANK (n : Nat) : Field := ⟨0xd1004 + 0x20 * n, 2, 1⟩
abbrev LOOP_BQ.CTRL.LEN_M1 (n : Nat) : Field := ⟨0xd1004 + 0x20 * n, 3, 12⟩
abbrev LOOP_BQ.STAT.OPENED (n : Nat) : Field := ⟨0xd1008 + 0x20 * n, 0, 1⟩
abbrev LOOP_BQ.STAT.ACTIVE (n : Nat) : Field := ⟨0xd1008 + 0x20 * n, 1, 1⟩
abbrev LOOP_BQ.STAT.BLENDING (n : Nat) : Field := ⟨0xd1008 + 0x20 * n, 2, 1⟩
abbrev LOOP_BQ.STAT.HELD (n : Nat) : Field := ⟨0xd1008 + 0x20 * n, 3, 1⟩
abbrev LOOP_BQ.STAT.HELD_BANK (n : Nat) : Field := ⟨0xd1008 + 0x20 * n, 4, 1⟩
abbrev LOOP_BQ.STAT.SAT (n : Nat) : Field := ⟨0xd1008 + 0x20 * n, 5, 1⟩
abbrev LOOP_BQ.STAT.VALID_A (n : Nat) : Field := ⟨0xd1008 + 0x20 * n, 6, 1⟩
abbrev LOOP_BQ.STAT.VALID_B (n : Nat) : Field := ⟨0xd1008 + 0x20 * n, 7, 1⟩
abbrev LOOP_BQ.STAT.BLEND_K (n : Nat) : Field := ⟨0xd1008 + 0x20 * n, 8, 13⟩
abbrev LOOP_BQ.IN.IN (n : Nat) : Field := ⟨0xd100c + 0x20 * n, 0, 32⟩
abbrev LOOP_BQ.OUT.OUT (n : Nat) : Field := ⟨0xd1010 + 0x20 * n, 0, 32⟩
abbrev LOOP_BQ.TOV.TOV (n : Nat) : Field := ⟨0xd1014 + 0x20 * n, 0, 32⟩
abbrev LOOP_BQ.CNT.SAT_CNT (n : Nat) : Field := ⟨0xd1018 + 0x20 * n, 0, 16⟩
abbrev LOOP_BQ.CNT.BLEND_DROP (n : Nat) : Field := ⟨0xd1018 + 0x20 * n, 16, 16⟩
abbrev LOOP_PID.PID_CFG.RATE (n : Nat) : Field := ⟨0xd2000 + 0x40 * n, 0, 1⟩
abbrev LOOP_PID.PID_CFG.ANGLE (n : Nat) : Field := ⟨0xd2000 + 0x40 * n, 1, 1⟩
abbrev LOOP_PID.PID_CFG.EXT_ACH (n : Nat) : Field := ⟨0xd2000 + 0x40 * n, 2, 1⟩
abbrev LOOP_PID.PID_CFG.HOST_OPEN (n : Nat) : Field := ⟨0xd2000 + 0x40 * n, 3, 1⟩
abbrev LOOP_PID.PID_CFG.RM (n : Nat) : Field := ⟨0xd2000 + 0x40 * n, 4, 3⟩
abbrev LOOP_PID.PID_CFG.RM_EN (n : Nat) : Field := ⟨0xd2000 + 0x40 * n, 7, 1⟩
abbrev LOOP_PID.CTRL.OPEN (n : Nat) : Field := ⟨0xd2004 + 0x40 * n, 0, 1⟩
abbrev LOOP_PID.CTRL.REQ (n : Nat) : Field := ⟨0xd2004 + 0x40 * n, 1, 1⟩
abbrev LOOP_PID.CTRL.REQ_BANK (n : Nat) : Field := ⟨0xd2004 + 0x40 * n, 2, 1⟩
abbrev LOOP_PID.CTRL.LEN_M1 (n : Nat) : Field := ⟨0xd2004 + 0x40 * n, 3, 12⟩
abbrev LOOP_PID.STAT.OPENED (n : Nat) : Field := ⟨0xd2008 + 0x40 * n, 0, 1⟩
abbrev LOOP_PID.STAT.ACTIVE (n : Nat) : Field := ⟨0xd2008 + 0x40 * n, 1, 1⟩
abbrev LOOP_PID.STAT.BLENDING (n : Nat) : Field := ⟨0xd2008 + 0x40 * n, 2, 1⟩
abbrev LOOP_PID.STAT.HELD (n : Nat) : Field := ⟨0xd2008 + 0x40 * n, 3, 1⟩
abbrev LOOP_PID.STAT.HELD_BANK (n : Nat) : Field := ⟨0xd2008 + 0x40 * n, 4, 1⟩
abbrev LOOP_PID.STAT.SAT (n : Nat) : Field := ⟨0xd2008 + 0x40 * n, 5, 1⟩
abbrev LOOP_PID.STAT.VALID_A (n : Nat) : Field := ⟨0xd2008 + 0x40 * n, 6, 1⟩
abbrev LOOP_PID.STAT.VALID_B (n : Nat) : Field := ⟨0xd2008 + 0x40 * n, 7, 1⟩
abbrev LOOP_PID.STAT.BLEND_K (n : Nat) : Field := ⟨0xd2008 + 0x40 * n, 8, 13⟩
abbrev LOOP_PID.PID_MAN.MAN (n : Nat) : Field := ⟨0xd200c + 0x40 * n, 0, 32⟩
abbrev LOOP_PID.E.E (n : Nat) : Field := ⟨0xd2010 + 0x40 * n, 0, 32⟩
abbrev LOOP_PID.P.P (n : Nat) : Field := ⟨0xd2014 + 0x40 * n, 0, 32⟩
abbrev LOOP_PID.I.I (n : Nat) : Field := ⟨0xd2018 + 0x40 * n, 0, 32⟩
abbrev LOOP_PID.D.D (n : Nat) : Field := ⟨0xd201c + 0x40 * n, 0, 32⟩
abbrev LOOP_PID.FF.FF (n : Nat) : Field := ⟨0xd2020 + 0x40 * n, 0, 32⟩
abbrev LOOP_PID.V.V (n : Nat) : Field := ⟨0xd2024 + 0x40 * n, 0, 32⟩
abbrev LOOP_PID.U.U (n : Nat) : Field := ⟨0xd2028 + 0x40 * n, 0, 32⟩
abbrev LOOP_PID.A.A (n : Nat) : Field := ⟨0xd202c + 0x40 * n, 0, 32⟩
abbrev LOOP_PID.TOV.TOV (n : Nat) : Field := ⟨0xd2030 + 0x40 * n, 0, 32⟩
abbrev LOOP_PID.CNT.SAT_CNT (n : Nat) : Field := ⟨0xd2034 + 0x40 * n, 0, 16⟩
abbrev LOOP_PID.CNT.BLEND_DROP (n : Nat) : Field := ⟨0xd2034 + 0x40 * n, 16, 16⟩
abbrev LOOP_RM.CFG.VALID (n : Nat) : Field := ⟨0xd2800 + 0x40 * n, 0, 1⟩
abbrev LOOP_RM.CFG.ANGLE (n : Nat) : Field := ⟨0xd2800 + 0x40 * n, 1, 1⟩
abbrev LOOP_RM.STAT.LIMITING (n : Nat) : Field := ⟨0xd2804 + 0x40 * n, 0, 1⟩
abbrev LOOP_RM.STAT.FOLLOWING (n : Nat) : Field := ⟨0xd2804 + 0x40 * n, 1, 1⟩
abbrev LOOP_RM.SP.SP (n : Nat) : Field := ⟨0xd2808 + 0x40 * n, 0, 32⟩
abbrev LOOP_RM.P.P (n : Nat) : Field := ⟨0xd280c + 0x40 * n, 0, 32⟩
abbrev LOOP_RM.V.V (n : Nat) : Field := ⟨0xd2810 + 0x40 * n, 0, 32⟩
abbrev LOOP_RM.A.A (n : Nat) : Field := ⟨0xd2814 + 0x40 * n, 0, 32⟩
abbrev LOOP_RM.STOP.STOP (n : Nat) : Field := ⟨0xd2818 + 0x40 * n, 0, 32⟩
abbrev LOOP_RM.LAG.LAG (n : Nat) : Field := ⟨0xd281c + 0x40 * n, 0, 32⟩
abbrev LOOP_TR.SEL.NODE (n : Nat) : Field := ⟨0xd3000 + 0x40 * n, 0, 16⟩
abbrev LOOP_TR.SEL.TRIG_NODE (n : Nat) : Field := ⟨0xd3000 + 0x40 * n, 16, 16⟩
abbrev LOOP_TR.TRIG.KIND (n : Nat) : Field := ⟨0xd3004 + 0x40 * n, 0, 3⟩
abbrev LOOP_TR.TRIG.EVENT (n : Nat) : Field := ⟨0xd3004 + 0x40 * n, 4, 7⟩
abbrev LOOP_TR.TRIG.PRE (n : Nat) : Field := ⟨0xd3004 + 0x40 * n, 16, 16⟩
abbrev LOOP_TR.LEVEL.LEVEL (n : Nat) : Field := ⟨0xd3008 + 0x40 * n, 0, 32⟩
abbrev LOOP_TR.DEC.DEC (n : Nat) : Field := ⟨0xd300c + 0x40 * n, 0, 16⟩
abbrev LOOP_TR.CTRL.ARM (n : Nat) : Field := ⟨0xd3010 + 0x40 * n, 0, 1⟩
abbrev LOOP_TR.CTRL.FORCE (n : Nat) : Field := ⟨0xd3010 + 0x40 * n, 1, 1⟩
abbrev LOOP_TR.CTRL.STOP (n : Nat) : Field := ⟨0xd3010 + 0x40 * n, 2, 1⟩
abbrev LOOP_TR.STAT.STATE (n : Nat) : Field := ⟨0xd3014 + 0x40 * n, 0, 2⟩
abbrev LOOP_TR.STAT.PRE_HAVE (n : Nat) : Field := ⟨0xd3014 + 0x40 * n, 16, 16⟩
abbrev LOOP_TR.FIRST_TS.FIRST_TS (n : Nat) : Field := ⟨0xd3018 + 0x40 * n, 0, 32⟩
abbrev LOOP_TR.TRIG_TS.TRIG_TS (n : Nat) : Field := ⟨0xd301c + 0x40 * n, 0, 32⟩
abbrev LOOP_TR.TRIG_IDX.TRIG_IDX (n : Nat) : Field := ⟨0xd3020 + 0x40 * n, 0, 16⟩
abbrev LOOP_PATH_CTRL.COUNT : Field := ⟨0xd3800, 0, 6⟩
abbrev LOOP_PATH_CTRL.HDG_MODE : Field := ⟨0xd3800, 6, 1⟩
abbrev LOOP_PATH_CTRL.CLEAR : Field := ⟨0xd3800, 30, 1⟩
abbrev LOOP_PATH_CTRL.COMMIT : Field := ⟨0xd3800, 31, 1⟩
abbrev LOOP_PATH_STAT.VALID : Field := ⟨0xd3804, 0, 1⟩
abbrev LOOP_PATH_STAT.END : Field := ⟨0xd3804, 1, 1⟩
abbrev LOOP_PATH_STAT.PENDING : Field := ⟨0xd3804, 2, 1⟩
abbrev LOOP_PATH_STAT.LEG : Field := ⟨0xd3804, 8, 5⟩
abbrev LOOP_PATH_STAT.RESULT : Field := ⟨0xd3804, 16, 3⟩
abbrev LOOP_PATH_DIST.DIST : Field := ⟨0xd3808, 0, 32⟩
abbrev LOOP_TGT_OFS_X.X : Field := ⟨0xd3810, 0, 32⟩
abbrev LOOP_TGT_OFS_Y.Y : Field := ⟨0xd3814, 0, 32⟩
abbrev LOOP_TGT_OFS_HDG.HDG : Field := ⟨0xd3818, 0, 32⟩
abbrev LOOP_WP.N.N (n : Nat) : Field := ⟨0xd3900 + 0x10 * n, 0, 32⟩
abbrev LOOP_WP.E.E (n : Nat) : Field := ⟨0xd3904 + 0x10 * n, 0, 32⟩
abbrev LOOP_WP.HDG.HDG (n : Nat) : Field := ⟨0xd3908 + 0x10 * n, 0, 32⟩
abbrev LOOP_WP.SPEED.SPEED (n : Nat) : Field := ⟨0xd390c + 0x10 * n, 0, 32⟩
abbrev LOOP_XINJ.NODE : Field := ⟨0xd8000, 0, 16⟩
abbrev LOOP_XINJ.WAVE : Field := ⟨0xd8000, 16, 2⟩
abbrev LOOP_XINJ_AMP.AMP : Field := ⟨0xd8004, 0, 32⟩
abbrev LOOP_XINJ_PERIOD.PERIOD : Field := ⟨0xd8008, 0, 32⟩

/-! CAN block, base 0xe0000 -/

abbrev CAN_STATUS.BUSOFF : Field := ⟨0xe0000, 0, 6⟩
abbrev CAN_STATUS.PASSIVE : Field := ⟨0xe0000, 6, 6⟩
abbrev CAN_STATUS.BUSOFF_STICKY : Field := ⟨0xe0000, 12, 1⟩
abbrev CAN_STATUS.ONESHOT_STICKY : Field := ⟨0xe0000, 13, 1⟩
abbrev CAN_STATUS.DESPITE_STICKY : Field := ⟨0xe0000, 14, 1⟩
abbrev CAN_STATUS.WAKE_STICKY : Field := ⟨0xe0000, 15, 1⟩
abbrev CAN_STATUS.WAKE_CTRL : Field := ⟨0xe0000, 16, 3⟩
abbrev CAN_CH.CH_CFG.NBR (n : Nat) : Field := ⟨0xe0100 + 0x40 * n, 0, 4⟩
abbrev CAN_CH.CH_CFG.DBR (n : Nat) : Field := ⟨0xe0100 + 0x40 * n, 4, 4⟩
abbrev CAN_CH.CH_CFG.ONESHOT (n : Nat) : Field := ⟨0xe0100 + 0x40 * n, 8, 1⟩
abbrev CAN_CH.CH_CFG.AUTO_REC (n : Nat) : Field := ⟨0xe0100 + 0x40 * n, 9, 1⟩
abbrev CAN_CH.CH_CFG.WAKE (n : Nat) : Field := ⟨0xe0100 + 0x40 * n, 10, 2⟩
abbrev CAN_CH.CH_CFG.MIRROR (n : Nat) : Field := ⟨0xe0100 + 0x40 * n, 12, 3⟩
abbrev CAN_CH.CH_CFG.PROTO (n : Nat) : Field := ⟨0xe0100 + 0x40 * n, 15, 1⟩
abbrev CAN_CH.CH_CTRL.RECOVER (n : Nat) : Field := ⟨0xe0104 + 0x40 * n, 0, 1⟩
abbrev CAN_CH.CH_CTRL.LISTEN (n : Nat) : Field := ⟨0xe0104 + 0x40 * n, 1, 1⟩
abbrev CAN_CH.CH_STAT.STATE (n : Nat) : Field := ⟨0xe0108 + 0x40 * n, 0, 2⟩
abbrev CAN_CH.CH_STAT.LISTENING (n : Nat) : Field := ⟨0xe0108 + 0x40 * n, 2, 1⟩
abbrev CAN_CH.CH_STAT.SLEEP (n : Nat) : Field := ⟨0xe0108 + 0x40 * n, 3, 1⟩
abbrev CAN_CH.CH_STAT.TEC (n : Nat) : Field := ⟨0xe0108 + 0x40 * n, 8, 8⟩
abbrev CAN_CH.CH_STAT.REC (n : Nat) : Field := ⟨0xe0108 + 0x40 * n, 16, 8⟩
abbrev CAN_CH.CH_STAT.BUSOFF_CNT (n : Nat) : Field := ⟨0xe0108 + 0x40 * n, 24, 8⟩
abbrev CAN_CH.CH_LASTERR.CODE (n : Nat) : Field := ⟨0xe010c + 0x40 * n, 0, 3⟩
abbrev CAN_CH.CH_LASTERR.DATA_PHASE (n : Nat) : Field := ⟨0xe010c + 0x40 * n, 3, 1⟩
abbrev CAN_CH.CH_TXOK.COUNT (n : Nat) : Field := ⟨0xe0110 + 0x40 * n, 0, 32⟩
abbrev CAN_CH.CH_TXCNT.SUPERSEDED (n : Nat) : Field := ⟨0xe0114 + 0x40 * n, 0, 16⟩
abbrev CAN_CH.CH_TXCNT.CANCELLED (n : Nat) : Field := ⟨0xe0114 + 0x40 * n, 16, 16⟩
abbrev CAN_CH.CH_TXCNT2.DESPITE (n : Nat) : Field := ⟨0xe0118 + 0x40 * n, 0, 8⟩
abbrev CAN_CH.CH_TXCNT2.ONESHOT (n : Nat) : Field := ⟨0xe0118 + 0x40 * n, 8, 8⟩
abbrev CAN_CH.CH_TXCNT2.LOSTARB (n : Nat) : Field := ⟨0xe0118 + 0x40 * n, 16, 16⟩
abbrev CAN_CH.CH_RXOK.COUNT (n : Nat) : Field := ⟨0xe011c + 0x40 * n, 0, 32⟩
abbrev CAN_CH.CH_RXERR.OVF (n : Nat) : Field := ⟨0xe0120 + 0x40 * n, 0, 16⟩
abbrev CAN_CH.CH_RXERR.DISCARD (n : Nat) : Field := ⟨0xe0120 + 0x40 * n, 16, 16⟩
abbrev CAN_CH.CH_LAST_SOF.TS (n : Nat) : Field := ⟨0xe0124 + 0x40 * n, 0, 32⟩
abbrev CAN_CH.CH_DESPITE_ID.ID (n : Nat) : Field := ⟨0xe0128 + 0x40 * n, 0, 11⟩
abbrev CAN_HTX.HTX_ID.ID (n : Nat) : Field := ⟨0xe0800 + 0x100 * n, 0, 29⟩
abbrev CAN_HTX.HTX_ID.XTD (n : Nat) : Field := ⟨0xe0800 + 0x100 * n, 29, 1⟩
abbrev CAN_HTX.HTX_ID.FD (n : Nat) : Field := ⟨0xe0800 + 0x100 * n, 30, 1⟩
abbrev CAN_HTX.HTX_ID.BRS (n : Nat) : Field := ⟨0xe0800 + 0x100 * n, 31, 1⟩
abbrev CAN_HTX.HTX_CTRL.BUF (n : Nat) : Field := ⟨0xe0804 + 0x100 * n, 0, 4⟩
abbrev CAN_HTX.HTX_CTRL.DLC (n : Nat) : Field := ⟨0xe0804 + 0x100 * n, 8, 4⟩
abbrev CAN_HTX.HTX_CTRL.GO (n : Nat) : Field := ⟨0xe0804 + 0x100 * n, 30, 1⟩
abbrev CAN_HTX.HTX_CTRL.CANCEL (n : Nat) : Field := ⟨0xe0804 + 0x100 * n, 31, 1⟩
abbrev CAN_HTX.HTX_RES.RESULT (n : Nat) : Field := ⟨0xe0808 + 0x100 * n, 0, 3⟩
abbrev CAN_HTX.DATA.DATA (p q : Nat) : Field := ⟨0xe0840 + 0x100 * p + 0x4 * q, 0, 32⟩

/-! OUT block, base 0xf0000 -/

abbrev OUT_STATUS.WITHHELD_STICKY : Field := ⟨0xf0000, 0, 1⟩
abbrev OUT_STATUS.ECHO_STICKY : Field := ⟨0xf0000, 1, 1⟩
abbrev OUT_STATUS.FBTO_STICKY : Field := ⟨0xf0000, 2, 1⟩
abbrev OUT_STATUS.TALLY : Field := ⟨0xf0000, 8, 8⟩
abbrev OUT_THR.TH_CFG.BUS (n : Nat) : Field := ⟨0xf0100 + 0x20 * n, 0, 3⟩
abbrev OUT_THR.TH_CFG.PITCH (n : Nat) : Field := ⟨0xf0100 + 0x20 * n, 3, 1⟩
abbrev OUT_THR.TH_CFG.PRESENT (n : Nat) : Field := ⟨0xf0100 + 0x20 * n, 4, 1⟩
abbrev OUT_THR.TH_LAST.KIND (n : Nat) : Field := ⟨0xf0104 + 0x20 * n, 0, 4⟩
abbrev OUT_THR.TH_LAST.ALIVE (n : Nat) : Field := ⟨0xf0104 + 0x20 * n, 8, 8⟩
abbrev OUT_THR.TH_LAST.FLAGS (n : Nat) : Field := ⟨0xf0104 + 0x20 * n, 16, 8⟩
abbrev OUT_THR.TH_LAST.TALLY (n : Nat) : Field := ⟨0xf0104 + 0x20 * n, 24, 8⟩
abbrev OUT_THR.TH_TOV.TS (n : Nat) : Field := ⟨0xf0108 + 0x20 * n, 0, 32⟩
abbrev OUT_THR.TH_ECHO.TALLY (n : Nat) : Field := ⟨0xf010c + 0x20 * n, 0, 8⟩
abbrev OUT_THR.TH_ECHO.ALIVE (n : Nat) : Field := ⟨0xf010c + 0x20 * n, 8, 8⟩
abbrev OUT_THR.TH_ECHO.STATUS (n : Nat) : Field := ⟨0xf010c + 0x20 * n, 16, 16⟩
abbrev OUT_THR.TH_ECHO_TS.TS (n : Nat) : Field := ⟨0xf0110 + 0x20 * n, 0, 32⟩
abbrev OUT_THR.TH_CNT.WITHHELD (n : Nat) : Field := ⟨0xf0114 + 0x20 * n, 0, 8⟩
abbrev OUT_THR.TH_CNT.CHK (n : Nat) : Field := ⟨0xf0114 + 0x20 * n, 8, 8⟩
abbrev OUT_THR.TH_CNT.FBTO (n : Nat) : Field := ⟨0xf0114 + 0x20 * n, 16, 16⟩
abbrev OUT_THR.TH_ECHOERR.MISMATCH (n : Nat) : Field := ⟨0xf0118 + 0x20 * n, 0, 16⟩
abbrev OUT_THR.TH_ECHOERR.FORM (n : Nat) : Field := ⟨0xf0118 + 0x20 * n, 16, 8⟩
abbrev OUT_AO.AO_CFG.EN (n : Nat) : Field := ⟨0xf0400 + 0x10 * n, 0, 1⟩
abbrev OUT_AO.AO_CFG.MODE (n : Nat) : Field := ⟨0xf0400 + 0x10 * n, 1, 2⟩
abbrev OUT_AO.AO_CFG.SRC (n : Nat) : Field := ⟨0xf0400 + 0x10 * n, 16, 16⟩
abbrev OUT_AO.AO_VAL.VALUE (n : Nat) : Field := ⟨0xf0404 + 0x10 * n, 0, 32⟩
abbrev OUT_AO.AO_TOV.TS (n : Nat) : Field := ⟨0xf0408 + 0x10 * n, 0, 32⟩
abbrev OUT_AO.AO_STAT.HELD (n : Nat) : Field := ⟨0xf040c + 0x10 * n, 0, 1⟩
abbrev OUT_AO.AO_STAT.OPEN_LOAD (n : Nat) : Field := ⟨0xf040c + 0x10 * n, 1, 1⟩
abbrev OUT_AO.AO_STAT.READBACK_ERR (n : Nat) : Field := ⟨0xf040c + 0x10 * n, 2, 1⟩
abbrev OUT_GPIO_IN.IN : Field := ⟨0xf0500, 0, 24⟩
abbrev OUT_GPIO_OUT.OUT : Field := ⟨0xf0504, 0, 24⟩
abbrev OUT_GPIO_DIR.DIR : Field := ⟨0xf0508, 0, 24⟩
abbrev OUT_LEVER.LV_DEM.DEM (n : Nat) : Field := ⟨0xf0600 + 0x10 * n, 0, 32⟩
abbrev OUT_LEVER.LV_AZ.AZ (n : Nat) : Field := ⟨0xf0604 + 0x10 * n, 0, 32⟩
abbrev OUT_LEVER.LV_CTRL.TEST_EN (n : Nat) : Field := ⟨0xf0608 + 0x10 * n, 0, 1⟩
abbrev OUT_LEVER.LV_LIMIT.LIMITED (n : Nat) : Field := ⟨0xf060c + 0x10 * n, 0, 32⟩

/-! RED block, base 0x100000 -/

abbrev RED_STATUS.UNIT : Field := ⟨0x100000, 0, 2⟩
abbrev RED_STATUS.ROLE : Field := ⟨0x100000, 2, 2⟩
abbrev RED_STATUS.IN_COMMAND : Field := ⟨0x100000, 4, 1⟩
abbrev RED_STATUS.SPLIT : Field := ⟨0x100000, 5, 1⟩
abbrev RED_STATUS.SYNC : Field := ⟨0x100000, 6, 1⟩
abbrev RED_STATUS.LINK0_UP : Field := ⟨0x100000, 7, 1⟩
abbrev RED_STATUS.LINK1_UP : Field := ⟨0x100000, 8, 1⟩
abbrev RED_STATUS.HEARD : Field := ⟨0x100000, 9, 3⟩
abbrev RED_STATUS.REVERT_PEND : Field := ⟨0x100000, 12, 1⟩
abbrev RED_STATUS.DRILL_DUE : Field := ⟨0x100000, 13, 1⟩
abbrev RED_STATUS.DUP_ID : Field := ⟨0x100000, 14, 1⟩
abbrev RED_STATUS.STRAP_ERR : Field := ⟨0x100000, 15, 1⟩
abbrev RED_STATUS.TALLY : Field := ⟨0x100000, 16, 8⟩
abbrev RED_STATUS.GRADE : Field := ⟨0x100000, 24, 5⟩
abbrev RED_STATUS.VERDICT : Field := ⟨0x100000, 29, 2⟩
abbrev RED_EVT.STICKY : Field := ⟨0x100004, 0, 7⟩
abbrev RED_EVT.REVERT_FAIL_STICKY : Field := ⟨0x100004, 7, 1⟩
abbrev RED_CANARY.FORCING : Field := ⟨0x100008, 0, 9⟩
abbrev RED_CANARY.PENALTY : Field := ⟨0x100008, 16, 10⟩
abbrev RED_DWELL.CLEAR_TIME : Field := ⟨0x10000c, 0, 16⟩
abbrev RED_ECHO.OWN : Field := ⟨0x100010, 0, 16⟩
abbrev RED_ECHO.OTHER : Field := ⟨0x100010, 16, 16⟩
abbrev RED_ECHO_TOP.TALLY : Field := ⟨0x100014, 0, 8⟩
abbrev RED_MIRROR.SIZE : Field := ⟨0x100018, 0, 16⟩
abbrev RED_MIRROR.SYNC_CNT : Field := ⟨0x100018, 16, 8⟩
abbrev RED_MIRROR.FAIL : Field := ⟨0x100018, 24, 8⟩
abbrev RED_MIRROR_SEQ.SEQ : Field := ⟨0x10001c, 0, 32⟩
abbrev RED_SHADOW.MISMATCH : Field := ⟨0x100020, 0, 8⟩
abbrev RED_SHADOW.UNATTRIB : Field := ⟨0x100020, 8, 8⟩
abbrev RED_SHADOW.SKIPPED : Field := ⟨0x100020, 16, 8⟩
abbrev RED_SHADOW_SEQ.SEQ : Field := ⟨0x100024, 0, 32⟩
abbrev RED_DRILL.GO : Field := ⟨0x100030, 0, 1⟩
abbrev RED_DRILL.END : Field := ⟨0x100030, 1, 1⟩
abbrev RED_DRILL.ABORT : Field := ⟨0x100030, 2, 1⟩
abbrev RED_DRILL_RES.BUSY : Field := ⟨0x100034, 0, 1⟩
abbrev RED_DRILL_RES.STEP : Field := ⟨0x100034, 1, 3⟩
abbrev RED_DRILL_RES.RESULT : Field := ⟨0x100034, 8, 8⟩
abbrev RED_DRILL_RES.THR_FAIL : Field := ⟨0x100034, 16, 16⟩
abbrev RED_DRILL_AGE.HOURS : Field := ⟨0x100038, 0, 16⟩
abbrev RED_DRILL_AGE.DUE : Field := ⟨0x100038, 16, 1⟩
abbrev RED_LINK.LK_STAT.UP (n : Nat) : Field := ⟨0x100100 + 0x20 * n, 0, 1⟩
abbrev RED_LINK.LK_STAT.LOCK (n : Nat) : Field := ⟨0x100100 + 0x20 * n, 1, 1⟩
abbrev RED_LINK.LK_STAT.PEER (n : Nat) : Field := ⟨0x100100 + 0x20 * n, 2, 2⟩
abbrev RED_LINK.LK_STAT.DOWN_CNT (n : Nat) : Field := ⟨0x100100 + 0x20 * n, 8, 8⟩
abbrev RED_LINK.LK_RXOK.COUNT (n : Nat) : Field := ⟨0x100104 + 0x20 * n, 0, 32⟩
abbrev RED_LINK.LK_RXERR.CRC (n : Nat) : Field := ⟨0x100108 + 0x20 * n, 0, 16⟩
abbrev RED_LINK.LK_DELAY.DELAY (n : Nat) : Field := ⟨0x10010c + 0x20 * n, 0, 32⟩
abbrev RED_PEER.PR_STAT.HEARD (n : Nat) : Field := ⟨0x100200 + 0x20 * n, 0, 1⟩
abbrev RED_PEER.PR_STAT.DIRECT (n : Nat) : Field := ⟨0x100200 + 0x20 * n, 1, 2⟩
abbrev RED_PEER.PR_STAT.RELAYED (n : Nat) : Field := ⟨0x100200 + 0x20 * n, 3, 1⟩
abbrev RED_PEER.PR_STAT.ROLE (n : Nat) : Field := ⟨0x100200 + 0x20 * n, 4, 2⟩
abbrev RED_PEER.PR_STAT.SYNC (n : Nat) : Field := ⟨0x100200 + 0x20 * n, 6, 1⟩
abbrev RED_PEER.PR_STAT.TALLY (n : Nat) : Field := ⟨0x100200 + 0x20 * n, 8, 8⟩
abbrev RED_PEER.PR_STAT.GRADE (n : Nat) : Field := ⟨0x100200 + 0x20 * n, 16, 5⟩
abbrev RED_PEER.PR_STAT.VERDICT (n : Nat) : Field := ⟨0x100200 + 0x20 * n, 21, 2⟩
abbrev RED_PEER.PR_MODE.MODE (n : Nat) : Field := ⟨0x100204 + 0x20 * n, 0, 16⟩
abbrev RED_PEER.PR_OFFSET.THETA (n : Nat) : Field := ⟨0x100208 + 0x20 * n, 0, 32⟩
abbrev RED_PEER.PR_HB_TS.TS (n : Nat) : Field := ⟨0x10020c + 0x20 * n, 0, 32⟩
abbrev RED_PEER.PR_SHADOW.WORD (n : Nat) : Field := ⟨0x100210 + 0x20 * n, 0, 32⟩
abbrev RED_CTL.REVERT_BLIND : Field := ⟨0x108000, 0, 1⟩

/-! SAFE block, base 0x110000 -/

abbrev SAFE_STATUS.SEAL_OK : Field := ⟨0x110000, 0, 1⟩
abbrev SAFE_STATUS.ARCH : Field := ⟨0x110000, 1, 1⟩
abbrev SAFE_STATUS.EVAL : Field := ⟨0x110000, 2, 1⟩
abbrev SAFE_STATUS.LIMIT : Field := ⟨0x110000, 3, 1⟩
abbrev SAFE_STATUS.INHIBIT : Field := ⟨0x110000, 4, 1⟩
abbrev SAFE_STATUS.STOP : Field := ⟨0x110000, 5, 1⟩
abbrev SAFE_STATUS.XCHK_FAIL : Field := ⟨0x110000, 6, 1⟩
abbrev SAFE_STATUS.DEGRADED : Field := ⟨0x110000, 7, 1⟩
abbrev SAFE_STATUS.DISCREP : Field := ⟨0x110000, 8, 1⟩
abbrev SAFE_STATUS.SW_CHANGED : Field := ⟨0x110000, 9, 1⟩
abbrev SAFE_STATUS.RESET_REFUSED : Field := ⟨0x110000, 10, 1⟩
abbrev SAFE_STATUS.STICKY : Field := ⟨0x110000, 11, 5⟩
abbrev SAFE_SEAL.SW_CODE : Field := ⟨0x110004, 0, 12⟩
abbrev SAFE_SEAL.SW_FAULT : Field := ⟨0x110004, 12, 1⟩
abbrev SAFE_SEAL.CALC : Field := ⟨0x110004, 16, 12⟩
abbrev SAFE_STOP.CAUSE : Field := ⟨0x110008, 0, 2⟩
abbrev SAFE_STOP.INPUT : Field := ⟨0x110008, 2, 3⟩
abbrev SAFE_STOP.PAIRS : Field := ⟨0x110008, 8, 8⟩
abbrev SAFE_STOP_TS.TS : Field := ⟨0x11000c, 0, 32⟩
abbrev SAFE_CLAMP.THR_ZERO : Field := ⟨0x110010, 0, 16⟩
abbrev SAFE_CLAMP.JOINT_HOLD : Field := ⟨0x110010, 16, 8⟩
abbrev SAFE_CLAMP.AZ_RATE : Field := ⟨0x110010, 24, 1⟩
abbrev SAFE_CTRL.INH_RESET : Field := ⟨0x110014, 0, 1⟩
abbrev SAFE_CTRL.OUT_RESET : Field := ⟨0x110014, 1, 1⟩
abbrev SAFE_CTRL.LOADTEST : Field := ⟨0x110014, 2, 1⟩
abbrev SAFE_CTRL.INST_SEL : Field := ⟨0x110014, 4, 3⟩
abbrev SAFE_TIMING.RELEASE : Field := ⟨0x110018, 0, 16⟩
abbrev SAFE_TIMING.FENCE : Field := ⟨0x110018, 16, 16⟩
abbrev SAFE_FN.FN_CFG.REACT (n : Nat) : Field := ⟨0x110100 + 0x10 * n, 0, 2⟩
abbrev SAFE_FN.FN_CFG.OUTMASK (n : Nat) : Field := ⟨0x110100 + 0x10 * n, 8, 8⟩
abbrev SAFE_FN.FN_STAT.ACTIVE (n : Nat) : Field := ⟨0x110104 + 0x10 * n, 0, 1⟩
abbrev SAFE_FN.FN_STAT.LATCHED (n : Nat) : Field := ⟨0x110104 + 0x10 * n, 1, 1⟩
abbrev SAFE_FN.FN_STAT.ENABLED (n : Nat) : Field := ⟨0x110104 + 0x10 * n, 2, 1⟩
abbrev SAFE_FN.FN_STAT.ESCALATED (n : Nat) : Field := ⟨0x110104 + 0x10 * n, 3, 1⟩
abbrev SAFE_FN.FN_STAT.COUNT (n : Nat) : Field := ⟨0x110104 + 0x10 * n, 16, 16⟩
abbrev SAFE_FN.FN_VALUE.VALUE (n : Nat) : Field := ⟨0x110108 + 0x10 * n, 0, 32⟩
abbrev SAFE_FN.FN_TS.TS (n : Nat) : Field := ⟨0x11010c + 0x10 * n, 0, 32⟩
abbrev SAFE_IN.IN_STAT.ON (n : Nat) : Field := ⟨0x110200 + 0x10 * n, 0, 1⟩
abbrev SAFE_IN.IN_STAT.LEVEL_A (n : Nat) : Field := ⟨0x110200 + 0x10 * n, 1, 1⟩
abbrev SAFE_IN.IN_STAT.LEVEL_B (n : Nat) : Field := ⟨0x110200 + 0x10 * n, 2, 1⟩
abbrev SAFE_IN.IN_STAT.DISC (n : Nat) : Field := ⟨0x110200 + 0x10 * n, 3, 1⟩
abbrev SAFE_IN.IN_STAT.ROLE (n : Nat) : Field := ⟨0x110200 + 0x10 * n, 4, 3⟩
abbrev SAFE_IN.IN_TS.TS (n : Nat) : Field := ⟨0x110204 + 0x10 * n, 0, 32⟩
abbrev SAFE_OUT.OUT_STAT.ON (n : Nat) : Field := ⟨0x110300 + 0x10 * n, 0, 1⟩
abbrev SAFE_OUT.OUT_STAT.RB_A (n : Nat) : Field := ⟨0x110300 + 0x10 * n, 1, 1⟩
abbrev SAFE_OUT.OUT_STAT.RB_B (n : Nat) : Field := ⟨0x110300 + 0x10 * n, 2, 1⟩
abbrev SAFE_OUT.OUT_STAT.FAULT (n : Nat) : Field := ⟨0x110300 + 0x10 * n, 3, 1⟩
abbrev SAFE_OUT.OUT_STAT.DEFER_FAULT (n : Nat) : Field := ⟨0x110300 + 0x10 * n, 4, 1⟩
abbrev SAFE_OUT.OUT_STAT.LOAD_RESULT (n : Nat) : Field := ⟨0x110300 + 0x10 * n, 5, 2⟩
abbrev SAFE_OUT.OUT_TEST_TS.TS (n : Nat) : Field := ⟨0x110304 + 0x10 * n, 0, 32⟩
abbrev SAFE_OUT.OUT_CNT.FAIL (n : Nat) : Field := ⟨0x110308 + 0x10 * n, 0, 8⟩
abbrev SAFE_OUT.OUT_CNT.DEFER (n : Nat) : Field := ⟨0x110308 + 0x10 * n, 8, 8⟩
abbrev SAFE_OUT.OUT_CNT.PASS (n : Nat) : Field := ⟨0x110308 + 0x10 * n, 16, 16⟩
abbrev SAFE_OUT.OUT_DEFER.TIME (n : Nat) : Field := ⟨0x11030c + 0x10 * n, 0, 32⟩

/-! REC block, base 0x120000 -/

abbrev REC_STATUS.PROFILE : Field := ⟨0x120000, 0, 1⟩
abbrev REC_STATUS.MEDIUM_OK : Field := ⟨0x120000, 1, 1⟩
abbrev REC_STATUS.FROZEN : Field := ⟨0x120000, 2, 1⟩
abbrev REC_STATUS.KEY : Field := ⟨0x120000, 3, 1⟩
abbrev REC_STATUS.STICKY : Field := ⟨0x120000, 4, 3⟩
abbrev REC_SEQ.LAST : Field := ⟨0x120004, 0, 32⟩
abbrev REC_FIRST_SEQ.FIRST : Field := ⟨0x120008, 0, 32⟩
abbrev REC_OPH_LO.OPH : Field := ⟨0x12000c, 0, 32⟩
abbrev REC_OPH_HI.OPH : Field := ⟨0x120010, 0, 16⟩
abbrev REC_PCC.PCC : Field := ⟨0x120014, 0, 24⟩
abbrev REC_STAGE.LEVEL : Field := ⟨0x120018, 0, 13⟩
abbrev REC_STAGE.HWM : Field := ⟨0x120018, 16, 13⟩
abbrev REC_LOST.DROPPED : Field := ⟨0x12001c, 0, 16⟩
abbrev REC_LOST.SNAP_SKIPPED : Field := ⟨0x12001c, 16, 16⟩
abbrev REC_FREEZE.FREEZE : Field := ⟨0x120020, 0, 1⟩
abbrev REC_FREEZE.THAW : Field := ⟨0x120020, 1, 1⟩
abbrev REC_FREEZE_STAT.ELAPSED : Field := ⟨0x120024, 0, 10⟩
abbrev REC_FREEZE_STAT.END : Field := ⟨0x120024, 10, 2⟩
abbrev REC_FREEZE_STAT.RESULT : Field := ⟨0x120024, 12, 2⟩
abbrev REC_SNAP_INT.INT : Field := ⟨0x120028, 0, 32⟩
abbrev REC_READ_CTRL.GO : Field := ⟨0x120030, 0, 1⟩
abbrev REC_READ_FROM.SEQ : Field := ⟨0x120034, 0, 32⟩
abbrev REC_READ_RES.BUSY : Field := ⟨0x120038, 0, 1⟩
abbrev REC_READ_RES.GAP : Field := ⟨0x120038, 1, 1⟩
abbrev REC_READ_RES.COUNT : Field := ⟨0x120038, 16, 16⟩
abbrev REC_READ_LAST.SEQ : Field := ⟨0x12003c, 0, 32⟩
abbrev REC_READ_NEXT.SEQ : Field := ⟨0x120040, 0, 32⟩
abbrev REC_WIN.EIGHTH : Field := ⟨0x120044, 0, 3⟩
abbrev REC_WIN.EN : Field := ⟨0x120044, 3, 1⟩
abbrev REC_CLR_CTRL.CHAL : Field := ⟨0x120050, 0, 1⟩
abbrev REC_CLR_CTRL.SUBMIT : Field := ⟨0x120050, 1, 1⟩
abbrev REC_CLR_CTRL.REPLACE : Field := ⟨0x120050, 2, 1⟩
abbrev REC_CLR_RES.RESULT : Field := ⟨0x120054, 0, 3⟩
abbrev REC_CLR_CHAL.NONCE (n : Nat) : Field := ⟨0x120060 + 0x4 * n, 0, 32⟩
abbrev REC_CLR_RESP.RESP (n : Nat) : Field := ⟨0x120080 + 0x4 * n, 0, 32⟩
abbrev REC_KEY_DATA.KEY (n : Nat) : Field := ⟨0x128000 + 0x4 * n, 0, 32⟩
abbrev REC_KEY_CTRL.ENROL : Field := ⟨0x128020, 0, 1⟩

/-! NAND block, base 0x130000 -/

abbrev NAND_STATUS.PRESENT : Field := ⟨0x130000, 0, 1⟩
abbrev NAND_STATUS.FORMATTED : Field := ⟨0x130000, 1, 1⟩
abbrev NAND_STATUS.SCRUBBING : Field := ⟨0x130000, 2, 1⟩
abbrev NAND_STATUS.SPARE_LOW : Field := ⟨0x130000, 3, 1⟩
abbrev NAND_STATUS.FAILED : Field := ⟨0x130000, 4, 1⟩
abbrev NAND_STATUS.STICKY : Field := ⟨0x130000, 5, 3⟩
abbrev NAND_GEOM.CE : Field := ⟨0x130004, 0, 3⟩
abbrev NAND_GEOM.PAGE : Field := ⟨0x130004, 3, 2⟩
abbrev NAND_GEOM.PSLC : Field := ⟨0x130004, 5, 1⟩
abbrev NAND_GEOM.PPB : Field := ⟨0x130004, 16, 16⟩
abbrev NAND_TOTAL.BLOCKS : Field := ⟨0x130008, 0, 24⟩
abbrev NAND_FBAD.BLOCKS : Field := ⟨0x13000c, 0, 24⟩
abbrev NAND_GBAD.BLOCKS : Field := ⟨0x130010, 0, 24⟩
abbrev NAND_SPARE.BLOCKS : Field := ⟨0x130014, 0, 24⟩
abbrev NAND_ECC.CORR_MAX : Field := ⟨0x130018, 0, 7⟩
abbrev NAND_ECC.UNCORR : Field := ⟨0x130018, 16, 16⟩
abbrev NAND_SCRUB.AGE : Field := ⟨0x13001c, 0, 16⟩
abbrev NAND_SCRUB.PASSES : Field := ⟨0x13001c, 16, 16⟩
abbrev NAND_EC_MAX.EC : Field := ⟨0x130020, 0, 32⟩
abbrev NAND_EC_MIN.EC : Field := ⟨0x130024, 0, 32⟩
abbrev NAND_RETIRE_LAST.BLOCK : Field := ⟨0x130028, 0, 24⟩
abbrev NAND_RETIRE_LAST.CAUSE : Field := ⟨0x130028, 24, 4⟩
abbrev NAND_CTRL.FORMAT : Field := ⟨0x13002c, 0, 1⟩
abbrev NAND_CTRL.SCRUB_NOW : Field := ⟨0x13002c, 1, 1⟩

/-! BIST block, base 0x140000 -/

abbrev BIST_STATUS.RESULTS_VALID : Field := ⟨0x140000, 0, 1⟩
abbrev BIST_STATUS.PASSED : Field := ⟨0x140000, 1, 1⟩
abbrev BIST_STATUS.REPAIR_PENDING : Field := ⟨0x140000, 2, 1⟩
abbrev BIST_STATUS.REPAIRED : Field := ⟨0x140000, 3, 1⟩
abbrev BIST_STATUS.UNREPAIRABLE : Field := ⟨0x140000, 4, 1⟩
abbrev BIST_STATUS.MARGIN_WARN : Field := ⟨0x140000, 5, 1⟩
abbrev BIST_STATUS.SCAN_OPEN : Field := ⟨0x140000, 6, 1⟩
abbrev BIST_STATUS.RESULTS_STICKY : Field := ⟨0x140000, 7, 1⟩
abbrev BIST_STATUS.REPAIR_STICKY : Field := ⟨0x140000, 8, 1⟩
abbrev BIST_STATUS.HOLD_STICKY : Field := ⟨0x140000, 9, 1⟩
abbrev BIST_LAST.DURATION : Field := ⟨0x140004, 0, 13⟩
abbrev BIST_LAST.TRIGGER : Field := ⟨0x140004, 13, 3⟩
abbrev BIST_LAST.MEMFAIL : Field := ⟨0x140004, 16, 8⟩
abbrev BIST_CTRL.KEY : Field := ⟨0x140010, 0, 8⟩
abbrev BIST_CTRL.SHUTDOWN : Field := ⟨0x140010, 31, 1⟩
abbrev BIST_MEMFAIL.MF.MEM (n : Nat) : Field := ⟨0x140100 + 0x10 * n, 0, 8⟩
abbrev BIST_MEMFAIL.MF.BIT (n : Nat) : Field := ⟨0x140100 + 0x10 * n, 8, 8⟩
abbrev BIST_MEMFAIL.MF.STEP (n : Nat) : Field := ⟨0x140100 + 0x10 * n, 16, 4⟩
abbrev BIST_MEMFAIL.MF.REPAIR (n : Nat) : Field := ⟨0x140100 + 0x10 * n, 20, 2⟩
abbrev BIST_MEMFAIL.ADDR.ADDR (n : Nat) : Field := ⟨0x140104 + 0x10 * n, 0, 32⟩
abbrev BIST_AN.AN.RESULT (n : Nat) : Field := ⟨0x140400 + 0x10 * n, 0, 2⟩
abbrev BIST_AN.MEASURED.MEASURED (n : Nat) : Field := ⟨0x140404 + 0x10 * n, 0, 32⟩
abbrev BIST_AN.LIMIT.LIMIT (n : Nat) : Field := ⟨0x140408 + 0x10 * n, 0, 32⟩
abbrev BIST_AN.MARGIN.MARGIN (n : Nat) : Field := ⟨0x14040c + 0x10 * n, 0, 16⟩
abbrev BIST_XSCAN.SCAN_EN : Field := ⟨0x148000, 0, 1⟩

/-! HOST block, base 0x150000 -/

abbrev HOST_STATUS.LINK_UP : Field := ⟨0x150000, 0, 1⟩
abbrev HOST_STATUS.WIDTH : Field := ⟨0x150000, 1, 2⟩
abbrev HOST_STATUS.SPEED : Field := ⟨0x150000, 3, 2⟩
abbrev HOST_STATUS.MASTER : Field := ⟨0x150000, 5, 1⟩
abbrev HOST_PCIE_ERR.CORR : Field := ⟨0x150004, 0, 8⟩
abbrev HOST_PCIE_ERR.UNCORR : Field := ⟨0x150004, 8, 8⟩
abbrev HOST_PCIE_ERR.BAR0_FORM : Field := ⟨0x150004, 16, 8⟩
abbrev HOST_INFO.NPARAM : Field := ⟨0x150008, 0, 13⟩
abbrev HOST_WERR.CAUSE : Field := ⟨0x150010, 0, 4⟩
abbrev HOST_WERR.PORT : Field := ⟨0x150010, 4, 1⟩
abbrev HOST_WERR.SPACE : Field := ⟨0x150010, 5, 1⟩
abbrev HOST_WERR.MULTI : Field := ⟨0x150010, 6, 1⟩
abbrev HOST_WERR.WERR_VALID : Field := ⟨0x150010, 31, 1⟩
abbrev HOST_WERR_ADDR.ADDR : Field := ⟨0x150014, 0, 32⟩
abbrev HOST_WERR_CNT.COUNT : Field := ⟨0x150018, 0, 16⟩
abbrev HOST_DB_OUT.DONE : Field := ⟨0x150020, 0, 10⟩
abbrev HOST_SPI.CRC_ERR : Field := ⟨0x150030, 0, 16⟩
abbrev HOST_MSIX.ADDR_LO.ADDR (n : Nat) : Field := ⟨0x151000 + 0x10 * n, 0, 32⟩
abbrev HOST_MSIX.ADDR_HI.ADDR (n : Nat) : Field := ⟨0x151004 + 0x10 * n, 0, 32⟩
abbrev HOST_MSIX.DATA.DATA (n : Nat) : Field := ⟨0x151008 + 0x10 * n, 0, 32⟩
abbrev HOST_MSIX.CTRL.MASK (n : Nat) : Field := ⟨0x15100c + 0x10 * n, 0, 1⟩
abbrev HOST_MSIX_PBA.PEND : Field := ⟨0x151800, 0, 4⟩

/-! NET block, base 0x160000 -/

abbrev NET_LINK.UP : Field := ⟨0x160000, 0, 4⟩
abbrev NET_PTP.PTP_CFG.EN (n : Nat) : Field := ⟨0x160100 + 0x20 * n, 0, 1⟩
abbrev NET_PTP.PTP_CFG.PROFILE (n : Nat) : Field := ⟨0x160100 + 0x20 * n, 1, 2⟩
abbrev NET_PTP.PTP_CFG.ROLE (n : Nat) : Field := ⟨0x160100 + 0x20 * n, 3, 2⟩
abbrev NET_PTP.PTP_CFG.UDP (n : Nat) : Field := ⟨0x160100 + 0x20 * n, 5, 1⟩
abbrev NET_PTP.PTP_STATE.STATE_P (n : Nat) : Field := ⟨0x160104 + 0x20 * n, 0, 4⟩
abbrev NET_PTP.PTP_STATE.STATE_S (n : Nat) : Field := ⟨0x160104 + 0x20 * n, 4, 4⟩
abbrev NET_PTP.PTP_ING.CORR (n : Nat) : Field := ⟨0x160108 + 0x20 * n, 0, 32⟩
abbrev NET_PTP.PTP_EGR.CORR (n : Nat) : Field := ⟨0x16010c + 0x20 * n, 0, 32⟩
abbrev NET_PTP.PTP_DELAY.DELAY (n : Nat) : Field := ⟨0x160110 + 0x20 * n, 0, 32⟩
abbrev NET_TXQ.QCFG.LAUNCH_EN (p q : Nat) : Field := ⟨0x160400 + 0x100 * p + 0x10 * q, 0, 1⟩
abbrev NET_TXQ.QCFG.LATE_SEND (p q : Nat) : Field := ⟨0x160400 + 0x100 * p + 0x10 * q, 1, 1⟩
abbrev NET_TXQ.QLATE.LATE (p q : Nat) : Field := ⟨0x160404 + 0x100 * p + 0x10 * q, 0, 16⟩
abbrev NET_TXQ.QLATE.LATE_SENT (p q : Nat) : Field := ⟨0x160404 + 0x100 * p + 0x10 * q, 16, 16⟩
abbrev NET_TXQ.QDELAY.DELAYED (p q : Nat) : Field := ⟨0x160408 + 0x100 * p + 0x10 * q, 0, 16⟩
abbrev NET_TXQ.QLAST.TS (p q : Nat) : Field := ⟨0x16040c + 0x100 * p + 0x10 * q, 0, 32⟩

/-! PARAM block, base 0x170000 -/

abbrev PARAM_INDEX.INDEX : Field := ⟨0x170000, 0, 16⟩
abbrev PARAM_DATA_LO.DATA : Field := ⟨0x170004, 0, 32⟩
abbrev PARAM_DATA_HI.DATA : Field := ⟨0x170008, 0, 32⟩
abbrev PARAM_INFO.TYPE : Field := ⟨0x17000c, 0, 4⟩
abbrev PARAM_INFO.EXPERT : Field := ⟨0x17000c, 4, 1⟩
abbrev PARAM_INFO.SAFETY : Field := ⟨0x17000c, 5, 1⟩
abbrev PARAM_INFO.EXISTS : Field := ⟨0x17000c, 6, 1⟩
abbrev PARAM_INFO.PENDING : Field := ⟨0x17000c, 7, 1⟩
abbrev PARAM_INFO.SOURCE : Field := ⟨0x17000c, 8, 3⟩
abbrev PARAM_STATUS.ERR : Field := ⟨0x170010, 0, 8⟩
abbrev PARAM_COMMIT.INDEX : Field := ⟨0x170014, 0, 16⟩
abbrev PARAM_COMMIT.OP : Field := ⟨0x170014, 16, 2⟩
abbrev PARAM_COMMIT.GO : Field := ⟨0x170014, 31, 1⟩
abbrev PARAM_COMMIT_RES.BUSY : Field := ⟨0x170018, 0, 1⟩
abbrev PARAM_COMMIT_RES.RESULT : Field := ⟨0x170018, 8, 8⟩
abbrev PARAM_COMMIT_RES.COUNT : Field := ⟨0x170018, 16, 16⟩
abbrev PARAM_OVL.APPLIED : Field := ⟨0x170020, 0, 16⟩
abbrev PARAM_OVL.SKIPPED : Field := ⟨0x170020, 16, 16⟩
abbrev PARAM_BULK.SNAP : Field := ⟨0x170024, 0, 1⟩
abbrev PARAM_BULK.APPLY : Field := ⟨0x170024, 1, 1⟩

end Sys2Proof.Machine.Reg
end

