-- ==== Sys2Proof/Machine/RegTable.lean ====
section
/-! DEFINITION. The register table of the device: every register of the register rules with its fields, their access
codes (R11), reset values (R12) and number formats (R6), one list for each block of R31. -/
namespace Sys2Proof.Machine

/-- The registers of SYS (R56, R57, R496, R514, R537). -/
def rowsSys : List RegRow := [
  ⟨0x0, ⟨4, 1⟩, ⟨4, 1⟩, [⟨0, 16, .ro, 0x9600, 0, .h⟩, ⟨16, 8, .ro, 0x0, 0, .f⟩]⟩,
  ⟨0x4, ⟨4, 1⟩, ⟨4, 1⟩, [⟨0, 32, .ro, 0x0, 0, .f⟩]⟩,
  ⟨0x8, ⟨4, 1⟩, ⟨4, 1⟩, [⟨0, 32, .ro, 0x0, 0, .f⟩]⟩,
  ⟨0xc, ⟨4, 1⟩, ⟨4, 1⟩, [⟨0, 32, .ro, 0x0, 0, .h⟩]⟩,
  ⟨0x10, ⟨4, 1⟩, ⟨4, 1⟩, [⟨0, 3, .ro, 0x1, 0, .h⟩, ⟨3, 1, .ro, 0x0, 0, .h⟩, ⟨4, 3, .ro, 0x1, 0, .h⟩, ⟨7, 1, .ro, 0x0, 0, .h⟩, ⟨8, 1, .ro, 0x0, 0, .h⟩, ⟨9, 1, .ro, 0x0, 0, .h⟩, ⟨10, 1, .ro, 0x0, 0, .h⟩, ⟨11, 1, .ro, 0x0, 0, .h⟩, ⟨12, 1, .ro, 0x0, 0, .h⟩, ⟨16, 4, .ro, 0x0, 0, .h⟩, ⟨20, 12, .ro, 0x0, 0, .h⟩]⟩,
  ⟨0x14, ⟨4, 1⟩, ⟨4, 1⟩, [⟨0, 3, .rw, 0x1, 0, .h⟩, ⟨4, 1, .rw, 0x0, 0, .h⟩, ⟨5, 1, .rw, 0x0, 0, .h⟩, ⟨6, 1, .rw, 0x0, 0, .h⟩, ⟨8, 8, .rw, 0x0, 0, .h⟩, ⟨16, 8, .ro, 0x0, 0, .h⟩, ⟨24, 1, .ro, 0x0, 0, .h⟩, ⟨25, 1, .ro, 0x0, 0, .h⟩, ⟨31, 1, .w1s, 0x0, 0, .h⟩]⟩,
  ⟨0x18, ⟨4, 1⟩, ⟨4, 1⟩, [⟨0, 3, .ro, 0x0, 0, .h⟩, ⟨3, 3, .rw, 0x0, 0, .h⟩, ⟨6, 1, .ro, 0x0, 0, .h⟩, ⟨7, 1, .ro, 0x0, 0, .h⟩, ⟨8, 8, .rw, 0x0, 0, .h⟩, ⟨16, 8, .wo, 0x0, 0, .h⟩, ⟨30, 1, .w1s, 0x0, 0, .h⟩, ⟨31, 1, .w1s, 0x0, 0, .h⟩]⟩,
  ⟨0x1c, ⟨4, 1⟩, ⟨4, 1⟩, [⟨0, 1, .ro, 0x0, 0, .h⟩, ⟨1, 1, .ro, 0x0, 0, .h⟩, ⟨16, 16, .ro, 0x0, 0, .h⟩]⟩,
  ⟨0x30, ⟨4, 1⟩, ⟨4, 1⟩, [⟨0, 16, .rc, 0x0, 0, .h⟩, ⟨16, 16, .rc, 0x0, 0, .h⟩]⟩,
  ⟨0x34, ⟨4, 1⟩, ⟨4, 1⟩, [⟨0, 32, .ro, 0x0, 0, .h⟩]⟩,
  ⟨0x40, ⟨0x4, 4⟩, ⟨4, 1⟩, [⟨0, 32, .ro, 0x0, 0, .h⟩]⟩,
  ⟨0x50, ⟨4, 1⟩, ⟨4, 1⟩, [⟨0, 16, .ro, 0x0, 0, .h⟩, ⟨16, 16, .ro, 0x0, 0, .h⟩]⟩,
  ⟨0x54, ⟨4, 1⟩, ⟨4, 1⟩, [⟨0, 16, .ro, 0x0, 0, .h⟩, ⟨16, 16, .ro, 0x0, 0, .h⟩]⟩,
  ⟨0x58, ⟨4, 1⟩, ⟨4, 1⟩, [⟨0, 10, .ro, 0x0, 0, .h⟩, ⟨10, 10, .ro, 0x0, 0, .h⟩, ⟨20, 10, .ro, 0x0, 0, .h⟩]⟩,
  ⟨0x5c, ⟨4, 1⟩, ⟨4, 1⟩, [⟨0, 1, .ro, 0x0, 0, .h⟩, ⟨1, 1, .ro, 0x0, 0, .h⟩, ⟨2, 1, .ro, 0x0, 0, .h⟩, ⟨3, 1, .ro, 0x0, 0, .h⟩, ⟨4, 1, .ro, 0x0, 0, .h⟩, ⟨5, 1, .ro, 0x0, 0, .h⟩, ⟨6, 1, .ro, 0x0, 0, .h⟩, ⟨7, 1, .ro, 0x0, 0, .h⟩, ⟨8, 1, .w1c, 0x0, 0, .h⟩, ⟨9, 1, .w1c, 0x0, 0, .h⟩]⟩]

/-- The registers of CLK (R479, R480). -/
def rowsClk : List RegRow := [
  ⟨0x10000, ⟨4, 1⟩, ⟨4, 1⟩, [⟨0, 1, .ro, 0x0, 0, .h⟩, ⟨1, 1, .ro, 0x0, 0, .h⟩, ⟨2, 1, .ro, 0x0, 0, .h⟩, ⟨3, 1, .ro, 0x0, 0, .h⟩, ⟨4, 1, .ro, 0x0, 0, .h⟩, ⟨5, 1, .w1c, 0x0, 0, .h⟩, ⟨6, 1, .w1c, 0x0, 0, .h⟩, ⟨7, 1, .w1c, 0x0, 0, .h⟩, ⟨8, 2, .ro, 0x0, 0, .h⟩, ⟨10, 1, .ro, 0x0, 0, .h⟩]⟩,
  ⟨0x10004, ⟨4, 1⟩, ⟨4, 1⟩, [⟨0, 7, .ro, 0x0, 0, .h⟩]⟩,
  ⟨0x10008, ⟨4, 1⟩, ⟨4, 1⟩, [⟨0, 16, .ro, 0x0, 0, .h⟩, ⟨16, 8, .ro, 0x0, 0, .h⟩]⟩,
  ⟨0x1000c, ⟨4, 1⟩, ⟨4, 1⟩, [⟨0, 3, .ro, 0x0, 0, .h⟩, ⟨3, 3, .ro, 0x0, 0, .h⟩]⟩,
  ⟨0x10010, ⟨4, 1⟩, ⟨4, 1⟩, [⟨0, 14, .ro, 0x0, 0, .h⟩, ⟨16, 2, .ro, 0x0, 0, .h⟩]⟩,
  ⟨0x10014, ⟨4, 1⟩, ⟨4, 1⟩, [⟨0, 8, .wo, 0x0, 0, .h⟩, ⟨31, 1, .w1s, 0x0, 0, .h⟩]⟩,
  ⟨0x10020, ⟨4, 1⟩, ⟨4, 1⟩, [⟨0, 5, .rw, 0x0, 0, .h⟩]⟩,
  ⟨0x10024, ⟨4, 1⟩, ⟨4, 1⟩, [⟨0, 5, .ro, 0x0, 0, .h⟩]⟩,
  ⟨0x10028, ⟨4, 1⟩, ⟨4, 1⟩, [⟨0, 32, .rw, 0x0, 0, .h⟩]⟩,
  ⟨0x10030, ⟨4, 1⟩, ⟨4, 1⟩, [⟨0, 1, .rw, 0x0, 0, .h⟩]⟩,
  ⟨0x10040, ⟨4, 1⟩, ⟨4, 1⟩, [⟨0, 32, .w1c, 0x0, 0, .h⟩]⟩,
  ⟨0x10044, ⟨4, 1⟩, ⟨4, 1⟩, [⟨0, 32, .w1c, 0x0, 0, .h⟩]⟩,
  ⟨0x18000, ⟨4, 1⟩, ⟨4, 1⟩, [⟨8, 6, .rwx, 0x0, 0, .h⟩, ⟨16, 8, .rwx, 0x1, 0, .h⟩, ⟨31, 1, .rwx, 0x0, 0, .h⟩]⟩,
  ⟨0x18004, ⟨4, 1⟩, ⟨4, 1⟩, [⟨0, 16, .ro, 0x0, 0, .h⟩, ⟨16, 1, .ro, 0x0, 0, .h⟩]⟩,
  ⟨0x18008, ⟨4, 1⟩, ⟨4, 1⟩, [⟨0, 1, .rwx, 0x0, 0, .h⟩]⟩]

/-- The registers of EVT (R515). -/
def rowsEvt : List RegRow := [
  ⟨0x20000, ⟨0x4, 3⟩, ⟨4, 1⟩, [⟨0, 32, .w1c, 0x0, 0, .h⟩]⟩,
  ⟨0x20010, ⟨0x4, 3⟩, ⟨4, 1⟩, [⟨0, 32, .rw, 0x0, 0, .h⟩]⟩,
  ⟨0x20020, ⟨4, 1⟩, ⟨4, 1⟩, [⟨0, 4, .ro, 0x0, 0, .h⟩, ⟨4, 2, .ro, 0x0, 0, .h⟩]⟩,
  ⟨0x20024, ⟨4, 1⟩, ⟨4, 1⟩, [⟨0, 7, .ro, 0x0, 0, .h⟩]⟩,
  ⟨0x20028, ⟨4, 1⟩, ⟨4, 1⟩, [⟨0, 32, .ro, 0x0, 0, .h⟩]⟩,
  ⟨0x20100, ⟨0x4, 24⟩, ⟨4, 1⟩, [⟨0, 2, .rw, 0x0, 0, .h⟩, ⟨2, 1, .rw, 0x0, 0, .h⟩, ⟨3, 1, .rw, 0x0, 0, .h⟩, ⟨4, 1, .rw, 0x0, 0, .h⟩, ⟨8, 2, .rw, 0x0, 0, .h⟩, ⟨10, 1, .rw, 0x0, 0, .h⟩, ⟨11, 1, .rw, 0x0, 0, .h⟩, ⟨12, 1, .rw, 0x0, 0, .h⟩, ⟨16, 2, .rw, 0x0, 0, .h⟩, ⟨18, 1, .rw, 0x0, 0, .h⟩, ⟨19, 1, .rw, 0x0, 0, .h⟩, ⟨20, 1, .rw, 0x0, 0, .h⟩, ⟨24, 2, .rw, 0x0, 0, .h⟩, ⟨26, 1, .rw, 0x0, 0, .h⟩, ⟨27, 1, .rw, 0x0, 0, .h⟩, ⟨28, 1, .rw, 0x0, 0, .h⟩]⟩,
  ⟨0x28000, ⟨4, 1⟩, ⟨4, 1⟩, [⟨0, 7, .rwx, 0x0, 0, .h⟩, ⟨31, 1, .rwx, 0x0, 0, .h⟩]⟩]

/-- The registers of SCHED (R81, R82, R83, R84, R85, R86). -/
def rowsSched : List RegRow := [
  ⟨0x30000, ⟨4, 1⟩, ⟨4, 1⟩, [⟨0, 1, .ro, 0x0, 0, .h⟩, ⟨1, 1, .ro, 0x0, 0, .h⟩, ⟨2, 1, .ro, 0x0, 0, .h⟩, ⟨3, 1, .w1c, 0x0, 0, .h⟩, ⟨4, 1, .ro, 0x0, 0, .h⟩, ⟨5, 1, .w1c, 0x0, 0, .h⟩, ⟨6, 1, .w1c, 0x0, 0, .h⟩, ⟨16, 5, .ro, 0x0, 0, .h⟩]⟩,
  ⟨0x30004, ⟨4, 1⟩, ⟨4, 1⟩, [⟨0, 16, .ro, 0x0, 0, .h⟩, ⟨16, 4, .ro, 0x0, 0, .h⟩, ⟨20, 4, .ro, 0x0, 0, .h⟩]⟩,
  ⟨0x30008, ⟨4, 1⟩, ⟨4, 1⟩, [⟨0, 9, .ro, 0x0, 0, .h⟩, ⟨16, 9, .ro, 0x0, 0, .h⟩]⟩,
  ⟨0x3000c, ⟨4, 1⟩, ⟨4, 1⟩, [⟨0, 1, .w1s, 0x0, 0, .h⟩]⟩,
  ⟨0x30010, ⟨4, 1⟩, ⟨4, 1⟩, [⟨0, 9, .ro, 0x0, 0, .i⟩, ⟨16, 9, .ro, 0x10, 0, .u⟩]⟩,
  ⟨0x30014, ⟨4, 1⟩, ⟨4, 1⟩, [⟨0, 10, .ro, 0x0, 0, .h⟩, ⟨12, 4, .ro, 0x0, 0, .h⟩, ⟨16, 8, .ro, 0x0, 0, .h⟩]⟩,
  ⟨0x30018, ⟨4, 1⟩, ⟨4, 1⟩, [⟨0, 32, .ro, 0x0, 0, .h⟩]⟩,
  ⟨0x3001c, ⟨4, 1⟩, ⟨4, 1⟩, [⟨0, 16, .rc, 0x0, 0, .h⟩]⟩,
  ⟨0x30020, ⟨4, 1⟩, ⟨4, 1⟩, [⟨0, 16, .rc, 0x0, 0, .h⟩]⟩,
  ⟨0x30024, ⟨4, 1⟩, ⟨4, 1⟩, [⟨0, 32, .ro, 0x0, 0, .i⟩]⟩,
  ⟨0x30028, ⟨4, 1⟩, ⟨4, 1⟩, [⟨0, 10, .ro, 0x0, 0, .i⟩, ⟨16, 10, .ro, 0x0, 0, .i⟩]⟩,
  ⟨0x3002c, ⟨4, 1⟩, ⟨4, 1⟩, [⟨0, 4, .ro, 0x0, 0, .h⟩, ⟨4, 4, .ro, 0x0, 0, .h⟩]⟩,
  ⟨0x30100, ⟨0x10, 1023⟩, ⟨4, 1⟩, [⟨0, 8, .ro, 0x0, 0, .i⟩, ⟨8, 2, .ro, 0x0, 0, .i⟩, ⟨10, 1, .ro, 0x0, 0, .i⟩, ⟨11, 2, .ro, 0x0, 0, .i⟩]⟩,
  ⟨0x30104, ⟨0x10, 1023⟩, ⟨4, 1⟩, [⟨0, 27, .ro, 0x0, 0, .i⟩]⟩,
  ⟨0x30108, ⟨0x10, 1023⟩, ⟨4, 1⟩, [⟨0, 27, .ro, 0x0, 0, .i⟩]⟩,
  ⟨0x3010c, ⟨0x10, 1023⟩, ⟨4, 1⟩, [⟨0, 16, .ro, 0x0, 0, .h⟩, ⟨16, 16, .ro, 0x0, 0, .h⟩]⟩,
  ⟨0x38000, ⟨4, 1⟩, ⟨4, 1⟩, [⟨0, 10, .rwx, 0x0, 0, .h⟩, ⟨12, 12, .rwx, 0x0, 0, .h⟩, ⟨31, 1, .rwx, 0x0, 0, .h⟩]⟩,
  ⟨0x38004, ⟨4, 1⟩, ⟨4, 1⟩, [⟨0, 10, .rwx, 0x0, 0, .h⟩, ⟨31, 1, .rwx, 0x0, 0, .h⟩]⟩]

/-- The registers of IMG (R112, R113, R114, R115, R116). -/
def rowsImg : List RegRow := [
  ⟨0x40000, ⟨4, 1⟩, ⟨4, 1⟩, [⟨0, 3, .ro, 0x7, 0, .h⟩, ⟨3, 1, .ro, 0x0, 0, .h⟩, ⟨4, 1, .ro, 0x0, 0, .h⟩, ⟨5, 1, .ro, 0x0, 0, .h⟩, ⟨6, 1, .ro, 0x0, 0, .h⟩, ⟨8, 3, .ro, 0x0, 0, .h⟩, ⟨12, 3, .ro, 0x0, 0, .h⟩, ⟨16, 6, .ro, 0x0, 0, .h⟩]⟩,
  ⟨0x40004, ⟨4, 1⟩, ⟨4, 1⟩, [⟨0, 3, .ro, 0x0, 0, .h⟩, ⟨4, 3, .ro, 0x0, 0, .h⟩]⟩,
  ⟨0x40008, ⟨4, 1⟩, ⟨4, 1⟩, [⟨0, 32, .ro, 0x0, 0, .h⟩]⟩,
  ⟨0x40010, ⟨4, 1⟩, ⟨4, 1⟩, [⟨0, 3, .rw, 0x1, 0, .h⟩, ⟨4, 3, .rw, 0x6, 0, .h⟩, ⟨8, 1, .rw, 0x0, 0, .h⟩, ⟨31, 1, .w1s, 0x0, 0, .h⟩]⟩,
  ⟨0x40014, ⟨4, 1⟩, ⟨4, 1⟩, [⟨0, 1, .ro, 0x0, 0, .h⟩, ⟨1, 3, .ro, 0x0, 0, .h⟩, ⟨8, 8, .ro, 0x0, 0, .h⟩]⟩,
  ⟨0x40020, ⟨4, 1⟩, ⟨4, 1⟩, [⟨0, 1, .w1s, 0x0, 0, .h⟩]⟩,
  ⟨0x40024, ⟨4, 1⟩, ⟨4, 1⟩, [⟨0, 8, .ro, 0x0, 0, .h⟩, ⟨8, 8, .ro, 0x0, 0, .h⟩]⟩,
  ⟨0x40100, ⟨0x20, 6⟩, ⟨4, 1⟩, [⟨0, 3, .ro, 0x0, 0, .h⟩, ⟨3, 1, .ro, 0x0, 0, .h⟩]⟩,
  ⟨0x40104, ⟨0x20, 6⟩, ⟨4, 1⟩, [⟨0, 32, .ro, 0x0, 0, .h⟩]⟩,
  ⟨0x40108, ⟨0x20, 6⟩, ⟨4, 1⟩, [⟨0, 32, .ro, 0x0, 0, .h⟩]⟩,
  ⟨0x4010c, ⟨0x20, 6⟩, ⟨4, 1⟩, [⟨0, 32, .ro, 0x0, 0, .h⟩]⟩,
  ⟨0x40110, ⟨0x20, 6⟩, ⟨4, 1⟩, [⟨0, 32, .ro, 0x0, 0, .h⟩]⟩,
  ⟨0x40114, ⟨0x20, 6⟩, ⟨4, 1⟩, [⟨0, 32, .ro, 0x0, 0, .h⟩]⟩,
  ⟨0x40118, ⟨0x20, 6⟩, ⟨4, 1⟩, [⟨0, 32, .ro, 0x0, 0, .h⟩]⟩,
  ⟨0x4011c, ⟨0x20, 6⟩, ⟨4, 1⟩, []⟩,
  ⟨0x48000, ⟨0x4, 8⟩, ⟨4, 1⟩, [⟨0, 32, .rwx, 0x0, 0, .h⟩]⟩,
  ⟨0x48020, ⟨4, 1⟩, ⟨4, 1⟩, [⟨0, 2, .rwx, 0x0, 0, .h⟩, ⟨2, 1, .w1s, 0x0, 0, .h⟩, ⟨3, 1, .w1s, 0x0, 0, .h⟩, ⟨4, 4, .ro, 0x0, 0, .h⟩, ⟨8, 4, .ro, 0x0, 0, .h⟩]⟩]

/-- The registers of CHK (R133, R134, R135). -/
def rowsChk : List RegRow := [
  ⟨0x50000, ⟨4, 1⟩, ⟨4, 1⟩, [⟨0, 1, .w1c, 0x0, 0, .h⟩, ⟨1, 1, .w1c, 0x0, 0, .h⟩, ⟨2, 1, .w1c, 0x0, 0, .h⟩, ⟨3, 1, .w1c, 0x0, 0, .h⟩, ⟨4, 1, .ro, 0x0, 0, .h⟩]⟩,
  ⟨0x50004, ⟨4, 1⟩, ⟨4, 1⟩, [⟨0, 8, .ro, 0x0, 0, .h⟩, ⟨8, 8, .ro, 0x0, 0, .h⟩, ⟨16, 8, .ro, 0x0, 0, .h⟩, ⟨24, 4, .ro, 0x0, 0, .h⟩]⟩,
  ⟨0x50008, ⟨4, 1⟩, ⟨4, 1⟩, [⟨0, 8, .ro, 0x0, 0, .h⟩, ⟨8, 10, .ro, 0x0, 0, .h⟩]⟩,
  ⟨0x5000c, ⟨4, 1⟩, ⟨4, 1⟩, [⟨0, 32, .ro, 0x0, 0, .h⟩]⟩,
  ⟨0x50010, ⟨4, 1⟩, ⟨4, 1⟩, [⟨0, 32, .ro, 0x0, 0, .h⟩]⟩,
  ⟨0x50014, ⟨4, 1⟩, ⟨4, 1⟩, [⟨0, 32, .ro, 0x0, 0, .h⟩]⟩,
  ⟨0x50018, ⟨4, 1⟩, ⟨4, 1⟩, [⟨0, 32, .ro, 0x0, 0, .h⟩]⟩,
  ⟨0x5001c, ⟨4, 1⟩, ⟨4, 1⟩, [⟨0, 32, .ro, 0x0, 0, .h⟩]⟩,
  ⟨0x50020, ⟨4, 1⟩, ⟨4, 1⟩, [⟨0, 16, .rc, 0x0, 0, .h⟩]⟩,
  ⟨0x50024, ⟨4, 1⟩, ⟨4, 1⟩, [⟨0, 8, .ro, 0x0, 0, .h⟩, ⟨8, 8, .ro, 0x0, 0, .h⟩, ⟨16, 2, .ro, 0x0, 0, .h⟩]⟩,
  ⟨0x50028, ⟨4, 1⟩, ⟨4, 1⟩, [⟨0, 16, .rc, 0x0, 0, .h⟩]⟩,
  ⟨0x5002c, ⟨4, 1⟩, ⟨4, 1⟩, [⟨0, 8, .ro, 0x0, 0, .h⟩]⟩,
  ⟨0x50040, ⟨4, 1⟩, ⟨4, 1⟩, [⟨0, 2, .rw, 0x0, 0, .h⟩, ⟨2, 2, .rw, 0x0, 0, .h⟩, ⟨31, 1, .w1s, 0x0, 0, .h⟩]⟩,
  ⟨0x50044, ⟨4, 1⟩, ⟨4, 1⟩, [⟨0, 32, .rw, 0x0, 0, .h⟩]⟩,
  ⟨0x50048, ⟨4, 1⟩, ⟨4, 1⟩, [⟨0, 29, .rw, 0x0, 0, .h⟩]⟩,
  ⟨0x5004c, ⟨4, 1⟩, ⟨4, 1⟩, [⟨0, 24, .rw, 0x8, 0, .h⟩]⟩,
  ⟨0x50050, ⟨4, 1⟩, ⟨4, 1⟩, [⟨0, 32, .rw, 0x0, 0, .h⟩]⟩,
  ⟨0x50054, ⟨4, 1⟩, ⟨4, 1⟩, [⟨0, 2, .ro, 0x0, 0, .h⟩]⟩,
  ⟨0x50058, ⟨4, 1⟩, ⟨4, 1⟩, [⟨0, 32, .ro, 0x0, 0, .h⟩]⟩,
  ⟨0x50060, ⟨4, 1⟩, ⟨4, 1⟩, [⟨0, 6, .rw, 0x20, 0, .h⟩, ⟨6, 1, .rw, 0x0, 0, .h⟩, ⟨7, 1, .rw, 0x0, 0, .h⟩]⟩,
  ⟨0x50064, ⟨4, 1⟩, ⟨4, 1⟩, [⟨0, 32, .rw, 0x0, 0, .h⟩]⟩,
  ⟨0x50068, ⟨4, 1⟩, ⟨4, 1⟩, [⟨0, 32, .rw, 0x0, 0, .h⟩]⟩,
  ⟨0x5006c, ⟨4, 1⟩, ⟨4, 1⟩, [⟨0, 32, .rw, 0x0, 0, .h⟩]⟩,
  ⟨0x58000, ⟨4, 1⟩, ⟨4, 1⟩, [⟨0, 8, .rwx, 0x0, 0, .h⟩, ⟨8, 8, .rwx, 0x0, 0, .h⟩, ⟨16, 8, .rwx, 0x0, 0, .h⟩, ⟨31, 1, .rwx, 0x0, 0, .h⟩]⟩,
  ⟨0x58004, ⟨4, 1⟩, ⟨4, 1⟩, [⟨0, 1, .ro, 0x0, 0, .h⟩]⟩,
  ⟨0x58008, ⟨4, 1⟩, ⟨4, 1⟩, [⟨0, 32, .ro, 0x0, 0, .h⟩]⟩,
  ⟨0x5800c, ⟨4, 1⟩, ⟨4, 1⟩, [⟨0, 32, .ro, 0x0, 0, .h⟩]⟩,
  ⟨0x58010, ⟨4, 1⟩, ⟨4, 1⟩, [⟨0, 32, .ro, 0x0, 0, .h⟩]⟩]

/-- The registers of ENTRY (R160, R161, R162). -/
def rowsEntry : List RegRow := [
  ⟨0x60000, ⟨4, 1⟩, ⟨4, 1⟩, [⟨0, 1, .w1c, 0x0, 0, .h⟩, ⟨1, 1, .w1c, 0x0, 0, .h⟩, ⟨2, 1, .w1c, 0x0, 0, .h⟩, ⟨3, 1, .ro, 0x0, 0, .h⟩]⟩,
  ⟨0x60100, ⟨0x20, 12⟩, ⟨4, 1⟩, [⟨0, 4, .ro, 0x0, 0, .i⟩, ⟨4, 2, .ro, 0x2, 0, .i⟩, ⟨6, 2, .ro, 0x0, 0, .i⟩, ⟨8, 1, .ro, 0x0, 0, .i⟩, ⟨9, 6, .ro, 0x0, 0, .i⟩]⟩,
  ⟨0x60104, ⟨0x20, 12⟩, ⟨4, 1⟩, [⟨0, 32, .ro, 0x0, 0, .u⟩]⟩,
  ⟨0x60108, ⟨0x20, 12⟩, ⟨4, 1⟩, [⟨0, 32, .ro, 0x0, 0, .h⟩]⟩,
  ⟨0x6010c, ⟨0x20, 12⟩, ⟨4, 1⟩, [⟨0, 8, .rc, 0x0, 0, .h⟩, ⟨8, 8, .rc, 0x0, 0, .h⟩, ⟨16, 8, .rc, 0x0, 0, .h⟩, ⟨24, 8, .rc, 0x0, 0, .h⟩]⟩,
  ⟨0x60110, ⟨0x20, 12⟩, ⟨4, 1⟩, [⟨0, 8, .rc, 0x0, 0, .h⟩, ⟨8, 8, .rc, 0x0, 0, .h⟩]⟩,
  ⟨0x60114, ⟨0x20, 12⟩, ⟨4, 1⟩, [⟨0, 13, .ro, 0x0, 0, .h⟩, ⟨16, 13, .ro, 0x0, 0, .h⟩]⟩,
  ⟨0x60118, ⟨0x20, 12⟩, ⟨4, 1⟩, [⟨0, 32, .ro, 0x0, 0, .h⟩]⟩,
  ⟨0x6011c, ⟨0x20, 12⟩, ⟨4, 1⟩, []⟩,
  ⟨0x60300, ⟨4, 1⟩, ⟨4, 1⟩, [⟨0, 32, .ro, 0x0, 0, .h⟩]⟩,
  ⟨0x60304, ⟨4, 1⟩, ⟨4, 1⟩, [⟨0, 8, .rc, 0x0, 0, .h⟩, ⟨8, 8, .rc, 0x0, 0, .h⟩, ⟨16, 8, .rc, 0x0, 0, .h⟩, ⟨24, 8, .rc, 0x0, 0, .h⟩]⟩,
  ⟨0x60308, ⟨4, 1⟩, ⟨4, 1⟩, [⟨0, 32, .ro, 0x0, 0, .h⟩]⟩,
  ⟨0x6030c, ⟨4, 1⟩, ⟨4, 1⟩, [⟨0, 8, .rc, 0x0, 0, .h⟩, ⟨8, 8, .rc, 0x0, 0, .h⟩]⟩,
  ⟨0x60400, ⟨0x10, 64⟩, ⟨4, 1⟩, [⟨0, 1, .ro, 0x0, 0, .h⟩, ⟨1, 1, .ro, 0x0, 0, .i⟩, ⟨8, 8, .ro, 0xff, 0, .i⟩, ⟨16, 16, .ro, 0x0, 0, .h⟩]⟩,
  ⟨0x60404, ⟨0x10, 64⟩, ⟨4, 1⟩, [⟨0, 32, .ro, 0x0, 0, .h⟩]⟩,
  ⟨0x60408, ⟨0x10, 64⟩, ⟨4, 1⟩, [⟨0, 32, .ro, 0x0, 0, .h⟩]⟩,
  ⟨0x6040c, ⟨0x10, 64⟩, ⟨4, 1⟩, [⟨0, 32, .ro, 0x0, 0, .u⟩]⟩]

/-- The registers of AFE (R163, R164, R165). -/
def rowsAfe : List RegRow := [
  ⟨0x70000, ⟨4, 1⟩, ⟨4, 1⟩, [⟨0, 1, .w1c, 0x0, 0, .h⟩, ⟨1, 1, .w1c, 0x0, 0, .h⟩, ⟨2, 1, .w1c, 0x0, 0, .h⟩]⟩,
  ⟨0x70040, ⟨0x4, 16⟩, ⟨4, 1⟩, [⟨0, 32, .ro, 0x0, 0, .h⟩]⟩,
  ⟨0x70100, ⟨0x40, 16⟩, ⟨4, 1⟩, [⟨0, 1, .rws, 0x0, 0, .i⟩, ⟨1, 1, .rws, 0x0, 0, .i⟩, ⟨4, 10, .rws, 0x1, 0, .i⟩, ⟨14, 6, .rws, 0x0, 0, .i⟩, ⟨20, 9, .rws, 0x1, 0, .i⟩, ⟨29, 1, .ro, 0x0, 0, .h⟩]⟩,
  ⟨0x70104, ⟨0x40, 16⟩, ⟨4, 1⟩, [⟨0, 25, .rws, 0x0, 0, .i⟩]⟩,
  ⟨0x70108, ⟨0x40, 16⟩, ⟨4, 1⟩, [⟨0, 24, .ro, 0x0, 0, .h⟩]⟩,
  ⟨0x7010c, ⟨0x40, 16⟩, ⟨4, 1⟩, [⟨0, 32, .ro, 0x0, 0, .h⟩]⟩,
  ⟨0x70110, ⟨0x40, 16⟩, ⟨4, 1⟩, [⟨0, 8, .rc, 0x0, 0, .h⟩, ⟨8, 8, .rc, 0x0, 0, .h⟩, ⟨16, 8, .rc, 0x0, 0, .h⟩]⟩,
  ⟨0x70114, ⟨0x40, 16⟩, ⟨4, 1⟩, [⟨0, 1, .ro, 0x1, 0, .h⟩, ⟨1, 5, .ro, 0x0, 0, .h⟩]⟩,
  ⟨0x70600, ⟨0x10, 8⟩, ⟨4, 1⟩, [⟨0, 1, .rws, 0x0, 0, .i⟩, ⟨1, 1, .rws, 0x0, 0, .i⟩, ⟨8, 6, .rws, 0x5, 0, .i⟩]⟩,
  ⟨0x70604, ⟨0x10, 8⟩, ⟨4, 1⟩, [⟨0, 32, .ro, 0x0, 0, .h⟩]⟩,
  ⟨0x70608, ⟨0x10, 8⟩, ⟨4, 1⟩, [⟨0, 32, .ro, 0x0, 0, .h⟩]⟩,
  ⟨0x7060c, ⟨0x10, 8⟩, ⟨4, 1⟩, [⟨0, 16, .ro, 0x0, 0, .h⟩]⟩,
  ⟨0x71000, ⟨0x4, 4096⟩, ⟨4, 1⟩, [⟨0, 24, .rws, 0x0, 0, .i⟩]⟩]

/-- The registers of GNSS (R187, R188, R189, R190). -/
def rowsGnss : List RegRow := [
  ⟨0x80000, ⟨4, 1⟩, ⟨4, 1⟩, [⟨0, 1, .ro, 0x0, 0, .h⟩, ⟨1, 3, .ro, 0x0, 0, .h⟩, ⟨4, 1, .w1c, 0x0, 0, .h⟩, ⟨5, 2, .ro, 0x0, 0, .h⟩, ⟨7, 1, .ro, 0x0, 0, .h⟩, ⟨8, 1, .ro, 0x0, 0, .h⟩, ⟨9, 1, .ro, 0x0, 0, .h⟩, ⟨10, 1, .w1c, 0x0, 0, .h⟩]⟩,
  ⟨0x80004, ⟨4, 1⟩, ⟨4, 1⟩, [⟨0, 8, .ro, 0x0, 0, .h⟩, ⟨8, 8, .ro, 0x0, 0, .h⟩, ⟨16, 1, .ro, 0x0, 0, .h⟩, ⟨24, 8, .ro, 0xff, 0, .h⟩]⟩,
  ⟨0x80010, ⟨0x4, 2⟩, ⟨4, 1⟩, [⟨0, 2, .ro, 0x2, 0, .u⟩, ⟨2, 2, .ro, 0x0, 0, .h⟩, ⟨8, 8, .ro, 0x0, 0, .h⟩, ⟨16, 8, .ro, 0x0, 0, .h⟩]⟩,
  ⟨0x80018, ⟨4, 1⟩, ⟨4, 1⟩, [⟨0, 4, .ro, 0x0, 0, .h⟩, ⟨4, 4, .ro, 0x0, 0, .h⟩, ⟨16, 8, .ro, 0x0, 0, .h⟩, ⟨24, 8, .ro, 0x0, 0, .h⟩]⟩,
  ⟨0x80020, ⟨4, 1⟩, ⟨4, 1⟩, [⟨0, 1, .ro, 0x0, 0, .h⟩, ⟨1, 3, .ro, 0x0, 0, .h⟩, ⟨8, 8, .ro, 0x0, 0, .h⟩, ⟨16, 16, .ro, 0x0, 0, .h⟩]⟩,
  ⟨0x80024, ⟨4, 1⟩, ⟨4, 1⟩, [⟨0, 32, .ro, 0x0, 0, .h⟩]⟩,
  ⟨0x80028, ⟨4, 1⟩, ⟨4, 1⟩, [⟨0, 32, .ro, 0x0, 0, .h⟩]⟩,
  ⟨0x80030, ⟨4, 1⟩, ⟨4, 1⟩, [⟨0, 32, .ro, 0x0, 0, .h⟩]⟩,
  ⟨0x80034, ⟨4, 1⟩, ⟨4, 1⟩, [⟨0, 11, .ro, 0x0, 0, .h⟩, ⟨16, 16, .rc, 0x0, 0, .h⟩]⟩,
  ⟨0x80040, ⟨4, 1⟩, ⟨4, 1⟩, [⟨0, 5, .ro, 0x1f, 0, .i⟩, ⟨16, 16, .ro, 0x0, 0, .i⟩]⟩,
  ⟨0x80044, ⟨4, 1⟩, ⟨4, 1⟩, [⟨0, 8, .rc, 0x0, 0, .h⟩, ⟨8, 8, .rc, 0x0, 0, .h⟩, ⟨16, 16, .ro, 0x0, 0, .h⟩]⟩,
  ⟨0x80048, ⟨4, 1⟩, ⟨4, 1⟩, [⟨0, 32, .wo, 0x0, 0, .h⟩]⟩,
  ⟨0x80050, ⟨4, 1⟩, ⟨4, 1⟩, [⟨0, 1, .w1s, 0x0, 0, .h⟩, ⟨1, 1, .w1s, 0x0, 0, .h⟩, ⟨2, 1, .w1s, 0x0, 0, .h⟩]⟩,
  ⟨0x81000, ⟨0x10, 240⟩, ⟨4, 1⟩, [⟨0, 8, .ro, 0x0, 0, .h⟩, ⟨8, 3, .ro, 0x0, 0, .h⟩, ⟨12, 4, .ro, 0x0, 0, .h⟩, ⟨16, 2, .ro, 0x0, 0, .h⟩, ⟨24, 8, .ro, 0x0, 0, .h⟩]⟩,
  ⟨0x81004, ⟨0x10, 240⟩, ⟨4, 1⟩, [⟨0, 32, .ro, 0x0, 0, .h⟩]⟩,
  ⟨0x81008, ⟨0x10, 240⟩, ⟨4, 1⟩, [⟨0, 32, .ro, 0x0, 0, .h⟩]⟩,
  ⟨0x8100c, ⟨0x10, 240⟩, ⟨4, 1⟩, []⟩,
  ⟨0x88000, ⟨4, 1⟩, ⟨4, 1⟩, [⟨0, 12, .rwx, 0x0, 0, .h⟩]⟩,
  ⟨0x88004, ⟨4, 1⟩, ⟨4, 1⟩, [⟨0, 4, .rwx, 0x0, 0, .h⟩]⟩]

/-- The registers of TIME (R211, R212). -/
def rowsTime : List RegRow := [
  ⟨0x90000, ⟨4, 1⟩, ⟨4, 1⟩, [⟨0, 1, .ro, 0x0, 0, .h⟩, ⟨1, 1, .ro, 0x0, 0, .h⟩, ⟨2, 1, .ro, 0x0, 0, .h⟩, ⟨3, 1, .ro, 0x0, 0, .h⟩, ⟨4, 2, .ro, 0x3, 0, .h⟩, ⟨6, 1, .w1c, 0x0, 0, .h⟩, ⟨16, 16, .ro, 0x0, 0, .h⟩]⟩,
  ⟨0x90008, ⟨4, 1⟩, ⟨4, 1⟩, [⟨0, 32, .ro, 0x0, 0, .h⟩]⟩,
  ⟨0x9000c, ⟨4, 1⟩, ⟨4, 1⟩, [⟨0, 32, .ro, 0x0, 0, .h⟩]⟩,
  ⟨0x90010, ⟨4, 1⟩, ⟨4, 1⟩, [⟨0, 30, .ro, 0x0, 0, .h⟩, ⟨30, 2, .ro, 0x0, 0, .h⟩]⟩,
  ⟨0x90014, ⟨4, 1⟩, ⟨4, 1⟩, [⟨0, 32, .ro, 0x0, 0, .h⟩]⟩,
  ⟨0x90018, ⟨4, 1⟩, ⟨4, 1⟩, [⟨0, 16, .ro, 0x0, 0, .h⟩]⟩,
  ⟨0x9001c, ⟨4, 1⟩, ⟨4, 1⟩, [⟨0, 32, .ro, 0xffffffff, 0, .h⟩]⟩,
  ⟨0x90020, ⟨4, 1⟩, ⟨4, 1⟩, [⟨0, 16, .ro, 0x0, 0, .u⟩, ⟨16, 1, .ro, 0x0, 0, .h⟩, ⟨17, 2, .ro, 0x0, 0, .h⟩]⟩,
  ⟨0x90024, ⟨4, 1⟩, ⟨4, 1⟩, [⟨0, 32, .ro, 0x0, 0, .h⟩]⟩,
  ⟨0x90028, ⟨4, 1⟩, ⟨4, 1⟩, [⟨0, 32, .ro, 0x0, 0, .h⟩]⟩,
  ⟨0x9002c, ⟨4, 1⟩, ⟨4, 1⟩, [⟨0, 32, .ro, 0x0, 0, .h⟩]⟩,
  ⟨0x90030, ⟨4, 1⟩, ⟨4, 1⟩, [⟨0, 1, .w1s, 0x0, 0, .h⟩]⟩,
  ⟨0x90034, ⟨4, 1⟩, ⟨4, 1⟩, [⟨0, 32, .rws, 0x0, 0, .h⟩]⟩,
  ⟨0x90038, ⟨4, 1⟩, ⟨4, 1⟩, [⟨0, 30, .rws, 0x0, 0, .h⟩]⟩,
  ⟨0x90040, ⟨0x10, 2⟩, ⟨4, 1⟩, [⟨0, 8, .ro, 0x0, 0, .u⟩, ⟨8, 2, .ro, 0x0, 0, .h⟩, ⟨10, 2, .ro, 0x0, 0, .h⟩, ⟨16, 16, .ro, 0x0, 0, .h⟩]⟩,
  ⟨0x90044, ⟨0x10, 2⟩, ⟨4, 1⟩, [⟨0, 32, .ro, 0x0, 0, .h⟩]⟩,
  ⟨0x90048, ⟨0x10, 2⟩, ⟨4, 1⟩, [⟨0, 32, .ro, 0x0, 0, .h⟩]⟩,
  ⟨0x9004c, ⟨0x10, 2⟩, ⟨4, 1⟩, []⟩]

/-- The registers of FUS (R242, R243, R244, R245, R246, R247). -/
def rowsFus0 : List RegRow := [
  ⟨0xa0000, ⟨4, 1⟩, ⟨4, 1⟩, [⟨0, 1, .ro, 0x0, 0, .h⟩, ⟨1, 1, .ro, 0x0, 0, .h⟩, ⟨2, 1, .ro, 0x0, 0, .h⟩, ⟨3, 1, .ro, 0x0, 0, .h⟩, ⟨4, 1, .ro, 0x0, 0, .h⟩, ⟨5, 1, .ro, 0x0, 0, .h⟩, ⟨6, 1, .ro, 0x0, 0, .h⟩, ⟨8, 5, .ro, 0x0, 0, .h⟩, ⟨13, 3, .ro, 0x0, 0, .h⟩, ⟨16, 1, .w1c, 0x0, 0, .h⟩, ⟨17, 1, .w1c, 0x0, 0, .h⟩, ⟨18, 1, .w1c, 0x0, 0, .h⟩, ⟨19, 1, .w1c, 0x0, 0, .h⟩, ⟨20, 1, .w1c, 0x0, 0, .h⟩, ⟨21, 1, .w1c, 0x0, 0, .h⟩]⟩,
  ⟨0xa0004, ⟨4, 1⟩, ⟨4, 1⟩, [⟨0, 16, .ro, 0x0, 0, .h⟩, ⟨16, 16, .ro, 0x0, 0, .h⟩]⟩,
  ⟨0xa0008, ⟨4, 1⟩, ⟨4, 1⟩, [⟨0, 16, .rc, 0x0, 0, .h⟩, ⟨16, 16, .rc, 0x0, 0, .h⟩]⟩,
  ⟨0xa000c, ⟨4, 1⟩, ⟨4, 1⟩, [⟨0, 32, .ro, 0x0, 0, .h⟩]⟩,
  ⟨0xa0010, ⟨4, 1⟩, ⟨4, 1⟩, [⟨0, 8, .ro, 0x0, 0, .h⟩, ⟨8, 1, .ro, 0x0, 0, .h⟩, ⟨16, 16, .rc, 0x0, 0, .h⟩]⟩,
  ⟨0xa0014, ⟨4, 1⟩, ⟨4, 1⟩, [⟨0, 10, .ro, 0x0, 0, .i⟩, ⟨16, 8, .ro, 0x0, 0, .i⟩, ⟨24, 4, .ro, 0x0, 0, .i⟩]⟩,
  ⟨0xa0020, ⟨4, 1⟩, ⟨4, 1⟩, [⟨0, 32, .ro, 0x0, 0, .h⟩]⟩,
  ⟨0xa0024, ⟨4, 1⟩, ⟨4, 1⟩, [⟨0, 32, .ro, 0x0, 0, .h⟩]⟩,
  ⟨0xa0028, ⟨4, 1⟩, ⟨4, 1⟩, [⟨0, 32, .ro, 0x0, 0, .h⟩]⟩,
  ⟨0xa002c, ⟨4, 1⟩, ⟨4, 1⟩, [⟨0, 32, .ro, 0x0, 0, .h⟩]⟩,
  ⟨0xa0030, ⟨4, 1⟩, ⟨4, 1⟩, [⟨0, 32, .ro, 0x0, 0, .h⟩]⟩,
  ⟨0xa0034, ⟨4, 1⟩, ⟨4, 1⟩, [⟨0, 32, .ro, 0x0, 0, .h⟩]⟩,
  ⟨0xa0038, ⟨4, 1⟩, ⟨4, 1⟩, [⟨0, 32, .ro, 0x0, 0, .h⟩]⟩,
  ⟨0xa003c, ⟨4, 1⟩, ⟨4, 1⟩, [⟨0, 32, .ro, 0x0, 0, .h⟩]⟩,
  ⟨0xa0040, ⟨4, 1⟩, ⟨4, 1⟩, [⟨0, 32, .rw, 0x0, 0, .h⟩]⟩,
  ⟨0xa0044, ⟨4, 1⟩, ⟨4, 1⟩, [⟨0, 32, .rw, 0x0, 2, .h⟩]⟩,
  ⟨0xa0048, ⟨4, 1⟩, ⟨4, 1⟩, [⟨0, 32, .rw, 0x0, 0, .h⟩]⟩,
  ⟨0xa004c, ⟨4, 1⟩, ⟨4, 1⟩, [⟨0, 32, .rw, 0x0, 2, .h⟩]⟩,
  ⟨0xa0050, ⟨4, 1⟩, ⟨4, 1⟩, [⟨0, 32, .rw, 0x0, 1, .h⟩]⟩,
  ⟨0xa0054, ⟨4, 1⟩, ⟨4, 1⟩, [⟨0, 1, .w1s, 0x0, 0, .h⟩, ⟨1, 1, .w1s, 0x0, 0, .h⟩]⟩,
  ⟨0xa0058, ⟨4, 1⟩, ⟨4, 1⟩, [⟨0, 8, .ro, 0x0, 0, .h⟩, ⟨8, 1, .ro, 0x0, 0, .h⟩]⟩,
  ⟨0xa0100, ⟨0x20, 28⟩, ⟨4, 1⟩, [⟨0, 3, .ro, 0x0, 0, .h⟩, ⟨3, 1, .ro, 0x0, 0, .h⟩, ⟨4, 4, .ro, 0x0, 0, .h⟩, ⟨8, 8, .ro, 0x0, 0, .h⟩, ⟨16, 16, .ro, 0x0, 0, .h⟩]⟩,
  ⟨0xa0104, ⟨0x20, 28⟩, ⟨4, 1⟩, [⟨0, 32, .ro, 0x0, 0, .h⟩]⟩,
  ⟨0xa0108, ⟨0x20, 28⟩, ⟨4, 1⟩, [⟨0, 32, .ro, 0x0, 0, .h⟩]⟩,
  ⟨0xa010c, ⟨0x20, 28⟩, ⟨4, 1⟩, [⟨0, 32, .ro, 0x0, 0, .h⟩]⟩,
  ⟨0xa0110, ⟨0x20, 28⟩, ⟨4, 1⟩, [⟨0, 32, .ro, 0x0, 0, .h⟩]⟩,
  ⟨0xa0114, ⟨0x20, 28⟩, ⟨4, 1⟩, [⟨0, 32, .ro, 0x0, 0, .h⟩]⟩,
  ⟨0xa0118, ⟨0x20, 28⟩, ⟨4, 1⟩, [⟨0, 1, .rw, 0x0, 0, .h⟩, ⟨1, 1, .w1s, 0x0, 0, .h⟩]⟩,
  ⟨0xa011c, ⟨0x20, 28⟩, ⟨4, 1⟩, []⟩,
  ⟨0xa0800, ⟨0x20, 32⟩, ⟨4, 1⟩, [⟨0, 6, .ro, 0x0, 0, .i⟩, ⟨6, 2, .ro, 0x0, 0, .i⟩, ⟨8, 3, .ro, 0x0, 0, .i⟩, ⟨11, 1, .ro, 0x0, 0, .i⟩, ⟨12, 3, .ro, 0x0, 0, .i⟩, ⟨16, 3, .ro, 0x0, 0, .i⟩, ⟨31, 1, .ro, 0x0, 0, .i⟩]⟩,
  ⟨0xa0804, ⟨0x20, 32⟩, ⟨4, 1⟩, [⟨0, 32, .ro, 0x0, 0, .i⟩]⟩,
  ⟨0xa0808, ⟨0x20, 32⟩, ⟨4, 1⟩, [⟨0, 32, .ro, 0x0, 0, .i⟩]⟩,
  ⟨0xa080c, ⟨0x20, 32⟩, ⟨4, 1⟩, [⟨0, 32, .ro, 0x0, 0, .i⟩]⟩,
  ⟨0xa0810, ⟨0x20, 32⟩, ⟨4, 1⟩, [⟨0, 32, .ro, 0x0, 0, .i⟩]⟩,
  ⟨0xa0814, ⟨0x20, 32⟩, ⟨4, 1⟩, [⟨0, 32, .ro, 0x0, 0, .i⟩]⟩,
  ⟨0xa0818, ⟨0x20, 32⟩, ⟨4, 1⟩, [⟨0, 32, .ro, 0x0, 0, .i⟩]⟩,
  ⟨0xa081c, ⟨0x20, 32⟩, ⟨4, 1⟩, [⟨0, 32, .ro, 0x0, 0, .i⟩]⟩,
  ⟨0xa0c00, ⟨0x10, 8⟩, ⟨4, 1⟩, [⟨0, 32, .rw, 0x0, 1, .h⟩]⟩,
  ⟨0xa0c04, ⟨0x10, 8⟩, ⟨4, 1⟩, [⟨0, 32, .rw, 0x0, 1, .h⟩]⟩,
  ⟨0xa0c08, ⟨0x10, 8⟩, ⟨4, 1⟩, [⟨0, 32, .rw, 0x0, 1, .h⟩]⟩]
/-- The registers of FUS, continued. -/
def rowsFus1 : List RegRow := [
  ⟨0xa0c0c, ⟨0x10, 8⟩, ⟨4, 1⟩, [⟨0, 1, .ro, 0x0, 0, .h⟩]⟩,
  ⟨0xa0d00, ⟨0x20, 8⟩, ⟨4, 1⟩, [⟨0, 3, .ro, 0x0, 0, .h⟩, ⟨16, 16, .ro, 0x0, 0, .h⟩]⟩,
  ⟨0xa0d04, ⟨0x20, 8⟩, ⟨4, 1⟩, [⟨0, 32, .ro, 0x0, 0, .h⟩]⟩,
  ⟨0xa0d08, ⟨0x20, 8⟩, ⟨4, 1⟩, [⟨0, 32, .ro, 0x0, 0, .h⟩]⟩,
  ⟨0xa0d0c, ⟨0x20, 8⟩, ⟨4, 1⟩, [⟨0, 32, .ro, 0x0, 0, .h⟩]⟩,
  ⟨0xa0d10, ⟨0x20, 8⟩, ⟨4, 1⟩, [⟨0, 32, .ro, 0x0, 0, .h⟩]⟩,
  ⟨0xa0d14, ⟨0x20, 8⟩, ⟨4, 1⟩, [⟨0, 32, .ro, 0x0, 0, .h⟩]⟩,
  ⟨0xa0d18, ⟨0x20, 8⟩, ⟨4, 1⟩, [⟨0, 32, .ro, 0x0, 0, .h⟩]⟩,
  ⟨0xa0d1c, ⟨0x20, 8⟩, ⟨4, 1⟩, [⟨0, 32, .ro, 0x0, 0, .h⟩]⟩,
  ⟨0xa8000, ⟨4, 1⟩, ⟨4, 1⟩, [⟨0, 4, .rwx, 0x0, 0, .h⟩]⟩]

/-- The registers of FUS. -/
def rowsFus : List RegRow := rowsFus0 ++ rowsFus1

/-- The registers of ALLOC (R277, R278, R279, R280, R281, R282). -/
def rowsAlloc : List RegRow := [
  ⟨0xb0000, ⟨4, 1⟩, ⟨4, 1⟩, [⟨0, 1, .ro, 0x0, 0, .h⟩, ⟨1, 1, .ro, 0x0, 0, .h⟩, ⟨2, 1, .ro, 0x0, 0, .h⟩, ⟨3, 1, .ro, 0x0, 0, .h⟩, ⟨4, 1, .ro, 0x0, 0, .h⟩, ⟨5, 1, .ro, 0x0, 0, .h⟩, ⟨6, 1, .ro, 0x0, 0, .h⟩, ⟨7, 1, .ro, 0x1, 0, .h⟩, ⟨8, 3, .ro, 0x0, 0, .h⟩, ⟨11, 1, .ro, 0x0, 0, .h⟩, ⟨12, 1, .w1c, 0x0, 0, .h⟩, ⟨13, 1, .w1c, 0x0, 0, .h⟩, ⟨14, 1, .w1c, 0x0, 0, .h⟩, ⟨16, 1, .ro, 0x0, 0, .h⟩, ⟨17, 1, .ro, 0x0, 0, .h⟩, ⟨18, 1, .ro, 0x0, 0, .h⟩]⟩,
  ⟨0xb0004, ⟨4, 1⟩, ⟨4, 1⟩, [⟨0, 32, .ro, 0x0, 0, .h⟩]⟩,
  ⟨0xb0008, ⟨4, 1⟩, ⟨4, 1⟩, [⟨0, 32, .ro, 0x0, 0, .h⟩]⟩,
  ⟨0xb000c, ⟨4, 1⟩, ⟨4, 1⟩, [⟨0, 32, .ro, 0x0, 0, .h⟩]⟩,
  ⟨0xb0010, ⟨4, 1⟩, ⟨4, 1⟩, [⟨0, 32, .ro, 0x0, 0, .h⟩]⟩,
  ⟨0xb0014, ⟨4, 1⟩, ⟨4, 1⟩, [⟨0, 32, .ro, 0x0, 0, .h⟩]⟩,
  ⟨0xb0018, ⟨4, 1⟩, ⟨4, 1⟩, [⟨0, 32, .ro, 0x0, 0, .h⟩]⟩,
  ⟨0xb001c, ⟨4, 1⟩, ⟨4, 1⟩, [⟨0, 32, .ro, 0x0, 0, .h⟩]⟩,
  ⟨0xb0020, ⟨4, 1⟩, ⟨4, 1⟩, [⟨0, 7, .ro, 0x0, 0, .h⟩, ⟨8, 8, .ro, 0x0, 0, .h⟩, ⟨16, 5, .ro, 0x0, 0, .h⟩, ⟨24, 7, .ro, 0x0, 0, .i⟩]⟩,
  ⟨0xb0024, ⟨4, 1⟩, ⟨4, 1⟩, [⟨0, 32, .ro, 0x0, 0, .h⟩]⟩,
  ⟨0xb0028, ⟨4, 1⟩, ⟨4, 1⟩, [⟨0, 16, .ro, 0x0, 0, .h⟩, ⟨16, 5, .ro, 0x0, 0, .h⟩]⟩,
  ⟨0xb0030, ⟨4, 1⟩, ⟨4, 1⟩, [⟨0, 2, .ro, 0x0, 0, .h⟩, ⟨4, 4, .ro, 0x0, 0, .h⟩, ⟨16, 16, .ro, 0x0, 0, .h⟩]⟩,
  ⟨0xb0034, ⟨4, 1⟩, ⟨4, 1⟩, [⟨0, 32, .ro, 0x0, 0, .h⟩]⟩,
  ⟨0xb0040, ⟨4, 1⟩, ⟨4, 1⟩, [⟨0, 1, .w1s, 0x0, 0, .h⟩]⟩,
  ⟨0xb0050, ⟨4, 1⟩, ⟨4, 1⟩, [⟨0, 32, .ro, 0x0, 0, .h⟩]⟩,
  ⟨0xb0054, ⟨4, 1⟩, ⟨4, 1⟩, [⟨0, 32, .ro, 0x0, 0, .h⟩]⟩,
  ⟨0xb0058, ⟨4, 1⟩, ⟨4, 1⟩, [⟨0, 32, .ro, 0x0, 0, .h⟩]⟩,
  ⟨0xb005c, ⟨4, 1⟩, ⟨4, 1⟩, [⟨0, 3, .ro, 0x0, 0, .h⟩]⟩,
  ⟨0xb0100, ⟨0x20, 16⟩, ⟨4, 1⟩, [⟨0, 2, .ro, 0x0, 0, .i⟩, ⟨2, 3, .ro, 0x0, 0, .i⟩, ⟨5, 1, .ro, 0x0, 0, .h⟩, ⟨6, 3, .ro, 0x0, 0, .h⟩, ⟨9, 1, .rw, 0x1, 0, .h⟩]⟩,
  ⟨0xb0104, ⟨0x20, 16⟩, ⟨4, 1⟩, [⟨0, 32, .ro, 0x0, 0, .h⟩]⟩,
  ⟨0xb0108, ⟨0x20, 16⟩, ⟨4, 1⟩, [⟨0, 32, .ro, 0x0, 0, .h⟩]⟩,
  ⟨0xb010c, ⟨0x20, 16⟩, ⟨4, 1⟩, [⟨0, 32, .ro, 0x0, 0, .h⟩]⟩,
  ⟨0xb0110, ⟨0x20, 16⟩, ⟨4, 1⟩, [⟨0, 32, .ro, 0x0, 0, .h⟩]⟩,
  ⟨0xb0114, ⟨0x20, 16⟩, ⟨4, 1⟩, [⟨0, 32, .ro, 0x0, 0, .h⟩]⟩,
  ⟨0xb0118, ⟨0x20, 16⟩, ⟨4, 1⟩, [⟨0, 32, .ro, 0x0, 0, .h⟩]⟩,
  ⟨0xb011c, ⟨0x20, 16⟩, ⟨4, 1⟩, [⟨0, 32, .ro, 0x0, 0, .h⟩]⟩,
  ⟨0xb0400, ⟨0x10, 24⟩, ⟨4, 1⟩, [⟨0, 2, .ro, 0x0, 0, .i⟩, ⟨2, 2, .ro, 0x0, 0, .i⟩, ⟨4, 1, .rw, 0x0, 0, .i⟩, ⟨5, 3, .ro, 0x0, 0, .h⟩, ⟨16, 8, .ro, 0x0, 0, .i⟩]⟩,
  ⟨0xb0404, ⟨0x10, 24⟩, ⟨4, 1⟩, [⟨0, 16, .ro, 0x0, 0, .i⟩]⟩,
  ⟨0xb0408, ⟨0x10, 24⟩, ⟨4, 1⟩, [⟨0, 16, .ro, 0x0, 0, .h⟩, ⟨16, 16, .ro, 0x0, 0, .h⟩]⟩,
  ⟨0xb040c, ⟨0x10, 24⟩, ⟨4, 1⟩, [⟨0, 16, .ro, 0x0, 0, .h⟩, ⟨16, 16, .ro, 0x0, 0, .h⟩]⟩,
  ⟨0xb0600, ⟨0x10, 8⟩, ⟨4, 1⟩, [⟨0, 32, .ro, 0x0, 0, .h⟩]⟩,
  ⟨0xb0604, ⟨0x10, 8⟩, ⟨4, 1⟩, [⟨0, 32, .ro, 0x0, 0, .h⟩]⟩,
  ⟨0xb0608, ⟨0x10, 8⟩, ⟨4, 1⟩, [⟨0, 32, .ro, 0x0, 0, .h⟩]⟩,
  ⟨0xb060c, ⟨0x10, 8⟩, ⟨4, 1⟩, [⟨0, 1, .ro, 0x0, 0, .h⟩, ⟨1, 1, .ro, 0x0, 0, .h⟩]⟩,
  ⟨0xb0700, ⟨0x4, 16⟩, ⟨4, 1⟩, [⟨0, 16, .ro, 0x0, 0, .h⟩]⟩,
  ⟨0xb8000, ⟨4, 1⟩, ⟨4, 1⟩, [⟨0, 1, .rwx, 0x0, 0, .h⟩, ⟨4, 5, .rwx, 0x0, 0, .h⟩, ⟨9, 1, .rwx, 0x0, 0, .h⟩]⟩]

/-- The registers of SOLV (R303, R304, R305, R306). -/
def rowsSolv : List RegRow := [
  ⟨0xc0000, ⟨4, 1⟩, ⟨4, 1⟩, [⟨0, 1, .ro, 0x0, 0, .h⟩, ⟨1, 1, .w1c, 0x0, 0, .h⟩, ⟨2, 1, .w1c, 0x0, 0, .h⟩, ⟨3, 1, .w1c, 0x0, 0, .h⟩, ⟨4, 1, .w1c, 0x0, 0, .h⟩, ⟨5, 1, .w1c, 0x0, 0, .h⟩, ⟨6, 1, .ro, 0x0, 0, .h⟩, ⟨7, 1, .w1c, 0x0, 0, .h⟩]⟩,
  ⟨0xc0004, ⟨4, 1⟩, ⟨4, 1⟩, [⟨0, 16, .ro, 0x0, 0, .h⟩, ⟨16, 16, .ro, 0x0, 0, .i⟩]⟩,
  ⟨0xc0040, ⟨4, 1⟩, ⟨4, 1⟩, [⟨0, 4, .ro, 0x0, 0, .i⟩, ⟨4, 1, .ro, 0x0, 0, .i⟩]⟩,
  ⟨0xc0044, ⟨4, 1⟩, ⟨4, 1⟩, [⟨0, 32, .ro, 0x0, 0, .h⟩]⟩,
  ⟨0xc0048, ⟨4, 1⟩, ⟨4, 1⟩, [⟨0, 32, .ro, 0x0, 0, .h⟩]⟩,
  ⟨0xc004c, ⟨4, 1⟩, ⟨4, 1⟩, [⟨0, 32, .ro, 0x0, 0, .h⟩]⟩,
  ⟨0xc0050, ⟨4, 1⟩, ⟨4, 1⟩, [⟨0, 32, .ro, 0x0, 0, .h⟩]⟩,
  ⟨0xc0054, ⟨4, 1⟩, ⟨4, 1⟩, [⟨0, 32, .ro, 0x0, 0, .h⟩]⟩,
  ⟨0xc0058, ⟨4, 1⟩, ⟨4, 1⟩, [⟨0, 32, .ro, 0x0, 0, .h⟩]⟩,
  ⟨0xc0060, ⟨4, 1⟩, ⟨4, 1⟩, [⟨0, 1, .w1s, 0x0, 0, .h⟩]⟩,
  ⟨0xc0100, ⟨0x40, 8⟩, ⟨4, 1⟩, [⟨0, 10, .ro, 0x0, 0, .i⟩, ⟨10, 4, .ro, 0x0, 0, .i⟩, ⟨14, 5, .ro, 0x0, 0, .i⟩, ⟨19, 2, .ro, 0x0, 0, .i⟩, ⟨21, 2, .ro, 0x0, 0, .i⟩]⟩,
  ⟨0xc0104, ⟨0x40, 8⟩, ⟨4, 1⟩, [⟨0, 16, .ro, 0x0, 0, .h⟩, ⟨16, 16, .ro, 0x0, 0, .h⟩]⟩,
  ⟨0xc0108, ⟨0x40, 8⟩, ⟨4, 1⟩, [⟨0, 12, .ro, 0x0, 0, .i⟩]⟩,
  ⟨0xc010c, ⟨0x40, 8⟩, ⟨4, 1⟩, [⟨0, 32, .ro, 0x0, 0, .i⟩]⟩,
  ⟨0xc0110, ⟨0x40, 8⟩, ⟨4, 1⟩, [⟨0, 32, .ro, 0x0, 0, .i⟩]⟩,
  ⟨0xc0114, ⟨0x40, 8⟩, ⟨4, 1⟩, [⟨0, 12, .ro, 0x0, 0, .h⟩, ⟨12, 4, .ro, 0x4, 0, .h⟩, ⟨16, 1, .ro, 0x0, 0, .h⟩, ⟨17, 3, .ro, 0x0, 0, .h⟩, ⟨20, 1, .ro, 0x0, 0, .h⟩]⟩,
  ⟨0xc0118, ⟨0x40, 8⟩, ⟨4, 1⟩, [⟨0, 32, .ro, 0x0, 0, .h⟩]⟩,
  ⟨0xc011c, ⟨0x40, 8⟩, ⟨4, 1⟩, [⟨0, 32, .ro, 0x0, 0, .h⟩]⟩,
  ⟨0xc0120, ⟨0x40, 8⟩, ⟨4, 1⟩, [⟨0, 32, .ro, 0x0, 0, .h⟩]⟩,
  ⟨0xc0124, ⟨0x40, 8⟩, ⟨4, 1⟩, [⟨0, 32, .ro, 0x0, 0, .h⟩]⟩,
  ⟨0xc0128, ⟨0x40, 8⟩, ⟨4, 1⟩, [⟨0, 32, .ro, 0x0, 0, .h⟩]⟩,
  ⟨0xc012c, ⟨0x40, 8⟩, ⟨4, 1⟩, [⟨0, 16, .rc, 0x0, 0, .h⟩, ⟨16, 16, .rc, 0x0, 0, .h⟩]⟩,
  ⟨0xc0130, ⟨0x40, 8⟩, ⟨4, 1⟩, [⟨0, 16, .rc, 0x0, 0, .h⟩, ⟨16, 16, .rc, 0x0, 0, .h⟩]⟩,
  ⟨0xc0134, ⟨0x40, 8⟩, ⟨4, 1⟩, [⟨0, 12, .ro, 0x0, 0, .h⟩]⟩,
  ⟨0xc0138, ⟨0x40, 8⟩, ⟨4, 1⟩, [⟨0, 12, .ro, 0xfff, 0, .h⟩]⟩,
  ⟨0xc013c, ⟨0x40, 8⟩, ⟨4, 1⟩, []⟩,
  ⟨0xc0400, ⟨0x20, 8⟩, ⟨4, 1⟩, [⟨0, 1, .ro, 0x0, 0, .i⟩, ⟨1, 1, .ro, 0x0, 0, .i⟩]⟩,
  ⟨0xc0404, ⟨0x20, 8⟩, ⟨4, 1⟩, [⟨0, 32, .ro, 0x0, 0, .i⟩]⟩,
  ⟨0xc0408, ⟨0x20, 8⟩, ⟨4, 1⟩, [⟨0, 32, .ro, 0x0, 0, .i⟩]⟩,
  ⟨0xc040c, ⟨0x20, 8⟩, ⟨4, 1⟩, [⟨0, 32, .ro, 0x0, 0, .i⟩]⟩,
  ⟨0xc0410, ⟨0x20, 8⟩, ⟨4, 1⟩, [⟨0, 32, .ro, 0x0, 0, .i⟩]⟩,
  ⟨0xc0414, ⟨0x20, 8⟩, ⟨4, 1⟩, [⟨0, 32, .ro, 0x0, 0, .h⟩]⟩,
  ⟨0xc0418, ⟨0x20, 8⟩, ⟨4, 1⟩, [⟨0, 32, .ro, 0x0, 0, .h⟩]⟩,
  ⟨0xc041c, ⟨0x20, 8⟩, ⟨4, 1⟩, []⟩,
  ⟨0xc8000, ⟨4, 1⟩, ⟨4, 1⟩, [⟨0, 3, .rwx, 0x0, 0, .h⟩, ⟨31, 1, .rwx, 0x0, 0, .h⟩]⟩]

/-- The registers of LOOP (R327, R336, R337, R338, R339). -/
def rowsLoop0 : List RegRow := [
  ⟨0xd0000, ⟨4, 1⟩, ⟨4, 1⟩, [⟨0, 1, .w1c, 0x0, 0, .h⟩, ⟨1, 1, .w1c, 0x0, 0, .h⟩, ⟨2, 1, .w1c, 0x0, 0, .h⟩, ⟨3, 1, .w1c, 0x0, 0, .h⟩, ⟨4, 1, .w1c, 0x0, 0, .h⟩, ⟨5, 1, .w1c, 0x0, 0, .h⟩, ⟨6, 1, .w1c, 0x0, 0, .h⟩]⟩,
  ⟨0xd0004, ⟨4, 1⟩, ⟨4, 1⟩, [⟨0, 16, .ro, 0x0, 0, .h⟩, ⟨16, 4, .ro, 0x0, 0, .h⟩]⟩,
  ⟨0xd0010, ⟨4, 1⟩, ⟨4, 1⟩, [⟨0, 8, .rw, 0x0, 0, .h⟩, ⟨8, 1, .rw, 0x0, 0, .h⟩, ⟨9, 1, .rw, 0x0, 0, .h⟩, ⟨10, 7, .rw, 0x0, 0, .h⟩, ⟨31, 1, .rw, 0x0, 0, .h⟩]⟩,
  ⟨0xd0014, ⟨4, 1⟩, ⟨4, 1⟩, [⟨0, 32, .rwo, 0x0, 0, .i⟩]⟩,
  ⟨0xd0018, ⟨4, 1⟩, ⟨4, 1⟩, [⟨0, 1, .w1s, 0x0, 0, .h⟩, ⟨1, 3, .ro, 0x0, 0, .h⟩]⟩,
  ⟨0xd1000, ⟨0x20, 96⟩, ⟨4, 1⟩, [⟨0, 16, .ro, 0xffff, 0, .i⟩, ⟨16, 7, .ro, 0x1, 0, .i⟩, ⟨23, 1, .ro, 0x0, 0, .i⟩]⟩,
  ⟨0xd1004, ⟨0x20, 96⟩, ⟨4, 1⟩, [⟨0, 1, .rw, 0x0, 0, .h⟩, ⟨1, 1, .w1s, 0x0, 0, .h⟩, ⟨2, 1, .rw, 0x0, 0, .h⟩, ⟨3, 12, .rw, 0x0, 0, .h⟩]⟩,
  ⟨0xd1008, ⟨0x20, 96⟩, ⟨4, 1⟩, [⟨0, 1, .ro, 0x0, 0, .h⟩, ⟨1, 1, .ro, 0x0, 0, .h⟩, ⟨2, 1, .ro, 0x0, 0, .h⟩, ⟨3, 1, .ro, 0x0, 0, .h⟩, ⟨4, 1, .ro, 0x0, 0, .h⟩, ⟨5, 1, .ro, 0x0, 0, .h⟩, ⟨6, 1, .ro, 0x1, 0, .i⟩, ⟨7, 1, .ro, 0x1, 0, .i⟩, ⟨8, 13, .ro, 0x0, 0, .h⟩]⟩,
  ⟨0xd100c, ⟨0x20, 96⟩, ⟨4, 1⟩, [⟨0, 32, .ro, 0x0, 0, .h⟩]⟩,
  ⟨0xd1010, ⟨0x20, 96⟩, ⟨4, 1⟩, [⟨0, 32, .ro, 0x0, 0, .h⟩]⟩,
  ⟨0xd1014, ⟨0x20, 96⟩, ⟨4, 1⟩, [⟨0, 32, .ro, 0x0, 0, .h⟩]⟩,
  ⟨0xd1018, ⟨0x20, 96⟩, ⟨4, 1⟩, [⟨0, 16, .rc, 0x0, 0, .h⟩, ⟨16, 16, .rc, 0x0, 0, .h⟩]⟩,
  ⟨0xd101c, ⟨0x20, 96⟩, ⟨4, 1⟩, []⟩,
  ⟨0xd2000, ⟨0x40, 16⟩, ⟨4, 1⟩, [⟨0, 1, .ro, 0x0, 0, .i⟩, ⟨1, 1, .ro, 0x0, 0, .i⟩, ⟨2, 1, .ro, 0x0, 0, .i⟩, ⟨3, 1, .ro, 0x0, 0, .i⟩, ⟨4, 3, .ro, 0x0, 0, .i⟩, ⟨7, 1, .ro, 0x0, 0, .i⟩]⟩,
  ⟨0xd2004, ⟨0x40, 16⟩, ⟨4, 1⟩, [⟨0, 1, .rw, 0x0, 0, .h⟩, ⟨1, 1, .w1s, 0x0, 0, .h⟩, ⟨2, 1, .rw, 0x0, 0, .h⟩, ⟨3, 12, .rw, 0x0, 0, .h⟩]⟩,
  ⟨0xd2008, ⟨0x40, 3⟩, ⟨4, 1⟩, [⟨0, 1, .ro, 0x1, 0, .h⟩, ⟨1, 1, .ro, 0x0, 0, .h⟩, ⟨2, 1, .ro, 0x0, 0, .h⟩, ⟨3, 1, .ro, 0x0, 0, .h⟩, ⟨4, 1, .ro, 0x0, 0, .h⟩, ⟨5, 1, .ro, 0x0, 0, .h⟩, ⟨6, 1, .ro, 0x1, 0, .i⟩, ⟨7, 1, .ro, 0x1, 0, .i⟩, ⟨8, 13, .ro, 0x0, 0, .h⟩]⟩,
  ⟨0xd20c8, ⟨0x40, 13⟩, ⟨4, 1⟩, [⟨0, 1, .ro, 0x0, 0, .h⟩, ⟨1, 1, .ro, 0x0, 0, .h⟩, ⟨2, 1, .ro, 0x0, 0, .h⟩, ⟨3, 1, .ro, 0x0, 0, .h⟩, ⟨4, 1, .ro, 0x0, 0, .h⟩, ⟨5, 1, .ro, 0x0, 0, .h⟩, ⟨6, 1, .ro, 0x1, 0, .i⟩, ⟨7, 1, .ro, 0x1, 0, .i⟩, ⟨8, 13, .ro, 0x0, 0, .h⟩]⟩,
  ⟨0xd200c, ⟨0x40, 16⟩, ⟨4, 1⟩, [⟨0, 32, .rw, 0x0, 1, .h⟩]⟩,
  ⟨0xd2010, ⟨0x40, 16⟩, ⟨4, 1⟩, [⟨0, 32, .ro, 0x0, 0, .h⟩]⟩,
  ⟨0xd2014, ⟨0x40, 16⟩, ⟨4, 1⟩, [⟨0, 32, .ro, 0x0, 0, .h⟩]⟩,
  ⟨0xd2018, ⟨0x40, 16⟩, ⟨4, 1⟩, [⟨0, 32, .ro, 0x0, 0, .h⟩]⟩,
  ⟨0xd201c, ⟨0x40, 16⟩, ⟨4, 1⟩, [⟨0, 32, .ro, 0x0, 0, .h⟩]⟩,
  ⟨0xd2020, ⟨0x40, 16⟩, ⟨4, 1⟩, [⟨0, 32, .ro, 0x0, 0, .h⟩]⟩,
  ⟨0xd2024, ⟨0x40, 16⟩, ⟨4, 1⟩, [⟨0, 32, .ro, 0x0, 0, .h⟩]⟩,
  ⟨0xd2028, ⟨0x40, 16⟩, ⟨4, 1⟩, [⟨0, 32, .ro, 0x0, 0, .h⟩]⟩,
  ⟨0xd202c, ⟨0x40, 16⟩, ⟨4, 1⟩, [⟨0, 32, .ro, 0x0, 0, .h⟩]⟩,
  ⟨0xd2030, ⟨0x40, 16⟩, ⟨4, 1⟩, [⟨0, 32, .ro, 0x0, 0, .h⟩]⟩,
  ⟨0xd2034, ⟨0x40, 16⟩, ⟨4, 1⟩, [⟨0, 16, .rc, 0x0, 0, .h⟩, ⟨16, 16, .rc, 0x0, 0, .h⟩]⟩,
  ⟨0xd2038, ⟨0x40, 16⟩, ⟨4, 1⟩, []⟩,
  ⟨0xd203c, ⟨0x40, 16⟩, ⟨4, 1⟩, []⟩,
  ⟨0xd2800, ⟨0x40, 8⟩, ⟨4, 1⟩, [⟨0, 1, .ro, 0x0, 0, .i⟩, ⟨1, 1, .ro, 0x0, 0, .i⟩]⟩,
  ⟨0xd2804, ⟨0x40, 8⟩, ⟨4, 1⟩, [⟨0, 1, .ro, 0x0, 0, .h⟩, ⟨1, 1, .ro, 0x1, 0, .h⟩]⟩,
  ⟨0xd2808, ⟨0x40, 8⟩, ⟨4, 1⟩, [⟨0, 32, .rw, 0x0, 0, .h⟩]⟩,
  ⟨0xd280c, ⟨0x40, 8⟩, ⟨4, 1⟩, [⟨0, 32, .ro, 0x0, 0, .h⟩]⟩,
  ⟨0xd2810, ⟨0x40, 8⟩, ⟨4, 1⟩, [⟨0, 32, .ro, 0x0, 0, .h⟩]⟩,
  ⟨0xd2814, ⟨0x40, 8⟩, ⟨4, 1⟩, [⟨0, 32, .ro, 0x0, 0, .h⟩]⟩,
  ⟨0xd2818, ⟨0x40, 8⟩, ⟨4, 1⟩, [⟨0, 32, .ro, 0x0, 0, .h⟩]⟩,
  ⟨0xd281c, ⟨0x40, 8⟩, ⟨4, 1⟩, [⟨0, 32, .ro, 0x0, 0, .h⟩]⟩,
  ⟨0xd3000, ⟨0x40, 8⟩, ⟨4, 1⟩, [⟨0, 16, .rw, 0xffff, 0, .h⟩, ⟨16, 16, .rw, 0xffff, 0, .h⟩]⟩,
  ⟨0xd3004, ⟨0x40, 8⟩, ⟨4, 1⟩, [⟨0, 3, .rw, 0x0, 0, .h⟩, ⟨4, 7, .rw, 0x0, 0, .h⟩, ⟨16, 16, .rw, 0x0, 0, .h⟩]⟩,
  ⟨0xd3008, ⟨0x40, 8⟩, ⟨4, 1⟩, [⟨0, 32, .rw, 0x0, 1, .h⟩]⟩]
/-- The registers of LOOP, continued. -/
def rowsLoop1 : List RegRow := [
  ⟨0xd300c, ⟨0x40, 8⟩, ⟨4, 1⟩, [⟨0, 16, .rw, 0x1, 0, .h⟩]⟩,
  ⟨0xd3010, ⟨0x40, 8⟩, ⟨4, 1⟩, [⟨0, 1, .w1s, 0x0, 0, .h⟩, ⟨1, 1, .w1s, 0x0, 0, .h⟩, ⟨2, 1, .w1s, 0x0, 0, .h⟩]⟩,
  ⟨0xd3014, ⟨0x40, 8⟩, ⟨4, 1⟩, [⟨0, 2, .ro, 0x0, 0, .h⟩, ⟨16, 16, .ro, 0x0, 0, .h⟩]⟩,
  ⟨0xd3018, ⟨0x40, 8⟩, ⟨4, 1⟩, [⟨0, 32, .ro, 0x0, 0, .h⟩]⟩,
  ⟨0xd301c, ⟨0x40, 8⟩, ⟨4, 1⟩, [⟨0, 32, .ro, 0x0, 0, .h⟩]⟩,
  ⟨0xd3020, ⟨0x40, 8⟩, ⟨4, 1⟩, [⟨0, 16, .ro, 0x0, 0, .h⟩]⟩,
  ⟨0xd3024, ⟨0x40, 8⟩, ⟨4, 1⟩, []⟩,
  ⟨0xd3028, ⟨0x40, 8⟩, ⟨4, 1⟩, []⟩,
  ⟨0xd302c, ⟨0x40, 8⟩, ⟨4, 1⟩, []⟩,
  ⟨0xd3030, ⟨0x40, 8⟩, ⟨4, 1⟩, []⟩,
  ⟨0xd3034, ⟨0x40, 8⟩, ⟨4, 1⟩, []⟩,
  ⟨0xd3038, ⟨0x40, 8⟩, ⟨4, 1⟩, []⟩,
  ⟨0xd303c, ⟨0x40, 8⟩, ⟨4, 1⟩, []⟩,
  ⟨0xd3800, ⟨4, 1⟩, ⟨4, 1⟩, [⟨0, 6, .rw, 0x0, 0, .h⟩, ⟨6, 1, .rw, 0x0, 0, .h⟩, ⟨30, 1, .w1s, 0x0, 0, .h⟩, ⟨31, 1, .w1s, 0x0, 0, .h⟩]⟩,
  ⟨0xd3804, ⟨4, 1⟩, ⟨4, 1⟩, [⟨0, 1, .ro, 0x0, 0, .h⟩, ⟨1, 1, .ro, 0x0, 0, .h⟩, ⟨2, 1, .ro, 0x0, 0, .h⟩, ⟨8, 5, .ro, 0x0, 0, .h⟩, ⟨16, 3, .ro, 0x0, 0, .h⟩]⟩,
  ⟨0xd3808, ⟨4, 1⟩, ⟨4, 1⟩, [⟨0, 32, .ro, 0x0, 0, .h⟩]⟩,
  ⟨0xd3810, ⟨4, 1⟩, ⟨4, 1⟩, [⟨0, 32, .rw, 0x0, 1, .h⟩]⟩,
  ⟨0xd3814, ⟨4, 1⟩, ⟨4, 1⟩, [⟨0, 32, .rw, 0x0, 1, .h⟩]⟩,
  ⟨0xd3818, ⟨4, 1⟩, ⟨4, 1⟩, [⟨0, 32, .rw, 0x0, 0, .h⟩]⟩,
  ⟨0xd3900, ⟨0x10, 32⟩, ⟨4, 1⟩, [⟨0, 32, .rw, 0x0, 1, .h⟩]⟩,
  ⟨0xd3904, ⟨0x10, 32⟩, ⟨4, 1⟩, [⟨0, 32, .rw, 0x0, 1, .h⟩]⟩,
  ⟨0xd3908, ⟨0x10, 32⟩, ⟨4, 1⟩, [⟨0, 32, .rw, 0x0, 0, .h⟩]⟩,
  ⟨0xd390c, ⟨0x10, 32⟩, ⟨4, 1⟩, [⟨0, 32, .rw, 0x0, 1, .h⟩]⟩,
  ⟨0xd8000, ⟨4, 1⟩, ⟨4, 1⟩, [⟨0, 16, .rwx, 0xffff, 0, .h⟩, ⟨16, 2, .rwx, 0x0, 0, .h⟩]⟩,
  ⟨0xd8004, ⟨4, 1⟩, ⟨4, 1⟩, [⟨0, 32, .rwx, 0x0, 1, .h⟩]⟩,
  ⟨0xd8008, ⟨4, 1⟩, ⟨4, 1⟩, [⟨0, 32, .rwx, 0x0, 1, .h⟩]⟩]

/-- The registers of LOOP. -/
def rowsLoop : List RegRow := rowsLoop0 ++ rowsLoop1

/-- The registers of CAN (R371, R372, R373). -/
def rowsCan : List RegRow := [
  ⟨0xe0000, ⟨4, 1⟩, ⟨4, 1⟩, [⟨0, 6, .ro, 0x0, 0, .h⟩, ⟨6, 6, .ro, 0x0, 0, .h⟩, ⟨12, 1, .w1c, 0x0, 0, .h⟩, ⟨13, 1, .w1c, 0x0, 0, .h⟩, ⟨14, 1, .w1c, 0x0, 0, .h⟩, ⟨15, 1, .w1c, 0x0, 0, .h⟩, ⟨16, 3, .ro, 0x7, 0, .h⟩]⟩,
  ⟨0xe0100, ⟨0x40, 6⟩, ⟨4, 1⟩, [⟨0, 4, .ro, 0x2, 0, .i⟩, ⟨4, 4, .ro, 0x2, 0, .i⟩, ⟨8, 1, .ro, 0x0, 0, .i⟩, ⟨9, 1, .ro, 0x1, 0, .u⟩, ⟨10, 2, .ro, 0x0, 0, .i⟩, ⟨12, 3, .ro, 0x7, 0, .i⟩, ⟨15, 1, .ro, 0x0, 0, .i⟩]⟩,
  ⟨0xe0104, ⟨0x40, 6⟩, ⟨4, 1⟩, [⟨0, 1, .w1s, 0x0, 0, .h⟩, ⟨1, 1, .rws, 0x0, 0, .h⟩]⟩,
  ⟨0xe0108, ⟨0x40, 6⟩, ⟨4, 1⟩, [⟨0, 2, .ro, 0x0, 0, .h⟩, ⟨2, 1, .ro, 0x0, 0, .h⟩, ⟨3, 1, .ro, 0x0, 0, .h⟩, ⟨8, 8, .ro, 0x0, 0, .h⟩, ⟨16, 8, .ro, 0x0, 0, .h⟩, ⟨24, 8, .ro, 0x0, 0, .h⟩]⟩,
  ⟨0xe010c, ⟨0x40, 6⟩, ⟨4, 1⟩, [⟨0, 3, .ro, 0x0, 0, .h⟩, ⟨3, 1, .ro, 0x0, 0, .h⟩]⟩,
  ⟨0xe0110, ⟨0x40, 6⟩, ⟨4, 1⟩, [⟨0, 32, .ro, 0x0, 0, .h⟩]⟩,
  ⟨0xe0114, ⟨0x40, 6⟩, ⟨4, 1⟩, [⟨0, 16, .rc, 0x0, 0, .h⟩, ⟨16, 16, .rc, 0x0, 0, .h⟩]⟩,
  ⟨0xe0118, ⟨0x40, 6⟩, ⟨4, 1⟩, [⟨0, 8, .rc, 0x0, 0, .h⟩, ⟨8, 8, .rc, 0x0, 0, .h⟩, ⟨16, 16, .rc, 0x0, 0, .h⟩]⟩,
  ⟨0xe011c, ⟨0x40, 6⟩, ⟨4, 1⟩, [⟨0, 32, .ro, 0x0, 0, .h⟩]⟩,
  ⟨0xe0120, ⟨0x40, 6⟩, ⟨4, 1⟩, [⟨0, 16, .rc, 0x0, 0, .h⟩, ⟨16, 16, .rc, 0x0, 0, .h⟩]⟩,
  ⟨0xe0124, ⟨0x40, 6⟩, ⟨4, 1⟩, [⟨0, 32, .ro, 0x0, 0, .h⟩]⟩,
  ⟨0xe0128, ⟨0x40, 6⟩, ⟨4, 1⟩, [⟨0, 11, .ro, 0x0, 0, .h⟩]⟩,
  ⟨0xe012c, ⟨0x40, 6⟩, ⟨4, 1⟩, []⟩,
  ⟨0xe0130, ⟨0x40, 6⟩, ⟨4, 1⟩, []⟩,
  ⟨0xe0134, ⟨0x40, 6⟩, ⟨4, 1⟩, []⟩,
  ⟨0xe0138, ⟨0x40, 6⟩, ⟨4, 1⟩, []⟩,
  ⟨0xe013c, ⟨0x40, 6⟩, ⟨4, 1⟩, []⟩,
  ⟨0xe0800, ⟨0x100, 6⟩, ⟨4, 1⟩, [⟨0, 29, .rw, 0x0, 0, .h⟩, ⟨29, 1, .rw, 0x0, 0, .h⟩, ⟨30, 1, .rw, 0x0, 0, .h⟩, ⟨31, 1, .rw, 0x0, 0, .h⟩]⟩,
  ⟨0xe0804, ⟨0x100, 6⟩, ⟨4, 1⟩, [⟨0, 4, .rw, 0x0, 0, .h⟩, ⟨8, 4, .rw, 0x0, 0, .h⟩, ⟨30, 1, .w1s, 0x0, 0, .h⟩, ⟨31, 1, .w1s, 0x0, 0, .h⟩]⟩,
  ⟨0xe0808, ⟨0x100, 6⟩, ⟨4, 1⟩, [⟨0, 3, .ro, 0x0, 0, .h⟩]⟩,
  ⟨0xe0840, ⟨0x100, 6⟩, ⟨0x4, 16⟩, [⟨0, 32, .rw, 0x0, 0, .h⟩]⟩]

/-- The registers of OUT (R374, R375, R376). -/
def rowsOut : List RegRow := [
  ⟨0xf0000, ⟨4, 1⟩, ⟨4, 1⟩, [⟨0, 1, .w1c, 0x0, 0, .h⟩, ⟨1, 1, .w1c, 0x0, 0, .h⟩, ⟨2, 1, .w1c, 0x0, 0, .h⟩, ⟨8, 8, .ro, 0x0, 0, .h⟩]⟩,
  ⟨0xf0100, ⟨0x20, 16⟩, ⟨4, 1⟩, [⟨0, 3, .ro, 0x0, 0, .i⟩, ⟨3, 1, .ro, 0x0, 0, .i⟩, ⟨4, 1, .ro, 0x0, 0, .i⟩]⟩,
  ⟨0xf0104, ⟨0x20, 16⟩, ⟨4, 1⟩, [⟨0, 4, .ro, 0x0, 0, .h⟩, ⟨8, 8, .ro, 0x0, 0, .h⟩, ⟨16, 8, .ro, 0x0, 0, .h⟩, ⟨24, 8, .ro, 0x0, 0, .h⟩]⟩,
  ⟨0xf0108, ⟨0x20, 16⟩, ⟨4, 1⟩, [⟨0, 32, .ro, 0x0, 0, .h⟩]⟩,
  ⟨0xf010c, ⟨0x20, 16⟩, ⟨4, 1⟩, [⟨0, 8, .ro, 0x0, 0, .h⟩, ⟨8, 8, .ro, 0x0, 0, .h⟩, ⟨16, 16, .ro, 0x0, 0, .h⟩]⟩,
  ⟨0xf0110, ⟨0x20, 16⟩, ⟨4, 1⟩, [⟨0, 32, .ro, 0x0, 0, .h⟩]⟩,
  ⟨0xf0114, ⟨0x20, 16⟩, ⟨4, 1⟩, [⟨0, 8, .rc, 0x0, 0, .h⟩, ⟨8, 8, .rc, 0x0, 0, .h⟩, ⟨16, 16, .rc, 0x0, 0, .h⟩]⟩,
  ⟨0xf0118, ⟨0x20, 16⟩, ⟨4, 1⟩, [⟨0, 16, .rc, 0x0, 0, .h⟩, ⟨16, 8, .rc, 0x0, 0, .h⟩]⟩,
  ⟨0xf011c, ⟨0x20, 16⟩, ⟨4, 1⟩, []⟩,
  ⟨0xf0400, ⟨0x10, 8⟩, ⟨4, 1⟩, [⟨0, 1, .ro, 0x0, 0, .i⟩, ⟨1, 2, .ro, 0x0, 0, .i⟩, ⟨16, 16, .ro, 0xffff, 0, .i⟩]⟩,
  ⟨0xf0404, ⟨0x10, 8⟩, ⟨4, 1⟩, [⟨0, 32, .ro, 0x0, 0, .h⟩]⟩,
  ⟨0xf0408, ⟨0x10, 8⟩, ⟨4, 1⟩, [⟨0, 32, .ro, 0x0, 0, .h⟩]⟩,
  ⟨0xf040c, ⟨0x10, 8⟩, ⟨4, 1⟩, [⟨0, 1, .ro, 0x1, 0, .h⟩, ⟨1, 1, .ro, 0x0, 0, .h⟩, ⟨2, 1, .ro, 0x0, 0, .h⟩]⟩,
  ⟨0xf0500, ⟨4, 1⟩, ⟨4, 1⟩, [⟨0, 24, .ro, 0x0, 0, .h⟩]⟩,
  ⟨0xf0504, ⟨4, 1⟩, ⟨4, 1⟩, [⟨0, 24, .rw, 0x0, 0, .h⟩]⟩,
  ⟨0xf0508, ⟨4, 1⟩, ⟨4, 1⟩, [⟨0, 24, .ro, 0x0, 0, .i⟩]⟩,
  ⟨0xf0600, ⟨0x10, 16⟩, ⟨4, 1⟩, [⟨0, 32, .rw, 0x0, 1, .h⟩]⟩,
  ⟨0xf0604, ⟨0x10, 16⟩, ⟨4, 1⟩, [⟨0, 32, .rw, 0x0, 0, .h⟩]⟩,
  ⟨0xf0608, ⟨0x10, 16⟩, ⟨4, 1⟩, [⟨0, 1, .rws, 0x0, 0, .h⟩]⟩,
  ⟨0xf060c, ⟨0x10, 16⟩, ⟨4, 1⟩, [⟨0, 32, .ro, 0x0, 0, .h⟩]⟩]

/-- The registers of RED (R405, R406). -/
def rowsRed : List RegRow := [
  ⟨0x100000, ⟨4, 1⟩, ⟨4, 1⟩, [⟨0, 2, .ro, 0x3, 0, .h⟩, ⟨2, 2, .ro, 0x0, 0, .h⟩, ⟨4, 1, .ro, 0x0, 0, .h⟩, ⟨5, 1, .ro, 0x0, 0, .h⟩, ⟨6, 1, .ro, 0x0, 0, .h⟩, ⟨7, 1, .ro, 0x0, 0, .h⟩, ⟨8, 1, .ro, 0x0, 0, .h⟩, ⟨9, 3, .ro, 0x0, 0, .h⟩, ⟨12, 1, .ro, 0x0, 0, .h⟩, ⟨13, 1, .ro, 0x0, 0, .h⟩, ⟨14, 1, .ro, 0x0, 0, .h⟩, ⟨15, 1, .ro, 0x0, 0, .h⟩, ⟨16, 8, .ro, 0x0, 0, .h⟩, ⟨24, 5, .ro, 0x1f, 0, .h⟩, ⟨29, 2, .ro, 0x1, 0, .h⟩]⟩,
  ⟨0x100004, ⟨4, 1⟩, ⟨4, 1⟩, [⟨0, 7, .w1c, 0x0, 0, .h⟩, ⟨7, 1, .w1c, 0x0, 0, .h⟩]⟩,
  ⟨0x100008, ⟨4, 1⟩, ⟨4, 1⟩, [⟨0, 9, .ro, 0x0, 0, .h⟩, ⟨16, 10, .ro, 0x0, 0, .h⟩]⟩,
  ⟨0x10000c, ⟨4, 1⟩, ⟨4, 1⟩, [⟨0, 16, .ro, 0x0, 0, .h⟩]⟩,
  ⟨0x100010, ⟨4, 1⟩, ⟨4, 1⟩, [⟨0, 16, .ro, 0x0, 0, .h⟩, ⟨16, 16, .ro, 0x0, 0, .h⟩]⟩,
  ⟨0x100014, ⟨4, 1⟩, ⟨4, 1⟩, [⟨0, 8, .ro, 0x0, 0, .h⟩]⟩,
  ⟨0x100018, ⟨4, 1⟩, ⟨4, 1⟩, [⟨0, 16, .ro, 0x0, 0, .h⟩, ⟨16, 8, .ro, 0x0, 0, .h⟩, ⟨24, 8, .rc, 0x0, 0, .h⟩]⟩,
  ⟨0x10001c, ⟨4, 1⟩, ⟨4, 1⟩, [⟨0, 32, .ro, 0x0, 0, .h⟩]⟩,
  ⟨0x100020, ⟨4, 1⟩, ⟨4, 1⟩, [⟨0, 8, .rc, 0x0, 0, .h⟩, ⟨8, 8, .rc, 0x0, 0, .h⟩, ⟨16, 8, .rc, 0x0, 0, .h⟩]⟩,
  ⟨0x100024, ⟨4, 1⟩, ⟨4, 1⟩, [⟨0, 32, .ro, 0x0, 0, .h⟩]⟩,
  ⟨0x100030, ⟨4, 1⟩, ⟨4, 1⟩, [⟨0, 1, .w1s, 0x0, 0, .h⟩, ⟨1, 1, .w1s, 0x0, 0, .h⟩, ⟨2, 1, .w1s, 0x0, 0, .h⟩]⟩,
  ⟨0x100034, ⟨4, 1⟩, ⟨4, 1⟩, [⟨0, 1, .ro, 0x0, 0, .h⟩, ⟨1, 3, .ro, 0x0, 0, .h⟩, ⟨8, 8, .ro, 0x0, 0, .h⟩, ⟨16, 16, .ro, 0x0, 0, .h⟩]⟩,
  ⟨0x100038, ⟨4, 1⟩, ⟨4, 1⟩, [⟨0, 16, .ro, 0x0, 0, .h⟩, ⟨16, 1, .ro, 0x0, 0, .h⟩]⟩,
  ⟨0x100100, ⟨0x20, 2⟩, ⟨4, 1⟩, [⟨0, 1, .ro, 0x0, 0, .h⟩, ⟨1, 1, .ro, 0x0, 0, .h⟩, ⟨2, 2, .ro, 0x0, 0, .i⟩, ⟨8, 8, .ro, 0x0, 0, .h⟩]⟩,
  ⟨0x100104, ⟨0x20, 2⟩, ⟨4, 1⟩, [⟨0, 32, .ro, 0x0, 0, .h⟩]⟩,
  ⟨0x100108, ⟨0x20, 2⟩, ⟨4, 1⟩, [⟨0, 16, .rc, 0x0, 0, .h⟩]⟩,
  ⟨0x10010c, ⟨0x20, 2⟩, ⟨4, 1⟩, [⟨0, 32, .ro, 0x0, 0, .h⟩]⟩,
  ⟨0x100110, ⟨0x20, 2⟩, ⟨4, 1⟩, []⟩,
  ⟨0x100114, ⟨0x20, 2⟩, ⟨4, 1⟩, []⟩,
  ⟨0x100118, ⟨0x20, 2⟩, ⟨4, 1⟩, []⟩,
  ⟨0x10011c, ⟨0x20, 2⟩, ⟨4, 1⟩, []⟩,
  ⟨0x100200, ⟨0x20, 3⟩, ⟨4, 1⟩, [⟨0, 1, .ro, 0x0, 0, .h⟩, ⟨1, 2, .ro, 0x0, 0, .h⟩, ⟨3, 1, .ro, 0x0, 0, .h⟩, ⟨4, 2, .ro, 0x0, 0, .h⟩, ⟨6, 1, .ro, 0x0, 0, .h⟩, ⟨8, 8, .ro, 0x0, 0, .h⟩, ⟨16, 5, .ro, 0x0, 0, .h⟩, ⟨21, 2, .ro, 0x0, 0, .h⟩]⟩,
  ⟨0x100204, ⟨0x20, 3⟩, ⟨4, 1⟩, [⟨0, 16, .ro, 0x0, 0, .h⟩]⟩,
  ⟨0x100208, ⟨0x20, 3⟩, ⟨4, 1⟩, [⟨0, 32, .ro, 0x0, 0, .h⟩]⟩,
  ⟨0x10020c, ⟨0x20, 3⟩, ⟨4, 1⟩, [⟨0, 32, .ro, 0x0, 0, .h⟩]⟩,
  ⟨0x100210, ⟨0x20, 3⟩, ⟨4, 1⟩, [⟨0, 32, .ro, 0x0, 0, .h⟩]⟩,
  ⟨0x100214, ⟨0x20, 3⟩, ⟨4, 1⟩, []⟩,
  ⟨0x100218, ⟨0x20, 3⟩, ⟨4, 1⟩, []⟩,
  ⟨0x10021c, ⟨0x20, 3⟩, ⟨4, 1⟩, []⟩,
  ⟨0x108000, ⟨4, 1⟩, ⟨4, 1⟩, [⟨0, 1, .rwx, 0x0, 0, .h⟩]⟩]

/-- The registers of SAFE (R432, R433). -/
def rowsSafe : List RegRow := [
  ⟨0x110000, ⟨4, 1⟩, ⟨4, 1⟩, [⟨0, 1, .ro, 0x0, 0, .h⟩, ⟨1, 1, .ro, 0x0, 0, .i⟩, ⟨2, 1, .ro, 0x0, 0, .h⟩, ⟨3, 1, .ro, 0x0, 0, .h⟩, ⟨4, 1, .ro, 0x0, 0, .h⟩, ⟨5, 1, .ro, 0x0, 0, .h⟩, ⟨6, 1, .ro, 0x0, 0, .h⟩, ⟨7, 1, .ro, 0x0, 0, .h⟩, ⟨8, 1, .ro, 0x0, 0, .h⟩, ⟨9, 1, .ro, 0x0, 0, .h⟩, ⟨10, 1, .w1c, 0x0, 0, .h⟩, ⟨11, 5, .w1c, 0x0, 0, .h⟩]⟩,
  ⟨0x110004, ⟨4, 1⟩, ⟨4, 1⟩, [⟨0, 12, .ro, 0x0, 0, .h⟩, ⟨12, 1, .ro, 0x0, 0, .h⟩, ⟨16, 12, .ro, 0x0, 0, .h⟩]⟩,
  ⟨0x110008, ⟨4, 1⟩, ⟨4, 1⟩, [⟨0, 2, .ro, 0x0, 0, .h⟩, ⟨2, 3, .ro, 0x0, 0, .h⟩, ⟨8, 8, .ro, 0x0, 0, .h⟩]⟩,
  ⟨0x11000c, ⟨4, 1⟩, ⟨4, 1⟩, [⟨0, 32, .ro, 0x0, 0, .h⟩]⟩,
  ⟨0x110010, ⟨4, 1⟩, ⟨4, 1⟩, [⟨0, 16, .ro, 0x0, 0, .h⟩, ⟨16, 8, .ro, 0x0, 0, .h⟩, ⟨24, 1, .ro, 0x0, 0, .h⟩]⟩,
  ⟨0x110014, ⟨4, 1⟩, ⟨4, 1⟩, [⟨0, 1, .w1s, 0x0, 0, .h⟩, ⟨1, 1, .w1s, 0x0, 0, .h⟩, ⟨2, 1, .w1s, 0x0, 0, .h⟩, ⟨4, 3, .rw, 0x7, 0, .h⟩]⟩,
  ⟨0x110018, ⟨4, 1⟩, ⟨4, 1⟩, [⟨0, 16, .ro, 0x168, 0, .i⟩, ⟨16, 16, .ro, 0x186, 0, .i⟩]⟩,
  ⟨0x110100, ⟨0x10, 8⟩, ⟨4, 1⟩, [⟨0, 2, .ro, 0x1, 0, .i⟩, ⟨8, 8, .ro, 0x0, 0, .i⟩]⟩,
  ⟨0x110104, ⟨0x10, 8⟩, ⟨4, 1⟩, [⟨0, 1, .ro, 0x0, 0, .h⟩, ⟨1, 1, .ro, 0x0, 0, .h⟩, ⟨2, 1, .ro, 0x0, 0, .h⟩, ⟨3, 1, .ro, 0x0, 0, .h⟩, ⟨16, 16, .ro, 0x0, 0, .h⟩]⟩,
  ⟨0x110108, ⟨0x10, 8⟩, ⟨4, 1⟩, [⟨0, 32, .ro, 0x0, 0, .h⟩]⟩,
  ⟨0x11010c, ⟨0x10, 8⟩, ⟨4, 1⟩, [⟨0, 32, .ro, 0x0, 0, .h⟩]⟩,
  ⟨0x110200, ⟨0x10, 8⟩, ⟨4, 1⟩, [⟨0, 1, .ro, 0x0, 0, .h⟩, ⟨1, 1, .ro, 0x0, 0, .h⟩, ⟨2, 1, .ro, 0x0, 0, .h⟩, ⟨3, 1, .ro, 0x0, 0, .h⟩, ⟨4, 3, .ro, 0x0, 0, .i⟩]⟩,
  ⟨0x110204, ⟨0x10, 8⟩, ⟨4, 1⟩, [⟨0, 32, .ro, 0x0, 0, .h⟩]⟩,
  ⟨0x110300, ⟨0x10, 8⟩, ⟨4, 1⟩, [⟨0, 1, .ro, 0x0, 0, .h⟩, ⟨1, 1, .ro, 0x0, 0, .h⟩, ⟨2, 1, .ro, 0x0, 0, .h⟩, ⟨3, 1, .ro, 0x0, 0, .h⟩, ⟨4, 1, .ro, 0x0, 0, .h⟩, ⟨5, 2, .ro, 0x0, 0, .h⟩]⟩,
  ⟨0x110304, ⟨0x10, 8⟩, ⟨4, 1⟩, [⟨0, 32, .ro, 0x0, 0, .h⟩]⟩,
  ⟨0x110308, ⟨0x10, 8⟩, ⟨4, 1⟩, [⟨0, 8, .rc, 0x0, 0, .h⟩, ⟨8, 8, .rc, 0x0, 0, .h⟩, ⟨16, 16, .ro, 0x0, 0, .h⟩]⟩,
  ⟨0x11030c, ⟨0x10, 8⟩, ⟨4, 1⟩, [⟨0, 32, .ro, 0x0, 0, .h⟩]⟩]

/-- The registers of REC (R460, R461). -/
def rowsRec : List RegRow := [
  ⟨0x120000, ⟨4, 1⟩, ⟨4, 1⟩, [⟨0, 1, .ro, 0x0, 0, .i⟩, ⟨1, 1, .ro, 0x0, 0, .h⟩, ⟨2, 1, .ro, 0x0, 0, .h⟩, ⟨3, 1, .ro, 0x0, 0, .h⟩, ⟨4, 3, .w1c, 0x0, 0, .h⟩]⟩,
  ⟨0x120004, ⟨4, 1⟩, ⟨4, 1⟩, [⟨0, 32, .ro, 0x0, 0, .h⟩]⟩,
  ⟨0x120008, ⟨4, 1⟩, ⟨4, 1⟩, [⟨0, 32, .ro, 0x0, 0, .h⟩]⟩,
  ⟨0x12000c, ⟨4, 1⟩, ⟨4, 1⟩, [⟨0, 32, .ro, 0x0, 0, .h⟩]⟩,
  ⟨0x120010, ⟨4, 1⟩, ⟨4, 1⟩, [⟨0, 16, .ro, 0x0, 0, .h⟩]⟩,
  ⟨0x120014, ⟨4, 1⟩, ⟨4, 1⟩, [⟨0, 24, .ro, 0x0, 0, .h⟩]⟩,
  ⟨0x120018, ⟨4, 1⟩, ⟨4, 1⟩, [⟨0, 13, .ro, 0x0, 0, .h⟩, ⟨16, 13, .ro, 0x0, 0, .h⟩]⟩,
  ⟨0x12001c, ⟨4, 1⟩, ⟨4, 1⟩, [⟨0, 16, .rc, 0x0, 0, .h⟩, ⟨16, 16, .rc, 0x0, 0, .h⟩]⟩,
  ⟨0x120020, ⟨4, 1⟩, ⟨4, 1⟩, [⟨0, 1, .w1s, 0x0, 0, .h⟩, ⟨1, 1, .w1s, 0x0, 0, .h⟩]⟩,
  ⟨0x120024, ⟨4, 1⟩, ⟨4, 1⟩, [⟨0, 10, .ro, 0x0, 0, .h⟩, ⟨10, 2, .ro, 0x0, 0, .h⟩, ⟨12, 2, .ro, 0x0, 0, .h⟩]⟩,
  ⟨0x120028, ⟨4, 1⟩, ⟨4, 1⟩, [⟨0, 32, .ro, 0x0, 0, .i⟩]⟩,
  ⟨0x120030, ⟨4, 1⟩, ⟨4, 1⟩, [⟨0, 1, .w1s, 0x0, 0, .h⟩]⟩,
  ⟨0x120034, ⟨4, 1⟩, ⟨4, 1⟩, [⟨0, 32, .rw, 0x0, 0, .h⟩]⟩,
  ⟨0x120038, ⟨4, 1⟩, ⟨4, 1⟩, [⟨0, 1, .ro, 0x0, 0, .h⟩, ⟨1, 1, .ro, 0x0, 0, .h⟩, ⟨16, 16, .ro, 0x0, 0, .h⟩]⟩,
  ⟨0x12003c, ⟨4, 1⟩, ⟨4, 1⟩, [⟨0, 32, .ro, 0x0, 0, .h⟩]⟩,
  ⟨0x120040, ⟨4, 1⟩, ⟨4, 1⟩, [⟨0, 32, .ro, 0x0, 0, .h⟩]⟩,
  ⟨0x120044, ⟨4, 1⟩, ⟨4, 1⟩, [⟨0, 3, .rw, 0x0, 0, .h⟩, ⟨3, 1, .rw, 0x0, 0, .h⟩]⟩,
  ⟨0x120050, ⟨4, 1⟩, ⟨4, 1⟩, [⟨0, 1, .w1s, 0x0, 0, .h⟩, ⟨1, 1, .w1s, 0x0, 0, .h⟩, ⟨2, 1, .rw, 0x0, 0, .h⟩]⟩,
  ⟨0x120054, ⟨4, 1⟩, ⟨4, 1⟩, [⟨0, 3, .ro, 0x0, 0, .h⟩]⟩,
  ⟨0x120060, ⟨0x4, 8⟩, ⟨4, 1⟩, [⟨0, 32, .ro, 0x0, 0, .h⟩]⟩,
  ⟨0x120080, ⟨0x4, 8⟩, ⟨4, 1⟩, [⟨0, 32, .wo, 0x0, 0, .h⟩]⟩,
  ⟨0x128000, ⟨0x4, 8⟩, ⟨4, 1⟩, [⟨0, 32, .rwx, 0x0, 0, .h⟩]⟩,
  ⟨0x128020, ⟨4, 1⟩, ⟨4, 1⟩, [⟨0, 1, .w1s, 0x0, 0, .h⟩]⟩]

/-- The registers of NAND (R462). -/
def rowsNand : List RegRow := [
  ⟨0x130000, ⟨4, 1⟩, ⟨4, 1⟩, [⟨0, 1, .ro, 0x0, 0, .h⟩, ⟨1, 1, .ro, 0x0, 0, .h⟩, ⟨2, 1, .ro, 0x0, 0, .h⟩, ⟨3, 1, .ro, 0x0, 0, .h⟩, ⟨4, 1, .ro, 0x0, 0, .h⟩, ⟨5, 3, .w1c, 0x0, 0, .h⟩]⟩,
  ⟨0x130004, ⟨4, 1⟩, ⟨4, 1⟩, [⟨0, 3, .ro, 0x0, 0, .h⟩, ⟨3, 2, .ro, 0x0, 0, .h⟩, ⟨5, 1, .ro, 0x0, 0, .i⟩, ⟨16, 16, .ro, 0x0, 0, .h⟩]⟩,
  ⟨0x130008, ⟨4, 1⟩, ⟨4, 1⟩, [⟨0, 24, .ro, 0x0, 0, .h⟩]⟩,
  ⟨0x13000c, ⟨4, 1⟩, ⟨4, 1⟩, [⟨0, 24, .ro, 0x0, 0, .h⟩]⟩,
  ⟨0x130010, ⟨4, 1⟩, ⟨4, 1⟩, [⟨0, 24, .ro, 0x0, 0, .h⟩]⟩,
  ⟨0x130014, ⟨4, 1⟩, ⟨4, 1⟩, [⟨0, 24, .ro, 0x0, 0, .h⟩]⟩,
  ⟨0x130018, ⟨4, 1⟩, ⟨4, 1⟩, [⟨0, 7, .rc, 0x0, 0, .h⟩, ⟨16, 16, .rc, 0x0, 0, .h⟩]⟩,
  ⟨0x13001c, ⟨4, 1⟩, ⟨4, 1⟩, [⟨0, 16, .ro, 0x0, 0, .h⟩, ⟨16, 16, .ro, 0x0, 0, .h⟩]⟩,
  ⟨0x130020, ⟨4, 1⟩, ⟨4, 1⟩, [⟨0, 32, .ro, 0x0, 0, .h⟩]⟩,
  ⟨0x130024, ⟨4, 1⟩, ⟨4, 1⟩, [⟨0, 32, .ro, 0x0, 0, .h⟩]⟩,
  ⟨0x130028, ⟨4, 1⟩, ⟨4, 1⟩, [⟨0, 24, .ro, 0x0, 0, .h⟩, ⟨24, 4, .ro, 0x0, 0, .h⟩]⟩,
  ⟨0x13002c, ⟨4, 1⟩, ⟨4, 1⟩, [⟨0, 1, .w1s, 0x0, 0, .h⟩, ⟨1, 1, .w1s, 0x0, 0, .h⟩]⟩]

/-- The registers of BIST (R496, R497). -/
def rowsBist : List RegRow := [
  ⟨0x140000, ⟨4, 1⟩, ⟨4, 1⟩, [⟨0, 1, .ro, 0x0, 0, .h⟩, ⟨1, 1, .ro, 0x0, 0, .h⟩, ⟨2, 1, .ro, 0x0, 0, .h⟩, ⟨3, 1, .ro, 0x0, 0, .h⟩, ⟨4, 1, .ro, 0x0, 0, .h⟩, ⟨5, 1, .ro, 0x0, 0, .h⟩, ⟨6, 1, .ro, 0x0, 0, .h⟩, ⟨7, 1, .w1c, 0x0, 0, .h⟩, ⟨8, 1, .w1c, 0x0, 0, .h⟩, ⟨9, 1, .w1c, 0x0, 0, .h⟩]⟩,
  ⟨0x140004, ⟨4, 1⟩, ⟨4, 1⟩, [⟨0, 13, .ro, 0x0, 0, .h⟩, ⟨13, 3, .ro, 0x0, 0, .h⟩, ⟨16, 8, .ro, 0x0, 0, .h⟩]⟩,
  ⟨0x140010, ⟨4, 1⟩, ⟨4, 1⟩, [⟨0, 8, .wo, 0x0, 0, .h⟩, ⟨31, 1, .w1s, 0x0, 0, .h⟩]⟩,
  ⟨0x140100, ⟨0x10, 32⟩, ⟨4, 1⟩, [⟨0, 8, .ro, 0x0, 0, .h⟩, ⟨8, 8, .ro, 0x0, 0, .h⟩, ⟨16, 4, .ro, 0x0, 0, .h⟩, ⟨20, 2, .ro, 0x0, 0, .h⟩]⟩,
  ⟨0x140104, ⟨0x10, 32⟩, ⟨4, 1⟩, [⟨0, 32, .ro, 0x0, 0, .h⟩]⟩,
  ⟨0x140108, ⟨0x10, 32⟩, ⟨4, 1⟩, []⟩,
  ⟨0x14010c, ⟨0x10, 32⟩, ⟨4, 1⟩, []⟩,
  ⟨0x140400, ⟨0x10, 27⟩, ⟨4, 1⟩, [⟨0, 2, .ro, 0x0, 0, .h⟩]⟩,
  ⟨0x140404, ⟨0x10, 27⟩, ⟨4, 1⟩, [⟨0, 32, .ro, 0x0, 0, .h⟩]⟩,
  ⟨0x140408, ⟨0x10, 27⟩, ⟨4, 1⟩, [⟨0, 32, .ro, 0x0, 0, .h⟩]⟩,
  ⟨0x14040c, ⟨0x10, 27⟩, ⟨4, 1⟩, [⟨0, 16, .ro, 0x0, 0, .h⟩]⟩,
  ⟨0x148000, ⟨4, 1⟩, ⟨4, 1⟩, [⟨0, 1, .rwx, 0x0, 0, .h⟩]⟩]

/-- The registers of HOST (R499, R516). -/
def rowsHost : List RegRow := [
  ⟨0x150000, ⟨4, 1⟩, ⟨4, 1⟩, [⟨0, 1, .ro, 0x0, 0, .h⟩, ⟨1, 2, .ro, 0x0, 0, .h⟩, ⟨3, 2, .ro, 0x0, 0, .h⟩, ⟨5, 1, .ro, 0x0, 0, .h⟩]⟩,
  ⟨0x150004, ⟨4, 1⟩, ⟨4, 1⟩, [⟨0, 8, .rc, 0x0, 0, .h⟩, ⟨8, 8, .rc, 0x0, 0, .h⟩, ⟨16, 8, .rc, 0x0, 0, .h⟩]⟩,
  ⟨0x150008, ⟨4, 1⟩, ⟨4, 1⟩, [⟨0, 13, .ro, 0x0, 0, .i⟩]⟩,
  ⟨0x150010, ⟨4, 1⟩, ⟨4, 1⟩, [⟨0, 4, .ro, 0x0, 0, .h⟩, ⟨4, 1, .ro, 0x0, 0, .h⟩, ⟨5, 1, .ro, 0x0, 0, .h⟩, ⟨6, 1, .ro, 0x0, 0, .h⟩, ⟨31, 1, .w1c, 0x0, 0, .h⟩]⟩,
  ⟨0x150014, ⟨4, 1⟩, ⟨4, 1⟩, [⟨0, 32, .ro, 0x0, 0, .h⟩]⟩,
  ⟨0x150018, ⟨4, 1⟩, ⟨4, 1⟩, [⟨0, 16, .rc, 0x0, 0, .h⟩]⟩,
  ⟨0x150020, ⟨4, 1⟩, ⟨4, 1⟩, [⟨0, 10, .w1c, 0x0, 0, .h⟩]⟩,
  ⟨0x150030, ⟨4, 1⟩, ⟨4, 1⟩, [⟨0, 16, .rc, 0x0, 0, .h⟩]⟩,
  ⟨0x151000, ⟨0x10, 4⟩, ⟨4, 1⟩, [⟨0, 32, .rw, 0x0, 0, .h⟩]⟩,
  ⟨0x151004, ⟨0x10, 4⟩, ⟨4, 1⟩, [⟨0, 32, .rw, 0x0, 0, .h⟩]⟩,
  ⟨0x151008, ⟨0x10, 4⟩, ⟨4, 1⟩, [⟨0, 32, .rw, 0x0, 0, .h⟩]⟩,
  ⟨0x15100c, ⟨0x10, 4⟩, ⟨4, 1⟩, [⟨0, 1, .rw, 0x1, 0, .h⟩]⟩,
  ⟨0x151800, ⟨4, 1⟩, ⟨4, 1⟩, [⟨0, 4, .ro, 0x0, 0, .h⟩]⟩]

/-- The registers of NET (R213, R516). -/
def rowsNet : List RegRow := [
  ⟨0x160000, ⟨4, 1⟩, ⟨4, 1⟩, [⟨0, 4, .ro, 0x0, 0, .h⟩]⟩,
  ⟨0x160100, ⟨0x20, 4⟩, ⟨4, 1⟩, [⟨0, 1, .ro, 0x0, 0, .i⟩, ⟨1, 2, .ro, 0x0, 0, .i⟩, ⟨3, 2, .ro, 0x0, 0, .i⟩, ⟨5, 1, .ro, 0x0, 0, .i⟩]⟩,
  ⟨0x160104, ⟨0x20, 4⟩, ⟨4, 1⟩, [⟨0, 4, .ro, 0x1, 0, .h⟩, ⟨4, 4, .ro, 0x1, 0, .h⟩]⟩,
  ⟨0x160108, ⟨0x20, 4⟩, ⟨4, 1⟩, [⟨0, 32, .ro, 0x0, 0, .u⟩]⟩,
  ⟨0x16010c, ⟨0x20, 4⟩, ⟨4, 1⟩, [⟨0, 32, .ro, 0x0, 0, .u⟩]⟩,
  ⟨0x160110, ⟨0x20, 4⟩, ⟨4, 1⟩, [⟨0, 32, .ro, 0x0, 0, .h⟩]⟩,
  ⟨0x160114, ⟨0x20, 4⟩, ⟨4, 1⟩, []⟩,
  ⟨0x160118, ⟨0x20, 4⟩, ⟨4, 1⟩, []⟩,
  ⟨0x16011c, ⟨0x20, 4⟩, ⟨4, 1⟩, []⟩,
  ⟨0x160400, ⟨0x100, 4⟩, ⟨0x10, 8⟩, [⟨0, 1, .rw, 0x0, 0, .i⟩, ⟨1, 1, .rw, 0x0, 0, .u⟩]⟩,
  ⟨0x160404, ⟨0x100, 4⟩, ⟨0x10, 8⟩, [⟨0, 16, .rc, 0x0, 0, .h⟩, ⟨16, 16, .rc, 0x0, 0, .h⟩]⟩,
  ⟨0x160408, ⟨0x100, 4⟩, ⟨0x10, 8⟩, [⟨0, 16, .rc, 0x0, 0, .h⟩]⟩,
  ⟨0x16040c, ⟨0x100, 4⟩, ⟨0x10, 8⟩, [⟨0, 32, .ro, 0x0, 0, .h⟩]⟩]

/-- The registers of PARAM (R117). -/
def rowsParam : List RegRow := [
  ⟨0x170000, ⟨4, 1⟩, ⟨4, 1⟩, [⟨0, 16, .rw, 0x0, 0, .h⟩]⟩,
  ⟨0x170004, ⟨4, 1⟩, ⟨4, 1⟩, [⟨0, 32, .rw, 0x0, 0, .h⟩]⟩,
  ⟨0x170008, ⟨4, 1⟩, ⟨4, 1⟩, [⟨0, 32, .rw, 0x0, 0, .h⟩]⟩,
  ⟨0x17000c, ⟨4, 1⟩, ⟨4, 1⟩, [⟨0, 4, .ro, 0x0, 0, .h⟩, ⟨4, 1, .ro, 0x0, 0, .h⟩, ⟨5, 1, .ro, 0x0, 0, .h⟩, ⟨6, 1, .ro, 0x0, 0, .h⟩, ⟨7, 1, .ro, 0x0, 0, .h⟩, ⟨8, 3, .ro, 0x0, 0, .h⟩]⟩,
  ⟨0x170010, ⟨4, 1⟩, ⟨4, 1⟩, [⟨0, 8, .rc, 0x0, 0, .h⟩]⟩,
  ⟨0x170014, ⟨4, 1⟩, ⟨4, 1⟩, [⟨0, 16, .rw, 0x0, 0, .h⟩, ⟨16, 2, .rw, 0x0, 0, .h⟩, ⟨31, 1, .w1s, 0x0, 0, .h⟩]⟩,
  ⟨0x170018, ⟨4, 1⟩, ⟨4, 1⟩, [⟨0, 1, .ro, 0x0, 0, .h⟩, ⟨8, 8, .ro, 0x0, 0, .h⟩, ⟨16, 16, .ro, 0x0, 0, .h⟩]⟩,
  ⟨0x170020, ⟨4, 1⟩, ⟨4, 1⟩, [⟨0, 16, .ro, 0x0, 0, .h⟩, ⟨16, 16, .ro, 0x0, 0, .h⟩]⟩,
  ⟨0x170024, ⟨4, 1⟩, ⟨4, 1⟩, [⟨0, 1, .w1s, 0x0, 0, .h⟩, ⟨1, 1, .w1s, 0x0, 0, .h⟩]⟩]

/-- The registers of the block with the given id (R10, R31); none above 0x17 (R32). -/
def regRows : Nat → List RegRow
  | 0 => rowsSys
  | 1 => rowsClk
  | 2 => rowsEvt
  | 3 => rowsSched
  | 4 => rowsImg
  | 5 => rowsChk
  | 6 => rowsEntry
  | 7 => rowsAfe
  | 8 => rowsGnss
  | 9 => rowsTime
  | 10 => rowsFus
  | 11 => rowsAlloc
  | 12 => rowsSolv
  | 13 => rowsLoop
  | 14 => rowsCan
  | 15 => rowsOut
  | 16 => rowsRed
  | 17 => rowsSafe
  | 18 => rowsRec
  | 19 => rowsNand
  | 20 => rowsBist
  | 21 => rowsHost
  | 22 => rowsNet
  | 23 => rowsParam
  | _ => []

end Sys2Proof.Machine
end

