-- ==== Sys2Proof/Machine/RegFile.lean ====
section
/-! DEFINITION. The register file: the words that differ from their reset value, in one canonical form (R8, R12, R504).
An address that holds no register reads 0. -/
namespace Sys2Proof.Machine

/-- Register words by byte address in BAR0: addresses strictly rising, and no entry equal to the reset word. -/
abbrev RegFile := List (Nat × Word)

/-- The row of the register table that holds an address (R31, R504). -/
def regRow (a : Nat) : Option RegRow := (regRows (a / 0x10000)).find? (fun r => r.holds a)

/-- What a register reads as while nothing has changed it (R12); 0 where there is no register (R504). -/
def regReset (a : Nat) : Word :=
  match regRow a with
  | some r => r.resetWord
  | none => 0

/-- The listed word of an address. -/
def RegFile.find : RegFile → Nat → Option Word
  | [], _ => none
  | (b, w) :: f, a => if b = a then some w else RegFile.find f a

/-- The word that a register holds. -/
def RegFile.read (f : RegFile) (a : Nat) : Word := (f.find a).getD (regReset a)

/-- Drop every entry of an address. -/
def RegFile.drop : RegFile → Nat → RegFile
  | [], _ => []
  | (b, w) :: f, a => if b = a then RegFile.drop f a else (b, w) :: RegFile.drop f a

/-- List a word at its place in the order. -/
def RegFile.put : RegFile → Nat → Word → RegFile
  | [], a, w => [(a, w)]
  | (b, v) :: f, a, w =>
    if a < b then (a, w) :: (b, v) :: f
    else if a = b then (a, w) :: f
    else (b, v) :: RegFile.put f a w

/-- Write a register's word; the reset word leaves no entry. -/
def RegFile.write (f : RegFile) (a : Nat) (w : Word) : RegFile :=
  if w = regReset a then f.drop a else f.put a w

/-- The entries' addresses rise strictly. -/
def RegFile.sorted : RegFile → Bool
  | [] => true
  | [_] => true
  | (a, _) :: (b, w) :: f => a < b && RegFile.sorted ((b, w) :: f)

/-- The canonical form. -/
def RegFile.wf (f : RegFile) : Bool := f.sorted && f.all (fun e => e.2 != regReset e.1)

/-- A field's value. -/
def RegFile.get (f : RegFile) (x : Field) : Nat := getBits (f.read x.addr) x.lo x.width

/-- Write a field and leave the register's other bits. -/
def RegFile.set (f : RegFile) (x : Field) (v : Nat) : RegFile :=
  f.write x.addr (setBits (f.read x.addr) x.lo x.width v)

/-- Every register of an address range back at its reset word. -/
def RegFile.resetRange (f : RegFile) (lo hi : Nat) : RegFile := f.filter (fun e => e.1 < lo || hi ≤ e.1)

end Sys2Proof.Machine
end

