-- ==== Sys2Proof/Machine/State.lean ====
section
/-! DEFINITION. The state of the device: its registers, what each block holds beside them, the structure image in RAM, and the
queue of commands that wait. Plain data throughout. -/
namespace Sys2Proof.Machine
open Sys2Proof

/-- Why a command stops the machine: no rule of the manual makes one do so, hence no constructor. Nothing raises it, which
is safe: a claim about a fault is empty. -/
inductive Fault where
deriving DecidableEq, Repr

/-- Why a command has no meaning. -/
inductive Refusal where
  /-- Raised by an arm of `exec` whose command has no meaning yet; safe, since the machine stops. -/
  | notModelled (mnemonic : String)
deriving DecidableEq, Repr

/-- The structure image as the device has loaded it (R91): the tables of it that the manual's rules read; `tables` pairs a table's number
with the CRC-32C the image carries (R131), `paths` is the certificate's path rows (R64), `snapshot` the interval of the state snapshot in
ns, 0 for none (R29), `params` names where its parameter table differs from the manual's, an index it lacks or the ranges it gives (R107,
R111). Reset: empty, as no image has been loaded at reset (R96). -/
structure Image where
  entry : EntryImage
  gnss : GnssImage
  tasks : List TaskRow
  paths : List PathRow
  snapshot : Nat
  fus : FusImage
  alloc : AllocImage
  loop : LoopImage
  out : OutImage
  red : RedImage
  safety : List (Nat × Quad)
  tables : List (Nat × Word)
  params : List (Nat × Option (List (Nat × Nat)))
deriving DecidableEq, Repr, Inhabited

/-- A task in its slot (R59, R63): its release; the channels that have run; whether it waits for an operation id (R74); and what its inputs
come from, as it stood at the release: registers, parameters, sensor slots, outputs of other tasks with those before them, fusion, the
allocation with the demand of the latest QP (R260), the loop engine, the outputs, the redundancy and the safety island. -/
structure Shot where
  rel : Nat
  done : List Nat
  waited : Bool
  regs : RegFile
  params : ParamState
  slots : List (Option Packet)
  held : List ((Nat × Nat) × Packet)
  prior : List ((Nat × Nat) × Packet)
  fus : FusState
  alloc : AllocState
  tau : Vec
  loop : LoopState
  out : OutState
  red : RedState
  safe : SafeState
deriving DecidableEq, Repr, Inhabited

/-- The device without its queue. -/
structure Dev where
  /-- Every register of BAR0, in canonical form (R504). Reset: nothing listed, every register at its reset value (R12). -/
  regs : RegFile
  /-- The schedule beside its registers (chapter 3). -/
  sched : SchedState
  /-- The check chain beside its registers (chapter 5). -/
  chk : ChkState
  /-- The cellar (chapter 4). -/
  img : ImgState
  /-- The parameter layers (R107). -/
  params : ParamState
  /-- The recorder and its media (chapter 16). -/
  recorder : RecState
  /-- The NAND medium (R455 to R459). -/
  nand : NandState
  /-- Clocks, power and reset (chapter 17). -/
  clk : ClkState
  /-- The lamp check and the recovery ladder (chapter 18). -/
  bist : BistState
  /-- The host ports (chapter 19). -/
  host : HostState
  /-- Sensor entry (chapter 6). -/
  entry : EntryState
  /-- The analogue chain and the pulse inputs (chapter 6). -/
  afe : AfeState
  /-- The internal receiver (chapter 7). -/
  gnss : GnssState
  /-- Device time (chapter 8). -/
  time : TimeState
  /-- Reference fusion (chapter 9). -/
  fus : FusState
  /-- The allocation and coupled transfer (chapter 10). -/
  alloc : AllocState
  /-- The solver engine (chapter 11). -/
  solv : SolvState
  /-- The loop engine (chapter 12). -/
  loop : LoopState
  /-- The CAN controllers and the outputs (chapter 13). -/
  out : OutState
  /-- Redundancy and the Coruz links (chapter 14). -/
  red : RedState
  /-- The safety functions (chapter 15). -/
  safe : SafeState
  /-- The Ethernet ports (chapter 8). -/
  net : NetState
  /-- The structure image in RAM (R62, R91). Reset empty. -/
  image : Image
  /-- The tasks in their slots, by number, with what stood at their release (R59, R63). Reset none. -/
  shots : List (Nat × Shot)
deriving DecidableEq, Repr, Inhabited

/-- The machine: the device, and the commands that wait, first in, first out. -/
structure State where
  dev : Dev
  pending : List Instr
deriving DecidableEq, Repr

/-- The cellar at reset: no directory, no overlay; slot F holds the factory set (R88, R89), whose contents the cellar
reads at the start. -/
def ImgState.reset : ImgState where
  dirA := none
  dirB := none
  sets := [some VintageSet.made, none, none, none, none, none]
  racking := none
  rackCut := false
  records := []
  submitted := none
  keys := [none, none, none, none]
  revoked := 0
  running := none
  kgSince := none

/-- The clocks at reset: CORE up, the TCXO present. -/
def ClkState.reset : ClkState where
  phase := .up
  clean := false
  vinLost := false
  vinHere := true
  stopAt := none
  aonGone := false
  env := List.replicate 6 (false, false)
  wakes := 0
  wakeCtrl := 7
  aonDt := none
  startCause := 0
  standbyAt := none
  tcxoPresent := true
  extPresent := false
  goneAt := [none, none]
  carry := 0
  shutdown := none
  dormantAbandon := false
  pwrHold := false
  cycleReq := false
  cycleAt := 0
  unlockAt := 0
  restrictDue := false
  lead := 0

/-- The receiver at reset: bias on at both inputs, nothing held. -/
def GnssState.reset : GnssState where
  ants := List.replicate 2 ⟨none, none, none, true, 0, none⟩
  jamSince := none
  calmSince := none
  failRun := 0
  failSince := [none, none, none, none]
  passSince := none
  ephemerides := []
  almanac := false
  almanacTainted := false
  left := false
  receipts := []
  sbasAt := none
  fifo := []
  position := none
  anchor := none
  outside := 0
  renewing := none
  t4Blocked := 0
  corrAt := none
  coarse := none
  predicted := []
  floors := List.replicate 4 F32.zero
  cn0s := []
  biases := []
  ranges := []
  outDone := [none, none, none]
  raw := none

/-- A reference of which nothing has been judged. -/
def RefTrack.none : RefTrack := ⟨[], F64.zero, Option.none, false, 0, Option.none, Option.none, 0, [], [], [], Option.none⟩

/-- Fusion at reset: nothing estimated. -/
def FusState.reset : FusState where
  hist := []
  refs := List.replicate 28 RefTrack.none
  att := [[], [], []]
  mru := [none, none, none]
  attSince := none
  objs := List.replicate 8 ⟨[], [], 0, none⟩
  origin := none
  initAt := none
  resetAt := none
  convSince := none
  drSince := none
  hdgSince := none
  disagreePos := false
  disagreeHdg := false
  lateKept := []
  ahead := []
  lastRel := none
  attPair := false
  resetDue := false
  originDue := false
  anchorDue := []
  anchorSet := []
  anchors := List.replicate 8 []
  wind := (F64.zero, F64.zero)
  late := false
  carry := false

/-- The allocation at reset: nothing planned, nothing detected. -/
def AllocState.reset : AllocState where
  sealed := none
  plan := none
  planAt := 0
  planAge := 0
  before := none
  enabled := 0
  prev := List.replicate 16 [F64.zero, F64.zero]
  achieved := Vec.zeros 3
  fed := Vec.zeros 3
  detected := none
  stop := none
  lastMask := none
  arrested := 0
  shift := Vec.zeros 2
  joints := []
  coupleOk := none
  handback := 0
  jointData := List.replicate 8 []

/-- The loop engine at reset: no bank loaded, every state 0, nothing traced (R315, R319). -/
def LoopState.reset : LoopState where
  bq := List.replicate 96 ⟨[], [], [], [], none, none, 0, none, F64.zero, true, none⟩
  pid := List.replicate 16 ⟨[], [], F64.zero, F64.zero, F64.zero, F64.zero, F64.zero, F64.zero, F64.zero, 0, none, none, 0, none, none, none⟩
  rm := List.replicate 8 ⟨F64.zero, F64.zero, F64.zero, F64.zero, false, false⟩
  path := []
  hdgMode := false
  point := Vec.zeros 2
  place := true
  pathReq := none
  offset := Vec.zeros 3
  restHeld := false
  trace := List.replicate 8 ⟨0, 0, [], none, 0, 0⟩
  due := []

/-- The buses and the outputs at reset: nothing queued, nothing sent. -/
def OutState.reset : OutState where
  can := List.replicate 6 ⟨0, 0, [], none, 0, List.replicate 16 0, [], []⟩
  alive := []
  sent := []
  thr := List.replicate 16 ⟨0, none, none, false, none, 0, 0⟩
  lever := List.replicate 16 (0, 0, false)
  aoBall := List.replicate 8 none
  gpio := 0

/-- Redundancy at reset: no peer heard, no tally held. -/
def RedState.reset : RedState where
  links := List.replicate 2 ⟨none, 0⟩
  peers := List.replicate 3 ⟨[none, none, none], [], 0, 0, 0, 0, 0, none⟩
  seqHb := 0
  seqMirror := 0
  out := [[], []]
  captured := none
  mirror := none
  mirrorPrev := none
  loadDue := none
  syncUnit := none
  missed := 0
  words := []
  judged := none
  shadowHits := 0
  shadowFault := false
  latched := 0
  clockFault := false
  envFault := false
  envOk := none
  echoBad := none
  holds := false
  cutDue := none
  gaveUp := false
  quietSince := none
  claimUntil := none
  claimAt := none
  dwellAt := none
  revertAt := none
  drill := none
  yielded := false
  drillMs := 0
  followOff := false
  followFrom := none
  followWait := false
  strap := none

/-- The safety functions at reset: nothing loaded, nothing demanded, every pair open. -/
def SafeState.reset : SafeState where
  fns := List.replicate 8 ⟨none, none, Vec.zeros 2⟩
  ins := List.replicate 8 ⟨none, false⟩
  outs := List.replicate 8 ⟨none, 0, none, none, none, 0, false, []⟩
  stops := []
  inhibitDue := false
  stopDue := false
  halted := false
  inst := none
  instDue := false
  own := none
  xchkSince := none
  differ := List.replicate 8 0
  dieVals := none
  handSeq := 0
  beat := 0
  azLast := List.replicate 16 none
  load := none
  matched := none
  judged := false
  scanOpen := false

/-- No image. -/
def Image.empty : Image := ⟨⟨[], [], [], [], [], [], [], []⟩, ⟨none, none, none⟩, [], [], 0, ⟨[], [], []⟩, ⟨[], [], [], 0, none, []⟩, ⟨[], [], [], []⟩, ⟨[], [], [], 0, 0, [], none, []⟩, ⟨0⟩, [], [], []⟩

/-- The device as the CORE domain leaves reset with the cellar holding the factory set only. -/
def Dev.reset : Dev where
  regs := []
  sched := ⟨0, [], [], 0, 0, [], [], [], [], false, false, 0, none, none⟩
  chk := ⟨[], none⟩
  img := ImgState.reset
  params := ⟨some [], [], [], [], [], [], none, false, 0, 0, [], []⟩
  recorder := ⟨0, 0, [], none, [], [], [], 0, true, [], false, none, none, none, 0, none, 0, 0, 0, 0⟩
  nand := ⟨[], 0, 0, 0, 0, 0, 0, none, [], 0, none, 0⟩
  clk := ClkState.reset
  bist := ⟨none, none, false, 0, 0, false, false, none⟩
  host := ⟨[], [], 0, false, false, [], 0, [], [0, 0, 0, 0], [], none⟩
  entry := ⟨[], List.replicate 12 [], List.replicate 64 none, List.replicate 64 none, [], [], []⟩
  afe := ⟨List.replicate 16 ⟨[], 0, [], [], [], [], none, 0, 0, false, 0, 0, []⟩, List.replicate 8 ⟨0, false, 0, 0, 0⟩⟩
  gnss := GnssState.reset
  time := ⟨0, List.replicate 3 ⟨false, none, false, 0, 0, none, none⟩, 0, 0, none, false, none, false, none, 0, 0⟩
  fus := FusState.reset
  alloc := AllocState.reset
  solv := ⟨List.replicate 8 ⟨none, none, none, false, false⟩, none, none, 0, [], 0⟩
  loop := LoopState.reset
  out := OutState.reset
  red := RedState.reset
  safe := SafeState.reset
  net := ⟨List.replicate 2 ⟨none, [], 0, 0, 0, 0⟩, [], List.replicate 4 ⟨0, 0, 0, 0⟩, [], [], [], List.replicate 4 none, [0, 0, 0, 0]⟩
  image := Image.empty
  shots := []

/-- The machine right after reset: the device at reset, no command waiting. -/
def State.reset : State := ⟨Dev.reset, []⟩

end Sys2Proof.Machine
end

