-- ==== Sys2Proof/Machine/Ops.lean ====
section
/-! DEFINITION. The named operations that the meanings share: registers and parameters, schedule and device time, events
with their delivery (R508 to R512), records (R435 to R441), and seals with their lineage (R119 to R127). -/
namespace Sys2Proof.Machine
open Sys2Proof

/-- The first element of a list kept from another list. -/
def keepFirst {α : Type} : List α → List α → List α
  | a :: _, l => a :: l.tail
  | [], l => l

/-- Slots written once keep what they hold. -/
def keepWritten {α : Type} : List (Option α) → List (Option α) → List (Option α)
  | some a :: l, _ :: m => some a :: keepWritten l m
  | none :: l, x :: m => x :: keepWritten l m
  | l, [] => l
  | [], m => m

/-- What the silicon lets no command undo: slot F of the cellar (R89), a key slot once it is written, and a revocation (R103). -/
def Dev.keep (old new : Dev) : Dev :=
  { new with img := { new.img with
      sets := keepFirst old.img.sets new.img.sets
      keys := keepWritten old.img.keys new.img.keys
      revoked := old.img.revoked ||| new.img.revoked } }

/-- A command's effect on the device, the queue left as it is. -/
def State.apply (s : State) (f : Dev → Dev) : State := { s with dev := s.dev.keep (f s.dev) }

/-- A command that takes effect. -/
def State.run (s : State) (f : Dev → Dev) : Host.Outcome State Fault Refusal := .next (s.apply f)

/-! ## Registers -/

/-- The value of a register field. -/
def Dev.get (d : Dev) (x : Field) : Nat := d.regs.get x

/-- Whether a one-bit field is 1. -/
def Dev.flag (d : Dev) (x : Field) : Bool := d.get x != 0

/-- Write a register field. -/
def Dev.set (d : Dev) (x : Field) (v : Nat) : Dev := { d with regs := d.regs.set x v }

/-- Write a one-bit field. -/
def Dev.setB (d : Dev) (x : Field) (b : Bool) : Dev := d.set x (bit b)

/-- The word of a register. -/
def Dev.word (d : Dev) (a : Nat) : Word := d.regs.read a

/-- Write the word of a register. -/
def Dev.setWord (d : Dev) (a : Nat) (w : Word) : Dev := { d with regs := d.regs.write a w }

/-- Count in a field that stops at its largest value. -/
def Dev.inc (d : Dev) (x : Field) : Dev := d.set x (satInc (2 ^ x.width - 1) (d.get x))

/-- Count in a field by more than one, stopping at its largest value. -/
def Dev.incBy (d : Dev) (x : Field) (n : Nat) : Dev := d.set x (min (2 ^ x.width - 1) (d.get x + n))

/-- Count in a field that wraps. -/
def Dev.incWrap (d : Dev) (x : Field) : Dev := d.set x (d.get x + 1)

/-- A signed register field. -/
def Dev.getInt (d : Dev) (x : Field) : Int :=
  let v := d.get x
  if v < 2 ^ (x.width - 1) then (v : Int) else (v : Int) - 2 ^ x.width

/-- Write a signed field, saturating at its range. -/
def Dev.setInt (d : Dev) (x : Field) (v : Int) : Dev :=
  let h : Int := 2 ^ (x.width - 1)
  d.set x ((satInt (-h) (h - 1) v) % (2 ^ x.width : Int)).toNat

/-- A binary32 register. -/
def Dev.getF (d : Dev) (x : Field) : F32 := ⟨BitVec.ofNat 32 (d.get x)⟩

/-- Write a binary32 register; a NaN or an infinity is never written (R6). -/
def Dev.setF (d : Dev) (x : Field) (v : F32) : Dev := if v.bad then d else d.set x v.bits.toNat

/-- Write a register that shows an angle as BAM32 or a number as binary32, a NaN or an infinity never (R6). -/
def Dev.setShown (d : Dev) (x : Field) (angle : Bool) (w : Word) : Dev := if !angle && (F32.mk w).bad then d else d.set x w.toNat

/-- Write a binary64 value into its two registers; a NaN or an infinity is never written (R6). -/
def Dev.setD (d : Dev) (lo hi : Field) (v : F64) : Dev :=
  if v.bad then d else (d.set lo (v.bits.extractLsb' 0 32).toNat).set hi (v.bits.extractLsb' 32 32).toNat

/-- A binary32 value as a frame carries it: where it is a NaN or an infinity, which no frame carries (R6), a finite value that the manual
leaves open. -/
def F32.framed (v : F32) : Word :=
  if !v.bad then v.bits else if (F32.mk (Config.finite v.bits)).bad then 0 else Config.finite v.bits

/-- The same of a binary64 value. -/
def F64.framed (v : F64) : Quad :=
  if !v.bad then v.bits else if (F64.mk (Config.finite64 v.bits)).bad then 0 else Config.finite64 v.bits

/-- One bit of a register field that has a bit for each of several things. -/
def Dev.bitAt (d : Dev) (x : Field) (i : Nat) : Bool := (d.get x).testBit i

/-- Write one bit of such a field. -/
def Dev.setBitAt (d : Dev) (x : Field) (i : Nat) (b : Bool) : Dev := d.set ⟨x.addr, x.lo + i, 1⟩ (bit b)

/-- Store bytes in the memory behind BAR2 (R501). -/
def Dev.bar2Write (d : Dev) (a : Nat) (bs : List Byte) : Dev := { d with host := { d.host with bar2 := d.host.bar2.writeAll a bs } }

/-! ## Parameters (R107) -/

/-- The parameter's row in the manual's tables. -/
def paramRow (i : Nat) : Option ParamRow := paramRows.find? (fun r => r.base ≤ i && i < r.base + r.count)

/-- The value of an index in a list of values. -/
def lookup {α : Type} (l : List (Nat × α)) (i : Nat) : Option α := (l.find? (fun e => e.1 == i)).map (fun e => e.2)

/-- The value of a pair in a list of values. -/
def lookupAt {α : Type} (l : List ((Nat × Nat) × α)) (k : Nat × Nat) : Option α := (l.find? (fun e => e.1 == k)).map (fun e => e.2)

/-- Put a value for an index. -/
def update {α : Type} (l : List (Nat × α)) (i : Nat) (v : α) : List (Nat × α) :=
  (i, v) :: l.filter (fun e => e.1 != i)

/-- The factory value of the manual's table. -/
def tableFactory (i : Nat) : Nat :=
  match paramRow i with
  | some r => (r.factory.getD (if r.factory.length = 1 then 0 else i - r.base) 0)
  | none => 0

/-- The parameter's row in the table of the loaded image (R107, R111): the manual's, but for what the image says otherwise. -/
def Dev.paramRow (d : Dev) (i : Nat) : Option ParamRow :=
  match lookup d.image.params i with
  | some none => none
  | some (some ranges) => (Sys2Proof.Machine.paramRow i).map fun r => { r with ranges := ranges }
  | none => Sys2Proof.Machine.paramRow i

/-- The hardware value, which stands until the factory table is read: the lower end of the range (R107). -/
def Dev.hardwareVal (d : Dev) (i : Nat) : Nat :=
  match d.paramRow i with
  | some r => (r.ranges.headD (0, 0)).1
  | none => 0

/-- A parameter of the SAFE block (R107). -/
def isSafeParam (i : Nat) : Bool := i / 256 = 0x11

/-- A value of the type is a NaN or an infinity (R6). -/
def ParamType.bad (t : ParamType) (q : Quad) : Bool :=
  match t with
  | .fp32 => (F32.mk (q.extractLsb' 0 32)).bad
  | .fp64 => (F64.mk q).bad
  | _ => false

/-- A NaN or an infinity in a binary32 field or in the high word of a binary64 field (R6). -/
def FieldRow.notFinite (f : FieldRow) (w : Word) : Bool :=
  let v := getBits w f.lo f.width
  if f.format = 1 then (F32.ofBits v).bad else if f.format = 2 then v / 2 ^ 20 % 2 ^ 11 == 2047 else false

/-- A value is no NaN or infinity of a parameter that holds a number (R6). -/
def Dev.finiteParam (d : Dev) (i : Nat) (q : Quad) : Bool := match d.paramRow i with
  | some r => !r.type.bad q
  | none => true

/-- The layers under the overlay: hardware, the set in slot F, the manual's table (R107). -/
def Dev.factoryVal (d : Dev) (i : Nat) : Nat :=
  match d.params.factory with
  | none => d.hardwareVal i
  | some l =>
    match lookup l i with
    | some q => q.toNat
    | none => tableFactory i

/-- The value in force of a parameter (R107): runtime, overlay, factory, hardware; of a SAFE parameter the sealed set's (R429). -/
def Dev.param (d : Dev) (i : Nat) : Nat :=
  if isSafeParam i then
    match lookup d.params.sealedVals i with
    | some q => q.toNat
    | none => d.factoryVal i
  else
    match lookup d.params.runtime i with
    | some q => q.toNat
    | none =>
      match lookup d.params.overlay i with
      | some q => q.toNat
      | none => d.factoryVal i

/-- A binary32 parameter in binary64. -/
def Dev.paramF (d : Dev) (i : Nat) : F64 := (F32.ofBits (d.param i)).to64

/-- A binary32 parameter as it stands. -/
def Dev.paramF32 (d : Dev) (i : Nat) : F32 := F32.ofBits (d.param i)

/-- A binary64 parameter. -/
def Dev.paramD (d : Dev) (i : Nat) : F64 := F64.ofBits (d.param i)

/-- A boolean parameter. -/
def Dev.paramB (d : Dev) (i : Nat) : Bool := d.param i != 0

/-- A signed 32-bit parameter. -/
def Dev.paramInt (d : Dev) (i : Nat) : Int := (BitVec.ofNat 32 (d.param i)).toInt

/-- The value that a parameter has at schedule time `at_` (R140): that of a write registered before the last boundary up to then (R108),
else the value in force, or the oldest value that a change after that time replaced. -/
def Dev.paramThen (d : Dev) (i at_ : Nat) : Nat :=
  let due := d.params.waiting.filter fun e => e.2.1 == i && (e.1 / 10000000 + 1) * 10000000 ≤ at_
  let now : Nat := match due.getLast? with
    | some e => e.2.2.toNat
    | none => d.param i
  d.params.history.foldl (fun v e => if at_ < e.1 then (match lookup e.2 i with
    | some q => q.toNat
    | none => v) else v) now

/-- A binary64 number of seconds as whole nanoseconds. -/
def nsOfSec (x : F64) : Nat := (x.mul (.ofInt 1000000000)).toU 64 0

/-- A binary64 number of milliseconds as whole nanoseconds. -/
def nsOfMs (x : F64) : Nat := (x.mul (.ofInt 1000000)).toU 64 0

/-- A parameter in seconds, as nanoseconds. -/
def Dev.paramNs (d : Dev) (i : Nat) : Nat := nsOfSec (d.paramF i)

/-! ## Time (R192, R194, R196) -/

/-- The length of a period of code `p` in ns (R22). -/
def periodLen (p : Nat) : Nat := if p = 0 then 1000000 else if p = 1 then 10000000 else 100000000

/-- The boundary that opened the period a task of period code `p` runs in (R22). -/
def periodStart (t p : Nat) : Nat := t / periodLen p * periodLen p

/-- The latest release of a task up to a time (R59). -/
def TaskRow.lastRelease (r : TaskRow) (t : Nat) : Option Nat :=
  let b := periodStart t r.period
  if b + r.release ≤ t then some (b + r.release)
  else if periodLen r.period ≤ b then some (b - periodLen r.period + r.release)
  else none

/-- The tasks that the image places, by number (R64). -/
def Image.numbered (i : Image) : List (Nat × TaskRow) := (List.range i.tasks.length).zip i.tasks

/-- The schedule has started (R62). -/
def Dev.running (d : Dev) : Bool := d.regs.get Reg.SCHED_STATUS.RUNNING != 0

/-- What a task released now takes its inputs from (R63). -/
def Dev.snapshot (d : Dev) (rel : Nat) : Shot :=
  { rel := rel, done := [], waited := false, regs := d.regs, params := d.params, slots := d.entry.slots, held := d.sched.held
    prior := d.sched.prior, fus := d.fus, alloc := d.alloc, tau := d.solv.tau, loop := d.loop, out := d.out
    red := d.red, safe := d.safe }

/-- The tasks released between two schedule times, the first excluded, while the schedule runs: number and release (R59, R62). -/
def Dev.released (d : Dev) (a b : Nat) : List (Nat × Nat) :=
  if !d.running then []
  else d.image.numbered.filterMap fun e => match e.2.lastRelease b with
    | some rel => if a < rel && d.sched.startAt ≤ rel then some (e.1, rel) else none
    | none => none

/-- The number under which the safety island's evaluation is kept among the tasks in their slots: no task's (R84). -/
def islandTask : Nat := 1024

/-- The length of the island's evaluation slot in ns (R417). -/
def Dev.islandSlot (d : Dev) : Nat := 1000 * (d.regs.get Reg.SAFE_TIMING.FENCE - d.regs.get Reg.SAFE_TIMING.RELEASE)

/-- The island's evaluation released between two schedule times, the first excluded: once in every minor frame (R417). -/
def Dev.islandReleased (d : Dev) (a b : Nat) : List (Nat × Nat) :=
  let r := 1000 * d.regs.get Reg.SAFE_TIMING.RELEASE
  let rel := if r ≤ b then (b - r) / 1000000 * 1000000 + r else 0
  if a < rel then [(islandTask, rel)] else []

/-- Put tasks in their slots at schedule time `now`; of a task released anew the slot before is kept where its fence is now. -/
def Dev.openShots (d : Dev) (now : Nat) (l : List (Nat × Nat)) : Dev :=
  let fenced (e : Nat × Shot) : Bool := match d.image.tasks[e.1]? with
    | some row => e.2.rel + row.slot == now
    | none => false
  { d with shots := l.map (fun e => (e.1, d.snapshot e.2)) ++ d.shots.filter (fun e => !l.any (fun x => x.1 == e.1) || fenced e) }

/-- Let schedule time run on to `t`; it never runs back (R192). The tasks released on the way take their slots (R59, R63). -/
def Dev.advance (d : Dev) (t : Nat) : Dev :=
  let now := max d.sched.st t
  let e : Dev := d.openShots now (d.islandReleased d.sched.st now ++ d.released d.sched.st now)
  { e with sched := { e.sched with st := now } }

/-- What takes effect at the very time of a release is among what the task takes (R63): its inputs stand anew, but for sensor data, which
belong to the next interval (R18). -/
def Dev.resample (d : Dev) : Dev :=
  { d with shots := d.shots.map fun e =>
      if e.2.rel = d.sched.st then (e.1, { d.snapshot e.2.rel with slots := e.2.slots, done := e.2.done, waited := e.2.waited })
      else e }

/-- The schedule stops (R62): no task is in its slot. -/
def Dev.stopSchedule (d : Dev) : Dev := { (d.setB Reg.SCHED_STATUS.RUNNING false) with shots := [] }

/-- The device as a task sees it (R63): what its inputs come from as it stood at the release. -/
def Dev.view (d : Dev) (s : Shot) : Dev :=
  { d with
    regs := s.regs, params := s.params, fus := s.fus, alloc := s.alloc, loop := s.loop, out := s.out, red := s.red, safe := s.safe
    entry := { d.entry with slots := s.slots }
    solv := { d.solv with tau := s.tau }
    sched := { d.sched with st := s.rel, held := s.held, prior := s.prior } }

/-- TS32 of a schedule time (R194). -/
def ts32Of (t : Int) : Word := BitVec.ofInt 32 t

/-- TS32 now. -/
def Dev.ts32 (d : Dev) : Word := ts32Of d.sched.st

/-- FRAME16 of a schedule time (R22). -/
def frame16Of (t : Int) : BitVec 16 := BitVec.ofInt 16 (t / 1000000)

/-- DT in quarter-ns (R196). -/
def Dev.dtQ (d : Dev) : Int := 4 * (d.sched.st : Int) + d.time.offset

/-- DT seconds. -/
def Dev.dtSec (d : Dev) : Int := d.dtQ / 4000000000

/-- DT nanoseconds within the second. -/
def Dev.dtNs (d : Dev) : Nat := ((d.dtQ % 4000000000) / 4).toNat

/-- The mode (R35). -/
def Dev.mode (d : Dev) : Nat := d.get Reg.SYS_MODE.MODE

/-- The loop is closed in M4, M5 and M6 (R35). -/
def Dev.loopClosed (d : Dev) : Bool := 4 ≤ d.mode && d.mode ≤ 6

/-- The CORE domain is up. -/
def Dev.coreUp (d : Dev) : Bool :=
  match d.clk.phase with
  | .up | .enteringDormant | .shuttingDown | .cycling => true
  | _ => false

/-- An effect that needs the CORE domain: while it is down the command does nothing. -/
def Dev.whenUp (d : Dev) (f : Dev → Dev) : Dev := if d.coreUp then f d else d

/-- An effect that the boot loader serves as well, while no set has started (R99). -/
def Dev.whenHost (d : Dev) (f : Dev → Dev) : Dev := if d.coreUp || d.clk.phase = .halted then f d else d

/-! ## Records (R435 to R441) -/

/-- Bytes of a record (R435). -/
def Rec.size (r : Rec) : Nat := 36 + r.body.length

/-- Bytes in staging (R441). -/
def stagingBytes (l : List Rec) : Nat := l.foldl (fun n r => n + r.size) 0

/-- The staging area's size (R441). -/
def stagingSize : Nat := 4194304

/-- Show the fill of staging (R460). -/
def Dev.showStaging (d : Dev) : Dev :=
  let kb := stagingBytes d.recorder.staging / 1024
  let d : Dev := d.set Reg.REC_STAGE.LEVEL kb
  if d.get Reg.REC_STAGE.HWM < kb then d.set Reg.REC_STAGE.HWM kb else d

/-- UTC of a record: second, nanosecond and LEAP flag (R440). -/
def Dev.utc (d : Dev) : Nat × Nat × Bool :=
  if d.flag Reg.TIME_STATUS.DT_VALID then
    let sec := d.dtSec - d.getInt Reg.TIME_LEAP.OFFSET
    if d.get Reg.TIME_LEAP.PENDING = 1 && d.dtSec + 1 == (d.time.leapAt : Int) then
      ((sec - 1).toNat, 1000000000 + d.dtNs, true)
    else (sec.toNat, d.dtNs, false)
  else (0, 0, false)

/-- A record's body: event, block, subtype, then words, at least 16 bytes (R435, R436). -/
def recordBody (evt blk sub : Nat) (words : List Word) : List Byte :=
  let b := leBytes 1 evt ++ leBytes 1 blk ++ leBytes 2 sub ++ words.flatMap (fun w => leBytes 4 w.toNat)
  b ++ List.replicate (16 - b.length) 0

/-- Operating time in ms, 48 bits (R438). -/
def Dev.oph (d : Dev) : Nat :=
  (d.recorder.ophBase + (if d.clk.vinHere then (d.sched.st - d.recorder.ophFrom) / 1000000 else 0)) % 281474976710656

/-- The record as created now, with the SEQ given (R435). -/
def Dev.makeRec (d : Dev) (seq : Word) (type : Nat) (body : List Byte) (tov : Option Int) : Rec :=
  let u := d.utc
  { type := type
    flags := bit (d.flag Reg.TIME_STATUS.DT_VALID) + 2 * bit u.2.2 + 4 * bit tov.isSome
      + 8 * bit (d.flag Reg.REC_STATUS.FROZEN) + 16 * bit d.recorder.first
    seq := seq
    oph := d.oph
    pcc := d.get Reg.REC_PCC.PCC
    unit := d.get Reg.RED_STATUS.UNIT
    utcSec := u.1
    utcNs := u.2.1
    tov := (tov.map ts32Of).getD 0
    frame := (tov.map frame16Of).getD 0
    body := body }

/-- Append a record to staging with the next SEQ (R437, R441). -/
def Dev.stage (d : Dev) (type : Nat) (body : List Byte) (tov : Option Int) : Dev :=
  let seq := d.recorder.lastSeq + 1
  let r := d.makeRec seq type body tov
  ({ d with recorder := { d.recorder with
      lastSeq := seq, first := false, staging := d.recorder.staging ++ [r] } }).showStaging

/-- A record that finds staging full (R441): its SEQ is spent, the loss is counted, the episode's last SEQ is kept. -/
def Dev.dropRecord (d : Dev) : Dev :=
  let seq := d.recorder.lastSeq + 1
  let first := match d.recorder.dropped with
    | some p => p.1
    | none => seq
  ({ d with recorder := { d.recorder with lastSeq := seq, dropped := some (first, seq) } }).inc Reg.REC_LOST.DROPPED

/-! ## Events (R508 to R512) -/

/-- The owning block of an event (R509). -/
def evtBlock (n : Nat) : Nat :=
  if n ≤ 1 then 0x00 else if n ≤ 3 then 0x03 else if n ≤ 6 then 0x05 else if n ≤ 9 then 0x04
  else if n = 10 then 0x00 else if n ≤ 12 then 0x01 else if n ≤ 14 then 0x00 else if n ≤ 16 then 0x14
  else if n = 17 then 0x15 else if n = 18 then 0x00 else if n = 19 then 0x01 else if n ≤ 27 then 0x00
  else if n ≤ 29 then 0x01 else if n = 30 then 0x14 else if n ≤ 34 then 0x06 else if n ≤ 36 then 0x07
  else if n ≤ 40 then 0x08 else if n ≤ 44 then 0x09 else if n = 45 then 0x16 else if n ≤ 52 then 0x0A
  else if n ≤ 55 then 0x0C else if n ≤ 57 then 0x0B else if n ≤ 63 then 0x0D else if n ≤ 73 then 0x0E
  else if n ≤ 75 then 0x0F else if n ≤ 82 then 0x10 else if n ≤ 87 then 0x11 else if n ≤ 90 then 0x12
  else if n ≤ 93 then 0x13 else if n = 94 then 0x16 else 0x15

/-- The record type of an event (R436). -/
def evtType (n : Nat) : Nat :=
  if n ≤ 1 then 0x02
  else if n = 2 || n = 4 then 0x09
  else if n = 7 || n = 9 then 0x05
  else if n = 8 then 0x06
  else if n = 83 || n = 84 then 0x08
  else if 78 ≤ n && n ≤ 80 || n = 82 then 0x03
  else if n = 88 || n = 90 then 0x0C
  else if n = 91 then 0x0E
  else 0x01

/-- The route byte of an event (R511). -/
def Dev.route (d : Dev) (n : Nat) : Nat := d.get ⟨0x20100 + 4 * (n / 4), 8 * (n % 4), 8⟩

/-- The sources with status and enable both 1, in one bank. -/
def Dev.activeBank (d : Dev) (b : Nat) : Word := d.word (0x20000 + 4 * b) &&& d.word (0x20010 + 4 * b)

/-- Whether some pending source satisfies a predicate on its route byte (R511). -/
def Dev.pendingWhere (d : Dev) (p : Nat → Bool) : Bool :=
  (List.range 3).any fun b =>
    let w := d.activeBank b
    if w = 0 then false
    else (List.range 32).any fun i => w.getLsbD i && p (d.route (32 * b + i))

/-- The route byte names vector `v` (R511). -/
def routesTo (v r : Nat) : Bool := r.testBit 2 && r % 4 == v

/-- Sources are pending on vector `v` (R511). -/
def Dev.vecPending (d : Dev) (v : Nat) : Bool := d.pendingWhere (routesTo v)

/-- IRQ0_N or IRQ1_N is asserted (R511). -/
def Dev.pinAsserted (d : Dev) (p : Nat) : Bool := d.pendingWhere (fun r => r.testBit (3 + p))

/-- A vector can send now (R511). -/
def Dev.canSend (d : Dev) (v : Nat) : Bool :=
  d.flag Reg.HOST_STATUS.LINK_UP && d.flag Reg.HOST_STATUS.MASTER && !d.flag (Reg.HOST_MSIX.CTRL.MASK v)

/-- Send vector `v`'s message, or hold its pending bit (R511). -/
def Dev.sendVector (d : Dev) (v : Nat) : Dev :=
  if d.canSend v then
    ({ d with host := { d.host with sent := modAt d.host.sent v (· + 1) } }).setBitAt Reg.HOST_MSIX_PBA.PEND v false
  else d.setBitAt Reg.HOST_MSIX_PBA.PEND v true

/-- Send every vector whose set has become non-empty between two states of the event registers (R511). -/
def Dev.deliverFrom (before d : Dev) : Dev :=
  [0, 1, 2, 3].foldl (fun d v => if d.vecPending v && !before.vecPending v then d.sendVector v else d) d

/-- A trace unit that waits for an event: armed, with trigger kind 4 and this event (R335). -/
def Dev.awaits (d : Dev) (u n : Nat) : Bool :=
  d.get (Reg.LOOP_TR.STAT.STATE u) == 1 && d.get (Reg.LOOP_TR.TRIG.KIND u) == 4 && d.get (Reg.LOOP_TR.TRIG.EVENT u) == n

/-- The number of the present CLK_IO cycle of 10 ns (R195, R511). -/
def Dev.ioCycle (d : Dev) : Nat := d.sched.st / 10

/-- Keep that event `n` has been raised in the present CLK_IO cycle (R511). -/
def Dev.markRaised (d : Dev) (n : Nat) : Dev :=
  { d with host := { d.host with raised := (n, d.ioCycle) :: d.host.raised.filter (fun e => e.2 == d.ioCycle) } }

/-- Set an event's status bit and deliver it (R508, R511). -/
def Dev.signal (d : Dev) (n : Nat) : Dev :=
  let e := ((d.setBitAt (Reg.EVT_STATUS.STATUS (n / 32)) (n % 32) true).set Reg.EVT_LAST.EVENT n).set
    Reg.EVT_LAST_TS.TS d.ts32.toNat
  let e : Dev := (Dev.deliverFrom d e).markRaised n
  if (List.range 8).any (fun u => e.awaits u n) then { e with loop := { e.loop with due := e.loop.due ++ [n] } } else e

/-- Tenths of a second frozen (R461). -/
def Dev.frozenFor (d : Dev) : Nat := min 1023 ((d.sched.st - d.recorder.freezeAt) / 100000000)

/-- The types that the NOR ring also holds in the full profile (R442). -/
def onNorToo (type : Nat) : Bool := [0x04, 0x05, 0x0C, 0x0D, 0x0E, 0x0F].contains type

/-- The bytes that cut records take in a sector of the NOR ring (R444). -/
def NorSector.tornSize (s : NorSector) : Nat := s.torn.foldl (fun n e => n + e.2.length) 0

/-- The NOR ring with a record more (R443): within the newest sector while it fits, else in a fresh one, which begins with the operating
hours and the power-cycle count; of 128 sectors one stays erased. -/
def norWith (nor : List NorSector) (epoch oph pcc : Nat) (r : Rec) : List NorSector :=
  let fits : Bool := match nor.getLast? with
    | some s => s.epoch == epoch && 32 + stagingBytes s.recs + s.tornSize + r.size ≤ 65536
    | none => false
  if fits then modAt nor (nor.length - 1) (fun s => { s with recs := s.recs ++ [r] })
  else
    let seq := match nor.getLast? with
      | some s => s.seq + 1
      | none => 0
    let l : List NorSector := nor ++ [(⟨epoch, seq, oph, pcc, [r], []⟩ : NorSector)]
    l.drop (l.length - 127)

/-- Staging drained at once when a freeze breaks (R449): the drain resumes before staging refuses a record, and the NOR ring takes its
copies (R442). -/
def Dev.drainAll (d : Dev) : Dev :=
  let copies := d.recorder.staging.filter fun r => onNorToo r.type
  ({ d with recorder := { d.recorder with
      openBatch := d.recorder.openBatch ++ d.recorder.staging, staging := []
      nor := copies.foldl (fun l r => norWith l d.recorder.epoch d.oph (d.get Reg.REC_PCC.PCC) r) d.recorder.nor
      batchAt := if d.recorder.openBatch.isEmpty then d.sched.st else d.recorder.batchAt } }).showStaging

/-- Create a record (R441): state snapshots stop above 75 % fill; a freeze that fills staging ends with E88 (R449);
a record that finds staging full is dropped, with E89 once per episode. Its time of validity is that of the data recorded (R29). -/
def Dev.record (d : Dev) (type : Nat) (body : List Byte) (tov : Option Int) : Dev :=
  let tov := tov <|> d.sched.subject
  let used := stagingBytes d.recorder.staging
  if type = 0x0A && 4 * used > 3 * stagingSize then d.inc Reg.REC_LOST.SNAP_SKIPPED
  else if used + 36 + body.length ≤ stagingSize then d.stage type body tov
  else if d.flag Reg.REC_STATUS.FROZEN then
    let d : Dev := (((d.set Reg.REC_FREEZE_STAT.ELAPSED d.frozenFor).setB Reg.REC_STATUS.FROZEN false).set Reg.REC_FREEZE_STAT.END 3).drainAll
    let d : Dev := (d.setBitAt Reg.REC_STATUS.STICKY 0 true).signal 88
    let d : Dev := d.stage 0x0C (recordBody 88 0x12 4 []) none
    d.stage type body tov
  else
    let fresh := d.recorder.dropped.isNone
    let d : Dev := d.dropRecord
    if fresh then ((d.setBitAt Reg.REC_STATUS.STICKY 1 true).signal 89).dropRecord else d

/-- Raise an event (R508) without looking at the trace units: status and delivery, and its record with the owning block's capture
words (R29, R436). -/
def Dev.raiseCore (d : Dev) (n sub : Nat) (words : List Word) (tov : Option Int) : Dev :=
  (d.signal n).record (evtType n) (recordBody n (evtBlock n) sub words) tov

/-- Trace unit `u` is triggered now (R335): the trigger sample, its time, and E61. -/
def Dev.traceTrigger (d : Dev) (u : Nat) : Dev :=
  let x := d.loop.trace.getD u default
  let pre := d.get (Reg.LOOP_TR.TRIG.PRE u)
  let d : Dev := { d with loop := { d.loop with trace := modAt d.loop.trace u (fun y => { y with left := 65536 - pre }) } }
  let d : Dev := ((d.set (Reg.LOOP_TR.STAT.STATE u) 2).set (Reg.LOOP_TR.STAT.PRE_HAVE u) (min x.count pre)).set
    (Reg.LOOP_TR.TRIG_IDX.TRIG_IDX u) ((x.pos + 65535) % 65536)
  ((d.set (Reg.LOOP_TR.TRIG_TS.TRIG_TS u) d.ts32.toNat).setB Reg.LOOP_STATUS.TRIG_STICKY true).raiseCore 61 u
    [d.word 0xD0000, d.word (0xD3014 + 0x40 * u)] none

/-- Trigger the units that wait for events raised since (R335); a trigger's own E61 may trigger further units, of which there are eight,
hence the fuel. -/
def Dev.flushTrace : Nat → Dev → Dev
  | 0, d => d
  | k + 1, d =>
    match d.loop.due with
    | [] => d
    | n :: rest =>
      let d : Dev := { d with loop := { d.loop with due := rest } }
      Dev.flushTrace k ((List.range 8).foldl (fun d u => if d.awaits u n then d.traceTrigger u else d) d)

/-- Raise an event (R508): status and delivery, its record, and the trace units that wait for it. -/
def Dev.raiseWith (d : Dev) (n sub : Nat) (words : List Word) (tov : Option Int) : Dev :=
  Dev.flushTrace 24 (d.raiseCore n sub words tov)

/-- Raise an event with a subtype and the capture registers at the given addresses, as they stand now. -/
def Dev.raiseSub (d : Dev) (n sub : Nat) (caps : List Nat) : Dev := d.raiseWith n sub (caps.map d.word) none

/-- Raise an event with the capture registers at the addresses given, in register order (R436). -/
def Dev.raise (d : Dev) (n : Nat) (caps : List Nat) : Dev := d.raiseWith n 0 (caps.map d.word) none

/-- Write a record without an event (R436): type, creating block, subtype and words. -/
def Dev.note (d : Dev) (type blk sub : Nat) (words : List Word) : Dev :=
  Dev.flushTrace 24 (d.record type (recordBody 0xFF blk sub words) none)

/-- The data that a computation goes on with are of this time of validity (R26, R29). -/
def Dev.onto (d : Dev) (tov : Int) : Dev := { d with sched := { d.sched with subject := some tov } }

/-- A computation on data of a time of validity, which the records it writes carry (R26, R29). -/
def Dev.about (d : Dev) (tov : Int) (f : Dev → Dev) : Dev :=
  let e := f (d.onto tov)
  { e with sched := { e.sched with subject := d.sched.subject } }

/-- What a rule dates at a time of its own, such as a task's release. -/
def Dev.asOf (d : Dev) (t : Nat) (f : Dev → Dev) : Dev :=
  let e := f { d with sched := { d.sched with st := t } }
  { e with sched := { e.sched with st := d.sched.st } }

/-- What concerns no datum that a computation works on. -/
def Dev.aside (d : Dev) (f : Dev → Dev) : Dev :=
  let e := f { d with sched := { d.sched with subject := none } }
  { e with sched := { e.sched with subject := d.sched.subject } }

/-- Complete an asynchronous command (R517): its doorbell bit, with E17. -/
def Dev.doorbell (d : Dev) (i : Nat) : Dev :=
  (d.setBitAt Reg.HOST_DB_OUT.DONE i true).raise 17 [0x150020]

/-! ## Seals (R119 to R127) -/

/-- The bytes that a check covers (R119): the payload, tag bits [95:32], then tag bits [23:8], each lowest byte first.
DEDUCED (log 121): the order of the two bit ranges is the order in which the rule names them. -/
def checkBytes (payload : List Word) (tov : Word) (frame alive : BitVec 16) (source kind : BitVec 8) : List Byte :=
  payload.flatMap (fun w => leBytes 4 w.toNat) ++ leBytes 2 alive.toNat ++ leBytes 2 frame.toNat ++ leBytes 4 tov.toNat
    ++ leBytes 2 (kind.toNat + 256 * source.toNat)

/-- The check value that a packet should carry (R119). -/
def Packet.calc (p : Packet) : Word :=
  crc32c (checkBytes p.payload p.tag.tov p.tag.frame p.tag.alive p.tag.source p.tag.kind)

/-- The check holds (R119, R123). -/
def Packet.intact (p : Packet) : Bool := p.calc == p.tag.check

/-- A flag of a tag (R122): 0 STALE, 1 FALLBACK, 2 COLD, 3 PARTIAL, 4 SUSPECT, 5 CLAMPED. -/
def Packet.flag (p : Packet) (i : Nat) : Bool := p.tag.flags.getLsbD i

/-- The lineage word of a transforming stage: the XOR of its inputs' checks (R124). -/
def lineageOf (ins : List Packet) : Word := ins.foldl (fun w p => w ^^^ p.tag.check) 0

/-- The flags [4:0] that a transforming stage passes on from its inputs (R122). -/
def flagsOf (ins : List Packet) : BitVec 8 := ins.foldl (fun f p => f ||| (p.tag.flags &&& 0x1F)) 0

/-- The next alive value of a (source, kind) stream (R127). -/
def Dev.nextAlive (d : Dev) (source kind : Nat) : Nat :=
  match d.sched.aliveOut.find? (fun e => e.1 == (source, kind)) with
  | some e => (e.2 + 1) % 65536
  | none => 0

/-- Seal a payload at the present time (R119, R122, R127): the packet, and the device with the counter moved on. `tov` is
the time of validity in ns, `flags` bits [5:0], `lineage` the lineage word. -/
def Dev.seal (d : Dev) (source kind op : Nat) (flags : BitVec 8) (lineage : Word) (tov : Int) (payload : List Word) :
    Packet × Dev :=
  let a := d.nextAlive source kind
  let tov32 := ts32Of tov
  let frame := frame16Of tov
  let check := crc32c (checkBytes payload tov32 frame (BitVec.ofNat 16 a) (BitVec.ofNat 8 source) (BitVec.ofNat 8 kind))
  let tag : Tag := {
    check := check, tov := tov32, frame := frame, alive := BitVec.ofNat 16 a, opId := BitVec.ofNat 8 op
    source := BitVec.ofNat 8 source, kind := BitVec.ofNat 8 kind
    flags := (flags &&& 0x3F) ||| BitVec.ofNat 8 (64 * (lineage.toNat % 4)) }
  (⟨tag, payload, d.sched.st, tov⟩,
   { d with sched := { d.sched with
      aliveOut := ((source, kind), a) :: d.sched.aliveOut.filter (fun e => e.1 != (source, kind)) } })

/-- Write a lineage-log entry, newest first, 1,024 of a resource kept (R124). -/
def Dev.logLineage (d : Dev) (resource op : Nat) (check lineage : Word) : Dev :=
  let e : LineageEntry := ⟨resource, op, check, lineage, d.ts32⟩
  let mine := (d.chk.logs.filter (fun x => x.resource == resource)).take 1023
  { d with chk := { d.chk with logs := e :: mine ++ d.chk.logs.filter (fun x => x.resource != resource) } }

/-- A transforming stage's seal (R122 to R124): flags from its inputs and its own, lineage of its inputs, and a log entry. -/
def Dev.transform (d : Dev) (resource kind op : Nat) (own : BitVec 8) (tov : Int) (ins : List Packet)
    (payload : List Word) : Packet × Dev :=
  let (p, d) := d.seal resource kind op (flagsOf ins ||| own) (lineageOf ins) tov payload
  (p, d.logLineage resource op p.tag.check (lineageOf ins))

/-- The time of validity that TS32 and FRAME16 stand for, the latest one up to a time (R24); `k` bounds the turns of TS32 looked back. -/
def fullTov (ts : Word) (frame : BitVec 16) : Nat → Int → Int
  | 0, t => t - ((BitVec.ofInt 32 t - ts).toNat : Int)
  | k + 1, t =>
    let c := t - ((BitVec.ofInt 32 t - ts).toNat : Int)
    if frame16Of c = frame then c else
      let older := fullTov ts frame k (t - 4294967296)
      if frame16Of older = frame then older else c

/-! ## Sensor slots (R138, R151) -/

/-- Some slot has timed out. -/
def Dev.showTimeouts (d : Dev) : Dev :=
  d.setB Reg.ENTRY_STATUS.TIMEOUT_ANY
    ((List.range 64).any fun s => d.flag (Reg.ENTRY_SLOT.SLOT_STAT.TIMED_OUT s))

/-- The timeout window of a slot closes without a seal (R151): TIMED_OUT, the count, and E34. -/
def Dev.closeWindow (d : Dev) (slot : Nat) : Dev := d.aside fun d =>
  let d : Dev := { d with entry := { d.entry with closes := setAt d.entry.closes slot none } }
  let d : Dev := ((d.setB (Reg.ENTRY_SLOT.SLOT_STAT.TIMED_OUT slot) true).inc (Reg.ENTRY_SLOT.SLOT_STAT.TIMEOUTS slot)).showTimeouts
  d.raiseSub 34 slot [0x60400 + 0x10 * slot, 0x60404 + 0x10 * slot, 0x60408 + 0x10 * slot]

/-- The window of a slot is over (R151). -/
def Dev.windowOver (d : Dev) (slot : Nat) : Bool :=
  match d.entry.closes.getD slot none with
  | some c => c ≤ d.sched.st
  | none => false

/-! ## Streams and operation ids (R25, R74, R127) -/

/-- An alive-counter fault (R127, R128): 0 repeat, 1 skip accepted, 2 rejected jump. -/
def Dev.aliveFault (d : Dev) (source kind type : Nat) : Dev :=
  let d : Dev := ((d.set Reg.CHK_ALIVE_LAST.SOURCE source).set Reg.CHK_ALIVE_LAST.KIND kind).set Reg.CHK_ALIVE_LAST.TYPE type
  ((d.inc Reg.CHK_ALIVE_CNT.COUNT).setB Reg.CHK_STATUS.ALIVE_STICKY true).raise 6 [0x50024]

/-- Judge a packet's alive counter in its consumer's stream (R127): whether it is accepted, and the device after. -/
def Dev.judgeAlive (d : Dev) (p : Packet) : Bool × Dev :=
  let key := (p.tag.source.toNat, p.tag.kind.toNat)
  let keep (d : Dev) : Dev := { d with sched := { d.sched with
    aliveIn := (key, p.tag.alive.toNat) :: d.sched.aliveIn.filter (fun e => e.1 != key) } }
  match d.sched.aliveIn.find? (fun e => e.1 == key) with
  | none => (true, keep d)
  | some e =>
    let step := (p.tag.alive - BitVec.ofNat 16 e.2).toNat
    if step = 1 then (true, keep d)
    else if step = 0 then
      if p.flag 0 then (true, d) else (false, d.aliveFault key.1 key.2 0)
    else (true, (keep d).aliveFault key.1 key.2 1)

/-- A sealed datum goes to its consumers: the counter of its stream is judged (R127); a repeat is discarded. -/
def Dev.deliver (d : Dev) (p : Packet) (f : Dev → Dev) : Dev :=
  let (ok, d) := d.judgeAlive p
  if ok then f d else d

/-- Show the ids in flight, and judge the pool (R25, R74). -/
def Dev.showPool (d : Dev) : Dev :=
  let n := d.sched.inflight.length
  let d : Dev := d.set Reg.SCHED_INFLIGHT.COUNT n
  let d : Dev := if d.get Reg.SCHED_INFLIGHT.HWM < n then d.set Reg.SCHED_INFLIGHT.HWM n else d
  let low := d.get Reg.SCHED_POOL.SIZE < n + d.param P.SCHED.POOL_LOW && d.get Reg.SCHED_POOL.SIZE != 0
  if low && !d.flag Reg.SCHED_STATUS.POOL_LOW then
    (d.setB Reg.SCHED_STATUS.POOL_LOW true).raise 3 [0x30008, 0x30010]
  else d.setB Reg.SCHED_STATUS.POOL_LOW low

/-- An operation id is in flight (R25). -/
def Dev.inFlight (d : Dev) (op : Nat) : Bool := d.sched.inflight.any (fun e => e.1 == op)

/-- An operation id goes into flight, to retire by a schedule time (R25, R73). -/
def Dev.opStart (d : Dev) (op retireBy : Nat) : Dev :=
  if d.inFlight op then d
  else ({ d with sched := { d.sched with inflight := (op, retireBy) :: d.sched.inflight } }).showPool

/-- Operation ids retire (R25). -/
def Dev.opRetire (d : Dev) (ops : List Nat) : Dev :=
  if ops.all (fun o => !d.inFlight o) then d
  else ({ d with sched := { d.sched with
      inflight := d.sched.inflight.filter (fun e => !ops.contains e.1) } }).showPool

/-! ## What data carry, and trace nodes (R217, R218, R334, R335) -/

/-- Values of a payload in the slot's formats, as numbers; angles in degrees. -/
def decodeValues : List DestFormat → List Word → List F64
  | [], _ => []
  | .q32 _ n :: fs, w :: ws => F64.ofQ n w.toInt :: decodeValues fs ws
  | .q64 _ n :: fs, lo :: hi :: ws => F64.ofQ n ((hi ++ lo : BitVec 64).toInt) :: decodeValues fs ws
  | .bam32 :: fs, w :: ws => bamToDeg w :: decodeValues fs ws
  | .fp32 :: fs, w :: ws => (F32.mk w).to64 :: decodeValues fs ws
  | _ :: _, _ => []

/-- A binary64 value from two payload words, low first. -/
def f64At (p : List Word) (i : Nat) : F64 := ⟨(p.getD (i + 1) 0) ++ (p.getD i 0)⟩

/-- A binary32 value of a payload, in binary64. -/
def f32At (p : List Word) (i : Nat) : F64 := (F32.mk (p.getD i 0)).to64

/-- The values a datum carries, in the order that its transform type names them (R218). -/
def Dev.valuesOf (d : Dev) (slot : Nat) (p : Packet) : List F64 :=
  if p.tag.kind = 0x07 then [f64At p.payload 0, f64At p.payload 2, f32At p.payload 4]
  else decodeValues (d.image.fus.formats.getD slot []) p.payload

/-- Sample one trace unit (R334): a sample at every DEC-th update, and E62 when the last one is captured. -/
def Dev.traceSample (d : Dev) (u : Nat) (v : F32) : Dev :=
  let x := d.loop.trace.getD u default
  let seen := x.seen + 1
  if seen < d.get (Reg.LOOP_TR.DEC.DEC u) then
    { d with loop := { d.loop with trace := setAt d.loop.trace u { x with seen := seen } } }
  else
    let stamps := (d.ts32 :: x.stamps).take 65536
    let d : Dev := d.bar2Write (0x03C00000 + 0x40000 * u + 4 * x.pos) (leBytes 4 v.bits.toNat)
    let d : Dev := { d with loop := { d.loop with trace := setAt d.loop.trace u { x with
      seen := 0, pos := (x.pos + 1) % 65536, count := min 65536 (x.count + 1), stamps := stamps, left := x.left - 1 } } }
    let d : Dev := d.set (Reg.LOOP_TR.FIRST_TS.FIRST_TS u) (stamps.getLastD 0).toNat
    if d.get (Reg.LOOP_TR.STAT.STATE u) = 2 && x.left ≤ 1 then
      ((d.set (Reg.LOOP_TR.STAT.STATE u) 3).setB Reg.LOOP_STATUS.FULL_STICKY true).raiseSub 62 u
        [0xD0000, 0xD3014 + 0x40 * u]
    else d

/-- Whether a value crosses a trigger level (R335): kind 1 rising, 2 falling, 3 either. -/
def crosses (kind : Nat) (level prev cur : F32) : Bool :=
  ((kind = 1 || kind = 3) && prev.lt level && level.le cur) || ((kind = 2 || kind = 3) && level.le prev && cur.lt level)

/-- A node is updated (R334, R335): the armed units that trace it or are triggered by it. -/
def Dev.traceNode (d : Dev) (code : Nat) (v : F64) : Dev :=
  let f := v.to32
  (List.range 8).foldl (fun d u =>
    let st := d.get (Reg.LOOP_TR.STAT.STATE u)
    if st != 1 && st != 2 then d
    else
      let d : Dev := if d.get (Reg.LOOP_TR.SEL.NODE u) = code then d.traceSample u f else d
      if st = 1 && d.get (Reg.LOOP_TR.SEL.TRIG_NODE u) = code then
        let x := d.loop.trace.getD u default
        let d : Dev := { d with loop := { d.loop with trace := setAt d.loop.trace u { x with prev := some f } } }
        match x.prev with
        | some p => if crosses (d.get (Reg.LOOP_TR.TRIG.KIND u)) (d.getF (Reg.LOOP_TR.LEVEL.LEVEL u)) p f then
            Dev.flushTrace 24 (d.traceTrigger u) else d
        | none => d
      else d) d

/-- Thruster demands come from the host's levers in M2 and, under test, in M7 (R33, R376). -/
def Dev.leversRule (d : Dev) : Bool := d.mode = 2 || d.mode = 7

/-- The trace nodes that the image names are updated (R334): each to the value, if any, that its binding has now. -/
def Dev.traceBound (d : Dev) (f : Bind → Option F64) : Dev :=
  ((List.range d.image.loop.nodes.length).zip d.image.loop.nodes).foldl (fun d (n, b) => match f b with
    | some x => d.traceNode (0x3000 + n) x
    | none => d) d

/-- The trace nodes that the image names in a sensor slot are updated when a datum of it is sealed (R334). -/
def Dev.traceSlot (d : Dev) (slot : Nat) (p : Packet) : Dev :=
  d.traceBound fun b => match b with
    | .slot s k => if s = slot then some ((d.valuesOf slot p).getD k F64.zero) else none
    | _ => none

/-! ## Data in sensor slots (R138, R151) -/

/-- The operation id that a new datum of a slot takes (R25): the first of the slot's that is not in flight, with the time after its seal by
which it has to retire; `some none` where the image gives the slot no id, `none` where none is free (log 164). -/
def Dev.entryId (d : Dev) (slot : Nat) : Option (Option (Nat × Nat)) :=
  match d.image.entry.ops[slot]? with
  | none | some ([], _) => some none
  | some (ids, by_) =>
    if d.get Reg.SCHED_POOL.SIZE != 0 && d.get Reg.SCHED_POOL.SIZE ≤ d.sched.inflight.length then none
    else (ids.find? fun i => !d.inFlight i).map fun i => some (i, by_)

/-- Seal a datum into a sensor slot (R138, R139, R151): entry stages seal with their own lineage word; the slot's window
opens anew and TIMED_OUT clears. -/
def Dev.sealSlot (d : Dev) (slot source kind : Nat) (flags : BitVec 8) (lineage : Word) (tov : Int)
    (payload : List Word) : Dev :=
  let d : Dev := if d.windowOver slot then
      let d : Dev := d.closeWindow slot
      { d with entry := { d.entry with timed := slot :: d.entry.timed } }
    else d
  match d.entryId slot with
  | none => d
  | some op =>
  let (p, d) := d.seal source kind ((op.map fun o => o.1).getD 0) flags lineage tov payload
  let d : Dev := match op with
    | some o => d.opStart o.1 (d.sched.st + o.2)
    | none => d
  d.deliver p fun d =>
    let d : Dev := (d.set (Reg.ENTRY_SLOT.SLOT_SEAL.TS slot) d.ts32.toNat).set (Reg.ENTRY_SLOT.SLOT_TOV.TS slot) p.tag.tov.toNat
    let close := d.sched.st + nsOfMs (d.paramF (P.ENTRY.SLOT_TIMEOUT slot))
    let d : Dev := { d with entry := { d.entry with
      closes := setAt d.entry.closes slot (some close)
      slots := setAt d.entry.slots slot (some p)
      fresh := d.entry.fresh ++ [(slot, p)] } }
    let d : Dev := if 44 ≤ slot && slot < 52 then
        { d with alloc := { d.alloc with jointData := modAt d.alloc.jointData (slot - 44) (fun l => (p :: l).take 2) } }
      else d
    ((d.setB (Reg.ENTRY_SLOT.SLOT_STAT.TIMED_OUT slot) false).showTimeouts).traceSlot slot p

/-! ## Tasks, operation ids and the outputs that consumers take (R25, R68 to R74) -/

/-- The number and row of the task that has a role (R64). -/
def Dev.taskOf (d : Dev) (r : TaskRole) : Option (Nat × TaskRow) :=
  ((List.range d.image.tasks.length).zip d.image.tasks).find? (fun e => e.2.role == r)

/-- A role's output: kind and index (R17, R121). -/
def TaskRole.makes (r : TaskRole) (kind index : Nat) : Bool := match r with
  | .fusion => kind = 0x10 || kind = 0x11
  | .pid => kind = 0x20 || kind = 0x12
  | .select => kind = 0x21 && index = 0
  | .fallback => kind = 0x21 && index = 1
  | .margins => kind = 0x22 || kind = 0x24 || (kind = 0x23 && index = 0)
  | .biquads => kind = 0x30
  | .analogue => kind = 0x34
  | .commandBuild => kind = 0x31 && index < 16
  | .jointBuild => kind = 0x31 && 16 ≤ index
  | .arrestAllocation => kind = 0x23 && index = 1
  | .arrestBuild => kind = 0x32
  | .heartbeat => kind = 0x40
  | .mirror => kind = 0x41
  | .qp | .plan | .excursion | .scan | .customer => false

/-- The channel of a role's task that makes an output; 0 for a task that runs whole. -/
def TaskRole.chanOf (r : TaskRole) (index : Nat) : Nat := match r with
  | .biquads | .pid => index
  | _ => 0

/-- A task's output: as its operation ids name it, or as its role has it where they name none (R64). -/
def TaskRow.makes (r : TaskRow) (kind index : Nat) : Bool :=
  if r.ops.isEmpty then r.role.makes kind index else r.ops.any (fun o => o.kind == kind && o.index == index)

/-- A task runs a channel: one that its operation ids name, or any where they name none. -/
def TaskRow.serves (r : TaskRow) (chan : Nat) : Bool := r.ops.isEmpty || r.ops.any (fun o => o.chan == chan)

/-- The task of a role that makes an output (R64). -/
def Dev.makerOf (d : Dev) (r : TaskRole) (kind index : Nat) : Option (Nat × TaskRow) :=
  d.image.numbered.find? (fun e => e.2.role == r && e.2.makes kind index)

/-- The operation id of a task's output, and the time by which it has to retire in the period that runs (R25, R73). -/
def Dev.opRow (d : Dev) (r : TaskRole) (kind index : Nat) : Option (Nat × Nat) :=
  match d.makerOf r kind index with
  | some (_, row) => (row.ops.find? (fun o => o.kind == kind && o.index == index)).map fun o =>
      (o.id, periodStart d.sched.st row.period + o.retireBy)
  | none => none

/-- The operation id of a task's output; 0 where the image names none. -/
def Dev.opOf (d : Dev) (r : TaskRole) (kind index : Nat) : Nat := ((d.opRow r kind index).map (fun o => o.1)).getD 0

/-- The latest output of a kind and index. -/
def Dev.output (d : Dev) (kind i : Nat) : Option Packet :=
  (d.sched.held.find? (fun e => e.1 == (kind, i))).map (fun e => e.2)

/-- Hold an output for its consumers; the one before it is kept for a Hold (R70). -/
def Dev.holdOutput (d : Dev) (kind i : Nat) (p : Packet) : Dev :=
  let prior := match d.output kind i with
    | some q => ((kind, i), q) :: d.sched.prior.filter (fun e => e.1 != (kind, i))
    | none => d.sched.prior
  { d with sched := { d.sched with
      prior := prior
      held := ((kind, i), p) :: d.sched.held.filter (fun e => e.1 != (kind, i)) } }

/-- Hand an output to its consumers. -/
def Dev.putOutput (d : Dev) (kind i : Nat) (p : Packet) : Dev := d.deliver p fun d => d.holdOutput kind i p

/-- An output has left the device, or an exit stage has withheld it: its operation id retires (R25, R72). -/
def Dev.left (d : Dev) (r : TaskRole) (kind index : Nat) : Dev :=
  match d.opRow r kind index with
  | some o => d.opRetire [o.1]
  | none => d

/-- Apply a substitute to outputs (R70): Hold sets STALE, Drop removes them, Release leaves them to the solver. -/
def Dev.substituteFor (d : Dev) (subst : Nat) (p : Nat → Nat → Bool) : Dev :=
  let held :=
    if subst = 0 then
      d.sched.held.map fun e =>
        if p e.1.1 e.1.2 then (e.1, { e.2 with tag := { e.2.tag with flags := e.2.tag.flags ||| 1 } }) else e
    else if subst = 2 then d.sched.held.filter (fun e => !p e.1.1 e.1.2)
    else d.sched.held
  { d with sched := { d.sched with held := held } }

/-- Apply a task's substitute to the outputs of the channels that it owes (R70). An excursion monitor's output is its judgement:
Drop leaves no detection. -/
def Dev.substitute (d : Dev) (row : TaskRow) (owed : List Nat) : Dev :=
  let mine (kind index : Nat) : Bool :=
    if row.ops.isEmpty then row.role.makes kind index && owed.contains (row.role.chanOf index)
    else row.ops.any (fun o => o.kind == kind && o.index == index && owed.contains o.chan)
  let d : Dev := d.substituteFor row.subst mine
  if row.role == .excursion && row.subst = 2 then { d with alloc := { d.alloc with detected := none } } else d

/-! ### Tasks in their slots (R59, R63, R68, R74, R85) -/

/-- A task in its slot: number, row, and what it takes its inputs from. -/
structure InSlot where
  task : Nat
  row : TaskRow
  shot : Shot
deriving DecidableEq, Repr, Inhabited

/-- The fence of a task in its slot. -/
def InSlot.fence (e : InSlot) : Nat := e.shot.rel + e.row.slot

/-- Task `n` while schedule time is in its slot, which is half-open (R59). -/
def Dev.slotAt (d : Dev) (n : Nat) : Option InSlot :=
  match d.image.tasks[n]?, lookup d.shots n with
  | some row, some s => if s.rel ≤ d.sched.st && d.sched.st < s.rel + row.slot then some ⟨n, row, s⟩ else none
  | _, _ => none

/-- The task of a role that can run a channel now: in its slot, the channel not yet run in it (R59), and of a kind of slot that the channel
runs in. -/
def Dev.slotWith (d : Dev) (r : TaskRole) (chan : Nat) (p : InSlot → Bool) : Option InSlot :=
  (List.range d.image.tasks.length).findSome? fun n => match d.slotAt n with
    | some e => if e.row.role == r && e.row.serves chan && !e.shot.done.contains chan && p e then some e else none
    | none => none

/-- The task of a role that can run a channel now. -/
def Dev.slotOf (d : Dev) (r : TaskRole) (chan : Nat) : Option InSlot := d.slotWith r chan fun _ => true

/-- A forced fence hit is armed for a task (R80). -/
def Dev.armed (d : Dev) (n : Nat) : Bool :=
  d.mode = 7 && d.flag Reg.SCHED_XINJ.GO && d.get Reg.SCHED_XINJ.TASK = n

/-- Change what is kept of a task in its slot. -/
def Dev.setShot (d : Dev) (x : InSlot) (f : Shot → Shot) : Dev :=
  { d with shots := d.shots.map fun e => if e.1 = x.task && e.2.rel = x.shot.rel then (e.1, f e.2) else e }

/-- An operation id of a channel is still in flight, or none is free (R25, R74). -/
def Dev.mustWait (d : Dev) (row : TaskRow) (chan : Nat) : Bool :=
  let ids := (row.ops.filter (fun o => o.chan == chan)).map (fun o => o.id)
  ids.any d.inFlight
    || (!ids.isEmpty && d.get Reg.SCHED_POOL.SIZE != 0 && d.get Reg.SCHED_POOL.SIZE < d.sched.inflight.length + ids.length)

/-- Keep the longest execution of a task, `used` ns of its slot (R85). -/
def Dev.observe (d : Dev) (n : Nat) (row : TaskRow) (used : Nat) : Dev :=
  let frac := if row.slot = 0 then 0 else min 65535 (used * 65536 / row.slot)
  if d.get (Reg.SCHED_TASK.TASK_OBS.MAX_USE n) < frac then d.set (Reg.SCHED_TASK.TASK_OBS.MAX_USE n) frac else d

/-- What a task in its slot does, on the inputs of its release (R63): `f` takes the device as the task sees it, and the device; the
parameters are those of the release in both. -/
def Dev.within (d : Dev) (e : InSlot) (f : Dev → Dev → Dev) : Dev :=
  let r : Dev := f (d.view e.shot) { d with params := e.shot.params, sched := { d.sched with task := some e.task } }
  { r with params := d.params, sched := { r.sched with task := none } }

/-- Nothing keeps a task in its slot from running a channel: no forced fence hit (R80), and no operation id to wait for (R74). -/
def Dev.freeToRun (d : Dev) (e : InSlot) (chan : Nat) : Bool := !(d.armed e.task && !e.row.anytime) && !d.mustWait e.row chan

/-- A task in its slot runs a channel on the inputs of its release (R63), and its longest execution is kept (R85). -/
def Dev.perform (d : Dev) (e : InSlot) (chan : Nat) (f : Dev → Dev → Dev) : Dev :=
  let d : Dev := d.setShot e (fun s => { s with done := chan :: s.done, waited := false })
  (d.within e f).observe e.task e.row (d.sched.st - e.shot.rel)

/-- Run a channel of a task in its slot: a task that must wait for an operation id does not run (R74), nor one whose fence hit is forced
(R80). -/
def Dev.runIn (d : Dev) (e : InSlot) (chan : Nat) (f : Dev → Dev → Dev) : Dev :=
  if d.freeToRun e chan then d.perform e chan f
  else if d.armed e.task && !e.row.anytime then d
  else d.setShot e (fun s => { s with waited := true })

/-- Run task `n` where it is in its slot, the channel not yet run in it. -/
def Dev.runTask (d : Dev) (n chan : Nat) (f : Dev → Dev → Dev) : Dev :=
  match d.slotAt n with
  | some e => if e.shot.done.contains chan then d else d.runIn e chan f
  | none => d

/-- Run a channel of a role's task, where it is in its slot: `f` takes the device as the task sees it, and the device. -/
def Dev.runOf (d : Dev) (r : TaskRole) (chan : Nat) (f : Dev → Dev → Dev) : Dev :=
  match d.slotOf r chan with
  | some e => d.runIn e chan f
  | none => d

/-- The actions of a fence hit (R71), but for the substitute: registers, count for the canary, E2 and its record. -/
def Dev.fenceHit (d : Dev) (task kind resource : Nat) (ts : Word) : Dev :=
  let d : Dev := (((d.set Reg.SCHED_FENCE_LAST.TASK task).set Reg.SCHED_FENCE_LAST.KIND kind).set
    Reg.SCHED_FENCE_LAST.RESOURCE resource).set Reg.SCHED_FENCE_TS.TS ts.toNat
  let d : Dev := ((d.inc Reg.SCHED_FENCE_CNT.COUNT).inc (Reg.SCHED_TASK.TASK_OBS.FENCE_HITS task)).setB
    Reg.SCHED_STATUS.FENCE_STICKY true
  let hits := d.sched.hyperHits + 1
  let d : Dev := { d with sched := { d.sched with
    hyperHits := hits, hitsFault := d.sched.hitsFault || d.param P.SCHED.FENCE_PERSIST ≤ hits } }
  d.raise 2 [0x30014, 0x30018]

/-- A condition of R65 fails (R67): 0 clocks, 1 memory, 2 expert override, 3 entry rate, 4 environment. -/
def Dev.uncover (d : Dev) (i : Nat) : Dev :=
  if d.bitAt Reg.SCHED_STATUS.UNCOVER i then d
  else ((d.setBitAt Reg.SCHED_STATUS.UNCOVER i true).setB Reg.SCHED_STATUS.COVERED false).note 0x01 0x03 i
    [d.word 0x30000]

/-- A condition of R65 holds again (R67); COVERED itself waits for a hyperframe boundary. -/
def Dev.recoverCondition (d : Dev) (i : Nat) : Dev := d.setBitAt Reg.SCHED_STATUS.UNCOVER i false

/-- A check-chain break (R125): E4, capture while none is held, the producer's log entry, and the count for the canary. DESIGN CHOICE (log
174): where the producer has no log entry for the operation, CHK_BREAK_PLOG and CHK_BREAK_PLIN keep their values. -/
def Dev.chainBreak (d : Dev) (stage resource task : Nat) (p : Packet) (exp got : Word) : Dev :=
  let op := p.tag.opId.toNat
  let log := d.chk.logs.find? (fun e => e.resource == p.tag.source.toNat && e.opId == op)
  let d : Dev :=
    if d.flag Reg.CHK_STATUS.BREAK_STICKY then d
    else
      let d : Dev := (((d.set Reg.CHK_BREAK_OP.OPID op).set Reg.CHK_BREAK_OP.SOURCE p.tag.source.toNat).set
        Reg.CHK_BREAK_OP.KIND p.tag.kind.toNat).set Reg.CHK_BREAK_OP.STAGE stage
      let d : Dev := (d.set Reg.CHK_BREAK_LOC.RESOURCE resource).set Reg.CHK_BREAK_LOC.TASK task
      let d : Dev := ((d.set Reg.CHK_BREAK_TS.TS d.ts32.toNat).set Reg.CHK_BREAK_EXP.CHECK exp.toNat).set
        Reg.CHK_BREAK_CALC.CHECK got.toNat
      match log with
      | some e => ((d.set Reg.CHK_BREAK_PLOG.CHECK e.check.toNat).set Reg.CHK_BREAK_PLIN.LINEAGE e.lineage.toNat).setB
          Reg.CHK_STATUS.BREAK_STICKY true
      | none => d.setB Reg.CHK_STATUS.BREAK_STICKY true
  let d : Dev := d.inc Reg.CHK_BREAK_CNT.COUNT
  let n := d.sched.hyperBreaks + 1
  let d : Dev := { d with sched := { d.sched with
    hyperBreaks := n, breaksFault := d.sched.breaksFault || d.param P.CHK.BREAK_PERSIST ≤ n } }
  d.raiseWith 4 0 ([BitVec.ofNat 32 (op + 256 * p.tag.source.toNat + 65536 * p.tag.kind.toNat + 16777216 * stage),
    BitVec.ofNat 32 (resource + 256 * task), d.ts32, exp, got] ++ (match log with
      | some e => [e.check, e.lineage]
      | none => [d.word 0x50018, d.word 0x5001C])) (some p.tovNs)

/-- The task whose work is in progress where it has this role, or the first that has it: number and row. -/
def Dev.taskAt (d : Dev) (r : TaskRole) : Option (Nat × TaskRow) :=
  match d.sched.task.bind fun n => d.image.tasks[n]?.map fun row => (n, row) with
  | some e => if e.2.role == r then some e else d.taskOf r
  | none => d.taskOf r

/-- The task number a break reports for a stage (R133): the task of the role that runs, or 0x3FF. -/
def Dev.taskNumber (d : Dev) (r : TaskRole) : Nat :=
  match d.taskAt r with
  | some e => e.1
  | none => 0x3FF

/-- The resource of a role's task (R120); the given code where the image places none. -/
def Dev.resourceOf (d : Dev) (r : TaskRole) (dflt : Nat) : Nat :=
  match d.taskAt r with
  | some e => e.2.resource
  | none => dflt

/-- A packet that a stage takes and its output is not derived from: it counts in the lineage, as in chapter 5's trace of a break, and none
of its flags passes on (R122, R124). DEDUCED (log 125). -/
def Packet.beside (p : Packet) : Packet := { p with tag := { p.tag with flags := 0 } }

/-- The fault as it concerns output number `k` of a stage (R125). -/
def ChainFault.of (fault : ChainFault) (k : Nat) : ChainFault := match fault with
  | .datapath j d0 d1 => if j = k then .datapath j d0 d1 else .none
  | f => f

/-- The datapaths of an output disagree. -/
def ChainFault.splits : ChainFault → Bool
  | .datapath _ _ _ => true
  | _ => false

/-- A packet with STALE set (R70, R122). -/
def Packet.stale (p : Packet) : Packet := { p with tag := { p.tag with flags := p.tag.flags ||| 1 } }

/-- The substitute of the task that produces an output (R70); Hold where the image places none. -/
def Dev.substOf (d : Dev) (kind index : Nat) : Nat :=
  match d.image.tasks.find? (fun r => r.makes kind index) with
  | some r => r.subst
  | none => 0

/-- What verifying an input says: it holds, it is broken, or it is a repeat. -/
inductive InputCheck where
  | good | broken | again
deriving DecidableEq, Repr

/-- The check that a stage recomputes over its input number `i` (R123). -/
def ChainFault.got (fault : ChainFault) (i : Nat) (p : Packet) : Word := match fault with
  | .input j w => if j = i then w else p.calc
  | _ => p.calc

/-- A transforming stage verifies its input number `i` before use (R123, R125): a broken one is reported; a repeat is discarded unless it is
held data, and a skip is accepted, both with E6 (R127). -/
def Dev.verify (d : Dev) (role : TaskRole) (res : Nat) (fault : ChainFault) (i : Nat) (p : Packet) : InputCheck × Dev :=
  let got := fault.got i p
  if got != p.tag.check then
    (.broken, d.chainBreak 0 (d.resourceOf role res) (d.taskNumber role) p p.tag.check got)
  else if fault = .replayed i && !p.flag 0 then (.again, d.aliveFault p.tag.source.toNat p.tag.kind.toNat 0)
  else if fault = .skipped i then (.good, d.aliveFault p.tag.source.toNat p.tag.kind.toNat 1)
  else (.good, d)

/-- A stage takes an output `kind`, `index` as its input number `i` (R123, R125, R126): a broken one is treated as if its producer had
reached its fence without output, which under Hold leaves the one before it, `prior`. -/
def Dev.takeOf (d : Dev) (role : TaskRole) (res : Nat) (fault : ChainFault) (i kind index : Nat) (p : Packet) (prior : Option Packet) :
    Option Packet × Dev :=
  match d.verify role res fault i p with
  | (.good, d) => (some p, d)
  | (.again, d) => (none, d)
  | (.broken, d) => (if d.substOf kind index = 0 then prior.map Packet.stale else none, d)

/-- A stage takes the output `kind`, `index` as `v` shows it. -/
def Dev.takeInput (d v : Dev) (role : TaskRole) (res : Nat) (fault : ChainFault) (i kind index : Nat) : Option Packet × Dev :=
  match v.output kind index with
  | none => (none, d)
  | some p => d.takeOf role res fault i kind index p ((v.sched.prior.find? (fun e => e.1 == (kind, index))).map fun e => e.2)

/-- A stage takes a sealed datum as its input number `i`; a broken or repeated one is absent (R126). -/
def Dev.takeSealed (d : Dev) (role : TaskRole) (res : Nat) (fault : ChainFault) (i : Nat) (p : Packet) : Option Packet × Dev :=
  match d.verify role res fault i p with
  | (.good, d) => (some p, d)
  | (_, d) => (none, d)

/-- A stage takes the datum of a sensor slot as its input number `i`; a broken or repeated one is absent (R126). -/
def Dev.takeSlot (d v : Dev) (role : TaskRole) (res : Nat) (fault : ChainFault) (i slot : Nat) : Option Packet × Dev :=
  match v.entry.slots.getD slot none with
  | none => (none, d)
  | some p => d.takeSealed role res fault i p

/-- A stage takes the data of several sensor slots, each with its input number: what it sees, without those that fail. -/
def Dev.takeSlots (d v : Dev) (role : TaskRole) (res : Nat) (fault : ChainFault) : List (Nat × Nat) → Dev × Dev
  | [] => (v, d)
  | (i, slot) :: l =>
    let (p, d) := d.takeSlot v role res fault i slot
    d.takeSlots { v with entry := { v.entry with slots := setAt v.entry.slots slot p } } role res fault l

/-- A stage's own substitute applies to one of its outputs (R70, R126). -/
def Dev.ownSubstitute (d : Dev) (role : TaskRole) (kind index : Nat) : Dev :=
  match d.makerOf role kind index with
  | some e => d.substituteFor e.2.subst (fun k i => k == kind && i == index)
  | none => d

/-- The trace nodes that the image names in an output are updated when it is sealed (R334). -/
def Dev.traceOutput (d : Dev) (kind index : Nat) (p : Packet) : Dev :=
  let number (w : Nat) (bam : Bool) : F64 := let x := p.payload.getD w 0; if bam then bamToDeg x else (F32.mk x).to64
  let allocated := kind = 0x21 && index = 0 && !d.leversRule
  d.traceBound fun b => match b with
    | .word k i w bam => if k = kind && i = index then some (number w bam) else none
    | .biquad c => if kind = 0x30 && index = c then some (number 0 (d.flag (Reg.LOOP_BQ.BQ_CFG.ANGLE c))) else none
    | .demand t => if allocated then some (number (3 * t + 2) false) else none
    | .azimuth t => if allocated then some (number (3 * t + 1) true) else none
    | .slot _ _ => none

/-- A transforming stage seals an output of kind `kind`, `index` and hands it on, or reports that its datapaths disagree, in which
case nothing is sealed and its own substitute applies (R124 to R126): the sealed output, and the device. -/
def Dev.emitOut (d : Dev) (role : TaskRole) (res kind index : Nat) (own : BitVec 8) (tov : Int) (ins : List Packet)
    (payload : List Word) (fault : ChainFault) : Option Packet × Dev :=
  let r := d.resourceOf role res
  let op := d.opRow role kind index
  let id := (op.map (fun o => o.1)).getD 0
  match fault with
  | .datapath _ d0 d1 =>
    let (q, _) := d.seal r kind id 0 0 tov payload
    (none, (d.chainBreak 1 r (d.taskNumber role) q d0 d1).ownSubstitute role kind index)
  | _ =>
    let d : Dev := match op with
      | some o => d.opStart o.1 o.2
      | none => d
    let (q, d) := d.transform r kind id own tov ins payload
    (some q, (d.putOutput kind index q).traceOutput kind index q)

/-- The same where the stage goes on alike. -/
def Dev.emit (d : Dev) (role : TaskRole) (res kind index : Nat) (own : BitVec 8) (tov : Int) (ins : List Packet)
    (payload : List Word) (fault : ChainFault) : Dev := (d.emitOut role res kind index own tov ins payload fault).2

/-- The exit stage verifies a sealed output before it hands it over (R123, R125): whether the check holds. -/
def Dev.exitCheck (d : Dev) (res task : Nat) (p : Packet) (fault : ChainFault) : Bool × Dev :=
  let got := match fault with
    | .exit w => w
    | _ => p.calc
  if got = p.tag.check then (true, d) else (false, d.chainBreak 2 res task p p.tag.check got)

/-- An exit stage seals an output, verifies it, and its operation id retires (R72, R123): the output where it may be handed over, and the
device. -/
def Dev.emitExit (d : Dev) (role : TaskRole) (res kind index : Nat) (own : BitVec 8) (tov : Int) (ins : List Packet)
    (payload : List Word) (fault : ChainFault) : Option Packet × Dev :=
  match d.emitOut role res kind index own tov ins payload fault with
  | (none, d) => (none, d)
  | (some p, d) =>
    let (ok, d) := d.exitCheck (d.resourceOf role res) (d.taskNumber role) p fault
    (if ok then some p else none, d.left role kind index)

/-- A binary64 value as two words, low first. -/
def quadWords (q : Quad) : List Word := [q.extractLsb' 0 32, q.extractLsb' 32 32]

/-- Pack bytes into words, little-endian, the last word filled with zeros. -/
def packWords (bs : List Byte) : List Word :=
  (pieces 4 (bs.length / 4 + 1) bs).map (fun p => BitVec.ofNat 32 (ofLeBytes p))

/-! ## The unit and its tally (R378, R395, R397) -/

/-- This unit: 0 A, 1 B, 2 C, 3 invalid (R378). -/
def Dev.unit (d : Dev) : Nat := d.get Reg.RED_STATUS.UNIT

/-- The unit of a strap pattern (R378). -/
def unitOfStrap (p : Nat) : Nat := if p = 1 then 0 else if p = 2 then 1 else if p = 4 then 2 else 3

/-- A unit's tally base (R379, R395). -/
def tallyBase (u : Nat) : Nat := if u = 0 then 0xE0 else if u = 1 then 0xA0 else 0x60

/-- The unit in whose range a tally lies (R360). -/
def unitOfTally (t : Nat) : Option Nat :=
  if 0xE0 ≤ t && t < 0x100 then some 0 else if 0xA0 ≤ t && t < 0xC0 then some 1 else if 0x60 ≤ t && t < 0x80 then some 2 else none

/-- The unit is silent (R397). -/
def Dev.silent (d : Dev) : Bool := !d.flag Reg.SYS_MODE.STARTED || d.mode = 0

/-- The unit's tally now (R395); a unit without identity has none (R378). -/
def Dev.tallyNow (d : Dev) : Nat :=
  if d.red.holds && !d.silent && d.unit != 3 then tallyBase d.unit + d.get Reg.RED_STATUS.GRADE else 0

/-- A byte of a byte list. -/
def byteAt (bs : List Byte) (i : Nat) : Nat := (bs.getD i 0).toNat

/-- A 32-bit field of a byte list. -/
def wordAt (bs : List Byte) (i : Nat) : Word := BitVec.ofNat 32 (ofLeBytes ((bs.drop i).take 4))

end Sys2Proof.Machine
end

