-- ==== Sys2Proof/Machine/Time.lean ====
section
/-! DEFINITION. Device time, its sources, holdover and return, PPS, leap seconds, PTP and the launch-time queues
(R192 to R214). -/
namespace Sys2Proof.Machine
open Sys2Proof

/-- Capture words of the TIME events: status, uncertainty, residual (R211). -/
def timeCaps : List Nat := [0x90000, 0x9001C, 0x90028]

/-- A time source's entry. -/
def Dev.source (d : Dev) (i : Nat) : SourceState := d.time.sources.getD i default

/-- Change a time source's entry. -/
def Dev.setSource (d : Dev) (i : Nat) (f : SourceState → SourceState) : Dev :=
  { d with time := { d.time with sources := modAt d.time.sources i f } }

/-- The first qualified source in TIME.SRC_PRIO (R199). -/
def Dev.pickSource (d : Dev) : Option Nat :=
  let p := d.param P.TIME.SRC_PRIO
  [p % 4, p / 4 % 4, p / 16 % 4].find? (fun i => i < 3 && (d.source i).qualified)

/-- Show the PTP domains (R212): 0 absent, 1 tracking, 2 qualified, 3 selected, and their Δ. -/
def Dev.showDomains (d : Dev) : Dev :=
  [1, 2].foldl (fun d i =>
    let q := d.source i
    (d.set (Reg.TIME_DOM.DOM_STAT.STATE (i - 1))
      (if d.get Reg.TIME_STATUS.SRC = i then 3 else if q.qualified then 2 else bit q.here)).setInt
      (Reg.TIME_DOM.DOM_OFFSET.DELTA (i - 1)) (q.delta / 4)) d

/-- DT moves against ST (R196); what is measured against a source moves with it (R200). -/
def Dev.shiftDt (d : Dev) (e : Int) : Dev :=
  { d with time := { d.time with
      offset := d.time.offset + e
      sources := d.time.sources.map fun q => if q.here then { q with delta := q.delta - e } else q } }

/-- Take the leap count and the announced leap of the selected source (R206). -/
def Dev.takeLeap (d : Dev) : Dev :=
  match d.get Reg.TIME_STATUS.SRC with
  | 3 => d
  | i =>
    let q := d.source i
    let d : Dev := match q.leap with
      | some n => (d.setInt Reg.TIME_LEAP.OFFSET n).setB Reg.TIME_LEAP.VALID true
      | none => (d.setInt Reg.TIME_LEAP.OFFSET (d.paramInt P.TIME.LEAP_INIT)).setB Reg.TIME_LEAP.VALID false
    match q.announced with
    | some (k, at_) =>
      let d : Dev := (d.set Reg.TIME_LEAP.PENDING k).set Reg.TIME_LEAP_AT.AT at_
      { d with time := { d.time with leapAt := at_ } }
    | none => d.set Reg.TIME_LEAP.PENDING 0

/-- An error against the selected source (R203, R204): slewed up to 2 µs, stepped at the next whole second beyond it. -/
def Dev.applyError (d : Dev) (e : Int) : Dev :=
  if e.natAbs ≤ 8000 then
    let d : Dev := (d.setInt Reg.TIME_SLEW.RESID (e / 4)).setB Reg.TIME_STATUS.SLEWING (e / 4 != 0)
    { (d.setB Reg.TIME_STATUS.STEP_PEND false) with time := { d.time with step := none } }
  else
    let d : Dev := (d.setInt Reg.TIME_SLEW.RESID 0).setB Reg.TIME_STATUS.SLEWING false
    { (d.setB Reg.TIME_STATUS.STEP_PEND true) with time := { d.time with
        step := some ((d.dtSec + 1).toNat, e), stepBack := d.time.step.isSome && d.time.stepBack } }

/-- Set or clear holdover, with SYS_MODE's state bit 30 (R50, R202). -/
def Dev.setHoldover (d : Dev) (b : Bool) : Dev :=
  (d.setB Reg.TIME_STATUS.HOLDOVER b).setBitAt Reg.SYS_MODE.STATES 10 b

/-- Enter holdover (R202): the steering stays, the slew ends, and `event` says whether E41 is raised. -/
def Dev.enterHoldover (d : Dev) (event : Bool) : Dev :=
  let d : Dev := ((d.setHoldover true).set Reg.TIME_STATUS.SRC 3).setB Reg.TIME_STATUS.SLEWING false
  let d : Dev := { (d.setInt Reg.TIME_SLEW.RESID 0) with time := { d.time with
    u0 := d.get Reg.TIME_UNC.UNC, hoSince := d.sched.st, steerTarget := d.getInt Reg.TIME_STATUS.STEER } }
  if event then d.raise 41 timeCaps else d

/-- Select another source without a step (R200): its Δ becomes the residual to slew, and the change is recorded with Δ. -/
def Dev.changeSource (d : Dev) (i : Nat) : Dev :=
  let old := d.get Reg.TIME_STATUS.SRC
  let e := (d.source i).delta
  let d : Dev := ((d.set Reg.TIME_STATUS.SRC i).setInt Reg.TIME_SLEW.RESID (e / 4)).setB Reg.TIME_STATUS.SLEWING (e / 4 != 0)
  let d : Dev := { (d.setB Reg.TIME_STATUS.STEP_PEND false) with time := { d.time with step := none } }
  let d : Dev := (d.set Reg.TIME_UNC.UNC (d.source i).sigma).showDomains.takeLeap
  if (old = 1 || old = 2) && (i = 1 || i = 2) then
    d.raiseWith 43 i [d.word 0x90000, wordOfInt (e / 4)] none
  else d.note 0x01 0x09 i [d.word 0x90000, wordOfInt (e / 4)]

/-- Select a source where none is selected: the first of all sets DT (R197), recorded with its Δ (R200); in holdover the device returns to
it (R203). -/
def Dev.takeSource (d : Dev) (i : Nat) : Dev :=
  let e := (d.source i).delta
  let d : Dev := (d.set Reg.TIME_STATUS.SRC i).set Reg.TIME_UNC.UNC (d.source i).sigma
  if !d.flag Reg.TIME_STATUS.DT_VALID then
    (((d.shiftDt e).setB Reg.TIME_STATUS.DT_VALID true).showDomains.takeLeap).note 0x01 0x09 i [d.word 0x90000, wordOfInt (e / 4)]
  else
    let d : Dev := (d.setHoldover false).applyError e
    ({ d with time := { d.time with stepBack := d.time.step.isSome } }.showDomains.takeLeap).raise 42 timeCaps

/-- No qualified source remains (R202): holdover; a step not yet applied is cancelled, without a second E41 where it was scheduled on the
return from holdover (R204). -/
def Dev.loseAll (d : Dev) : Dev :=
  let back := d.time.step.isSome && d.time.stepBack
  let d : Dev := { (d.setB Reg.TIME_STATUS.STEP_PEND false) with time := { d.time with step := none } }
  if back then (d.enterHoldover false).showDomains.note 0x01 0x09 0 [d.word 0x90000] else (d.enterHoldover true).showDomains

/-- Select the first qualified source in TIME.SRC_PRIO (R199, R200, R202). -/
def Dev.reselect (d : Dev) : Dev :=
  match d.pickSource, d.get Reg.TIME_STATUS.SRC with
  | some j, 3 => d.takeSource j
  | some j, i => if i = j then d.showDomains else d.changeSource j
  | none, 3 => d.showDomains
  | none, _ => d.loseAll

/-- A source is disqualified (R199, R201): the next qualified one is selected. -/
def Dev.disqualify (d : Dev) (i : Nat) : Dev :=
  (d.setSource i (fun q => { q with steadySince := none, qualified := false })).reselect

/-- A source becomes unavailable (R199): it is disqualified at once. -/
def Dev.loseSource (d : Dev) (i : Nat) : Dev := (d.setSource i (fun q => { q with here := false })).disqualify i

/-- A source qualifies (R199). -/
def Dev.qualifySource (d : Dev) (i : Nat) : Dev := (d.setSource i (fun q => { q with qualified := true })).reselect

/-- Keep what is measured against a source (R199, R200, R212): Δ with its standard deviation, leap count, the start of its steady time, and,
while it is the selected one, the servo's error and steering. A source that needs more than ±20 ppm is disqualified (R193). -/
def Dev.measureSource (d : Dev) (i : Nat) (m : SourceMeasure) : Dev :=
  let steady : Bool := m.sigma < 100
  let d : Dev := d.setSource i (fun q => { q with
    here := true, delta := m.delta, sigma := m.sigma, leap := m.leap, announced := m.announced
    steadySince := if steady then some (q.steadySince.getD d.sched.st) else none })
  let d : Dev := if i = 1 || i = 2 then d.set (Reg.TIME_DOM.DOM_SIGMA.SIGMA (i - 1)) (min (2 ^ 32 - 1) m.sigma) else d
  if 20000 < m.steer.natAbs then d.disqualify i
  else if d.get Reg.TIME_STATUS.SRC = i then
    let d : Dev := { d with time := { d.time with steerTarget := m.steer } }
    ((d.applyError m.delta).takeLeap.set Reg.TIME_UNC.UNC (min (2 ^ 32 - 1) m.sigma)).showDomains
  else d.showDomains

/-- The time a source must have been steady has run (R199). -/
def Dev.steadyLongEnough (d : Dev) (i : Nat) : Bool :=
  match (d.source i).steadySince with
  | some t0 => t0 + d.paramNs P.TIME.QUAL_TIME ≤ d.sched.st
  | none => false

/-- R199: a source qualifies once it has been available for TIME.QUAL_TIME with a steady offset, the internal GNSS while it offers time. -/
def execTimeSourceQualified (t source : Nat) (m : SourceMeasure) (s : State) : Host.Outcome State Fault Refusal :=
  s.run fun d => (d.advance t).whenUp fun d =>
    if 3 ≤ source || (source = 0 && !d.flag Reg.GNSS_STATUS.TIME_OK) then d
    else
      let d : Dev := d.measureSource source m
      if d.steadyLongEnough source && !(d.source source).qualified then d.qualifySource source else d

/-- R199: a source becomes unavailable. -/
def execTimeSourceLost (t source : Nat) (s : State) : Host.Outcome State Fault Refusal :=
  s.run fun d => (d.advance t).whenUp fun d => if source < 3 then d.loseSource source else d

/-- The 24-byte body of a discontinuity of DT (R453), from byte 4 on. -/
def stepWords (before after : Int) : List Word :=
  let sec (q : Int) : Nat := (q / 4000000000).toNat
  let ns (q : Int) : Nat := ((q % 4000000000) / 4).toNat
  packWords (leBytes 6 (sec before) ++ leBytes 4 (ns before) ++ leBytes 6 (sec after) ++ leBytes 4 (ns after))

/-- Move DT by a step (R453): the record of the discontinuity comes before any other that carries the new time. `cause` is
1 host set, 2 step on return, 3 restore. -/
def Dev.moveDt (d : Dev) (e : Int) (event cause : Nat) : Dev :=
  let before := d.dtQ
  let d : Dev := d.shiftDt e
  (d.signal event).record 0x04
    (leBytes 1 event ++ leBytes 1 0x09 ++ leBytes 2 cause ++ (stepWords before d.dtQ).flatMap (fun w => leBytes 4 w.toNat))
    none

/-- R203: the scheduled step is applied at its whole second of the uncorrected DT. -/
def execTimeStepApply (t : Nat) (s : State) : Host.Outcome State Fault Refusal :=
  s.run fun d => (d.advance t).whenUp fun d =>
    match d.time.step with
    | none => d
    | some (sec, e) =>
      if d.dtSec < (sec : Int) then d
      else
        let d : Dev := { ((d.setB Reg.TIME_STATUS.STEP_PEND false).setB Reg.TIME_STATUS.STEP_STICKY true) with
          time := { d.time with step := none, stepped := some (d.time.offset, sec) } }
        d.moveDt e 42 2

/-- PPS_OUT may pulse (R202, R205). -/
def Dev.ppsEnabled (d : Dev) : Bool :=
  d.flag Reg.TIME_STATUS.DT_VALID && (!d.flag Reg.TIME_STATUS.HOLDOVER || d.paramB P.TIME.PPS_HOLDOVER)

/-- Quarter-ns from the present ns to the next whole second of a DT with the given offset, shifted by TIME.PPS_OFFSET (R205), with that
second. -/
def Dev.toEdge (d : Dev) (offset : Int) : Nat × Int :=
  let q := 4 * (d.sched.st : Int) + offset - 4 * d.paramInt P.TIME.PPS_OFFSET
  ((-q % 4000000000).toNat, (q + 3999999999) / 4000000000)

/-- The captured time of an edge that falls in the present ns (R204, R205): at a whole second of DT, or at the one at which a step has just
been applied, by the DT before it. -/
def Dev.ppsAt (d : Dev) : Option Stamp :=
  let now := d.toEdge d.time.offset
  if now.1 < 4 then some ⟨d.sched.st, some now.1⟩
  else match d.time.stepped with
    | some (o, w) =>
      let e := d.toEdge o
      if e.1 < 4 && e.2 = w then some ⟨d.sched.st, some e.1⟩ else none
    | none => none

/-- R204, R205: the edge at a whole second of DT, shifted by TIME.PPS_OFFSET; suppressed under 500 ms after the last. -/
def execPpsEdge (t : Nat) (s : State) : Host.Outcome State Fault Refusal :=
  s.run fun d => (d.advance t).whenUp fun d =>
    match d.ppsAt with
    | none => d
    | some x =>
      let early := match d.time.ppsLast with
        | some l => x.before (l.later 500000000)
        | none => false
      if !d.ppsEnabled || early then d
      else { (d.set Reg.TIME_PPS_TS.TS d.ts32.toNat) with time := { d.time with ppsHigh := true, ppsLast := some x } }

/-- PPS_OUT (R205): high for 100 ms from its edge, low while it may not pulse. -/
def Dev.ppsOut (d : Dev) : Bool :=
  d.time.ppsHigh && d.ppsEnabled && match d.time.ppsLast with
    | some l => (⟨d.sched.st, none⟩ : Stamp).before (l.later 100000000)
    | none => false

/-- A pulse that has fallen stays low until its next edge (R205). -/
def Dev.ppsFall (d : Dev) : Dev := { d with time := { d.time with ppsHigh := d.ppsOut } }

/-- R206: OFFSET changes at the end of the UTC day that carries the leap. -/
def execLeapSecondApply (t : Nat) (s : State) : Host.Outcome State Fault Refusal :=
  s.run fun d => (d.advance t).whenUp fun d =>
    let k := d.get Reg.TIME_LEAP.PENDING
    if k = 0 || d.dtSec < (d.time.leapAt : Int) then d
    else
      let n := d.getInt Reg.TIME_LEAP.OFFSET + (if k = 1 then 1 else -1)
      let d : Dev := (d.setInt Reg.TIME_LEAP.OFFSET n).set Reg.TIME_LEAP.PENDING 0
      match d.get Reg.TIME_STATUS.SRC with
      | 3 => d
      | i => d.setSource i (fun q => { q with leap := q.leap.map (fun _ => n), announced := none })

/-- Report a host write that is not carried out as written (R507): cause, port, space, address, and whether more than one cause applies.
While a register write is being carried out, the cause waits for its one report. -/
def Dev.reportWrite (d : Dev) (cause port space addr : Nat) (multi : Bool) : Dev :=
  match d.host.causes with
  | some l => { d with host := { d.host with causes := some (l ++ [cause]) } }
  | none =>
  let d : Dev := d.inc Reg.HOST_WERR_CNT.COUNT
  if d.flag Reg.HOST_WERR.WERR_VALID then d
  else
    let d : Dev := ((((d.set Reg.HOST_WERR.CAUSE cause).set Reg.HOST_WERR.PORT port).set Reg.HOST_WERR.SPACE space).setB
      Reg.HOST_WERR.MULTI multi).setB Reg.HOST_WERR.WERR_VALID true
    d.set Reg.HOST_WERR_ADDR.ADDR addr

/-- TIME_CTRL.SET (R197, R212): in M7 DT takes the written value at once, as a step; in another mode the write is refused. -/
def Dev.timeSet (d : Dev) (port : Nat) : Dev :=
  if d.mode != 7 then d.reportWrite 8 port 0 0x90030 false
  else
    let want : Int := 4 * ((d.get Reg.TIME_SET_SEC.SEC : Int) * 1000000000 + d.get Reg.TIME_SET_NS.NS)
    let e := want - d.dtQ
    let d : Dev := (d.setB Reg.TIME_STATUS.DT_VALID true).setB Reg.TIME_STATUS.STEP_STICKY true
    d.moveDt e 42 1

/-- R197: host software sets DT in M7. -/
def execTimeSet (t port : Nat) (s : State) : Host.Outcome State Fault Refusal :=
  s.run fun d => (d.advance t).whenUp fun d => d.timeSet port

/-! ## PTP -/

/-- A PTP domain's servo state. -/
def Dev.ptpDomain (d : Dev) (k : Nat) : PtpDomain := d.net.domains.getD k default

/-- Change a PTP domain's servo state. -/
def Dev.setDomain (d : Dev) (k : Nat) (f : PtpDomain → PtpDomain) : Dev :=
  { d with net := { d.net with domains := modAt d.net.domains k f } }

/-- The domain of a domain number (R207): 0 primary, 1 secondary. -/
def Dev.domainIndex (d : Dev) (n : Nat) : Option Nat :=
  if n = d.param P.NET.DOMAIN_P then some 0 else if n = d.param P.NET.DOMAIN_S then some 1 else none

/-- The mean path delay in quarter-ns from the four timestamps, the device's own in DT (R207). -/
def PtpDomain.delay (p : PtpDomain) : Int := ((p.t2 - p.t1) + (p.t4 - p.t3)) / 2

/-- The clock class announced (R208). -/
def Dev.clockClass (d : Dev) : Nat :=
  if d.get Reg.TIME_STATUS.SRC = 0 then 6
  else if d.flag Reg.TIME_STATUS.HOLDOVER then
    if (F64.ofInt (d.get Reg.TIME_UNC.UNC)).le (d.paramF P.TIME.HO_LIMIT) then 7 else 187
  else 248

/-- A new grandmaster in a domain (R201): E44, the change counted, and the domain disqualified. -/
def Dev.newGrandmaster (d : Dev) (k : Nat) : Dev :=
  let d : Dev := (d.inc (Reg.TIME_DOM.DOM_STAT.GM_CHG k)).raise 44 [0x90000, 0x90040 + 0x10 * k]
  d.disqualify (k + 1)

/-- The state field of a port in a domain (R213). -/
def ptpState (k port : Nat) : Field := if k = 0 then Reg.NET_PTP.PTP_STATE.STATE_P port else Reg.NET_PTP.PTP_STATE.STATE_S port

/-- The state of a port of a domain that follows no clock (R207, R208): master with DT valid unless slave-only, else listening. -/
def Dev.aloneState (d : Dev) (port : Nat) : Nat :=
  if d.get (Reg.NET_PTP.PTP_CFG.ROLE port) != 1 && d.flag Reg.TIME_STATUS.DT_VALID then 6 else 4

/-- How long after an Announce its grandmaster counts as present: three Announce intervals of the profile. -/
def Dev.announceTimeout (d : Dev) (port : Nat) : Nat :=
  if d.get (Reg.NET_PTP.PTP_CFG.PROFILE port) = 2 then 3000000000 else 6000000000

/-- A message of the device as it leaves a port (R207, R208), with a timestamp. -/
def Dev.ptpSend (d : Dev) (port dom : Nat) (kind : PtpKind) (stamp : Int) : PtpSent :=
  ⟨port, dom, Config.clockIdentity, d.clockClass, d.param P.NET.PRIORITY1, d.param P.NET.PRIORITY2, kind, d.flag (Reg.NET_PTP.PTP_CFG.UDP port), stamp⟩

/-- The device answers a PTP message on its port (R207) with messages of these kinds and timestamps. -/
def Dev.answerPtp (d : Dev) (m : PtpMessage) (l : List (PtpKind × Int)) : Dev :=
  { d with net := { d.net with ptp := l.map fun e => d.ptpSend m.port m.dom e.1 e.2 } }

/-- Change the peer-delay exchange of a port. -/
def Dev.setLinkDelay (d : Dev) (port : Nat) (f : PeerDelay → PeerDelay) : Dev :=
  { d with net := { d.net with peers := modAt d.net.peers port f } }

/-- The order of the BMCA (PRESUMED, log 178): a smaller number comes first. -/
def numbersBefore : List Nat → List Nat → Bool
  | a :: l, b :: m => if a = b then numbersBefore l m else a < b
  | _, _ => false

/-- What the BMCA compares of a clock heard from a sender (R207). -/
def PtpClock.rank (c : PtpClock) (sender : Nat) : List Nat :=
  [c.priority1, c.clockClass, c.accuracy, c.variance, c.priority2, c.identity, c.steps, sender]

/-- The device's own clock in that order (R208). -/
def Dev.ownRank (d : Dev) : List Nat :=
  [d.param P.NET.PRIORITY1, d.clockClass, Config.clockAccuracy, Config.clockVariance, d.param P.NET.PRIORITY2, Config.clockIdentity, 0, 0]

/-- The best of some clocks (R207). -/
def bestClock : List PtpForeign → Option PtpForeign
  | [] => none
  | f :: l => match bestClock l with
    | some g => some (if numbersBefore (g.clock.rank g.sender) (f.clock.rank f.sender) then g else f)
    | none => some f

/-- Whether a port may follow a clock (R213): a master-only port never does, a slave-only port follows any, another one a clock that comes
before the device's own. -/
def Dev.mayFollow (d : Dev) (f : PtpForeign) : Bool :=
  let role := d.get (Reg.NET_PTP.PTP_CFG.ROLE f.port)
  role != 3 && (role = 1 || numbersBefore (f.clock.rank f.sender) d.ownRank)

/-- The clock that a domain follows (R207): the best of those heard within their timeout on a port that may follow it. -/
def Dev.parent (d : Dev) (k : Nat) : Option PtpForeign := bestClock ((d.ptpDomain k).foreign.filter d.mayFollow)

/-- The state that the BMCA gives a port of a domain (R207, R213): slave where the domain's clock is heard, passive where another is that
the port could follow, else that of a port that follows none. -/
def Dev.bmcaState (d : Dev) (k port : Nat) : Nat :=
  match d.parent k with
  | some f =>
    if f.port = port then 9
    else if (d.ptpDomain k).foreign.any fun g => g.port = port && d.mayFollow g then 7
    else 4
  | none => d.aloneState port

/-- The BMCA of domain `k` (R201, R207, R212): the states of its ports, its grandmaster with the port it is received on, and the domain as a
time source, which a change of grandmaster disqualifies. -/
def Dev.bmca (d : Dev) (k : Nat) : Dev :=
  let parent := d.parent k
  let d : Dev := (List.range 4).foldl (fun d p =>
    if d.flag (Reg.NET_PTP.PTP_CFG.EN p) && (parent.isSome || d.announceTimeout p ≤ d.sched.st) then d.set (ptpState k p) (d.bmcaState k p)
    else d) d
  match parent with
  | none => if (d.source (k + 1)).here then d.loseSource (k + 1) else d
  | some f =>
    let changed := match (d.ptpDomain k).grandmaster with
      | some g => g != f.clock.identity
      | none => false
    let d : Dev := (d.setDomain k fun p => { p with grandmaster := some f.clock.identity }).set (Reg.TIME_DOM.DOM_STAT.PORT k) f.port
    let d : Dev := (d.setSource (k + 1) fun q => { q with here := true, leap := f.leap, announced := f.announced }).showDomains
    if changed then d.newGrandmaster k else if d.get Reg.TIME_STATUS.SRC = k + 1 then d.takeLeap else d

/-- An Announce in domain `k` (R201, R207). -/
def Dev.ptpAnnounce (d : Dev) (k : Nat) (m : PtpMessage) : Dev :=
  let f : PtpForeign := ⟨m.port, m.sender, m.clock, m.leap, m.announced, d.sched.st⟩
  (d.setDomain k fun p => { p with foreign := f :: p.foreign.filter fun g => !(g.port == m.port && g.sender == m.sender) }).bmca k

/-- A PTP message in a tracked domain (R197, R201, R207, R209): the end-to-end exchange on a port of that profile, the peer-delay exchange
on the others; Sync counts on a slave port, and time is served with DT valid alone. -/
def Dev.ptpMessage (d : Dev) (k : Nat) (m : PtpMessage) : Dev :=
  let p := d.ptpDomain k
  let rx := m.raw + d.paramInt (P.NET.ING_CORR m.port) + d.time.offset
  let tx := m.raw + d.paramInt (P.NET.EGR_CORR m.port) + d.time.offset
  let e2e := d.get (Reg.NET_PTP.PTP_CFG.PROFILE m.port) = 0
  let state := d.get (ptpState k m.port)
  let shown (x : Int) : Nat := (satInt 0 (2 ^ 32 - 1) (x / 4)).toNat
  match m.kind with
  | .announce => d.ptpAnnounce k m
  | .syncFollow => d
  | .sync =>
    if state != 9 || (d.parent k).any (fun f => f.port != m.port || f.sender != m.sender) then d
    else
      let delay := if e2e then p.delay else (d.net.peers.getD m.port default).delay
      let d : Dev := d.setDomain k (fun p => { p with t1 := m.body, t2 := rx })
      let q := d.source (k + 1)
      d.measureSource (k + 1) ⟨m.body + delay - rx, m.sigma, m.steer, q.leap, q.announced⟩
  | .delayReq => if e2e then d.setDomain k (fun p => { p with t3 := tx }) else d
  | .delayResp =>
    if !e2e then d
    else
      let d : Dev := d.setDomain k (fun p => { p with t4 := m.body })
      d.set (Reg.NET_PTP.PTP_DELAY.DELAY m.port) (shown (d.ptpDomain k).delay)
  | .delayReqIn => if e2e && state = 6 && d.flag Reg.TIME_STATUS.DT_VALID then d.answerPtp m [(.delayResp, rx)] else d
  | .peerReq => if e2e then d else d.setLinkDelay m.port (fun x => { x with t1 := tx })
  | .peerReqIn => if e2e then d else d.answerPtp m [(.peerResp, rx), (.peerFollow, m.body + d.paramInt (P.NET.EGR_CORR m.port) + d.time.offset)]
  | .peerResp => if e2e then d else d.setLinkDelay m.port (fun x => { x with t2 := m.body, t4 := rx })
  | .peerFollow =>
    if e2e then d
    else
      let d : Dev := d.setLinkDelay m.port (fun x => { x with delay := ((x.t4 - x.t1) - (m.body - x.t2)) / 2 })
      d.set (Reg.NET_PTP.PTP_DELAY.DELAY m.port) (shown (d.net.peers.getD m.port default).delay)

/-- R207: a PTP message of a tracked domain on a port with PTP enabled, over the transport that the port is set to. -/
def execPtpMessageReceived (t : Nat) (m : PtpMessage) (s : State) : Host.Outcome State Fault Refusal :=
  s.run fun d => (d.advance t).whenUp fun d =>
    if m.port < 4 && d.flag (Reg.NET_PTP.PTP_CFG.EN m.port) && m.udp == d.flag (Reg.NET_PTP.PTP_CFG.UDP m.port) then
      match d.domainIndex m.dom with
      | some k => d.ptpMessage k m
      | none => d
    else d

/-- The work of the PTP ports in each minor frame (R207): a clock whose Announce has been absent for its timeout is forgotten, and the BMCA
judges anew. -/
def Dev.ptpMinor (d : Dev) : Dev :=
  [0, 1].foldl (fun d k =>
    (d.setDomain k fun p => { p with foreign := p.foreign.filter fun f => d.sched.st < f.at_ + d.announceTimeout f.port }).bmca k) d

/-- The interval between two Syncs in ns (R207, R214). -/
def Dev.syncInterval (d : Dev) : Nat := 1000000000 / 2 ^ (-d.paramInt P.TIME.SYNC_LOG).toNat

/-- R207, R208: as master of a domain, with DT valid and the port not slave-only, the port transmits Announce, or Sync at its interval. -/
def execPtpSyncTransmit (t port dom : Nat) (announce : Bool) (stamp : Int) (s : State) :
    Host.Outcome State Fault Refusal :=
  s.run fun d => (d.advance t).whenUp fun d =>
    match d.domainIndex dom with
    | none => d
    | some k =>
      let due := match lookupAt d.net.syncAt (port, k) with
        | some a => a + d.syncInterval ≤ d.sched.st
        | none => true
      let may := port < 4 && d.flag (Reg.NET_PTP.PTP_CFG.EN port) && d.get (Reg.NET_PTP.PTP_CFG.ROLE port) != 1
        && d.get (ptpState k port) = 6 && d.flag Reg.TIME_STATUS.DT_VALID && (announce || due)
      if may then
        let at_ := stamp + d.paramInt (P.NET.EGR_CORR port)
        let sent : List PtpSent := if announce then [d.ptpSend port dom .announce at_]
          else [d.ptpSend port dom .sync at_, d.ptpSend port dom .syncFollow at_]
        let rest := d.net.syncAt.filter (fun e => e.1 != (port, k))
        { d with net := { d.net with
            ptp := sent, syncAt := if announce then d.net.syncAt else ((port, k), d.sched.st) :: rest } }
      else d

/-! ## Launch-time queues -/

/-- A frame of queue `q` starts on a port. -/
def Dev.startFrame (d : Dev) (p q : Nat) : Dev :=
  { d with net := { d.net with started := modAt d.net.started p (· + 1), onWire := setAt d.net.onWire p (some q) } }

/-- Drop a queue's waiting frame from the list. -/
def Dev.unwait (d : Dev) (p q : Nat) : Dev :=
  { d with net := { d.net with waiting := d.net.waiting.filter (fun e => !(e.1 == p && e.2.1 == q)) } }

/-- The medium of a port is free: of the frames that may start, the one of the highest queue does (R210). -/
def Dev.servePort (d : Dev) (p : Nat) : Dev :=
  match ((List.range 8).reverse.find? fun q => d.net.ready.contains (p, q)) with
  | none => d
  | some q => ({ d with net := { d.net with ready := d.net.ready.erase (p, q) } }).startFrame p q

/-- A frame in time at the head of its queue may start (R210): at once where the medium is free and no frame of a higher queue may start as
well, else it waits for the frame before it and counts as delayed, where it honours launch times. -/
def Dev.offerFrame (d : Dev) (p q : Nat) (busy counts : Bool) : Dev :=
  let d : Dev := { d with net := { d.net with ready := (p, q) :: d.net.ready.erase (p, q) } }
  let d : Dev := if busy then d else d.servePort p
  if counts && d.net.ready.contains (p, q) then d.inc (Reg.NET_TXQ.QDELAY.DELAYED p q) else d

/-- R210: a frame reaches the head of its queue. -/
def execLaunchFrameAtHead (t port queue launch : Nat) (busy : Bool) (s : State) : Host.Outcome State Fault Refusal :=
  s.run fun d => (d.advance t).whenUp fun d =>
    if 4 ≤ port || 8 ≤ queue then d
    else
      if !d.flag (Reg.NET_TXQ.QCFG.LAUNCH_EN port queue) then d.offerFrame port queue busy false
      else if d.sched.st < launch then
        { d.unwait port queue with net := { (d.unwait port queue).net with
            waiting := (port, queue, launch) :: (d.unwait port queue).net.waiting } }
      else if d.sched.st < launch + d.param P.NET.LAUNCH_GRACE then d.offerFrame port queue busy true
      else
        let d : Dev := d.set (Reg.NET_TXQ.QLAST.TS port queue) d.ts32.toNat
        if d.flag (Reg.NET_TXQ.QCFG.LATE_SEND port queue) then
          (d.inc (Reg.NET_TXQ.QLATE.LATE_SENT port queue)).offerFrame port queue busy false
        else
          let a := 0x160400 + 0x100 * port + 0x10 * queue
          (d.inc (Reg.NET_TXQ.QLATE.LATE port queue)).raise 45 [a + 4, a + 12]

/-- R210: a waiting frame's launch time arrives; it starts, at once or when the medium is free. -/
def execLaunchTimeReached (t port queue : Nat) (busy : Bool) (s : State) : Host.Outcome State Fault Refusal :=
  s.run fun d => (d.advance t).whenUp fun d =>
    match d.net.waiting.find? (fun e => e.1 == port && e.2.1 == queue) with
    | some (_, _, l) => if d.sched.st < l then d else (d.unwait port queue).offerFrame port queue busy true
    | none => d

/-- Frames that waited for the medium start, in the order of their queues, by the next minor frame (R210). -/
def Dev.queueMinor (d : Dev) : Dev := (List.range 32).foldl (fun d k => d.servePort (k / 8)) d

/-! ## Device time's work at the boundaries -/

/-- The uncertainty in holdover (R202), with the model of the oscillator that drives the root PLL. -/
def Dev.holdoverUnc (d : Dev) : Nat :=
  let ext := d.flag Reg.CLK_STATUS.REF
  let y := d.paramF (if ext then P.TIME.HO_Y_EXT else P.TIME.HO_Y_TCXO)
  let a := d.paramF (if ext then P.TIME.HO_D_EXT else P.TIME.HO_D_TCXO)
  let t := F64.ofRatio ((d.sched.st : Int) - d.time.hoSince) 1000000000
  let grow := ((y.mul t).add ((F64.ofRatio 1 2).mul (a.mul t.sq))).mul (.ofInt 1000000000)
  ((F64.ofInt d.time.u0).add grow).toU 32 0

/-- The work of device time in each minor frame (R202, R203, R205): the holdover's uncertainty, at most 1 ns of slew, and the
fall of the PPS pulse, with what the ports and the choice of the source do (R199, R207, R210). -/
def Dev.timeMinor (d : Dev) : Dev :=
  let d : Dev := d.ptpMinor.queueMinor.reselect
  let d : Dev := if d.flag Reg.TIME_STATUS.HOLDOVER then d.set Reg.TIME_UNC.UNC d.holdoverUnc else d
  let r := d.getInt Reg.TIME_SLEW.RESID
  let d : Dev :=
    if d.flag Reg.TIME_STATUS.SLEWING then
      let m : Int := if r < 0 then -1 else 1
      let d : Dev := (d.shiftDt (4 * m)).showDomains
      (d.setInt Reg.TIME_SLEW.RESID (r - m)).setB Reg.TIME_STATUS.SLEWING (r - m != 0)
    else d
  d.ppsFall

/-- The steering correction moves by at most 0.01 ppm per second towards what the selected source asks for (R193):
0.001 ppm in each hyperframe. -/
def Dev.steerHyper (d : Dev) : Dev :=
  if d.get Reg.TIME_STATUS.SRC = 3 then d
  else
    let v := d.getInt Reg.TIME_STATUS.STEER
    let w := if v < d.time.steerTarget then v + 1 else if d.time.steerTarget < v then v - 1 else v
    d.setInt Reg.TIME_STATUS.STEER (satInt (-20000) 20000 w)

/-- The root reference switches in holdover (R202): U0 is the present uncertainty and the time since entry starts at 0. -/
def Dev.holdoverReference (d : Dev) : Dev :=
  if d.flag Reg.TIME_STATUS.HOLDOVER then
    { d with time := { d.time with u0 := d.get Reg.TIME_UNC.UNC, hoSince := d.sched.st } }
  else d

/-- The DT seconds that the always-on domain holds (R198): DT itself while it is valid, else what was kept. -/
def Dev.keptDt (d : Dev) : Option Nat :=
  if d.flag Reg.TIME_STATUS.DT_VALID then some d.dtSec.toNat else d.clk.aonDt.map fun e => e.1 + (d.sched.st - e.2) / 1000000000

/-- Restore DT from the always-on domain as CORE starts (R198), `dark` being the ns without CLK_TIME: holdover and E41. -/
def Dev.restoreDt (d : Dev) (sec dark : Nat) : Dev :=
  let e := 4 * ((sec : Int) * 1000000000) - d.dtQ
  let d : Dev := d.setB Reg.TIME_STATUS.DT_VALID true
  let unc := 30500 + dark * 50 / 1000000
  let d : Dev := (d.set Reg.TIME_UNC.UNC (min (2 ^ 32 - 1) unc)).moveDt e 41 3
  { (d.setHoldover true) with time := { d.time with
      u0 := min (2 ^ 32 - 1) unc, hoSince := d.sched.st } }

end Sys2Proof.Machine
end

