-- ==== Sys2Proof/Machine/Gnss.lean ====
section
/-! DEFINITION. The GNSS baseband: antenna supervision, channels, corrections, fix types, heading, interference and spoofing,
epochs, and the receiver in M0 (R167 to R191). -/
namespace Sys2Proof.Machine
open Sys2Proof

/-- The receiver's block id and its record words: status and fix (R187). -/
def gnssCaps : List Nat := [0x80000, 0x80004]

/-- A record of the receiver without an event. -/
def Dev.gnssNote (d : Dev) (sub : Nat) (caps : List Nat) : Dev := d.note 0x01 0x08 sub (caps.map d.word)

/-! ## Antenna inputs (R169) -/

/-- An antenna's supervision. -/
def Dev.ant (d : Dev) (a : Nat) : AntState := d.gnss.ants.getD a ⟨none, none, none, false, 0, none⟩

/-- Change an antenna's supervision. -/
def Dev.setAnt (d : Dev) (a : Nat) (f : AntState → AntState) : Dev :=
  { d with gnss := { d.gnss with ants := modAt d.gnss.ants a f } }

/-- The bias selected for an antenna: 0 none, 1 3.3 V, 2 5.0 V. -/
def Dev.antBias (d : Dev) (a : Nat) : Nat := d.param (if a = 0 then P.GNSS.ANT_BIAS_A else P.GNSS.ANT_BIAS_B)

/-- Since when a condition has held: kept while it holds, opened now when it begins. -/
def since (now : Nat) (held : Bool) (old : Option Nat) : Option Nat := if held then some (old.getD now) else none

/-- A condition has held for `n` ns. -/
def heldFor (now n : Nat) : Option Nat → Bool
  | some t => t + n ≤ now
  | none => false

/-- The antenna is judged short: bias off, and the next retry after 1 s three times, then after 10 s. -/
def Dev.antShort (d : Dev) (a : Nat) : Dev :=
  let x := d.ant a
  let due := d.sched.st + (if x.tries < 3 then 1000000000 else 10000000000)
  let d : Dev := d.setAnt a (fun x => { x with biasOn := false, retryAt := some due, highSince := none, okSince := none })
  let d : Dev := d.set (Reg.GNSS_ANT.CURRENT a) 0
  if d.get (Reg.GNSS_ANT.STATE a) = 3 then d
  else (d.set (Reg.GNSS_ANT.STATE a) 3).gnssNote 3 [0x80010 + 4 * a]

/-- One measurement of an antenna's bias current (R169). -/
def Dev.measureAnt (d : Dev) (a : Nat) (m : AntMeasure) : Dev :=
  let d : Dev := d.set (Reg.GNSS_ANT.BIAS a) (d.antBias a)
  if d.antBias a = 0 then
    ((d.set (Reg.GNSS_ANT.STATE a) 0).set (Reg.GNSS_ANT.CURRENT a) 0).setAnt a (fun _ => ⟨none, none, none, true, 0, none⟩)
  else if !(d.ant a).biasOn then d
  else
    let now := d.sched.st
    let d : Dev := d.set (Reg.GNSS_ANT.CURRENT a) (min 255 (m.current / 10))
    let d : Dev := d.setAnt a (fun x => { x with
      lowSince := since now (m.current < 20) x.lowSince
      highSince := since now (1000 < m.current) x.highSince
      okSince := since now (20 ≤ m.current && m.current ≤ 1000) x.okSince })
    let x := d.ant a
    let state := d.get (Reg.GNSS_ANT.STATE a)
    if m.limited || heldFor now 100000000 x.highSince then d.antShort a
    else if heldFor now 100000000 x.lowSince && state != 2 then
      (d.set (Reg.GNSS_ANT.STATE a) 2).gnssNote 2 [0x80010 + 4 * a]
    else if heldFor now 100000000 x.okSince && state != 1 then
      (d.set (Reg.GNSS_ANT.STATE a) 1).setAnt a (fun x => { x with tries := 0, retryAt := none })
    else d

/-- R169: the bias currents are measured every 10 ms. -/
def execAntBiasMeasure (t : Nat) (a b : AntMeasure) (s : State) : Host.Outcome State Fault Refusal :=
  s.run fun d => (d.advance t).whenUp fun d => (d.measureAnt 0 a).measureAnt 1 b

/-- Switch a shorted antenna's bias on again (R169). -/
def Dev.retryAnt (d : Dev) (a : Nat) : Dev :=
  if d.get (Reg.GNSS_ANT.STATE a) = 3 && !(d.ant a).biasOn then
    (d.setAnt a (fun x => { x with biasOn := true, tries := x.tries + 1, retryAt := none, highSince := none })).inc
      (Reg.GNSS_ANT.RETRIES a)
  else d

/-- R169: a retry timer expires. -/
def execAntBiasRetry (t ant : Nat) (s : State) : Host.Outcome State Fault Refusal :=
  s.run fun d => (d.advance t).whenUp fun d =>
    match (d.ant ant).retryAt with
    | some due => if due ≤ d.sched.st then d.retryAnt ant else d
    | none => d

/-- R188: GNSS_CTRL.ANT_RETRY retries shorted bias at once. -/
def execAntRetry (t : Nat) (s : State) : Host.Outcome State Fault Refusal :=
  s.run fun d => (d.advance t).whenUp fun d => (d.retryAnt 0).retryAnt 1

/-! ## Channels and satellites (R168, R171) -/

/-- Signal codes of the L5 band (R167). -/
def l5Signal (g : Nat) : Bool := [2, 4, 6, 9, 11].contains g

/-- The system and signal codes that belong together (R167). -/
def gnssSignals : List (Nat × Nat) :=
  [(0, 0), (0, 1), (0, 2), (1, 3), (1, 4), (2, 5), (2, 6), (3, 7), (3, 8), (3, 9), (4, 10), (4, 11)]

/-- A channel of the baseband on a signal that the receiver supports (R167, R171). -/
def GnssChannel.supported (c : GnssChannel) : Bool := c.n < 240 && gnssSignals.contains (c.system, c.signal)

/-- The satellite of a channel. -/
def GnssChannel.sat (c : GnssChannel) : Nat × Nat := (c.system, c.sv)

/-- A signal is stopped by GNSS_XSIG (R190). -/
def Dev.signalStopped (d : Dev) (g : Nat) : Bool := d.mode = 7 && d.bitAt Reg.GNSS_XSIG.DISABLE g

/-- The channel's satellite may be used in the solution (R168). -/
def Dev.mayUse (d : Dev) (c : GnssChannel) : Bool :=
  c.locked && c.system != 4 && (d.paramF32 P.GNSS.ELEV_MASK).lt c.elevation && (d.paramF32 P.GNSS.CN0_MASK).le c.cn0
    && (d.param P.GNSS.SYS_MASK).testBit c.system && !d.signalStopped c.signal

/-- The channel serves antenna `a` (R171). -/
def GnssChannel.onAnt (c : GnssChannel) (a : Nat) : Bool := if a = 0 then c.n < 120 else 120 ≤ c.n && c.n < 240

/-- Distinct satellites of some channels. -/
def satellites (l : List GnssChannel) : List (Nat × Nat) :=
  l.foldl (fun acc c => if acc.contains c.sat then acc else acc ++ [c.sat]) []

/-- A satellite's channels in the L1 and L5 bands, the first of each where it has several. -/
def bandPair (l : List GnssChannel) (s : Nat × Nat) : Option (GnssChannel × GnssChannel) :=
  match l.find? (fun c => c.sat == s && !l5Signal c.signal), l.find? (fun c => c.sat == s && l5Signal c.signal) with
  | some a, some b => some (a, b)
  | _, _ => none

/-- Satellites with signals in both bands. -/
def dualBand (l : List GnssChannel) : List (Nat × Nat) := (satellites l).filter fun s => (bandPair l s).isSome

/-- The carriers of the two bands in units of 10 kHz (R167). -/
def carrierOf (signal : Nat) : F64 := .ofInt (if l5Signal signal then 117645 else 157542)

/-- The wavelength of a signal in m. -/
def wavelength (signal : Nat) : F64 := (F64.ofInt 299792458).div ((carrierOf signal).mul (.ofInt 10000))

/-- The ionosphere-free combination of a quantity in the two bands (R177). -/
def ionoFree (l1 l5 : F64) : F64 :=
  let a := (carrierOf 0).sq; let b := (carrierOf 2).sq
  ((a.mul l1).sub (b.mul l5)).div (a.sub b)

/-- A channel's carrier phase in metres. -/
def GnssChannel.phase (c : GnssChannel) : F64 := c.carrier.mul (wavelength c.signal)

/-- The ionosphere-free pseudorange of the channel's satellite (R175, R177), where it exists. -/
def freeRange (l : List GnssChannel) (c : GnssChannel) : Option F64 :=
  (bandPair l c.sat).map fun p => ionoFree p.1.code p.2.code

/-- The range of a satellite for the solution at an epoch (R177): from both bands, or by the broadcast model, which adds its delay to the
carrier and takes it from the code. -/
def satRange (epoch : Nat) (l : List GnssChannel) (s : Nat × Nat) : Option SatRange :=
  match bandPair l s, l.find? (fun c => c.sat == s) with
  | some (a, b), _ => some ⟨s.1, s.2, .free, (ionoFree a.code b.code).bits, (ionoFree a.phase b.phase).bits⟩
  | none, some c =>
    let galileo := c.system == 1
    let i := Config.ionoDelay (if galileo then 0 else 1) c.signal c.azimuth c.elevation epoch
    some ⟨s.1, s.2, if galileo then .galileo else .gps, (c.code.sub i).bits, (c.phase.add i).bits⟩
  | none, none => none

/-- The antenna that position and velocity come from (R170). -/
def Dev.pickAnt (d : Dev) (chans : List GnssChannel) : Nat :=
  let st := d.get (Reg.GNSS_ANT.STATE 0)
  if st = 1 || (st = 0 && 4 ≤ (satellites (chans.filter (fun c => c.onAnt 0 && c.locked))).length) then 0
  else 1

/-- Show one channel (R189): 1 acquiring, 2 tracking, 3 tracking and used. -/
def Dev.showChannel (d : Dev) (c : GnssChannel) (used : Bool) : Dev :=
  if 240 ≤ c.n then d
  else
    let d : Dev := ((d.set (Reg.GNSS_CH.CH_STAT.SV c.n) c.sv).set (Reg.GNSS_CH.CH_STAT.SYSTEM c.n) c.system).set
      (Reg.GNSS_CH.CH_STAT.SIGNAL c.n) c.signal
    let d : Dev := (d.set (Reg.GNSS_CH.CH_STAT.STATE c.n) (if used then 3 else if c.locked then 2 else 1)).set (Reg.GNSS_CH.CH_STAT.CN0 c.n)
      (c.cn0.to64.toU 8 0)
    (d.setF (Reg.GNSS_CH.CH_DOP.DOPPLER c.n) c.doppler).set (Reg.GNSS_CH.CH_LOCK.LOCK c.n) (min (2 ^ 32 - 1) c.lock)

/-- Channels whose signal is stopped go back to idle (R190). -/
def Dev.stopSignals (d : Dev) : Dev :=
  (List.range 240).foldl (fun d n =>
    if d.get (Reg.GNSS_CH.CH_STAT.STATE n) != 0 && d.signalStopped (d.get (Reg.GNSS_CH.CH_STAT.SIGNAL n)) then
      { d with regs := d.regs.resetRange (0x81000 + 0x10 * n) (0x81010 + 0x10 * n) }
    else d) d

/-- The acquisition engine finds the signal where it searches (R171): ±5 kHz of Doppler, or ±500 Hz about the prediction when an ephemeris
of the satellite and a position are held. -/
def Dev.inSearch (d : Dev) (c : GnssChannel) : Bool :=
  let x := c.doppler.to64
  match d.gnss.ephemerides.find? (fun e => (e.system, e.sv) == c.sat), d.gnss.position with
  | some e, some p =>
    (x.sub (Config.predictedDoppler c.system c.sv c.signal e.age0 p d.sched.st)).abs.le (.ofInt 500)
  | _, _ => x.abs.le (.ofInt 5000)

/-- The other band's signal of the same satellite on the same antenna (R171). -/
def GnssChannel.otherBand (c e : GnssChannel) : Bool :=
  e.supported && e.sat == c.sat && l5Signal e.signal != l5Signal c.signal && e.onAnt 0 == c.onAnt 0 && e.n != c.n

/-- The acquisition engine hands a satellite to tracking, and with its aid the other band's signal (R171). -/
def Dev.acquired (d : Dev) (first : GnssChannel) (second : Option GnssChannel) : Dev :=
  if !first.supported || d.signalStopped first.signal || !d.inSearch first then d
  else
    let d : Dev := d.showChannel first false
    match second with
    | some c => if first.otherBand c && !d.signalStopped c.signal then d.showChannel c false else d
    | none => d

/-- R171: the acquisition engine finds a satellite. -/
def execAcquisitionComplete (t : Nat) (first : GnssChannel) (second : Option GnssChannel) (s : State) :
    Host.Outcome State Fault Refusal :=
  s.run fun d => (d.advance t).whenUp fun d => d.acquired first second

/-! ## Corrections and fix types (R178, R179) -/

/-- RTCM message types that the receiver accepts (R178). -/
def rtcmAccepted (m : Nat) : Bool :=
  [1005, 1006, 1033, 1074, 1077, 1094, 1097, 1114, 1117, 1124, 1127, 1019, 1042, 1044, 1045, 1046].contains m
    || (1057 ≤ m && m ≤ 1062) || (1240 ≤ m && m ≤ 1251) || (1258 ≤ m && m ≤ 1263)

/-- The system whose ephemeris an RTCM message carries (R178). -/
def rtcmEphemeris : Nat → Option Nat
  | 1019 => some 0
  | 1045 => some 1
  | 1046 => some 1
  | 1042 => some 2
  | 1044 => some 3
  | _ => none

/-- The message type of an RTCM frame: the first 12 bits of its data. -/
def rtcmType (frame : List Byte) : Nat := (frame.getD 3 0).toNat * 16 + (frame.getD 4 0).toNat / 16

/-- The satellite of an ephemeris message: the 6 bits after its type, of message 1044 the 4 bits. -/
def rtcmSat (frame : List Byte) : Nat :=
  let n := (frame.getD 4 0).toNat % 16 * 4 + (frame.getD 5 0).toNat / 64
  if rtcmType frame = 1044 then n / 4 else n

/-- Length of the RTCM frame that begins with these bytes (R178): preamble, 10 bits of length, and 6 bytes around the data. -/
def rtcmLength (l : List Byte) : Nat := (l.getD 1 0).toNat % 4 * 256 + (l.getD 2 0).toNat + 6

/-- The frame is whole and its CRC-24Q holds (R178). -/
def rtcmWhole (frame : List Byte) : Bool :=
  let n := rtcmLength frame - 3
  frame.getD 0 0 == 0xD3 && frame.length == n + 3 && crc crc24qAlg (frame.take n) == ofBeBytes (frame.drop n)

/-- A correction frame received at `tArr` reaches the baseband (R178). -/
def Dev.rtcmFrame (d : Dev) (tArr : Nat) (frame : List Byte) : Dev :=
  if !rtcmWhole frame then
    ((d.inc Reg.GNSS_CORR_STAT.CRC).setB Reg.ENTRY_STATUS.CHK_STICKY true).raise 32 [0x80044]
  else
    let m := rtcmType frame
    if !rtcmAccepted m then d.inc Reg.GNSS_CORR_STAT.UNSUPPORTED
    else
      let d : Dev := d.incWrap Reg.GNSS_CORR_STAT.FRAMES
      let d : Dev := { d with gnss := { d.gnss with receipts := update d.gnss.receipts m tArr } }
      match rtcmEphemeris m with
      | some sys =>
        let e : Ephemeris := ⟨sys, rtcmSat frame, tArr, true, false⟩
        { d with gnss := { d.gnss with
            ephemerides := e :: d.gnss.ephemerides.filter (fun x => !(x.system == sys && x.sv == e.sv && x.rtcm)) } }
      | none => d

/-- The frames of a datagram, one after the other (R178); what does not begin or end as a frame counts as a frame that fails its check.
`fuel` bounds the frames. -/
def Dev.rtcmFrames (d : Dev) (tArr : Nat) (l : List Byte) : Nat → Dev
  | 0 => d
  | fuel + 1 =>
    let n := rtcmLength l
    if l.isEmpty then d
    else if l.getD 0 0 != 0xD3 || l.length < n then d.rtcmFrame tArr l
    else (d.rtcmFrame tArr (l.take n)).rtcmFrames tArr (l.drop n) fuel

/-- An arrival of an entry source counts against its declared rate in the hyperframe of its arrival (R150): whether it is
within the rate, and the device after. The discard itself is counted by the caller. -/
def Dev.countArrival (d : Dev) (source tArr : Nat) : Bool × Dev :=
  let hyper := tArr / 100000000
  let limit := d.image.entry.rates.getD source 0
  match d.entry.counts.find? (fun e => e.1 == source && e.2.1 == hyper) with
  | none =>
    let keep := d.entry.counts.filter (fun e => !(e.1 == source && e.2.1 + 1 < hyper))
    if limit = 0 then
      let d : Dev := { d with entry := { d.entry with counts := (source, hyper, 0, true) :: keep } }
      (false, (d.setB Reg.ENTRY_STATUS.RATE_STICKY true).raise 33 [0x60000])
    else (true, { d with entry := { d.entry with counts := (source, hyper, 1, false) :: keep } })
  | some e =>
    let rest := d.entry.counts.filter (fun x => !(x.1 == source && x.2.1 == hyper))
    let n := e.2.2.1
    if n < limit then (true, { d with entry := { d.entry with counts := (source, hyper, n + 1, e.2.2.2) :: rest } })
    else
      let d : Dev := ({ d with entry := { d.entry with counts := (source, hyper, n, true) :: rest } }).setB
        Reg.ENTRY_STATUS.RATE_STICKY true
      (false, if e.2.2.2 then d else d.raise 33 [0x60000])

/-- R178: whole RTCM frames by the path that GNSS_CORR_CFG.SRC names: one from serial port 0 to 11, the frames of one datagram from Ethernet
port 12 to 15 (with the UDP port matching), one arrival under the rate rule of R150. -/
def execRtcmFrameReceived (t source udpPort : Nat) (frame : List Byte) (s : State) : Host.Outcome State Fault Refusal :=
  s.run fun d => (d.advance t).whenUp fun d =>
    if d.get Reg.GNSS_CORR_CFG.SRC != source || 16 ≤ source then d
    else if 12 ≤ source && d.get Reg.GNSS_CORR_CFG.UDP_PORT != udpPort then d
    else
      let (ok, d) := d.countArrival source t
      if ok then (if source < 12 then d.rtcmFrame t frame else d.rtcmFrames t frame (frame.length + 1))
      else
        let d : Dev := d.uncover 3
        if source < 12 then d.inc (Reg.ENTRY_PORT.PORT_DROP.RATE source) else d.inc Reg.ENTRY_NET_ERR.RATE

/-- Take the whole frames off the host path's bytes (R178): bytes before a preamble are skipped. `fuel` bounds the frames. -/
def Dev.fifoFrames (d : Dev) : Nat → Dev
  | 0 => d
  | fuel + 1 =>
    match d.gnss.fifo with
    | [] => d
    | b :: rest =>
      if b != 0xD3 then Dev.fifoFrames { d with gnss := { d.gnss with fifo := rest } } fuel
      else
        let n := rtcmLength d.gnss.fifo
        if d.gnss.fifo.length < 3 || d.gnss.fifo.length < n then d
        else
          let frame := d.gnss.fifo.take n
          Dev.fifoFrames (({ d with gnss := { d.gnss with fifo := d.gnss.fifo.drop n } }).rtcmFrame d.sched.st frame) fuel

/-- A write of GNSS_CORR_FIFO: ignored unless SRC is 16 (R188). -/
def Dev.corrFifo (d : Dev) (w : Word) (port : Nat) : Dev :=
  if d.get Reg.GNSS_CORR_CFG.SRC != 16 then d.reportWrite 8 port 0 0x80048 false
  else
    let d : Dev := { d with gnss := { d.gnss with fifo := d.gnss.fifo ++ leBytes 4 w.toNat } }
    d.fifoFrames (d.gnss.fifo.length)

/-- R178: four correction bytes, lowest byte first. -/
def execGnssCorrFifoWrite (t : Nat) (w : Word) (port : Nat) (s : State) : Host.Outcome State Fault Refusal :=
  s.run fun d => (d.advance t).whenUp fun d => d.corrFifo w port

/-- The age window of corrections (R179). -/
def Dev.corrWindow (d : Dev) : Nat := nsOfSec (d.paramF P.GNSS.CORR_AGE_MAX)

/-- A receipt whose window is open (R179). -/
def Dev.current (d : Dev) (r : Option Nat) : Option Nat := r.filter fun t => d.sched.st < t + d.corrWindow

/-- The newest receipt among message types whose window is open (R179). -/
def Dev.receiptOf (d : Dev) (ms : List Nat) : Option Nat :=
  (ms.filterMap (fun m => d.current (lookup d.gnss.receipts m))).foldl (fun o t => some (max t (o.getD 0))) none

/-- The older of two receipts, present only when both are. -/
def bothReceipts : Option Nat → Option Nat → Option Nat
  | some a, some b => some (min a b)
  | _, _ => none

/-- The RTCM observation messages (R178). -/
def rtcmObservations : List Nat := [1074, 1077, 1094, 1097, 1114, 1117, 1124, 1127]

/-- PPP corrections of one system that starts its SSR messages at `b`: orbit and clock, apart or combined, and code bias. -/
def Dev.pppReceipt (d : Dev) (b : Nat) : Option Nat :=
  let apart := bothReceipts (d.receiptOf [b]) (d.receiptOf [b + 1])
  let orbitClock := match apart with
    | some t => some t
    | none => d.receiptOf [b + 3]
  bothReceipts orbitClock (d.receiptOf [b + 2])

/-- The fix type of highest precedence whose conditions hold, and the receipt its correction age counts from (R179). -/
def Dev.fixType (d : Dev) (e : FixEvidence) : Nat × Option Nat :=
  if e.nsat < 4 then (0, none)
  else if e.dual < 4 then (1, none)
  else
    let obs := d.receiptOf rtcmObservations
    let rtk := bothReceipts obs (d.receiptOf [1005, 1006])
    match rtk with
    | some t => (if e.fixed then 6 else 5, some t)
    | none =>
      match ([1057, 1240, 1246, 1258].filterMap d.pppReceipt).head? with
      | some t => (7, some t)
      | none =>
        match obs with
        | some t => (4, some t)
        | none =>
          match d.current d.gnss.sbasAt with
          | some t => (3, some t)
          | none => (2, none)

/-- Take a fix type and an antenna into the registers, with E37 on a change of either (R170, R179). -/
def Dev.takeFix (d : Dev) (fix ant : Nat) (corrAt : Option Nat) : Dev :=
  let changed := d.get Reg.GNSS_STATUS.FIX != fix || d.get Reg.GNSS_FIX.ANT != ant
  let age := match corrAt with
    | some t => min 255 ((d.sched.st - t) / 1000000000)
    | none => 255
  let d : Dev := { d with gnss := { d.gnss with corrAt := corrAt } }
  let d : Dev := ((d.set Reg.GNSS_STATUS.FIX fix).set Reg.GNSS_FIX.ANT ant).set Reg.GNSS_FIX.CORR_AGE age
  if changed then (d.setB Reg.GNSS_STATUS.FIX_STICKY true).raise 37 gnssCaps else d

/-- The window of the corrections that the fix rests on has closed (R179). -/
def Dev.corrClosed (d : Dev) : Bool := d.gnss.corrAt.isSome && (d.current d.gnss.corrAt).isNone

/-- R179: a correction's window closes; the fix type that remains is taken, with E37. -/
def execCorrectionAgeExpiry (t : Nat) (rest : FixEvidence) (s : State) : Host.Outcome State Fault Refusal :=
  s.run fun d => (d.advance t).whenUp fun d =>
    if d.corrClosed then d.takeFix (d.fixType rest).1 (d.get Reg.GNSS_FIX.ANT) (d.fixType rest).2 else d

/-! ## Interference and spoofing (R182 to R185) -/

/-- Discard what was decoded from the signal in the spoofing state that is left (R184). -/
def Dev.dropTainted (d : Dev) : Dev :=
  { d with gnss := { d.gnss with
      ephemerides := d.gnss.ephemerides.filter (fun e => e.rtcm || !e.tainted)
      almanac := d.gnss.almanac && !d.gnss.almanacTainted, almanacTainted := false } }

/-- Enter an integrity state (R184): a record at each change, E38 or E39 on entry, TIME_OK with it. -/
def Dev.enterIntegrity (d : Dev) (n : Nat) : Dev :=
  let old := d.get Reg.GNSS_STATUS.INTEG
  if old = n then d
  else
    let d : Dev := if 2 ≤ old then d.dropTainted else d
    let d : Dev := d.set Reg.GNSS_STATUS.INTEG n
    let d : Dev := if n = 2 then { d with gnss := { d.gnss with
        failSince := d.gnss.failSince.map (fun o => o.map (fun _ => d.sched.st)) } } else d
    if n = 1 then d.raise 38 [0x80000, 0x80018]
    else if 2 ≤ n then d.raise 39 [0x80000, 0x80018]
    else d.gnssNote 4 [0x80000, 0x80018]

/-- A band's indicator in dB above the calibrated floor, from the worse antenna (R182); `k` is 0 for L1, 1 for L5. -/
def Dev.jamIndicator (d : Dev) (k : Nat) (x : ChainNoise) : Nat :=
  let above (p : F32) (i : Nat) : Nat := (p.to64.sub (d.gnss.floors.getD i F32.zero).to64).toU 8 0
  max (above x.a k) (above x.b (2 + k))

/-- The jamming indicators (R182): above the threshold for 1 s begins interference, 10 s below it ends it. -/
def Dev.judgeJam (d : Dev) (x1 x5 : ChainNoise) : Dev :=
  let l1 := d.jamIndicator 0 x1
  let l5 := d.jamIndicator 1 x5
  let d : Dev := (d.set Reg.GNSS_INTEG.JAM_L1 l1).set Reg.GNSS_INTEG.JAM_L5 l5
  let loud := (d.paramF P.GNSS.JAM_THRESH).lt (.ofInt (max l1 l5))
  let now := d.sched.st
  let d : Dev := { d with gnss := { d.gnss with
    jamSince := since now loud d.gnss.jamSince, calmSince := since now (!loud) d.gnss.calmSince } }
  if heldFor now 1000000000 d.gnss.jamSince then d.setB Reg.GNSS_STATUS.JAM true
  else if heldFor now 10000000000 d.gnss.calmSince then d.setB Reg.GNSS_STATUS.JAM false
  else d

/-- Between clean and interference, the condition of R182 decides (R184). -/
def Dev.jamState (d : Dev) : Dev :=
  if d.get Reg.GNSS_STATUS.INTEG < 2 then d.enterIntegrity (d.get Reg.GNSS_STATUS.JAM) else d

/-- R182: the 1 s or 10 s of the jamming indicators has run. -/
def execInterferenceTimer (t : Nat) (l1 l5 : ChainNoise) (s : State) : Host.Outcome State Fault Refusal :=
  s.run fun d => (d.advance t).whenUp fun d => (d.judgeJam l1 l5).jamState

/-- T1 of a satellite on both bands (R183): its Dopplers or its codes do not agree. -/
def Dev.t1Fails (d : Dev) (p : GnssChannel × GnssChannel) : Bool :=
  let dop := (p.2.doppler.to64.sub ((p.1.doppler.to64.mul (carrierOf 2)).div (carrierOf 0))).abs
  let geo := p.2.code.sub p.1.code
  (d.paramF P.GNSS.DOP_TOL).lt dop || geo.lt (.ofInt (-3)) || (F64.ofInt 40).lt geo

/-- The C/N0 of each satellite, that of its first channel. -/
def cn0Of (l : List GnssChannel) : List ((Nat × Nat) × F32) :=
  (satellites l).filterMap fun s => (l.find? (fun c => c.sat == s)).map fun c => (s, c.cn0)

/-- Standard deviation of some values, of the values themselves and not of a sample of more. -/
def spread (v : Vec) : F64 :=
  let n := F64.ofInt v.length
  let m := (F64.sum v).div n
  ((F64.sum (v.map fun x => (x.sub m).sq)).div n).sqrt

/-- Every satellite's C/N0 has risen by more than 6 dB-Hz since one of the epochs of the last second (R183). -/
def Dev.commonRise (d : Dev) (now : List ((Nat × Nat) × F32)) : Bool :=
  !now.isEmpty && d.gnss.cn0s.any fun e => d.sched.st ≤ e.1 + 1000000000 && now.all fun x =>
    match e.2.find? (fun y => y.1 == x.1) with
    | some y => (F64.ofInt 6).lt (x.2.to64.sub y.2.to64)
    | none => false

/-- T3 of a satellite on both antennas (R183): the single difference of the carrier against what its direction and the baseline give, less
whole cycles, in mm. -/
def t3Residual (b : BaselineMeasure) (c e : GnssChannel) : F64 :=
  let az := radOfDeg c.azimuth.to64; let el := radOfDeg c.elevation.to64
  let ba := radOfBam b.azimuth; let be := radOfBam b.elevation
  let u : Vec := [(Config.cos el).mul (Config.cos az), (Config.cos el).mul (Config.sin az), (Config.sin el).neg]
  let v : Vec := [(Config.cos be).mul (Config.cos ba), (Config.cos be).mul (Config.sin ba), (Config.sin be).neg]
  let x := ((c.carrier.sub e.carrier).mul (wavelength c.signal)).sub (b.length.to64.mul (Vec.dot u v))
  let cycles := F64.ofInt ((x.div (wavelength c.signal)).toQ 63 0)
  (x.sub (cycles.mul (wavelength c.signal))).mul (.ofInt 1000)

/-- The T3 residuals of the satellites that both antennas track on one signal (R183). -/
def t3Residuals (b : BaselineMeasure) (l : List GnssChannel) : List F64 :=
  (satellites l).filterMap fun s =>
    (l.filter fun c => c.sat == s && c.onAnt 0).findSome? fun c =>
      (l.find? fun e => e.sat == s && e.onAnt 1 && e.signal = c.signal).map (t3Residual b c)

/-- The receiver's clock bias at an epoch in quarter-ns, from the GPS time that it solves (R173). -/
def GnssEpoch.bias (o : GnssEpoch) : Option Int := o.gpsTime.map fun g => 4 * (o.epoch : Int) - g

/-- T4 (R183): evaluated unless blocked, once there is a bias to predict from, and failed. -/
def Dev.t4 (d : Dev) (o : GnssEpoch) : Bool × Bool :=
  match o.bias with
  | none => (false, false)
  | some b =>
    let off := ((F64.ofInt (b - Config.clockModel d.gnss.biases o.epoch)).div (.ofInt 4)).abs
    (d.gnss.t4Blocked ≤ d.sched.st && !d.gnss.biases.isEmpty, (d.paramF P.GNSS.CLK_TOL).lt off)

/-- Each of the four tests at an epoch (R183): evaluated, and failed; `sel` are the channels that track on the antenna of R170, `all`
those on both. DESIGN CHOICE (log 176): the common rise of T2 is judged where its 6 satellites are present. -/
def Dev.spoofTests (d : Dev) (o : GnssEpoch) (sel all : List GnssChannel) : List (Bool × Bool) :=
  let inhibited (i : Nat) : Bool := d.mode = 7 && d.bitAt Reg.GNSS_XTEST.INHIBIT i
  let pairs := (satellites sel).filterMap (bandPair sel)
  let high := (cn0Of (sel.filter fun c => (F32.ofInt 30).lt c.elevation)).map fun e => e.2.to64
  let t3 := t3Residuals o.baseline all
  let t3bad := t3.filter fun r => (d.paramF P.GNSS.AOA_TOL).lt r.abs
  let raw : List (Bool × Bool) := [
    (!pairs.isEmpty, 2 ≤ (pairs.filter d.t1Fails).length),
    (6 ≤ high.length, (spread high).lt (d.paramF P.GNSS.CN0_SPREAD) || d.commonRise (cn0Of sel)),
    (o.baseline.fixed && !t3.isEmpty, t3.length < 2 * t3bad.length),
    d.t4 o]
  ((List.range 4).zip raw).map fun e => (e.2.1 && !inhibited e.1, e.2.1 && !inhibited e.1 && e.2.2)

/-- Keep the C/N0 of the last second and the clock biases of the last 60 s (R183). -/
def Dev.keepMeasures (d : Dev) (o : GnssEpoch) (sel : List GnssChannel) : Dev :=
  let cn0s := (o.epoch, cn0Of sel) :: d.gnss.cn0s.filter fun e => o.epoch < e.1 + 1000000000
  let old := d.gnss.biases.filter fun e => o.epoch < e.1 + 60000000000
  let biases := match o.bias with
    | some b => (o.epoch, b) :: old
    | none => old
  { d with gnss := { d.gnss with cn0s := cn0s, biases := biases } }

/-- Judge the integrity state at an epoch from its tests (R183, R184). DESIGN CHOICE (log 176): the tests that fail in 3 consecutive epochs
need not be one test. -/
def Dev.judgeIntegrity (d : Dev) (tests : List (Bool × Bool)) : Dev :=
  let now := d.sched.st
  let fails := tests.map (fun e => e.2)
  let mask (l : List Bool) : Nat := ((List.range 4).zip l).foldl (fun n e => n + bit e.2 * 2 ^ e.1) 0
  let nfail := (fails.filter (fun b => b)).length
  let d : Dev := (d.set Reg.GNSS_INTEG.FAIL (mask fails)).set Reg.GNSS_INTEG.EVAL (mask (tests.map (fun e => e.1)))
  let d : Dev := { d with gnss := { d.gnss with
    failRun := if 0 < nfail then d.gnss.failRun + 1 else 0
    failSince := (d.gnss.failSince.zip fails).map (fun e => since now e.2 e.1)
    passSince := since now (nfail = 0) d.gnss.passSince } }
  let confirm := nsOfSec (d.paramF P.GNSS.SPOOF_CONFIRM)
  let clear := nsOfSec (d.paramF P.GNSS.SPOOF_CLEAR)
  match d.get Reg.GNSS_STATUS.INTEG with
  | 3 => d
  | 2 =>
    if 2 ≤ nfail || d.gnss.failSince.any (heldFor now confirm) then d.enterIntegrity 3
    else if heldFor now clear d.gnss.passSince then d.enterIntegrity (d.get Reg.GNSS_STATUS.JAM)
    else d
  | _ => if 3 ≤ d.gnss.failRun then d.enterIntegrity 2 else d.jamState

/-- GNSS_CTRL.SPOOF_ACK (R184): it leaves confirmed spoofing once the clear time has run; before that it is ignored. -/
def Dev.spoofAck (d : Dev) (port : Nat) : Dev :=
  if d.get Reg.GNSS_STATUS.INTEG = 3 && heldFor d.sched.st (nsOfSec (d.paramF P.GNSS.SPOOF_CLEAR)) d.gnss.passSince then
    let d : Dev := d.enterIntegrity (d.get Reg.GNSS_STATUS.JAM)
    { d with gnss := { d.gnss with left := true } }
  else d.reportWrite 8 port 0 0x80050 false

/-- R184: host software acknowledges confirmed spoofing. -/
def execSpoofAck (t port : Nat) (s : State) : Host.Outcome State Fault Refusal :=
  s.run fun d => (d.advance t).whenUp fun d => d.spoofAck port

/-- GNSS_CTRL.COLD_RESTART (R188): in M1 and M7 ephemerides, almanac and position are discarded and every channel goes back to idle. -/
def Dev.coldRestart (d : Dev) (port : Nat) : Dev :=
  if d.mode = 1 || d.mode = 7 then
    { d with
      regs := d.regs.resetRange 0x81000 0x81F00
      gnss := { d.gnss with ephemerides := [], almanac := false, almanacTainted := false, position := none, predicted := [] } }
  else d.reportWrite 8 port 0 0x80050 false

/-- R188: host software restarts the receiver cold. -/
def execColdRestart (t port : Nat) (s : State) : Host.Outcome State Fault Refusal :=
  s.run fun d => (d.advance t).whenUp fun d => d.coldRestart port

/-! ## Epochs (R173 to R176, R180, R181) -/

/-- The period of the epochs in ns (R173). -/
def Dev.epochPeriod (d : Dev) : Nat := 1000000000 / max 1 (d.param P.GNSS.RATE)

/-- The datum of an output for an epoch has been sealed, withheld or dropped (R174). -/
def Dev.markOut (d : Dev) (output epoch : Nat) : Dev :=
  { d with gnss := { d.gnss with outDone := setAt d.gnss.outDone output (some epoch) } }

/-- A dropped epoch of one output (R174): its datum is not sealed any more. -/
def Dev.dropEpoch (d : Dev) (output epoch : Nat) : Dev :=
  (((d.markOut output epoch).inc Reg.GNSS_LAT.DROPS).setB Reg.GNSS_STATUS.EPOCH_DROP_STICKY true).gnssNote (16 + output)
    [0x80000, 0x80034]

/-- The output's datum for the epoch can still be sealed (R174). -/
def Dev.outOpen (d : Dev) (output epoch : Nat) : Bool := d.gnss.outDone.getD output none != some epoch

/-- The slot of an output (R175): 0 PVT, 1 heading, 2 raw. -/
def Dev.outSlot (d : Dev) (output : Nat) : Option Nat :=
  [d.image.gnss.pvtSlot, d.image.gnss.headingSlot, d.image.gnss.rawSlot].getD output none

/-- The receiver seals this output at present (R175, R184): raw data always, PVT and heading into the slot that the image binds unless
spoofing is confirmed. -/
def Dev.seals (d : Dev) (output : Nat) : Bool :=
  output = 2 || (d.get Reg.GNSS_STATUS.INTEG != 3 && (d.outSlot output).isSome)

/-- R174: 1.5 ms after an epoch the datum of an output is not ready; 0 PVT, 1 heading, 2 raw. -/
def execGnssEpochDrop (t output : Nat) (s : State) : Host.Outcome State Fault Refusal :=
  s.run fun d => (d.advance t).whenUp fun d =>
    let epoch := (d.sched.st - 1500000) / d.epochPeriod * d.epochPeriod
    if d.running && d.flag Reg.GNSS_STATUS.RUNNING && d.seals output && 1500000 ≤ d.sched.st && d.outOpen output epoch then d.dropEpoch output epoch
    else d

/-- The first failing condition of a valid heading (R180, R188); 0 none. -/
def Dev.headingCause (d : Dev) (b : BaselineMeasure) (common : Nat) (antOk : Bool) : Nat :=
  let off := ((b.length.to64.sub (d.paramF P.GNSS.BASELINE)).abs).mul (.ofInt 1000)
  if common < 5 then 1
  else if !b.fixed then 2
  else if !off.le (d.paramF P.GNSS.BASE_TOL) then 3
  else if !antOk then 4
  else if 2 ≤ d.get Reg.GNSS_STATUS.INTEG then 5
  else 0

/-- Judge and show the heading of an epoch (R180, R181): E40 from valid to invalid, a record the other way. -/
def Dev.takeHeading (d : Dev) (b : BaselineMeasure) (common cause : Nat) : Dev :=
  let was := d.flag Reg.GNSS_HDG_STAT.VALID
  let now := cause == 0
  let d : Dev := ((d.setB Reg.GNSS_HDG_STAT.VALID now).set Reg.GNSS_HDG_STAT.CAUSE cause).set Reg.GNSS_HDG_STAT.NSAT (min 255 common)
  let d : Dev := d.set Reg.GNSS_HDG_STAT.LEN ((b.length.to64.mul (.ofInt 1000)).toU 16 0)
  let d : Dev := (d.set Reg.GNSS_HDG_AZ.AZ b.azimuth.toNat).set Reg.GNSS_HDG_EL.EL b.elevation.toNat
  if was && !now then d.raise 40 [0x80020, 0x80024, 0x80028]
  else if !was && now then d.gnssNote 5 [0x80020]
  else d

/-- Four bytes as a payload word, lowest first. -/
def wordOfBytes (a b c e : Nat) : Word := BitVec.ofNat 32 (a + 256 * b + 65536 * c + 16777216 * e)

/-- The receiver offers time (R185). -/
def Dev.timeOk (d : Dev) (nsat : Nat) : Bool :=
  d.get Reg.GNSS_STATUS.INTEG < 2 && 2 ≤ d.get Reg.GNSS_STATUS.FIX && 4 ≤ nsat

/-- The standard deviation of the azimuth in degrees (R180): from the length of the baseline where at least 6 common satellites stand
above the elevation mask, else as measured. -/
def Dev.azimuthSigma (d : Dev) (b : BaselineMeasure) (high : Nat) : F32 :=
  if 6 ≤ high then ((F64.ofRatio 15 100).div (d.paramF P.GNSS.BASELINE)).to32 else b.sigma

/-- The raw record of a used signal (R175): satellite, system, signal and whether the ionosphere-free range exists, pseudorange, carrier
phase, Doppler, C/N0, lock time and that range. -/
def rawSignal (used : List GnssChannel) (c : GnssChannel) : List Word :=
  let p := freeRange used c
  [BitVec.ofNat 32 (c.sv % 256 + 256 * c.system + 4096 * c.signal + 65536 * bit p.isSome)] ++ quadWords c.code.framed
    ++ quadWords c.carrier.framed ++ [c.doppler.framed, c.cn0.framed, BitVec.ofNat 32 (min (2 ^ 32 - 1) c.lock)]
    ++ quadWords ((p.getD F64.zero).framed)

/-- Keep the ephemerides and the almanac decoded from the signal since the last epoch (R184): tainted in the spoofing state in force since
then, and discarded when it has been left in between. -/
def Dev.keepDecoded (d : Dev) (o : GnssEpoch) : Dev :=
  let bad := 2 ≤ d.get Reg.GNSS_STATUS.INTEG
  if d.gnss.left then { d with gnss := { d.gnss with left := false } } else
  let new := o.decoded.map fun s => (⟨s.1, s.2, o.epoch, false, bad⟩ : Ephemeris)
  { d with gnss := { d.gnss with
      ephemerides := new ++ d.gnss.ephemerides.filter fun e => e.rtcm || !o.decoded.contains (e.system, e.sv)
      almanac := d.gnss.almanac || o.almanac
      almanacTainted := if o.almanac then bad else d.gnss.almanacTainted } }

/-- One output of an epoch (R174, R175): where it is ready in time it is sealed, into its slot if it has one, the raw record also for the
safety island; later than 1.5 ms it is dropped. -/
def Dev.sealOut (d : Dev) (epoch output delay kind : Nat) (slot : Option Nat) (flags : BitVec 8) (w : List Word) : Dev :=
  if !d.outOpen output epoch then d
  else if 1500000 < delay then (d.advance (epoch + 1500000)).dropEpoch output epoch
  else
    let d : Dev := (d.advance (epoch + delay)).markOut output epoch
    let us := delay / 1000
    let d : Dev := if d.get Reg.GNSS_LAT.MAX < us then d.set Reg.GNSS_LAT.MAX us else d
    let d : Dev := d.set Reg.GNSS_EPOCH.TOV (ts32Of epoch).toNat
    let lat (s : Nat) : Int := (epoch : Int) - d.paramThen (P.ENTRY.SLOT_LAT s) epoch
    match slot with
    | some s =>
      let d : Dev := d.sealSlot s 86 kind flags 0 (lat s) w
      if output = 2 then { d with gnss := { d.gnss with raw := d.entry.slots.getD s none } } else d
    | none =>
      let (p, d) := d.seal 86 kind 0 flags 0 epoch w
      { d with gnss := { d.gnss with raw := some p } }

/-- Outputs in the order in which they become ready. -/
def byDelay : List (Nat × Nat) → List (Nat × Nat)
  | [] => []
  | e :: l =>
    let rest := byDelay l
    rest.takeWhile (fun x => x.1 < e.1) ++ e :: rest.dropWhile (fun x => x.1 < e.1)

/-- Seal what an epoch delivers (R174 to R176, R184, R190). DESIGN CHOICE (log 175): the raw record carries the SUSPECT flag of the
suspected state and shows integrity state 2 under a non-zero expert register, as PVT and heading do. -/
def Dev.sealEpoch (d : Dev) (o : GnssEpoch) (used : List GnssChannel) (fix ant nsat common high : Nat) : Dev :=
  let expert := d.mode = 7 && (d.get Reg.GNSS_XSIG.DISABLE != 0 || d.get Reg.GNSS_XTEST.INHIBIT != 0)
  let integ := d.get Reg.GNSS_STATUS.INTEG
  let shown := if expert && integ < 2 then 2 else integ
  let flags : BitVec 8 := if integ = 2 then 0x10 else 0
  let age := match d.gnss.corrAt with
    | some t => min 65535 ((d.sched.st - t) / 100000000)
    | none => 65535
  let f (w : Word) : Word := (F32.mk w).framed
  let pvt := quadWords (F64.mk o.lat).framed ++ quadWords (F64.mk o.lon).framed ++ [f o.height] ++ ((o.velocity.take 3).map f)
    ++ ((o.sd.take 3).map f) ++ [f o.corr, wordOfBytes fix (min 255 nsat) shown ant,
      BitVec.ofNat 32 (age + 65536 * d.get Reg.GNSS_INTEG.FAIL), 0, 0]
  let hdg := [o.baseline.azimuth, o.baseline.elevation, o.baseline.length.framed, (d.azimuthSigma o.baseline high).framed,
    wordOfBytes (d.get Reg.GNSS_HDG_STAT.VALID) shown (min 255 common) 0, 0]
  let raw := BitVec.ofNat 32 shown :: used.flatMap (rawSignal used)
  let due := ((List.range 3).zip o.delays).filterMap fun e => match e.2 with
    | some n => some (n, e.1)
    | none => none
  let what (k : Nat) : Nat × List Word := if k = 0 then (0x07, pvt) else if k = 1 then (0x02, hdg) else (0x06, raw)
  (byDelay due).foldl (fun d e =>
    if d.seals e.2 then d.sealOut o.epoch e.2 e.1 (what e.2).1 (d.outSlot e.2) flags (what e.2).2 else d) d

/-- The channels of an epoch as GNSS_CH shows them (R189): those that serve no signal are idle. -/
def Dev.showChannels (d : Dev) (l used : List GnssChannel) : Dev :=
  l.foldl (fun d c => d.showChannel c (used.any fun u => u.n = c.n)) { d with regs := d.regs.resetRange 0x81000 0x81F00 }

/-- The solution of an epoch (R168, R177, R179): fix type with the receipt of its corrections, and the channels used; a satellite on one
band only is not used in an RTK fixed or PPP solution. -/
def Dev.solution (d : Dev) (o : GnssEpoch) (sel : List GnssChannel) : (Nat × Option Nat) × List GnssChannel :=
  let all := sel.filter d.mayUse
  let dual := dualBand all
  let fix := d.fixType ⟨o.fixed, (satellites all).length, dual.length⟩
  (fix, if fix.1 = 6 || fix.1 = 7 then all.filter (fun c => dual.contains c.sat) else all)

/-- The heading of an epoch (R180, R181): the device, the common satellites, and those above the elevation mask. -/
def Dev.epochHeading (d : Dev) (o : GnssEpoch) (tracks : List GnssChannel) : Dev × Nat × Nat :=
  let satA := satellites (tracks.filter (fun c => c.onAnt 0))
  let satB := satellites (tracks.filter (fun c => c.onAnt 1))
  let common := satA.filter (fun x => satB.contains x)
  let high := common.filter fun x => tracks.any fun c => c.sat == x && (d.paramF32 P.GNSS.ELEV_MASK).lt c.elevation
  let antOk (a : Nat) (l : List (Nat × Nat)) : Bool :=
    d.get (Reg.GNSS_ANT.STATE a) = 1 || (d.get (Reg.GNSS_ANT.STATE a) = 0 && !l.isEmpty)
  let cause := d.headingCause o.baseline common.length (antOk 0 satA && antOk 1 satB)
  (d.takeHeading o.baseline common.length cause, common.length, high.length)

/-- The receiver offers its time, TAI, being GPS time plus 19 s, or offers it no more (R185). -/
def Dev.offerTime (d : Dev) (o : GnssEpoch) (nsat : Nat) : Dev :=
  let was := d.flag Reg.GNSS_STATUS.TIME_OK
  let ok := d.timeOk nsat
  let d : Dev := d.setB Reg.GNSS_STATUS.TIME_OK ok
  match ok, o.gpsTime with
  | true, some g => d.measureSource 0 ⟨g + 76000000000 - (4 * (o.epoch : Int) + d.time.offset), o.sigma, o.steer, o.leap, o.announced⟩
  | true, none => d
  | false, _ => if was then d.loseSource 0 else d

/-- A measurement epoch (R173 to R185), in the order of R185: integrity, fix, heading, seals, the offer of time. -/
def Dev.gnssEpoch (d : Dev) (o : GnssEpoch) : Dev :=
  let d : Dev := (d.setB Reg.GNSS_STATUS.BURST false).judgeJam o.noiseL1 o.noiseL5
  let shown := o.channels.filter (fun c => c.supported && !d.signalStopped c.signal)
  let tracks := shown.filter (fun c => c.locked)
  let ant := d.pickAnt tracks
  let sel := tracks.filter (fun c => c.onAnt ant)
  let d : Dev := d.keepDecoded o
  let d : Dev := (d.judgeIntegrity (d.spoofTests o sel tracks)).keepMeasures o sel
  let d : Dev := if o.sbas.isSome && tracks.any (fun c => c.system = 4) then { d with gnss := { d.gnss with sbasAt := o.sbas } } else d
  let ((fix, corrAt), used) := d.solution o sel
  let nsat := (satellites used).length
  let d : Dev := d.showChannels shown used
  let d : Dev := { d with gnss := { d.gnss with ranges := (satellites used).filterMap (satRange o.epoch used) } }
  let d : Dev := ((d.set Reg.GNSS_FIX.NSAT (min 255 nsat)).set Reg.GNSS_FIX.NSIG (min 255 used.length)).takeFix fix ant corrAt
  let (d, common, high) := d.epochHeading o tracks
  let d : Dev := if 4 ≤ nsat then { d with gnss := { d.gnss with
      position := some (o.lat, o.lon, (F32.mk o.height).to64.bits) } } else d
  let d : Dev := if d.running then d.sealEpoch o used fix ant nsat common high else d
  d.offerTime o nsat

/-- R173: a measurement epoch, on a multiple of 1,000 / GNSS.RATE ms of schedule time, while the receiver runs. -/
def execGnssEpoch (o : GnssEpoch) (s : State) : Host.Outcome State Fault Refusal :=
  s.run fun d => (d.advance o.epoch).whenUp fun d =>
    if d.flag Reg.GNSS_STATUS.RUNNING && d.param P.GNSS.RATE != 0 && o.epoch % d.epochPeriod = 0 then
      d.about o.epoch fun d => d.gnssEpoch o else d

/-- The reference clock switches (R185): T4 is not evaluated for 10 s, and its oscillator model starts anew. -/
def Dev.blockT4 (d : Dev) : Dev := { d with gnss := { d.gnss with t4Blocked := d.sched.st + 10000000000, biases := [] } }

/-- The expert registers clear on leaving M7 (R190); a record if either was set. -/
def Dev.gnssLeaveM7 (d : Dev) : Dev :=
  if d.get Reg.GNSS_XSIG.DISABLE = 0 && d.get Reg.GNSS_XTEST.INHIBIT = 0 then d
  else ((d.set Reg.GNSS_XSIG.DISABLE 0).set Reg.GNSS_XTEST.INHIBIT 0).gnssNote 6 [0x88000, 0x88004]

end Sys2Proof.Machine
end

