-- ==== Sys2Proof/Machine/Fusion.lean ====
section
/-! DEFINITION. Reference fusion and the vessel state: transforms, judging, the update with its late data, dead reckoning,
object tracks and the output (R215 to R248). -/
namespace Sys2Proof.Machine
open Sys2Proof

/-- Capture registers of a reference event: status and the reference's words (R242, R244). -/
def refCaps (s : Nat) : List Nat := [0xA0000] ++ (List.range 6).map (fun k => 0xA0100 + 0x20 * s + 4 * k)

/-- A reference's track. -/
def Dev.ref (d : Dev) (s : Nat) : RefTrack := d.fus.refs.getD s RefTrack.none

/-- Change a reference's track. -/
def Dev.setRef (d : Dev) (s : Nat) (f : RefTrack → RefTrack) : Dev :=
  { d with fus := { d.fus with refs := modAt d.fus.refs s f } }

/-- A reference's state (R229). -/
def Dev.refState (d : Dev) (s : Nat) : Nat := d.get (Reg.FUS_REF.REF_STAT.STATE s)

/-- The group of references a slot belongs to: positions, headings, MRUs, wind, logs. -/
def refGroup (s : Nat) : List Nat :=
  if s < 16 then List.range 16
  else if s < 20 then [16, 17, 18, 19]
  else if s < 23 then [20, 21, 22]
  else if s < 26 then [23, 24, 25]
  else [26, 27]

/-- References of a group that are ADMITTED. -/
def Dev.admitted (d : Dev) (g : List Nat) : List Nat := g.filter (fun s => d.refState s = 2)

/-- The filter is initialised. -/
def Dev.fusInit (d : Dev) : Bool := d.flag Reg.FUS_STATUS.INIT

/-! ## Dead reckoning and counts (R234) -/

/-- FUS_DR counts the time of dead reckoning that holds (R235). -/
def Dev.countDr (d : Dev) : Dev :=
  let tenths (o : Option Nat) : Nat := min 65535 ((d.sched.st - o.getD d.sched.st) / 100000000)
  let d : Dev := if d.flag Reg.FUS_STATUS.DR then d.set Reg.FUS_DR.POS_TIME (tenths d.fus.drSince) else d
  if d.flag Reg.FUS_STATUS.HDG_DR then d.set Reg.FUS_DR.HDG_TIME (tenths d.fus.hdgSince) else d

/-- Position dead reckoning begins or ends, FUS_DR keeping its duration; `event` says whether E49 is raised (R234, R235). -/
def Dev.setDr (d : Dev) (b event : Bool) : Dev :=
  let d : Dev := { (((d.countDr).setB Reg.FUS_STATUS.DR b).setBitAt Reg.SYS_MODE.STATES 0 b) with
    fus := { d.fus with drSince := if b then some d.sched.st else none } }
  if b then
    let d : Dev := d.set Reg.FUS_DR.POS_TIME 0
    if event then d.raise 49 [0xA0000, 0xA0004] else d
  else
    ((d.setB Reg.FUS_STATUS.DR_EXPIRED false).setBitAt Reg.SYS_MODE.STATES 11 false).note 0x01 0x0A 1 [d.word 0xA0000]

/-- Heading dead reckoning begins or ends (R234). -/
def Dev.setHdgDr (d : Dev) (b : Bool) : Dev :=
  let d : Dev := { (((d.countDr).setB Reg.FUS_STATUS.HDG_DR b).setBitAt Reg.SYS_MODE.STATES 2 b) with
    fus := { d.fus with hdgSince := if b then some d.sched.st else none } }
  if b then d.set Reg.FUS_DR.HDG_TIME 0 else d.note 0x01 0x0A 2 [d.word 0xA0000]

/-- Count the ADMITTED references and follow dead reckoning and REF_LOW (R234, R242). -/
def Dev.countRefs (d : Dev) : Dev :=
  let np := (d.admitted (refGroup 0)).length
  let nh := (d.admitted (refGroup 16)).length
  let low := np < d.param P.SYS.M5_MIN_REFS
  let d : Dev := (d.set Reg.FUS_STATUS.N_POS_ADM np).set Reg.FUS_STATUS.N_HDG_ADM nh
  let d : Dev := (d.setB Reg.FUS_STATUS.REF_LOW low).setBitAt Reg.SYS_MODE.STATES 1 low
  if !d.fusInit then d
  else
    let dr := d.flag Reg.FUS_STATUS.DR
    let hd := d.flag Reg.FUS_STATUS.HDG_DR
    let d : Dev := if np = 0 && !dr then d.setDr true true else if 0 < np && dr then d.setDr false false else d
    if nh = 0 && !hd then d.setHdgDr true else if 0 < nh && hd then d.setHdgDr false else d

/-! ## Reference states (R229) -/

/-- Move a reference to a state with a cause: a record at each change, E46 on leaving ADMITTED or SUSPECT for REJECTED, E47
on admission (R229). -/
def Dev.moveRef (d : Dev) (s state cause : Nat) : Dev :=
  let from_ := d.refState s
  let d : Dev := d.set (Reg.FUS_REF.REF_STAT.CAUSE s) cause
  if from_ = state then d
  else
    let d : Dev := d.set (Reg.FUS_REF.REF_STAT.STATE s) state
    let now := d.sched.st
    let d : Dev := d.setRef s (fun r => { r with
      passes := 0
      passSince := none
      suspectSince := if state = 3 then some now else none })
    let d : Dev :=
      if state = 4 then
        let d : Dev := d.inc (Reg.FUS_REF.REF_STAT.REJECTS s)
        if from_ = 2 || from_ = 3 then (d.setB Reg.FUS_STATUS.REJ_STICKY true).raise 46 (refCaps s)
        else d.note 0x01 0x0A 3 ((refCaps s).map d.word)
      else if state = 2 && from_ = 1 then (d.setB Reg.FUS_STATUS.READMIT_STICKY true).raise 47 (refCaps s)
      else d.note 0x01 0x0A 3 ((refCaps s).map d.word)
    d.countRefs

/-- A READMITTING reference has passed without a break for FUS.READMIT_TIME (R229). -/
def Dev.readmitCheck (d : Dev) (s : Nat) : Dev :=
  if d.refState s = 1 && heldFor d.sched.st (d.paramNs P.FUS.READMIT_TIME) (d.ref s).passSince then d.moveRef s 2 0 else d

/-- A reference has stayed SUSPECT for FUS.SUSPECT_MAX (R229). -/
def Dev.suspectCheck (d : Dev) (s : Nat) : Dev :=
  if d.refState s = 3 && heldFor d.sched.st (d.paramNs P.FUS.SUSPECT_MAX) (d.ref s).suspectSince then
    d.moveRef s 4 (d.get (Reg.FUS_REF.REF_STAT.CAUSE s))
  else d

/-- The slot of a reference has timed out (R229): REJECTED with cause 7, but for OFF and DESELECTED. -/
def Dev.refTimeout (d : Dev) (s : Nat) : Dev :=
  if 28 ≤ s || d.refState s = 0 || d.refState s = 5 then d else d.moveRef s 4 7

/-! ## Payloads and transforms (R217, R218, R225) -/

/-- A field of transform entry `t` as a number. -/
def Dev.xfF (d : Dev) (x : Field) : F64 := (d.getF x).to64

/-- The lever arm of a transform entry. -/
def Dev.lever (d : Dev) (t : Nat) : Vec := [d.xfF (Reg.FUS_XFORM.X.X t), d.xfF (Reg.FUS_XFORM.Y.Y t), d.xfF (Reg.FUS_XFORM.Z.Z t)]

/-- The mounting rotation of a transform entry (R217). -/
def Dev.mount (d : Dev) (t : Nat) : Mat :=
  rotZYX (radOfBam (d.word (0xA0810 + 0x20 * t))) (radOfBam (d.word (0xA0814 + 0x20 * t)))
    (radOfBam (d.word (0xA0818 + 0x20 * t)))

/-- The time offset of a transform entry in ns (R219). -/
def Dev.toff (d : Dev) (t : Nat) : Int := (d.word (0xA081C + 0x20 * t)).toInt

/-- The transform entries that bind a datum (R217): valid, of its slot, and for a PVT of its antenna. -/
def Dev.xforms (d : Dev) (slot : Nat) (p : Packet) : List Nat :=
  let ant := if p.tag.kind = 0x07 then (p.payload.getD 12 0).toNat / 16777216 else 0
  (List.range 32).filter fun t =>
    d.flag (Reg.FUS_XFORM.XF_CFG.VALID t) && d.get (Reg.FUS_XFORM.XF_CFG.SLOT t) = slot
      && (d.get (Reg.FUS_XFORM.XF_CFG.ANT t) = 0 || p.tag.kind != 0x07 || d.get (Reg.FUS_XFORM.XF_CFG.ANT t) = ant + 1)

/-- Roll, pitch and heave of an MRU at a time (R218): interpolated between the samples that bracket it; the newest
one after it, the oldest held one before all. -/
def attAt : List AttSample → Int → F64 × F64 × F64
  | [], _ => (F64.zero, F64.zero, F64.zero)
  | [a], _ => (a.roll, a.pitch, a.heave)
  | b :: a :: rest, t =>
    if b.t ≤ t then (b.roll, b.pitch, b.heave)
    else if a.t ≤ t then
      let k := F64.ofRatio (t - a.t) ((b.t - a.t).toNat)
      let mix (u v : F64) : F64 := u.add (k.mul (v.sub u))
      (mix a.roll b.roll, mix a.pitch b.pitch, mix a.heave b.heave)
    else attAt (a :: rest) t

/-- The attitude source takes an MRU's data: its reference is ADMITTED, or it is one of two held that disagree (R228). -/
def Dev.mruUsed (d : Dev) (slot : Nat) : Bool := d.refState slot = 2 || (d.fus.attPair && d.refState slot = 3)

/-- The samples of the MRUs in the attitude source (R228). -/
def Dev.attLists (d : Dev) : List (List AttSample) :=
  (([20, 21, 22].zip d.fus.att).filter fun e => d.mruUsed e.1 && !e.2.isEmpty).map fun e => e.2

/-- The mean of a number over some samples' lists; 0 of none. -/
def meanOf (l : List F64) : F64 := if l.isEmpty then F64.zero else (F64.sum l).div (.ofInt l.length)

/-- Roll, pitch and heave of the attitude source at a time (R218, R228): the mean of its MRUs, each interpolated; 0 without one. -/
def Dev.attNow (d : Dev) (t : Int) : F64 × F64 × F64 :=
  let l := d.attLists
  let known := l.filter fun s => s.any fun a => a.t ≤ t
  let m := (if known.isEmpty then l else known).map fun s => attAt s t
  (meanOf (m.map fun a => a.1), meanOf (m.map fun a => a.2.1), meanOf (m.map fun a => a.2.2))

/-- R_nb at a time for a state (R218). -/
def Dev.attitude (d : Dev) (x : Vec) (t : Int) : Mat :=
  let a := d.attNow t
  rotZYX a.1 a.2.1 ((x.at 2).add (x.at 14))

/-- WGS 84: geodetic position in degrees and metres to earth-centred coordinates. -/
def ecef (lat lon h : F64) : Vec :=
  let a := F64.ofInt 6378137
  let e2 := F64.ofRatio 669437999014 100000000000000
  let sl := Config.sin (radOfDeg lat); let cl := Config.cos (radOfDeg lat)
  let n := a.div ((F64.one.sub (e2.mul sl.sq)).sqrt)
  [((n.add h).mul cl).mul (Config.cos (radOfDeg lon)), ((n.add h).mul cl).mul (Config.sin (radOfDeg lon)),
   ((n.mul (F64.one.sub e2)).add h).mul sl]

/-- North, east and down of a geodetic position from an origin (R218). -/
def nedFrom (o : F64 × F64 × F64) (lat lon h : F64) : Vec :=
  let dlt := Vec.sub (ecef lat lon h) (ecef o.1 o.2.1 o.2.2)
  let sl := Config.sin (radOfDeg o.1); let cl := Config.cos (radOfDeg o.1)
  let sg := Config.sin (radOfDeg o.2.1); let cg := Config.cos (radOfDeg o.2.1)
  let m : Mat := [[(sl.mul cg).neg, (sl.mul sg).neg, cl], [sg.neg, cg, F64.zero],
    [(cl.mul cg).neg, (cl.mul sg).neg, sl.neg]]
  m.mulVec dlt

/-- The vector from sensor to anchor in the sensor frame (types 2 and 3 of R218). -/
def relativeVector (type : Nat) (v : List F64) : Vec :=
  if type = 2 then [Vec.at v 0, Vec.at v 1, Vec.at v 2]
  else
    let sa := Config.sin (radOfDeg (Vec.at v 1)); let sb := Config.sin (radOfDeg (Vec.at v 2))
    Vec.scale (Vec.at v 0) [sa, sb, ((F64.one.sub sa.sq).sub sb.sq).sqrt]

/-- The anchor in force for a transform entry. -/
def Dev.anchorOf (d : Dev) (t : Nat) : Vec := d.fus.anchors.getD (d.get (Reg.FUS_XFORM.XF_CFG.ANCHOR t)) []

/-- The control-point position of a position datum (R218), north and east. -/
def Dev.positionOf (d : Dev) (t : Nat) (v : List F64) (x : Vec) (tEff : Int) : Vec :=
  let r := d.attitude x tEff
  let arm := d.lever t
  let type := d.get (Reg.FUS_XFORM.XF_CFG.TYPE t)
  let p :=
    if type = 0 then Vec.sub (nedFrom (d.fus.origin.getD (F64.zero, F64.zero, F64.zero)) (Vec.at v 0) (Vec.at v 1) (Vec.at v 2))
      (r.mulVec arm)
    else if type = 1 then Vec.sub [Vec.at v 0, Vec.at v 1, F64.zero] (r.mulVec arm)
    else Vec.sub (d.anchorOf t) (r.mulVec (Vec.add arm ((d.mount t).mulVec (relativeVector type v))))
  [p.at 0, p.at 1]

/-- The heading of a heading datum in radians (types 4 and 5 of R218). -/
def Dev.headingOf (d : Dev) (t : Nat) (p : Packet) (v : List F64) (tEff : Int) : F64 :=
  if p.tag.kind = 0x02 && d.get (Reg.FUS_XFORM.XF_CFG.TYPE t) = 5 then
    let az := radOfBam (p.payload.getD 0 0)
    let a := d.attNow tEff
    let w := (Mat.mul (rotY a.2.1) (rotX a.1) 3).mulVec ((d.mount t).mulVec [F64.one, F64.zero, F64.zero])
    let el := Config.cos (radOfBam (p.payload.getD 1 0))
    wrapRad ((Config.atan2 ((Config.sin az).mul el) ((Config.cos az).mul el)).sub (Config.atan2 (w.at 1) (w.at 0)))
  else wrapRad ((radOfDeg (Vec.at v 0)).sub (radOfBam (d.word (0xA0818 + 0x20 * t))))

/-- The covariance of a position datum (R225): its own deviations raised to σ_d with its correlation, or σ_d² I; and the
addition while ATT_DEG is set. -/
def Dev.positionCov (d : Dev) (slot t : Nat) (p : Packet) : Mat :=
  let sd := d.paramF (P.FUS.REF_SIGMA slot)
  let arm := (d.lever t).norm
  let extra := if d.flag Reg.FUS_STATUS.ATT_DEG then (arm.mul (.ofRatio 34899496702500972 1000000000000000000)).sq else F64.zero
  if p.tag.kind = 0x07 then
    let a := sd.max (f32At p.payload 8); let b := sd.max (f32At p.payload 9)
    let c := ((f32At p.payload 11).mul a).mul b
    [[a.sq.add extra, c], [c, b.sq.add extra]]
  else [[sd.sq.add extra, F64.zero], [F64.zero, sd.sq.add extra]]

/-- The standard deviation of a heading datum in radians (R225). -/
def Dev.headingSigma (d : Dev) (slot : Nat) (p : Packet) : F64 :=
  let sd := d.paramF (P.FUS.REF_SIGMA slot)
  radOfDeg (if p.tag.source = 86 then sd.max (f32At p.payload 3) else sd)

/-- The filter's model now (R222); the bias noise is 0 in position dead reckoning (R234). -/
def Dev.filterModel (d : Dev) (dr : Bool) : FilterModel where
  massInv := Mat.inv3 d.image.fus.mass
  damping := d.image.fus.damping
  w0 := d.paramF P.FUS.WAVE_W0
  zeta := d.paramF P.FUS.WAVE_ZETA
  qVel := [d.paramF (P.FUS.Q_VEL 0), d.paramF (P.FUS.Q_VEL 1), radOfDeg (radOfDeg (d.paramF (P.FUS.Q_VEL 2)))]
  qBias := if dr then Vec.zeros 3 else [d.paramF (P.FUS.Q_BIAS 0), d.paramF (P.FUS.Q_BIAS 1), d.paramF (P.FUS.Q_BIAS 2)]
  qWave := [d.paramF (P.FUS.Q_WAVE 0), d.paramF (P.FUS.Q_WAVE 1), radOfDeg (radOfDeg (d.paramF (P.FUS.Q_WAVE 2)))]

/-! ## Judging (R229 to R233) -/

/-- A test is inhibited in M7 (R247). -/
def Dev.fusInhibit (d : Dev) (i : Nat) : Bool := d.mode = 7 && d.bitAt Reg.FUS_XTEST.INHIBIT i

/-- A reference may vote (R231). -/
def Dev.mayVote (d : Dev) (s : Nat) : Bool := 1 ≤ d.refState s && d.refState s ≤ 3

/-- The other voters for a datum (R231): references of the group that may vote and whose latest datum is near in time. -/
def Dev.voters (d : Dev) (slot : Nat) (tEff : Int) : List Nat :=
  (refGroup slot).filter fun s =>
    s != slot && d.mayVote s
      && match (d.ref s).tEff with
        | some u => (u - tEff).natAbs ≤ d.paramNs P.FUS.VOTE_AGE
        | none => false

/-- Insert into an ascending list of numbers. -/
def insertF (a : F64) : List F64 → List F64
  | [] => [a]
  | b :: l => if a.le b then a :: b :: l else b :: insertF a l

/-- The median of some numbers; for an even count the mean of the two middle ones (R231). -/
def medianF (l : List F64) : F64 :=
  let s := l.foldl (fun acc a => insertF a acc) []
  let n := s.length
  if n % 2 = 1 then Vec.at s (n / 2)
  else ((Vec.at s (n / 2 - 1)).add (Vec.at s (n / 2))).div (.ofInt 2)

/-- Component-wise median of innovations of dimension `n`. -/
def medianVec (n : Nat) (l : List Vec) : Vec := (List.range n).map fun i => medianF (l.map (fun v => v.at i))

/-- The tolerance of the median rule (R231): metres, or radians for headings. -/
def Dev.voteTol (d : Dev) (slot : Nat) : F64 :=
  let three := (F64.ofInt 3).mul (d.paramF (P.FUS.REF_SIGMA slot))
  if slot < 16 then (d.paramF P.FUS.MEDIAN_TOL).max three
  else radOfDeg ((d.paramF P.FUS.MEDIAN_TOL_HDG).max three)

/-- Sample standard deviation. -/
def sampleSd (l : List F64) : F64 :=
  let n := l.length
  let m := (F64.sum l).div (.ofInt n)
  ((F64.sum (l.map (fun a => (a.sub m).sq))).div (.ofInt ((n : Int) - 1))).sqrt

/-- Bring a reference's test data up to a datum (R233): identical data in a row, the window, the wander mean. -/
def Dev.feedTests (d : Dev) (slot : Nat) (words : List Word) (nu : Vec) (tEff : Int) : Dev :=
  let others := (d.admitted (refGroup slot)).filter (· != slot)
  let r := d.ref slot
  let wander :=
    if slot < 16 && 2 ≤ others.length then
      let rel := Vec.sub nu (medianVec 2 (others.map (fun s => (d.ref s).innov)))
      match r.wanderAt with
      | none => rel
      | some u =>
        let dt := F64.ofRatio (max 0 (tEff - u)) 1000000000
        let k := F64.one.sub (Config.exp (dt.div (d.paramF P.FUS.WANDER_TC)).neg)
        Vec.add r.wander (Vec.scale k (Vec.sub rel r.wander))
    else r.wander
  d.setRef slot fun r => { r with
    same := if r.lastWords = words then r.same + 1 else 1
    lastWords := words
    window := (nu :: r.window).take (d.param P.FUS.VAR_WIN)
    wander := wander
    wanderAt := if slot < 16 && 2 ≤ others.length then some tEff else r.wanderAt }

/-- The first failing test of R233, by its cause: 4 freeze, 5 variance, 6 wander; 0 none. -/
def Dev.failingTest (d : Dev) (slot : Nat) : Nat :=
  let r := d.ref slot
  let heading : Bool := 16 ≤ slot && slot < 20
  let sd := if heading then radOfDeg (d.paramF (P.FUS.REF_SIGMA slot)) else d.paramF (P.FUS.REF_SIGMA slot)
  let others := (d.admitted (refGroup slot)).filter (· != slot)
  let dim := if heading then 1 else 2
  if !d.fusInhibit 0 && d.param P.FUS.FREEZE_N ≤ r.same then 4
  else if !d.fusInhibit 1 && d.param P.FUS.VAR_WIN ≤ r.window.length && (slot < 20 || 26 ≤ slot)
    && ((List.range dim).any fun i =>
      ((d.paramF P.FUS.VAR_MULT).mul sd).lt (sampleSd (r.window.map (fun v => v.at i)))) then 5
  else if slot < 16 && !d.fusInhibit 2 && 2 ≤ others.length && (d.paramF P.FUS.WANDER_TOL).lt (Vec.norm r.wander) then 6
  else 0

/-- Show what was judged of a datum (R244); headings in degrees. -/
def Dev.showInnov (d : Dev) (slot : Nat) (nu : Vec) (nis sigma : F64) (tov : Word) : Dev :=
  let deg (x : F64) : F32 := (if 16 ≤ slot && slot < 20 then degOfRad x else x).to32
  let d : Dev := (d.setF (Reg.FUS_REF.REF_INNOV_N.INNOV slot) (deg (nu.at 0))).setF (Reg.FUS_REF.REF_INNOV_E.INNOV slot)
    (if 16 ≤ slot && slot < 20 then F32.zero else (nu.at 1).to32)
  ((d.setF (Reg.FUS_REF.REF_NIS.NIS slot) nis.to32).setF (Reg.FUS_REF.REF_SIGMA.SIGMA slot) (deg sigma)).set
    (Reg.FUS_REF.REF_TOV.TS slot) tov.toNat

/-- E48 at the start of a disagreement of two references (R232). -/
def Dev.setDisagree (d : Dev) (slot : Nat) (b : Bool) : Dev :=
  let was := if slot < 16 then d.fus.disagreePos else d.fus.disagreeHdg
  let d : Dev := if slot < 16 then { d with fus := { d.fus with disagreePos := b } }
    else { d with fus := { d.fus with disagreeHdg := b } }
  if b && !was then (d.setB Reg.FUS_STATUS.DISAGREE_STICKY true).raise 48 (refCaps slot) else d

/-- The verdict on a datum by votes (R230 to R232): the cause of its failure, 0 for a pass; and a second reference that goes
to SUSPECT by arbitration. The datum of a reference that may not vote is held to the median of three voters or more. -/
def Dev.vote (d : Dev) (slot : Nat) (nu : Vec) (nis : F64) (gate : Bool) (tEff : Int) : Nat × Option Nat × Dev :=
  let vs := d.voters slot tEff
  let tol := d.voteTol slot
  let own := d.mayVote slot
  match vs with
  | [] => (if gate then 0 else 1, none, d)
  | [o] =>
    if !own then (if gate then 0 else 1, none, d)
    else
    let r := d.ref o
    if tol.lt (Vec.norm (Vec.sub nu r.innov)) then
      let d : Dev := d.setDisagree slot true
      if gate && r.gate then
        if nis.lt r.nis || (nis.eq r.nis && slot < o) then (0, some o, d) else (3, none, d)
      else if gate then (0, none, d)
      else (1, none, d)
    else (if gate then 0 else 1, none, d.setDisagree slot false)
  | _ =>
    let l := vs.map (fun s => (d.ref s).innov)
    let m := medianVec nu.length (if own then nu :: l else l)
    let bad := (own || 3 ≤ l.length) && !d.fusInhibit 3 && tol.lt (Vec.norm (Vec.sub nu m))
    (if !gate then 1 else if bad then 2 else 0, none, d)

/-- Take the verdict on a datum into its reference's state (R229, R233): whether the datum is applied, and the device. -/
def Dev.takeVerdict (d : Dev) (slot cause test : Nat) : Bool × Dev :=
  let now := d.sched.st
  let st := d.refState slot
  if test != 0 then
    let d : Dev := d.inc (Reg.FUS_REF.REF_STAT.FAILS slot)
    (false, if st = 5 then d else if st = 1 then
      (d.setRef slot (fun r => { r with passSince := none })).moveRef slot 4 test else d.moveRef slot 4 test)
  else if cause = 0 then
    let d : Dev := d.set (Reg.FUS_REF.REF_STAT.FAILS slot) 0
    if st = 1 then
      let d : Dev := (d.setRef slot (fun r => { r with passSince := some (r.passSince.getD now) })).readmitCheck slot
      (d.refState slot == 2, d)
    else if st = 2 then (true, d)
    else if st = 3 then
      let n := (d.ref slot).passes + 1
      if d.param P.FUS.CLEAR_N ≤ n then (true, d.moveRef slot 2 0)
      else (false, d.setRef slot (fun r => { r with passes := n }))
    else if st = 4 then
      let d : Dev := d.moveRef slot 1 0
      (false, d.setRef slot (fun r => { r with passSince := some now }))
    else (false, d)
  else
    let d : Dev := d.inc (Reg.FUS_REF.REF_STAT.FAILS slot)
    if st = 1 then (false, d.setRef slot (fun r => { r with passSince := none }))
    else if st = 2 then (false, d.moveRef slot 3 cause)
    else if st = 3 then
      let d : Dev := d.setRef slot (fun r => { r with passes := 0 })
      (false, if d.param P.FUS.REJECT_N ≤ d.get (Reg.FUS_REF.REF_STAT.FAILS slot) then d.moveRef slot 4 cause else d)
    else (false, d)

/-- A datum with the SUSPECT flag holds its reference in SUSPECT with cause 8 (R229): neither a pass nor a failure, and no vote. -/
def Dev.holdSuspect (d : Dev) (slot : Nat) : Dev :=
  let st := d.refState slot
  if st = 4 || st = 5 then d
  else if st = 3 then d.set (Reg.FUS_REF.REF_STAT.CAUSE slot) 8
  else d.moveRef slot 3 8

/-- Judge a position or heading datum (R229 to R233). -/
def Dev.judgeRef (d : Dev) (slot : Nat) (p : Packet) (ms : Measure) (sigma : F64) (tEff : Int) (m : FilterModel)
    (xp : Vec × Mat) : Bool × Dev :=
  let (nu, nis) := m.innovation ms xp
  let d : Dev := d.showInnov slot nu nis sigma p.tag.tov
  let d : Dev := if d.refState slot = 0 then d.moveRef slot 1 0 else d
  if p.flag 4 then (false, d.holdSuspect slot)
  else
    let gate := nis.le (d.paramF P.FUS.GATE)
    let d : Dev := d.feedTests slot p.payload nu tEff
    let test := d.failingTest slot
    let (cause, other, d) := d.vote slot nu nis gate tEff
    let d : Dev := d.setRef slot (fun r => { r with innov := nu, nis := nis, tEff := some tEff, gate := gate })
    let d : Dev := match other with
      | some o => if d.refState o = 2 then d.moveRef o 3 3 else d
      | none => d
    d.takeVerdict slot cause test

/-- Judge a speed log or DVL: the gate and the tests, no vote (R228). -/
def Dev.judgeLog (d : Dev) (slot : Nat) (p : Packet) (ms : Measure) (sigma : F64) (tEff : Int) (m : FilterModel)
    (xp : Vec × Mat) : Bool × Dev :=
  let (nu, nis) := m.innovation ms xp
  let d : Dev := d.showInnov slot nu nis sigma p.tag.tov
  let d : Dev := if d.refState slot = 0 then d.moveRef slot 1 0 else d
  if p.flag 4 then (false, d.holdSuspect slot)
  else
    let d : Dev := d.feedTests slot p.payload nu tEff
    let gate := nis.le (d.paramF P.FUS.GATE)
    let d : Dev := d.setRef slot (fun r => { r with innov := nu, nis := nis, tEff := some tEff, gate := gate })
    d.takeVerdict slot (if gate then 0 else 1) (d.failingTest slot)

/-! ## Attitude and wind (R228) -/

/-- Set or clear ATT_DEG. -/
def Dev.setAttDeg (d : Dev) (b : Bool) : Dev := d.setB Reg.FUS_STATUS.ATT_DEG b

/-- Put a sample into an MRU's list, newest first; one of the same time takes the place of the one before it (R218). -/
def insertAtt (a : AttSample) : List AttSample → List AttSample
  | [] => [a]
  | b :: l => if b.t < a.t then a :: b :: l else if b.t = a.t then a :: l else b :: insertAtt a l

/-- A new sample of an MRU for the attitude source (R218). -/
def Dev.pushAtt (d : Dev) (slot : Nat) (a : AttSample) : Dev :=
  { d with fus := { d.fus with att := modAt d.fus.att (slot - 20) (fun l => (insertAtt a l).take 4096) } }

/-- MRUs that may vote, with their latest samples near a time (R228, R231). -/
def Dev.liveMru (d : Dev) (t : Int) : List (Nat × AttSample) :=
  ([20, 21, 22].zip d.fus.mru).filterMap fun e => match e.2 with
    | some a => if d.mayVote e.1 && (a.t - t).natAbs ≤ d.paramNs P.FUS.VOTE_AGE then some (e.1, a) else none
    | none => none

/-- Two MRUs disagree by more than the tolerance (R228). -/
def Dev.mruApart (d : Dev) (live : List (Nat × AttSample)) : Bool :=
  let tol := radOfDeg (d.paramF P.FUS.MEDIAN_TOL_ATT)
  match live with
  | [a, b] => tol.lt (a.2.roll.sub b.2.roll).abs || tol.lt (a.2.pitch.sub b.2.pitch).abs
  | _ => false

/-- Two MRUs have disagreed for 1 s (R228): both are held SUSPECT, with ATT_DEG and E48. -/
def Dev.holdPair (d : Dev) : Dev :=
  if d.fus.attPair || !heldFor d.sched.st 1000000000 d.fus.attSince then d
  else
    let d : Dev := { d with fus := { d.fus with attPair := true } }
    let d : Dev := [20, 21, 22].foldl (fun d s => if d.refState s = 1 || d.refState s = 2 then d.moveRef s 3 2 else d) d
    ((d.setAttDeg true).setB Reg.FUS_STATUS.DISAGREE_STICKY true).raise 48 (refCaps 20)

/-- Follow the disagreement of two MRUs (R228). -/
def Dev.followPair (d : Dev) (apart : Bool) : Dev :=
  let d : Dev := { d with fus := { d.fus with attSince := since d.sched.st apart d.fus.attSince, attPair := d.fus.attPair && apart } }
  d.holdPair

/-- ATT_DEG (R228): set with two MRUs that disagree, and without an MRU. -/
def Dev.judgeAtt (d : Dev) : Dev := d.setAttDeg (d.fus.attPair || d.attLists.isEmpty)

/-- An MRU datum (R218, R228): body roll and pitch through the mounting, the vote on roll and pitch, the freeze test, and the
sample for the attitude source. While two MRUs that disagree are held, their data neither pass nor fail. -/
def Dev.takeMru (d : Dev) (slot t : Nat) (p : Packet) (v : List F64) (tEff : Int) : Dev :=
  let r := Mat.mul (rotZYX (radOfDeg (Vec.at v 0)) (radOfDeg (Vec.at v 1)) F64.zero) ((d.mount t).trans 3) 3
  let a : AttSample := ⟨tEff, Config.atan2 (r.at 2 1) (r.at 2 2), Config.asin (r.at 2 0).neg, Vec.at v 2⟩
  let d : Dev := if d.refState slot = 0 then d.moveRef slot 1 0 else d
  if p.flag 4 then d.holdSuspect slot
  else
    let d : Dev := if (d.fus.mru.getD (slot - 20) none).all fun b => b.t ≤ a.t then { d with fus := { d.fus with mru := setAt d.fus.mru (slot - 20) (some a) } } else d
    let live := d.liveMru tEff
    let others := (live.filter fun e => e.1 != slot).map fun e => e.2
    let all := if d.mayVote slot then a :: others else others
    let tol := radOfDeg ((d.paramF P.FUS.MEDIAN_TOL_ATT).max ((F64.ofInt 3).mul (d.paramF (P.FUS.REF_SIGMA slot))))
    let dev (f : AttSample → F64) : F64 := (f a).sub (medianF ((if all.isEmpty then [a] else all).map f))
    let bad := 3 ≤ all.length && !d.fusInhibit 3 && (tol.lt (dev (fun a => a.roll)).abs || tol.lt (dev (fun a => a.pitch)).abs)
    let d : Dev := d.feedTests slot p.payload [] tEff
    let d : Dev := ((d.setF (Reg.FUS_REF.REF_INNOV_N.INNOV slot) (degOfRad (dev (fun a => a.roll))).to32).setF
      (Reg.FUS_REF.REF_INNOV_E.INNOV slot) (degOfRad (dev (fun a => a.pitch))).to32).set (Reg.FUS_REF.REF_TOV.TS slot)
      p.tag.tov.toNat
    let d : Dev := d.followPair (d.mruApart live)
    let test := d.failingTest slot
    let d : Dev := if d.fus.attPair && test = 0 && d.refState slot = 3 then d else (d.takeVerdict slot (if bad then 2 else 0) test).2
    (if d.mruUsed slot then d.pushAtt slot a else d).judgeAtt

/-- A wind datum (R228): the freeze test, and for an ADMITTED reference the true wind from the apparent wind and the vessel's motion. -/
def Dev.takeWind (d : Dev) (slot : Nat) (p : Packet) (v : List F64) (tEff : Int) (x : Vec) : Dev :=
  let d : Dev := if d.refState slot = 0 then d.moveRef slot 1 0 else d
  let d : Dev := (d.feedTests slot p.payload [] tEff).set (Reg.FUS_REF.REF_TOV.TS slot) p.tag.tov.toNat
  let d : Dev := if p.flag 4 then d.holdSuspect slot else (d.takeVerdict slot 0 (d.failingTest slot)).2
  let psi := x.at 2
  let dir := psi.add (radOfDeg (Vec.at v 1))
  let vN := ((Config.cos psi).mul (x.at 3)).sub ((Config.sin psi).mul (x.at 4))
  let vE := ((Config.sin psi).mul (x.at 3)).add ((Config.cos psi).mul (x.at 4))
  let wN := vN.sub ((Vec.at v 0).mul (Config.cos dir))
  let wE := vE.sub ((Vec.at v 0).mul (Config.sin dir))
  if d.refState slot != 2 then d
  else { d with fus := { d.fus with wind := (Vec.norm [wN, wE], Config.atan2 wE.neg wN.neg) } }

/-- R228: two MRUs have disagreed for 1 s. -/
def execAttitudeDisagreeTimer (t : Nat) (s : State) : Host.Outcome State Fault Refusal :=
  s.run fun d => (d.advance t).whenUp fun d => d.holdPair

/-! ## Objects (R239, R240) -/

/-- An object's track. -/
def Dev.obj (d : Dev) (k : Nat) : ObjTrack := d.fus.objs.getD k ⟨[], [], 0, none⟩

/-- Change an object's track. -/
def Dev.setObj (d : Dev) (k : Nat) (o : ObjTrack) : Dev := { d with fus := { d.fus with objs := setAt d.fus.objs k o } }

/-- The larger horizontal standard deviation of a covariance. -/
def sigP (p : Mat) : F64 :=
  let a := p.at 0 0; let b := p.at 1 1; let c := p.at 0 1
  let h := F64.ofRatio 1 2
  let m := (a.add b).mul h
  (m.add ((((a.sub b).mul h).sq.add c.sq).sqrt)).sqrt

/-- An object's state with its heading within a turn (R5, R239). -/
def wrapObject (x : Vec) : Vec := x.mapIdx fun i a => if i = 4 then wrapRad a else a

/-- A track's state and covariance propagated from its last update to a time (R223, R239). -/
def Dev.objAt (d : Dev) (k : Nat) (t : Int) : Vec × Mat :=
  let o := d.obj k
  let ns := (t - o.lastAt.getD t).toNat
  let e := objectPropagate (d.paramF P.FUS.OBJ_Q_ACC) (radOfDeg (radOfDeg (d.paramF P.FUS.OBJ_Q_YAW))) (ns / 10000000 + 1) ns (o.x, o.p)
  (wrapObject e.1, e.2)

/-- Show an object's track as it stands at the current time (R246). -/
def Dev.showObj (d : Dev) (k : Nat) : Dev :=
  let (x, p) := d.objAt k d.sched.st
  let f (i : Nat) : F32 := (x.at i).to32
  let d : Dev := ((d.setF (Reg.FUS_OBJ.N.N k) (f 0)).setF (Reg.FUS_OBJ.E.E k) (f 1)).setF (Reg.FUS_OBJ.VN.VN k) (f 2)
  let d : Dev := (d.setF (Reg.FUS_OBJ.VE.VE k) (f 3)).set (Reg.FUS_OBJ.HDG.HDG k) (bamOfRad (x.at 4)).toNat
  d.setF (Reg.FUS_OBJ.SIG.SIG k) (sigP p).to32

/-- The track is lost (R240): E52; the target's loss in M6 sets TARGET_LOST. -/
def Dev.loseObj (d : Dev) (k : Nat) : Dev :=
  let d : Dev := (((d.set (Reg.FUS_OBJ.OBJ.STATE k) 4).inc (Reg.FUS_OBJ.OBJ.LOSSES k)).setB Reg.FUS_STATUS.LOST_STICKY true).setObj k
    { d.obj k with accepted := 0 }
  let target := d.mode = 6 && d.flag Reg.SYS_MODE.TRACK_TARGET && d.param P.FUS.TARGET_OBJ = k
  let d : Dev := if target then d.setBitAt Reg.SYS_MODE.STATES 8 true else d
  d.raise 52 [0xA0000, 0xA0D00 + 0x20 * k]

/-- Follow an object's state with time (R240): COASTING from 5 s without data, LOST after FUS.OBJ_COAST of it or beyond
FUS.OBJ_SIG_MAX. -/
def Dev.ageObj (d : Dev) (k : Nat) : Dev :=
  let o := d.obj k
  let st := d.get (Reg.FUS_OBJ.OBJ.STATE k)
  match o.lastAt with
  | none => d
  | some u =>
    if st != 2 && st != 3 then d
    else
      let age := (d.sched.st : Int) - u
      let d : Dev := if 5000000000 ≤ age then d.set (Reg.FUS_OBJ.OBJ.STATE k) 3 else d
      if (5000000000 + (d.paramNs P.FUS.OBJ_COAST : Int) ≤ age) || (d.paramF P.FUS.OBJ_SIG_MAX).lt (sigP (d.objAt k d.sched.st).2) then d.loseObj k
      else d

/-- At an update a track's state is followed and its registers show it as it stands (R239, R246). -/
def Dev.showTrack (d : Dev) (k : Nat) : Dev :=
  let d : Dev := d.ageObj k
  if d.get (Reg.FUS_OBJ.OBJ.STATE k) = 0 then d else d.showObj k

/-- R240: an object passes 5 s without data, or coasts for FUS.OBJ_COAST. -/
def execTrackCoastTimer (t object : Nat) (s : State) : Host.Outcome State Fault Refusal :=
  s.run fun d => (d.advance t).whenUp fun d => if object < 8 then d.ageObj object else d

/-- An object datum is older than its track's last update (R239). -/
def Dev.objOld (d : Dev) (k : Nat) (tEff : Int) : Bool := (d.obj k).lastAt.any fun u => tEff < u

/-- An object datum (R239): judged by the gate once the track is out of INITIATING, then applied; older than the track's last
update it is dropped without an event. Whether it is applied, and the device. -/
def Dev.takeObj (d : Dev) (k slot t : Nat) (v : List F64) (p : Packet) (tEff : Int) (x : Vec) (pOwn : Mat) : Bool × Dev :=
  let type := d.get (Reg.FUS_XFORM.XF_CFG.TYPE t)
  let heading := type = 4
  let rnb := d.attitude x tEff
  let z : Vec :=
    if heading then [d.headingOf t p v tEff]
    else if type = 0 then (nedFrom (d.fus.origin.getD (F64.zero, F64.zero, F64.zero)) (Vec.at v 0) (Vec.at v 1) (Vec.at v 2)).take 2
    else if type = 1 then [Vec.at v 0, Vec.at v 1]
    else
      let m := rnb.mulVec (Vec.add (d.lever t) ((d.mount t).mulVec (relativeVector type v)))
      [(x.at 0).add (m.at 0), (x.at 1).add (m.at 1)]
  let r : Mat :=
    if heading then [[(d.headingSigma slot p).sq]]
    else Mat.add (d.positionCov slot t p) [[pOwn.at 0 0, pOwn.at 0 1], [pOwn.at 1 0, pOwn.at 1 1]]
  let o := d.obj k
  let fresh : Vec × Mat := (if heading then [F64.zero, F64.zero, F64.zero, F64.zero, z.at 0, F64.zero]
      else [z.at 0, z.at 1, F64.zero, F64.zero, F64.zero, F64.zero],
    Mat.diag [r.at 0 0, r.at 1 1, F64.ofInt 4, F64.ofInt 4, F64.one, F64.one])
  if d.objOld k tEff then (false, d)
  else
    let st := d.get (Reg.FUS_OBJ.OBJ.STATE k)
    let (xp, pass) :=
      match o.lastAt with
      | none => (fresh, true)
      | some _ =>
        if st = 0 || st = 4 then (fresh, true)
        else
          let xp := d.objAt k tEff
          let (_, nis) := objectInnovation heading z r xp
          if st = 1 || nis.le (d.paramF P.FUS.GATE) then (objectApply heading z r xp, true) else (xp, false)
    if !pass then (false, d)
    else
      let n := (if st = 0 || st = 4 then 0 else o.accepted) + 1
      let d : Dev := (d.setObj k ⟨wrapObject xp.1, xp.2, n, some tEff⟩).set (Reg.FUS_OBJ.OBJ.STATE k) (if n < 3 then 1 else 2)
      let d : Dev := if 3 ≤ n && d.param P.FUS.TARGET_OBJ = k then d.setBitAt Reg.SYS_MODE.STATES 8 false else d
      (true, d.set (Reg.FUS_OBJ.TOV.TOV k) p.tag.tov.toNat)

/-! ## The update (R215, R216, R236 to R238) -/

/-- A datum that fusion takes: slot, transform entry, packet, effective time. -/
structure Datum where
  slot : Nat
  xf : Nat
  pkt : Packet
  tEff : Int
deriving DecidableEq, Repr, Inhabited

/-- The order of R215: effective time, then slot, then seal. -/
def Datum.before (a b : Datum) : Bool :=
  a.tEff < b.tEff || (a.tEff == b.tEff && (a.slot < b.slot || (a.slot == b.slot && a.pkt.sealedAt ≤ b.pkt.sealedAt)))

/-- Insert a datum in the order of R215. -/
def insertDatum (a : Datum) : List Datum → List Datum
  | [] => [a]
  | b :: l => if a.before b then a :: b :: l else b :: insertDatum a l

/-- The state being computed in an update: device, state and covariance, the time reached, the log so far, the slots whose data were
applied, from which times dead reckoning of position held or not, latest first (R234), and the data used, each with the object that it is
for, none for the own vessel (R122, R124). -/
structure Running where
  dev : Dev
  xp : Vec × Mat
  t : Int
  log : List Applied
  used : List Nat
  drs : List (Int × Bool)
  pkts : List (Option Nat × Packet)

/-- Note a datum as used (R122, R124). -/
def Running.use (r : Running) (k : Option Nat) (p : Packet) : Running := { r with pkts := r.pkts ++ [(k, p)] }

/-- Whether dead reckoning of position held at a time, from the times at which it changed, latest first. -/
def drAt : List (Int × Bool) → Int → Bool
  | [], _ => true
  | [e], _ => e.2
  | e :: l, t => if e.1 ≤ t then e.2 else drAt l t

/-- Note dead reckoning as it stands at the time reached. -/
def Running.noteDr (r : Running) : Running :=
  let b := r.dev.flag Reg.FUS_STATUS.DR
  match r.drs with
  | e :: _ => if e.2 = b then r else { r with drs := (r.t, b) :: r.drs }
  | [] => { r with drs := [(r.t, b)] }

/-- Propagate the running state to a time. -/
def Running.upTo (r : Running) (tau : Vec) (dr : Bool) (t : Int) : Running :=
  let n := (t - r.t).toNat
  { r with xp := (r.dev.filterModel dr).propagate tau (n / 10000000 + 1) n r.xp, t := max r.t t }

/-- Propagate the running state to a time through stored changes of dead reckoning (R234, R237). -/
def Running.through (r : Running) (tau : Vec) (drs : List (Int × Bool)) (t : Int) : Running :=
  let cuts := ((drs.map fun e => e.1).filter fun u => r.t < u && u < t).reverse
  let r : Running := cuts.foldl (fun r u => r.upTo tau (drAt drs r.t) u) r
  r.upTo tau (drAt drs r.t) t

/-- Apply a measurement to the running state and log it. -/
def Running.take (r : Running) (slot : Nat) (tEff : Int) (ms : Measure) (dr : Bool) : Running :=
  { r with xp := (r.dev.filterModel dr).apply ms r.xp, log := r.log ++ [⟨tEff, slot, ms⟩], used := slot :: r.used }

/-- Judge one datum at the running state and apply it if it is used (R215). -/
def Running.judge (r : Running) (dr : Bool) (a : Datum) : Running :=
  let d : Dev := r.dev.onto a.pkt.tovNs
  let v := d.valuesOf a.slot a.pkt
  let m := d.filterModel dr
  let x := r.xp.1
  if d.flag (Reg.FUS_XFORM.XF_CFG.OBJ_EN a.xf) then
    let k := d.get (Reg.FUS_XFORM.XF_CFG.OBJ a.xf)
    let (use, d) := if k < d.get Reg.FUS_CAP.N_OBJ then d.takeObj k a.slot a.xf v a.pkt a.tEff x r.xp.2 else (false, d)
    let r : Running := { r with dev := d }
    if use then r.use (some k) a.pkt else r
  else if a.slot < 16 then
    let cov := d.positionCov a.slot a.xf a.pkt
    let ms : Measure := ⟨0, d.positionOf a.xf v x a.tEff, cov⟩
    let sigma := ((cov.at 0 0).max (cov.at 1 1)).sqrt
    let (use, d) := d.judgeRef a.slot a.pkt ms sigma a.tEff m r.xp
    let r : Running := { r with dev := d }
    if !use then r
    else
      let r : Running := (r.take a.slot a.tEff ms dr).use none a.pkt
      if a.pkt.tag.kind = 0x07 then
        let sd := d.paramF (P.FUS.REF_SIGMA a.slot)
        let mv : Measure := ⟨2, [f32At a.pkt.payload 5, f32At a.pkt.payload 6], [[sd.sq, F64.zero], [F64.zero, sd.sq]]⟩
        let (_, nis) := m.innovation mv r.xp
        if nis.le (d.paramF P.FUS.GATE) then r.take a.slot a.tEff mv dr else r
      else r
  else if a.slot < 20 then
    if a.pkt.tag.source = 86 && (a.pkt.payload.getD 4 0).toNat % 256 = 0 then r
    else
      let sg := d.headingSigma a.slot a.pkt
      let ms : Measure := ⟨1, [d.headingOf a.xf a.pkt v a.tEff], [[sg.sq]]⟩
      let (use, d) := d.judgeRef a.slot a.pkt ms sg a.tEff m r.xp
      let r : Running := { r with dev := d }
      if use then (r.take a.slot a.tEff ms dr).use none a.pkt else r
  else if a.slot < 23 then
    let d : Dev := d.takeMru a.slot a.xf a.pkt v a.tEff
    let r : Running := { r with dev := d }
    if d.mruUsed a.slot then r.use none a.pkt else r
  else if a.slot < 26 then
    let d : Dev := d.takeWind a.slot a.pkt v a.tEff x
    let r : Running := { r with dev := d }
    if d.refState a.slot = 2 then r.use none a.pkt else r
  else
    let sd := d.paramF (P.FUS.REF_SIGMA a.slot)
    let body := (d.mount a.xf).mulVec [Vec.at v 0, Vec.at v 1, Vec.at v 2]
    let arm := d.lever a.xf
    let rr := x.at 5
    let ms : Measure := ⟨3, [(body.at 0).add (rr.mul (arm.at 1)), (body.at 1).sub (rr.mul (arm.at 0))],
      [[sd.sq, F64.zero], [F64.zero, sd.sq]]⟩
    let (use, d) := d.judgeLog a.slot a.pkt ms sd a.tEff m r.xp
    let r : Running := { r with dev := d }
    if use then (r.take a.slot a.tEff ms dr).use none a.pkt else r

/-- What happens at one time of a re-run: a logged datum re-applied without judging, or a late datum judged (R237). -/
inductive Replay where
  | logged (a : Applied)
  | late (a : Datum)

/-- The effective time of a replayed datum. -/
def Replay.time : Replay → Int
  | .logged a => a.tEff
  | .late a => a.tEff

/-- Insert in ascending effective time. -/
def insertReplay (a : Replay) : List Replay → List Replay
  | [] => [a]
  | b :: l => if a.time < b.time then a :: b :: l else b :: insertReplay a l

/-- Re-run the stored releases after a base entry, oldest first (R237): the rewritten entries, newest first. -/
def rerun (r : Running) (late : List Datum) : List HistEntry → List HistEntry → Running × List HistEntry
  | [], done => (r, done)
  | e :: rest, done =>
    let mine := late.filter (fun a => a.tEff < (e.rel : Int) && r.t ≤ a.tEff)
    let events := mine.foldl (fun l a => insertReplay (.late a) l) (e.log.map Replay.logged)
    let r : Running := events.foldl (fun r ev =>
      let r : Running := r.through e.tau e.dr ev.time
      match ev with
      | .logged a => { r with xp := (r.dev.filterModel (drAt e.dr r.t)).apply a.ms r.xp, log := r.log ++ [a] }
      | .late a => r.judge (drAt e.dr r.t) a) { r with log := [] }
    let r : Running := r.through e.tau e.dr e.rel
    rerun r late rest ({ e with x := r.xp.1, p := r.xp.2, log := r.log } :: done)

/-- Note a late datum in the late-measurement registers (R242). -/
def Dev.noteLate (d : Dev) (a : Datum) (dropped : Bool) : Dev :=
  ((d.set Reg.FUS_OOSM_LAST.TOV a.pkt.tag.tov.toNat).set Reg.FUS_OOSM_INFO.SLOT a.slot).setB Reg.FUS_OOSM_INFO.DROPPED dropped

/-- Drop a late datum (R236, R238): counted, recorded, E51. -/
def Dev.dropLate (d : Dev) (a : Datum) : Dev :=
  ((((d.onto a.pkt.tovNs).noteLate a true).inc Reg.FUS_OOSM.DROPPED).setB Reg.FUS_STATUS.LATE_DROP_STICKY true).raise 51 [0xA0008, 0xA000C, 0xA0010]

/-- Retrodict the late data of an update (R236 to R238): those outside the window are dropped, those beyond FUS_CAP.OOSM_MAX
are deferred, the rest are merged into one re-run that rewrites the history. The data used, and the device. -/
def Dev.retrodict (d : Dev) (tRel : Nat) (late : List Datum) : List (Option Nat × Packet) × Dev :=
  let open_ := (tRel : Int) - d.paramNs P.FUS.LAG_WINDOW
  let oldest := d.fus.hist.getLast?.map (fun e => (e.rel : Int))
  let inside (a : Datum) : Bool := open_ ≤ a.tEff && (match oldest with
    | some o => o ≤ a.tEff
    | none => false)
  let d : Dev := (late.filter (fun a => !inside a)).foldl Dev.dropLate d
  let ok := late.filter inside
  let cap := d.get Reg.FUS_CAP.OOSM_MAX
  let now := ok.take cap
  let keep := ok.drop cap
  let d : Dev := (d.incBy Reg.FUS_OOSM_INFO.DEFERRED keep.length)
  let d : Dev := { d with fus := { d.fus with lateKept := keep.map (fun a => (a.slot, a.pkt)) } }
  match now with
  | [] => ([], d)
  | first :: _ =>
    let after := d.fus.hist.filter (fun e => first.tEff < (e.rel : Int))
    let before := d.fus.hist.filter (fun e => (e.rel : Int) ≤ first.tEff)
    match before with
    | [] => ([], d)
    | base :: _ =>
      let (r, done) := rerun ⟨d, (base.x, base.p), base.rel, [], [], [], []⟩ now after.reverse []
      let d : Dev := { r.dev with fus := { r.dev.fus with hist := done ++ before, late := true } }
      let d : Dev := r.used.foldl (fun d s => d.setB (Reg.FUS_REF.REF_STAT.USED s) true) d
      (r.pkts, now.foldl (fun d a =>
        (((d.onto a.pkt.tovNs).noteLate a false).inc Reg.FUS_OOSM.INCORP).raise 50 [0xA0008, 0xA000C, 0xA0010]) d)

/-- The best datum of a kind for initialisation: lowest σ (R226). -/
def lowestSigma : List (Datum × F64) → Option (Datum × F64)
  | [] => none
  | e :: l => match lowestSigma l with
    | none => some e
    | some f => if e.2.le f.2 then some e else some f

/-- Initialise the filter (R226): the data used, and the device. -/
def Dev.initFilter (d : Dev) (tRel : Nat) (data : List Datum) : List (Option Nat × Packet) × Dev :=
  let clean := data.filter (fun a => !a.pkt.flag 4 && !d.flag (Reg.FUS_XFORM.XF_CFG.OBJ_EN a.xf))
  let hdg := lowestSigma ((clean.filter (fun a => 16 ≤ a.slot && a.slot < 20
    && !(a.pkt.tag.source = 86 && (a.pkt.payload.getD 4 0).toNat % 256 = 0))).map (fun a => (a, d.headingSigma a.slot a.pkt)))
  let pos := lowestSigma ((clean.filter (fun a => a.slot < 16)).map (fun a =>
    let c := d.positionCov a.slot a.xf a.pkt
    (a, ((c.at 0 0).max (c.at 1 1)).sqrt)))
  match hdg, pos with
  | some (h, sh), some (a, sp) =>
    let psi := d.headingOf h.xf h.pkt (d.valuesOf h.slot h.pkt) h.tEff
    let v := d.valuesOf a.slot a.pkt
    let d : Dev :=
      if d.fus.origin.isNone then
        let o := if d.get (Reg.FUS_XFORM.XF_CFG.TYPE a.xf) = 0 then (Vec.at v 0, Vec.at v 1, Vec.at v 2)
          else (F64.zero, F64.zero, F64.zero)
        ({ d with fus := { d.fus with origin := some o } }).setB Reg.FUS_CTRL_RES.ORIGIN_VALID true
      else d
    let x0 : Vec := [F64.zero, F64.zero, psi] ++ Vec.zeros 12
    let ne := d.positionOf a.xf v x0 a.tEff
    let x := [ne.at 0, ne.at 1, psi] ++ Vec.zeros 12
    let deg2 := (radOfDeg (.ofInt 2)).sq
    let four := F64.ofInt 4
    let b := (F64.ofInt 500).sq
    let p := Mat.diag ([sp.sq, sp.sq, sh.sq, four, four, deg2, b, b, (F64.ofInt 50000).sq, F64.zero, F64.one, F64.zero, F64.one,
      F64.zero, (radOfDeg F64.one).sq])
    let d : Dev := { d with fus := { d.fus with hist := [⟨tRel, x, p, [], Vec.zeros 3, [(tRel, true)]⟩], initAt := some tRel } }
    let d : Dev := (List.range 20).foldl (fun d s =>
      if d.flag (Reg.ENTRY_SLOT.SLOT_STAT.CONFIGURED s) && d.refState s = 0 && (d.entry.slots.getD s none).isSome then
        d.moveRef s 1 0 else d) d
    let d : Dev := d.setB Reg.FUS_STATUS.INIT true
    let d : Dev := { ((d.setB Reg.FUS_STATUS.DR true).setBitAt Reg.SYS_MODE.STATES 0 true) with
      fus := { d.fus with drSince := some tRel } }
    ([(none, h.pkt), (none, a.pkt)], { ((d.setB Reg.FUS_STATUS.HDG_DR true).setBitAt Reg.SYS_MODE.STATES 2 true) with
      fus := { d.fus with hdgSince := some tRel } })
  | _, _ => ([], d)

/-- Convergence (R227). -/
def Dev.judgeConvergence (d : Dev) : Dev :=
  let ok := (d.xfF Reg.FUS_EST_SIGP.SIGP).lt (d.paramF P.FUS.CONV_POS) && (d.xfF Reg.FUS_EST_SIGH.SIGH).lt (d.paramF P.FUS.CONV_HDG)
    && d.get Reg.FUS_STATUS.N_POS_ADM != 0 && d.get Reg.FUS_STATUS.N_HDG_ADM != 0 && d.fusInit
  let d : Dev := { d with fus := { d.fus with convSince := since d.sched.st ok d.fus.convSince } }
  d.setB Reg.FUS_STATUS.CONVERGED (heldFor d.sched.st 10000000000 d.fus.convSince)

/-- R227: the conditions have held for 10 s without a break. -/
def execConvergenceTimer (t : Nat) (s : State) : Host.Outcome State Fault Refusal :=
  s.run fun d => (d.advance t).whenUp fun d =>
    if heldFor d.sched.st 10000000000 d.fus.convSince then d.setB Reg.FUS_STATUS.CONVERGED true else d

/-- Count dead-reckoning time, and its limit (R235). -/
def Dev.judgeDr (d : Dev) : Dev :=
  let d : Dev := d.countDr
  if d.flag Reg.FUS_STATUS.DR && !d.flag Reg.FUS_STATUS.DR_EXPIRED
    && heldFor d.sched.st (d.paramNs P.FUS.DR_LIMIT) d.fus.drSince then
    ((d.setB Reg.FUS_STATUS.DR_EXPIRED true).setBitAt Reg.SYS_MODE.STATES 11 true).raise 49 [0xA0000, 0xA0004]
  else d

/-- R235: dead reckoning has lasted FUS.DR_LIMIT. -/
def execDrLimitExpired (t : Nat) (s : State) : Host.Outcome State Fault Refusal :=
  s.run fun d => (d.advance t).whenUp fun d => d.judgeDr

/-- R229: a readmitting reference has passed for FUS.READMIT_TIME. -/
def execReadmitTimeExpiry (t slot : Nat) (s : State) : Host.Outcome State Fault Refusal :=
  s.run fun d => (d.advance t).whenUp fun d => if slot < 28 then d.readmitCheck slot else d

/-- R229: a reference has stayed SUSPECT for FUS.SUSPECT_MAX. -/
def execSuspectMaxExpiry (t slot : Nat) (s : State) : Host.Outcome State Fault Refusal :=
  s.run fun d => (d.advance t).whenUp fun d => if slot < 28 then d.suspectCheck slot else d

/-- The payload of the own-vessel state (R241). -/
def Dev.ownState (d : Dev) (tRel : Nat) (x : Vec) (p : Mat) : List Word :=
  let f (v : F64) : Word := v.to32.framed
  let sd (i : Nat) : F64 := (p.at i i).sqrt
  let corr := (p.at 0 1).div ((sd 0).mul (sd 1))
  let a := d.attNow tRel
  let st := (d.get Reg.FUS_STATUS.INIT) + 2 * d.get Reg.FUS_STATUS.CONVERGED + 4 * d.get Reg.FUS_STATUS.DR
    + 8 * d.get Reg.FUS_STATUS.HDG_DR + 16 * d.get Reg.FUS_STATUS.DR_EXPIRED + 32 * d.get Reg.FUS_STATUS.REF_LOW
    + 64 * d.get Reg.FUS_STATUS.ATT_DEG + 128 * bit d.fus.late + 256 * bit d.fus.carry
  let drMs := match d.fus.drSince with
    | some t => (tRel - t) / 1000000
    | none => 0
  quadWords (x.at 0).framed ++ quadWords (x.at 1).framed ++ [bamOfRad (x.at 2), f (x.at 3), f (x.at 4), f (degOfRad (x.at 5)),
    f (x.at 10), f (x.at 12), f (degOfRad (x.at 14)), f (x.at 6), f (x.at 7), f (x.at 8),
    f (sd 0), f (sd 1), f (degOfRad (sd 2)), f corr, f (sd 3), f (sd 4), f (degOfRad (sd 5)),
    f (degOfRad a.1), f (degOfRad a.2.1), f a.2.2, f d.fus.wind.1, bamOfRad d.fus.wind.2,
    BitVec.ofNat 32 (st + 65536 * d.get Reg.FUS_STATUS.N_POS_ADM + 16777216 * d.get Reg.FUS_STATUS.N_HDG_ADM),
    BitVec.ofNat 32 drMs, 0, 0, 0, 0]

/-- Show the estimate (R243). -/
def Dev.showEstimate (d : Dev) (tRel : Nat) (x : Vec) (p : Mat) : Dev :=
  let d : Dev := (d.set Reg.FUS_EST_TOV.TOV (ts32Of tRel).toNat).setD Reg.FUS_EST_N_LO.N Reg.FUS_EST_N_HI.N (x.at 0)
  let d : Dev := (d.setD Reg.FUS_EST_E_LO.E Reg.FUS_EST_E_HI.E (x.at 1)).set Reg.FUS_EST_HDG.HDG (bamOfRad (x.at 2)).toNat
  (d.setF Reg.FUS_EST_SIGP.SIGP (sigP p).to32).setF Reg.FUS_EST_SIGH.SIGH (degOfRad (p.at 2 2).sqrt).to32

/-- Take the data of the update from entry (R18, R123): sealed before the release, with their checks holding. -/
def Dev.takeFresh (d : Dev) (tRel : Nat) (fault : ChainFault) : List (Nat × Packet) × Dev :=
  let mine := d.entry.fresh.filter (fun e => e.2.sealedAt < tRel)
  let rest := d.entry.fresh.filter (fun e => tRel ≤ e.2.sealedAt)
  let d : Dev := { d with entry := { d.entry with fresh := rest } }
  ((List.range mine.length).zip mine).foldl (fun (acc : List (Nat × Packet) × Dev) e =>
    let (i, slot, p) := e
    match acc.2.verify .fusion 8 fault i p with
    | (.good, d) => (acc.1 ++ [(slot, p)], d)
    | (_, d) => (acc.1, d)) ([], d)

/-- Seal the update's outputs (R241): the own-vessel state from the own vessel's data, and each object's track from those and the object's
own (R122, R124). A disagreement of the datapaths is one of the own-vessel state. -/
def Dev.sealFusion (d : Dev) (tRel : Nat) (x : Vec) (p : Mat) (ins : List (Option Nat × Packet)) (fault : ChainFault) : Dev :=
  let own : BitVec 8 := if d.mode = 7 && d.get Reg.FUS_XTEST.INHIBIT != 0 then 0x10 else 0
  let of_ (k : Option Nat) : List Packet := (ins.filter (fun e => e.1.isNone || e.1 == k)).map (fun e => e.2)
  let d : Dev := d.emit .fusion 8 0x10 0 own tRel (of_ none) (d.ownState tRel x p) fault
  (List.range 8).foldl (fun d k =>
    if d.get (Reg.FUS_OBJ.OBJ.STATE k) = 0 then d
    else d.emit .fusion 8 0x11 k 0 tRel (of_ (some k)) ((List.range 8).map (fun i => d.word (0xA0D00 + 0x20 * k + 4 * i))) .none) d

/-- Fusion hears of the slots that timed out at the instant of their next seal (R151, R229). -/
def Dev.hearTimeouts (d : Dev) : Dev :=
  let l := d.entry.timed.reverse
  l.foldl (fun d s => d.refTimeout s) { d with entry := { d.entry with timed := [] } }

/-- The data of an update, in the order of R215: each with the transform entry that binds it and its effective time (R219). -/
def Dev.sortData (d : Dev) (l : List (Nat × Packet)) : List Datum :=
  l.foldl (fun (l : List Datum) (e : Nat × Packet) =>
    match d.xforms e.1 e.2 with
    | [] => l
    | t :: _ => if e.1 < 28 || d.flag (Reg.FUS_XFORM.XF_CFG.OBJ_EN t) then
        insertDatum ⟨e.1, t, e.2, e.2.tovNs - d.toff t⟩ l else l) []

/-- The data of an update before the filter is initialised (R226, R228): MRU data are taken, references leave OFF, and the filter
initialises where it can; data from before its last reset are dropped (R238). The data used, and the device. -/
def Dev.firstData (d : Dev) (tRel : Nat) (data : List Datum) : List (Option Nat × Packet) × Dev :=
  let old (a : Datum) : Bool := d.fus.resetAt.any fun r => a.tEff < (r : Int)
  let d : Dev := (data.filter old).foldl Dev.dropLate d
  let data := data.filter fun a => !old a
  let d : Dev := data.foldl (fun d a =>
    let d : Dev := d.onto a.pkt.tovNs
    let v := d.valuesOf a.slot a.pkt
    if 20 ≤ a.slot && a.slot < 23 then d.takeMru a.slot a.xf a.pkt v a.tEff
    else if d.refState a.slot = 0 && a.slot < 28 then d.moveRef a.slot 1 0 else d) d
  let (used, d) := (d.onto tRel).initFilter tRel data
  (used ++ (data.filter (fun a => 20 ≤ a.slot && a.slot < 23 && d.mruUsed a.slot)).map (fun a => (none, a.pkt)), d)

/-- The late and the current data of an update that follows the history entry `prev` (R215, R236 to R239: an old object datum is dropped
without an event), with τ_thr + τ_chain as the force input. The data used, and the device with the new history entry. -/
def Dev.nextData (d : Dev) (tRel : Nat) (tau : Vec) (prev : HistEntry) (data : List Datum) : List (Option Nat × Packet) × Dev :=
  let late := data.filter fun a => a.tEff < (prev.rel : Int) && !(d.flag (Reg.FUS_XFORM.XF_CFG.OBJ_EN a.xf)
    && d.objOld (d.get (Reg.FUS_XFORM.XF_CFG.OBJ a.xf)) a.tEff)
  let initAt : Int := d.fus.initAt.getD 0
  let d : Dev := (late.filter (fun a => a.tEff < initAt)).foldl Dev.dropLate d
  let (old, d) := d.retrodict tRel (late.filter (fun a => initAt ≤ a.tEff))
  let base := d.fus.hist.headD prev
  let dr := d.flag Reg.FUS_STATUS.DR
  let cur := data.filter (fun a => (prev.rel : Int) ≤ a.tEff)
  let now (r : Running) : Bool := r.dev.flag Reg.FUS_STATUS.DR
  let r : Running := cur.foldl (fun r a =>
    let r : Running := r.upTo tau (now r) a.tEff
    (r.judge (now r) a).noteDr) (⟨d, (base.x, base.p), base.rel, [], [], [(base.rel, dr)], old⟩ : Running)
  let r : Running := r.upTo tau (now r) tRel
  let d : Dev := r.used.foldl (fun d s => d.setB (Reg.FUS_REF.REF_STAT.USED s) true) r.dev
  (r.pkts, { d with fus := { d.fus with
      hist := (⟨tRel, r.xp.1, r.xp.2, r.log, tau, r.drs⟩ :: d.fus.hist).take 801 } })

/-- A fusion update released at `tRel` takes its fresh data (R215), with τ_thr + τ_chain as the force input, and seals its outputs; `more`
are the inputs of that force. -/
def Dev.fusionUpdate (d : Dev) (tRel : Nat) (fresh : List (Nat × Packet)) (tau : Vec) (more : List Packet) (fault : ChainFault) : Dev :=
  let kept := d.fus.lateKept ++ d.fus.ahead
  let carry : Bool := match d.fus.lastRel with
    | some r => r + 10000000 < tRel
    | none => false
  let d : Dev := { d with fus := { d.fus with lateKept := [], ahead := [], late := false, carry := carry, lastRel := some tRel } }
  let d : Dev := if carry then d.setB Reg.FUS_STATUS.CARRY_STICKY true else d
  let d : Dev := d.judgeAtt
  let d : Dev := (List.range 28).foldl (fun d s => d.setB (Reg.FUS_REF.REF_STAT.USED s) false) d
  let data := d.sortData (kept ++ fresh)
  let ahead := data.filter (fun a => (tRel : Int) ≤ a.tEff)
  let d : Dev := { d with fus := { d.fus with ahead := ahead.map (fun a => (a.slot, a.pkt)) } }
  let data := data.filter (fun a => a.tEff < (tRel : Int))
  let (used, d) := match d.fus.hist with
    | [] => d.firstData tRel data
    | prev :: _ => d.nextData tRel tau prev data
  let d : Dev := d.onto tRel
  match d.fus.hist with
  | [] => d.countRefs
  | e :: _ =>
    let d : Dev := (List.range 28).foldl (fun d s => (d.readmitCheck s).suspectCheck s) d
    let d : Dev := (List.range 8).foldl Dev.showTrack (d.countRefs)
    let d : Dev := ((d.showEstimate tRel e.x e.p).judgeConvergence).judgeDr
    d.sealFusion tRel e.x e.p (used ++ more.map (fun p => (none, p))) fault

/-! ## What takes effect at a major-frame boundary (R220, R221, R226, R229) -/

/-- FUS_CTRL.ORIGIN_SET (R221): refused in M5 and M6, and for a latitude outside ±89°; else pending for the next boundary. -/
def Dev.originSet (d : Dev) (port : Nat) : Dev :=
  let lat := F64.mk ((d.word 0xA0044) ++ (d.word 0xA0040))
  if d.mode = 5 || d.mode = 6 then (d.set Reg.FUS_CTRL_RES.RESULT 2).reportWrite 8 port 0 0xA0054 false
  else if (F64.ofInt 89).lt lat.abs then (d.set Reg.FUS_CTRL_RES.RESULT 3).reportWrite 8 port 0 0xA0054 false
  else { (d.set Reg.FUS_CTRL_RES.RESULT 1) with fus := { d.fus with originDue := true } }

/-- R221: the origin is to move at the next boundary. -/
def execOriginSet (t port : Nat) (s : State) : Host.Outcome State Fault Refusal :=
  s.run fun d => (d.advance t).whenUp fun d => d.originSet port

/-- FUS_CTRL.FILTER_RESET (R226): refused in M4 to M6. -/
def Dev.filterReset (d : Dev) (port : Nat) : Dev :=
  if d.loopClosed then (d.set Reg.FUS_CTRL_RES.RESULT 2).reportWrite 8 port 0 0xA0054 false
  else { (d.set Reg.FUS_CTRL_RES.RESULT 1) with fus := { d.fus with resetDue := true } }

/-- R226: the filter is to be reset at the next boundary. -/
def execFilterReset (t port : Nat) (s : State) : Host.Outcome State Fault Refusal :=
  s.run fun d => (d.advance t).whenUp fun d => d.filterReset port

/-- REF_CTRL.ANCHOR_SET of a slot (R220). -/
def Dev.anchorSetWrite (d : Dev) (slot : Nat) : Dev :=
  { d with fus := { d.fus with anchorSet := slot :: d.fus.anchorSet.filter (· != slot) } }

/-- R220: the slot's anchor is to be set at the next boundary. -/
def execAnchorSet (t slot : Nat) (s : State) : Host.Outcome State Fault Refusal :=
  s.run fun d => (d.advance t).whenUp fun d => if slot < 28 then d.anchorSetWrite slot else d

/-- Move the origin (R221): state, history, tracks and anchors, those that wait for the boundary too, shift by one offset. -/
def Dev.moveOrigin (d : Dev) : Dev :=
  let lat := F64.mk ((d.word 0xA0044) ++ (d.word 0xA0040))
  let lon := F64.mk ((d.word 0xA004C) ++ (d.word 0xA0048))
  let o := (lat, lon, (F32.mk (d.word 0xA0050)).to64)
  let sh : Vec := match d.fus.origin with
    | some old => nedFrom o old.1 old.2.1 old.2.2
    | none => Vec.zeros 3
  let move (x : Vec) : Vec := match x with
    | n :: e :: rest => n.add (sh.at 0) :: e.add (sh.at 1) :: rest
    | _ => x
  let d : Dev := { d with fus := { d.fus with
    origin := some o, originDue := false
    hist := d.fus.hist.map (fun h => { h with
      x := move h.x, log := h.log.map (fun a => if a.ms.model = 0 then { a with ms := { a.ms with z := move a.ms.z } } else a) })
    anchors := d.fus.anchors.map move
    objs := d.fus.objs.map (fun t => { t with x := move t.x }) } }
  let d : Dev := (List.range 8).foldl (fun d a =>
    if d.flag (Reg.FUS_ANCHOR.VALID.VALID a) || d.fus.anchorDue.contains a then
      (d.setF (Reg.FUS_ANCHOR.N.N a) ((d.xfF (Reg.FUS_ANCHOR.N.N a)).add (sh.at 0)).to32).setF (Reg.FUS_ANCHOR.E.E a)
        ((d.xfF (Reg.FUS_ANCHOR.E.E a)).add (sh.at 1)).to32
    else d) d
  ((d.set Reg.FUS_CTRL_RES.RESULT 0).setB Reg.FUS_CTRL_RES.ORIGIN_VALID true).note 0x01 0x0A 4
    [d.word 0xA0040, d.word 0xA0044, d.word 0xA0048, d.word 0xA004C]

/-- Reset the filter (R226). -/
def Dev.resetFilter (d : Dev) : Dev :=
  let d : Dev := d.countDr
  let d : Dev := { (((d.setB Reg.FUS_STATUS.INIT false).setB Reg.FUS_STATUS.CONVERGED false).set Reg.FUS_CTRL_RES.RESULT 0) with
    fus := { d.fus with hist := [], initAt := none, resetAt := some d.sched.st, convSince := none, resetDue := false, drSince := none, hdgSince := none } }
  let d : Dev := ((d.setB Reg.FUS_STATUS.DR false).setB Reg.FUS_STATUS.HDG_DR false).setB Reg.FUS_STATUS.DR_EXPIRED false
  let d : Dev := ((d.setBitAt Reg.SYS_MODE.STATES 0 false).setBitAt Reg.SYS_MODE.STATES 2 false).setBitAt Reg.SYS_MODE.STATES 11 false
  (List.range 28).foldl (fun d s => if d.refState s = 0 || d.refState s = 5 then d
    else (d.moveRef s 1 11).setRef s (fun r => { r with passes := 0, passSince := none })) d

/-- Every reference that uses an anchor goes back to READMITTING (R220). -/
def Dev.anchorChanged (d : Dev) (a : Nat) : Dev :=
  (List.range 32).foldl (fun d t =>
    let s := d.get (Reg.FUS_XFORM.XF_CFG.SLOT t)
    let type := d.get (Reg.FUS_XFORM.XF_CFG.TYPE t)
    if d.flag (Reg.FUS_XFORM.XF_CFG.VALID t) && (type = 2 || type = 3) && d.get (Reg.FUS_XFORM.XF_CFG.ANCHOR t) = a
      && (d.refState s = 2 || d.refState s = 3) then d.moveRef s 1 10 else d) d

/-- Set a slot's anchor from the estimate and its latest datum (R220). -/
def Dev.setAnchorFrom (d : Dev) (slot : Nat) : Dev :=
  match d.entry.slots.getD slot none, d.fus.hist with
  | some p, h :: _ =>
    match (d.xforms slot p).find? (fun t => d.get (Reg.FUS_XFORM.XF_CFG.TYPE t) = 2 || d.get (Reg.FUS_XFORM.XF_CFG.TYPE t) = 3) with
    | some t =>
      let m := relativeVector (d.get (Reg.FUS_XFORM.XF_CFG.TYPE t)) (d.valuesOf slot p)
      let r := (d.attitude h.x h.rel).mulVec (Vec.add (d.lever t) ((d.mount t).mulVec m))
      let pa := Vec.add [h.x.at 0, h.x.at 1, F64.zero] r
      let a := d.get (Reg.FUS_XFORM.XF_CFG.ANCHOR t)
      let d : Dev := ((d.setF (Reg.FUS_ANCHOR.N.N a) (pa.at 0).to32).setF (Reg.FUS_ANCHOR.E.E a) (pa.at 1).to32).setF
        (Reg.FUS_ANCHOR.D.D a) (pa.at 2).to32
      let d : Dev := { (d.setB (Reg.FUS_ANCHOR.VALID.VALID a) true) with fus := { d.fus with anchors := setAt d.fus.anchors a pa } }
      d.anchorChanged a
    | none => d
  | _, _ => d

/-- What host software asked of fusion takes effect at a major-frame boundary (R108, R220, R221, R226, R229). -/
def Dev.fusMajor (d : Dev) : Dev :=
  let d : Dev := if d.fus.resetDue then d.resetFilter else d
  let d : Dev := if d.fus.originDue then d.moveOrigin else d
  let d : Dev := d.fus.anchorDue.foldl (fun d a =>
    let v : Vec := [d.xfF (Reg.FUS_ANCHOR.N.N a), d.xfF (Reg.FUS_ANCHOR.E.E a), d.xfF (Reg.FUS_ANCHOR.D.D a)]
    ({ (d.setB (Reg.FUS_ANCHOR.VALID.VALID a) true) with fus := { d.fus with anchors := setAt d.fus.anchors a v } }).anchorChanged a) d
  let d : Dev := d.fus.anchorSet.foldl Dev.setAnchorFrom d
  let d : Dev := { d with fus := { d.fus with anchorDue := [], anchorSet := [] } }
  let d : Dev := (List.range 28).foldl (fun d s =>
    let want := d.flag (Reg.FUS_REF.REF_CTRL.DESELECT s)
    let off := d.refState s = 0 && !d.flag (Reg.ENTRY_SLOT.SLOT_STAT.CONFIGURED s)
    if want && d.refState s != 5 && !off then d.moveRef s 5 9
    else if !want && d.refState s = 5 then d.moveRef s 1 9
    else d) d
  d.countRefs

/-- FUS_XTEST clears on leaving M7 (R247). -/
def Dev.fusLeaveM7 (d : Dev) : Dev :=
  if d.get Reg.FUS_XTEST.INHIBIT = 0 then d
  else (d.set Reg.FUS_XTEST.INHIBIT 0).note 0x01 0x0A 5 [d.word 0xA8000]

end Sys2Proof.Machine
end

