-- ==== Sys2Proof/Machine/Thruster.lean ====
section
/-! DEFINITION. The thruster model and what the allocation knows of thrusters and sections (R249 to R252), and the fallback
allocation (R300). -/
namespace Sys2Proof.Machine
open Sys2Proof

/-- The thruster of the image with number `i` (R249). -/
def Dev.thruster (d : Dev) (i : Nat) : Option Thruster := d.image.alloc.thrusters.getD i none

/-- Linear interpolation in a table of (argument, value) in ascending argument, held at the ends. -/
def interp : List (F64 × F64) → F64 → F64
  | [], _ => F64.zero
  | [p], _ => p.2
  | p :: q :: rest, x =>
    if x.le p.1 then p.2
    else if x.lt q.1 then p.2.add (((x.sub p.1).div (q.1.sub p.1)).mul (q.2.sub p.2))
    else interp (q :: rest) x

/-- Thrust at a demand on the bollard curve (R250). -/
def Thruster.thrustAt (r : Thruster) (dem : F64) : F64 := interp r.curve dem

/-- Demand for a thrust, clipped to the curve's ends (R255). -/
def Thruster.demandFor (r : Thruster) (f : F64) : F64 := interp (r.curve.map (fun p => (p.2, p.1))) f

/-- Largest forward and reverse thrust of the curve. -/
def Thruster.fwd (r : Thruster) : F64 := (r.curve.getLast?.map (fun p => p.2)).getD F64.zero
/-- Largest reverse thrust, as a positive number. -/
def Thruster.rev (r : Thruster) : F64 := ((r.curve.head?.map (fun p => p.2)).getD F64.zero).neg

/-- Tunnel derating at a surge speed; 1 for an azimuth thruster (R249, R250). -/
def Thruster.k (r : Thruster) (u : F64) : F64 :=
  match r.type with
  | .azimuth => F64.one
  | .tunnel => interp r.derate u

/-- κ of R250: rated power over rated thrust to the power 3/2. -/
def Thruster.kappa (r : Thruster) : F64 := r.pRated.div (r.tRated.mul r.tRated.sqrt)

/-- Power at a thrust (R250). -/
def Thruster.power (r : Thruster) (f : F64) : F64 := r.kappa.mul (f.abs.mul f.abs.sqrt)

/-- The weight w of R254. -/
def Thruster.weight (r : Thruster) : F64 := F64.one.div r.tRated.sq

/-- The azimuth of a tunnel thruster, 90° (R4). -/
def ninety : Word := 0x40000000

/-- The unit vector at an azimuth. -/
def dirOf (a : Word) : Vec := [Config.cos (radOfBam a), Config.sin (radOfBam a)]

/-- The generalised force of a body-frame force at a thruster (R250). -/
def Thruster.wrench (r : Thruster) (f : Vec) : Vec := [f.at 0, f.at 1, (r.x.mul (f.at 1)).sub (r.y.mul (f.at 0))]

/-- An azimuth inside a forbidden sector, a half-open interval (R249); the sector. -/
def Thruster.sectorAt (r : Thruster) (a : Word) : Option (Word × Word) :=
  r.forbidden.find? (fun s => (a - s.1).toNat < (s.2 - s.1).toNat)

/-- The size in degrees of a turn from one azimuth clockwise to another. -/
def arcDeg (w : Word) : F64 := .ofRatio ((w.toNat : Int) * 45) (2 ^ 29)

/-- The smallest of some numbers and a first one. -/
def minAll (a : F64) (l : List F64) : F64 := l.foldl F64.min a

/-- Half-angles of the azimuth wedge below and above the fed-back azimuth, in degrees, for a reach in degrees (R254). -/
def Thruster.wedge (r : Thruster) (alpha : Word) (reach : F64) : F64 × F64 :=
  match r.sectorAt alpha with
  | some _ => (F64.zero, F64.zero)
  | none =>
    let cap := reach.min (.ofInt 90)
    (minAll cap (r.forbidden.map (fun s => arcDeg (alpha - s.2))), minAll cap (r.forbidden.map (fun s => arcDeg (s.1 - alpha))))

/-- An azimuth moved by some degrees. -/
def turnBy (a : Word) (deg : F64) : Word := a + degToBam deg

/-- The edge of a forbidden sector that is nearer to an azimuth inside it (R254). -/
def nearEdge (a : Word) (s : Word × Word) : Word :=
  if (a - s.1).toNat ≤ (s.2 - a).toNat then s.1 else s.2

/-! ## Feedback (R251, R357) -/

/-- A thruster's latest accepted feedback, since the schedule started. -/
def Dev.feedback (d : Dev) (i : Nat) : Option Packet :=
  match d.entry.slots.getD (28 + i) none with
  | some p => if d.sched.startAt ≤ p.sealedAt then some p else none
  | none => none

/-- Fed-back azimuth. -/
def fbAzimuth (p : Packet) : Word := p.payload.getD 3 0

/-- Fed-back demand. -/
def fbDemand (p : Packet) : F64 := (F32.mk (p.payload.getD 2 0)).to64

/-- Status bit of a feedback frame: 0 READY, 4 LOCAL, 6 FAULT. -/
def fbStatus (p : Packet) (i : Nat) : Bool := (p.payload.getD 1 0).getLsbD i

/-- Available power of section `j` and whether a slot gives it (R252). -/
def Dev.secPower (d : Dev) (j : Nat) : F64 × Bool :=
  let fixed := d.paramF (P.ALLOC.SEC_PWR j)
  match d.image.alloc.sections.getD j none with
  | none => (fixed, false)
  | some s =>
    if d.flag (Reg.ENTRY_SLOT.SLOT_STAT.TIMED_OUT s) then (fixed, false)
    else match d.entry.slots.getD s none with
      | some p => ((d.valuesOf s p).headD fixed, true)
      | none => (fixed, false)

/-- The cause of a thruster's being unavailable, lowest first; 0 when it is available (R251). -/
def Dev.thrCause (d : Dev) (i : Nat) (r : Thruster) : Nat :=
  if !d.flag (Reg.ALLOC_THR.THR_CFG.ENABLE i) then 1
  else match d.feedback i with
    | none => 2
    | some p =>
      if d.flag (Reg.ENTRY_SLOT.SLOT_STAT.TIMED_OUT (28 + i)) then 2
      else if !fbStatus p 0 || fbStatus p 4 || fbStatus p 6 then 3
      else if d.alloc.arrested.testBit i then 4
      else if (d.secPower r.sec).1.le F64.zero then 5
      else 0

/-- The modes in which the allocation runs (R33). -/
def Dev.allocates (d : Dev) : Bool := 3 ≤ d.mode && d.mode ≤ 6

/-- Sample availability and section power (R251, R252) from what the press sees: the available thrusters, and the registers that show them.
-/
def Dev.sampleThrusters (d v : Dev) : List Nat × Dev :=
  let d : Dev := (List.range d.image.alloc.sections.length).foldl (fun d j =>
    let (p, src) := v.secPower j
    (d.setF (Reg.ALLOC_SEC.AVAIL.AVAIL j) p.to32).setB (Reg.ALLOC_SEC.STAT.SRC j) src) d
  (List.range 16).foldl (fun (acc : List Nat × Dev) i =>
    match d.thruster i with
    | none => acc
    | some r =>
      let c := v.thrCause i r
      let d' : Dev := (acc.2.set (Reg.ALLOC_THR.THR_CFG.CAUSE i) c).setB (Reg.ALLOC_THR.THR_CFG.AVAIL i) (c == 0)
      (if c = 0 then acc.1 ++ [i] else acc.1, d')) ([], d)

/-- The thrusters available as of the last sampling (R251). -/
def Dev.availNow (d : Dev) : List Nat :=
  (List.range 16).filter fun i => (d.thruster i).isSome && d.flag (Reg.ALLOC_THR.THR_CFG.AVAIL i)

/-- The thrust a thruster's feedback says it gives (R250). -/
def Dev.fedForce (d : Dev) (u : F64) (i : Nat) : Vec :=
  match d.thruster i, d.feedback i with
  | some r, some p =>
    let f := (r.k u).mul (r.thrustAt (fbDemand p))
    Vec.scale f (dirOf (match r.type with
      | .tunnel => ninety
      | .azimuth => fbAzimuth p))
  | _, _ => [F64.zero, F64.zero]

/-- A force vector for each thruster as a generalised force. -/
def Dev.totalForce (d : Dev) (f : Nat → Vec) : Vec :=
  (List.range 16).foldl (fun t i => match d.thruster i with
    | some r => Vec.add t (r.wrench (f i))
    | none => t) (Vec.zeros 3)

/-- The surge speed from fusion (R253). -/
def Dev.surge (d : Dev) : F64 := match d.fus.hist with
  | h :: _ => h.x.at 3
  | [] => F64.zero

/-- Bits of a list of numbers. -/
def maskOf (l : List Nat) : Nat := l.foldl (fun m i => m ||| 2 ^ i) 0

/-! ## The fallback allocation (R300) -/

/-- Project a force into the wedge of R254, and clip it to the rating (R300). -/
def Thruster.clipForce (r : Thruster) (alpha : Word) (reach : F64) (f : Vec) : Vec :=
  match r.sectorAt alpha with
  | some _ => [F64.zero, F64.zero]
  | none =>
    let (lo, hi) := r.wedge alpha reach
    let a := bamOfRad (Config.atan2 (f.at 1) (f.at 0))
    let off := bamToDeg (a - alpha)
    let f :=
      if off.lt lo.neg || hi.lt off then
        let below := (off.add lo).abs
        let above := (off.sub hi).abs
        let e := dirOf (if below.le above then turnBy alpha lo.neg else turnBy alpha hi)
        Vec.scale ((Vec.dot f e).max F64.zero) e
      else f
    let n := Vec.norm f
    if r.tRated.lt n then Vec.scale (r.tRated.div n) f else f

/-- The force of every thruster by the fallback (R300); zero for a thruster that is not available. -/
def Dev.fallbackForces (d : Dev) (q : QpIn) : List Vec :=
  let cols : List (Nat × Thruster × Vec) := q.avail.flatMap fun i => match d.thruster i with
    | none => []
    | some r => match r.type with
      | .tunnel => [(i, r, r.wrench [F64.zero, F64.one])]
      | .azimuth => [(i, r, r.wrench [F64.one, F64.zero]), (i, r, r.wrench [F64.zero, F64.one])]
  let g : Mat := Mat.build 3 3 fun a b => F64.sum (cols.map (fun c => ((c.2.2.at a).mul (c.2.2.at b)).div c.2.1.weight))
  let eps := ((F64.ofRatio 1 1000000000).mul (F64.sum [g.at 0 0, g.at 1 1, g.at 2 2])).div (.ofInt 3)
  let lam := (Mat.inv3 (Mat.add g (Mat.diag [eps, eps, eps]))).mulVec q.tau
  let v := cols.map fun c => (c.1, (Vec.dot c.2.2 lam).div c.2.1.weight)
  let reach (r : Thruster) : F64 := r.azRate.to64.mul (d.paramF P.ALLOC.AZ_HORIZON)
  (List.range 16).map fun i =>
    match d.thruster i, (v.filter (fun e => e.1 == i)).map (fun e => e.2) with
    | some r, [t] =>
      let k := r.k q.u
      [F64.zero, t.clamp ((k.mul r.rev).neg) (k.mul r.fwd)]
    | some r, [fx, fy] =>
      r.clipForce ((q.thr.getD i default).alpha.getD 0) (reach r) [fx, fy]
    | _, _ => [F64.zero, F64.zero]

end Sys2Proof.Machine
end

