-- ==== Sys2Proof/Machine/Chain.lean ====
section
/-! DEFINITION. The chain of coupled transfer: its kinematics and reaction wrench (R287, R288), and the conditions under which
coupling holds (R276). -/
namespace Sys2Proof.Machine
open Sys2Proof

/-- Vector product. -/
def Vec.cross (a b : Vec) : Vec :=
  [((a.at 1).mul (b.at 2)).sub ((a.at 2).mul (b.at 1)), ((a.at 2).mul (b.at 0)).sub ((a.at 0).mul (b.at 2)),
   ((a.at 0).mul (b.at 1)).sub ((a.at 1).mul (b.at 0))]

/-- A pose: rotation and origin. -/
structure Pose where
  rot : Mat
  off : Vec
deriving DecidableEq, Repr, Inhabited

/-- A pose followed by another given in its frame. -/
def Pose.then (a : Pose) (rot : Mat) (off : Vec) : Pose := ⟨Mat.mul a.rot rot 3, Vec.add a.off (a.rot.mulVec off)⟩

/-- The hull's own frame. -/
def Pose.hull : Pose := ⟨Mat.one 3, Vec.zeros 3⟩

/-- The pose of a joint's own motion (R287). -/
def Joint.move (j : Joint) (p : Pose) (q : F64) : Pose :=
  if j.prismatic then p.then (Mat.one 3) [F64.zero, F64.zero, q] else p.then (rotZ q) (Vec.zeros 3)

/-- The joints with their positions, each with its pose before its motion and after it, in the hull frame. -/
def chainPoses : Pose → List (Joint × F64) → List (Joint × F64 × Pose × Pose)
  | _, [] => []
  | p, (j, q) :: rest =>
    let b := p.then j.rot j.off
    let a := j.move b q
    (j, q, b, a) :: chainPoses a rest

/-- The tip in the hull frame. -/
def chainTip (c : Chain) (poses : List (Joint × F64 × Pose × Pose)) : Vec :=
  let last := match poses.getLast? with
    | some e => e.2.2.2
    | none => Pose.hull
  (last.then c.tipRot c.tipOff).off

/-- The z axis of a pose. -/
def Pose.axis (p : Pose) : Vec := p.rot.mulVec [F64.zero, F64.zero, F64.one]

/-- The columns of J_q in the hull frame (R288). -/
def chainJacobian (tip : Vec) (poses : List (Joint × F64 × Pose × Pose)) : List Vec :=
  poses.map fun e => if e.1.prismatic then e.2.2.1.axis else Vec.cross e.2.2.1.axis (Vec.sub tip e.2.2.1.off)

/-- Motion of a frame in the recursion of R288: angular velocity and acceleration, origin and its acceleration. -/
structure Motion where
  w : Vec
  al : Vec
  p : Vec
  a : Vec
deriving DecidableEq, Repr, Inhabited

/-- Acceleration of a point fixed in a moving frame. -/
def Motion.accAt (m : Motion) (p : Vec) : Vec :=
  let r := Vec.sub p m.p
  Vec.add m.a (Vec.add (Vec.cross m.al r) (Vec.cross m.w (Vec.cross m.w r)))

/-- Force and moment about the control point that the links need, outward along the chain (R288); `g` is gravity in the hull
frame, `qd` and `qdd` the joint speeds and accelerations. -/
def chainWrench (g : Vec) : Motion → List (Joint × F64 × Pose × Pose) → Vec → Vec → Vec × Vec
  | _, [], _, _ => (Vec.zeros 3, Vec.zeros 3)
  | m, (j, _, b, a) :: rest, qd, qdd =>
    let z := b.axis
    let v := Vec.scale (qd.at 0) z
    let s := Vec.scale (qdd.at 0) z
    let acc := m.accAt a.off
    let m' : Motion :=
      if j.prismatic then ⟨m.w, m.al, a.off, Vec.add acc (Vec.add s (Vec.scale (.ofInt 2) (Vec.cross m.w v)))⟩
      else ⟨Vec.add m.w v, Vec.add m.al (Vec.add s (Vec.cross m.w v)), a.off, acc⟩
    let c := Vec.add a.off (a.rot.mulVec j.com)
    let f := Vec.scale j.mass (Vec.sub (m'.accAt c) g)
    let i := Mat.mul (Mat.mul a.rot j.inertia 3) (a.rot.trans 3) 3
    let t := Vec.add (i.mulVec m'.al) (Vec.cross m'.w (i.mulVec m'.w))
    let (fr, tr) := chainWrench g m' rest qd.tail qdd.tail
    (Vec.add f fr, Vec.add (Vec.add t (Vec.cross c f)) tr)

/-- The last two data of a joint as time, position and speed; the latest is passed over where its slot does not show it (R126). -/
def Dev.jointAt (d : Dev) (j : Nat) : List (Int × F64 × F64) :=
  let l := d.alloc.jointData.getD j []
  (if (d.entry.slots.getD (44 + j) none).isNone then l.tail else l).map fun p =>
    let v := d.valuesOf (44 + j) p
    (p.tovNs, Vec.at v 0, Vec.at v 1)

/-- Seconds between two times in ns. -/
def secsBetween (a b : Int) : F64 := F64.ofRatio (b - a) 1000000000

/-- The chain as the press evaluates it for a release (R288). -/
def Dev.chainIn (d : Dev) (c : Chain) (tRel : Nat) : ChainIn :=
  let tc : Int := tRel + 5000000
  let n := c.joints.length
  let data := (List.range n).map d.jointAt
  let q : Vec := data.map fun l => match l with
    | e :: _ => e.2.1.add (e.2.2.mul (secsBetween e.1 tc))
    | [] => F64.zero
  let qd : Vec := data.map fun l => match l with
    | e :: _ => e.2.2
    | [] => F64.zero
  let qdd : Vec := data.map fun l => match l with
    | e :: f :: _ => (e.2.2.sub f.2.2).div (secsBetween f.1 e.1)
    | _ => F64.zero
  let (x, tau, dr) := match d.fus.hist with
    | h :: _ => (h.x, h.tau, drAt h.dr h.rel)
    | [] => (Vec.zeros 15, Vec.zeros 3, true)
  let poses := chainPoses Pose.hull (c.joints.zip q)
  let tipH := chainTip c poses
  let at0 := d.attNow tRel
  let full := rotZYX at0.1 at0.2.1 ((x.at 2).add (x.at 14))
  let tip := Vec.add [(x.at 0).add (x.at 10), (x.at 1).add (x.at 12), at0.2.2] (full.mulVec tipH)
  let low := rotZ (x.at 2)
  let rel := low.mulVec tipH
  let err := Vec.sub (Vec.add [x.at 0, x.at 1, F64.zero] rel) c.landing
  let jq := (chainJacobian tipH poses).map low.mulVec
  let jeta : List Vec := [[F64.one, F64.zero, F64.zero], [F64.zero, F64.one, F64.zero],
    Vec.cross [F64.zero, F64.zero, F64.one] rel]
  let second (f : AttSample → F64) : F64 := meanOf (d.attLists.filterMap fun l => match l with
    | a :: b :: e :: _ =>
      let dt := (secsBetween e.t a.t).div (.ofInt 2)
      some ((((f a).sub ((F64.ofInt 2).mul (f b))).add (f e)).div dt.sq)
    | _ => none)
  let yawAcc := Vec.at ((d.filterModel dr).deriv tau x) 5
  let base : Motion := ⟨[F64.zero, F64.zero, x.at 5], [second (fun a => a.roll), second (fun a => a.pitch), yawAcc],
    Vec.zeros 3, [F64.zero, F64.zero, second (fun a => a.heave)]⟩
  let g := ((rotZYX at0.1 at0.2.1 F64.zero).trans 3).mulVec [F64.zero, F64.zero, Config.gravity]
  let (f, m) := chainWrench g base poses qd qdd
  ⟨tip, err, jq, jeta, [(f.at 0).neg, (f.at 1).neg, (m.at 2).neg], q, qd⟩

/-- Show what the press computed of the chain (R278, R303, R305). -/
def Dev.showChain (d : Dev) (c : ChainIn) : Dev :=
  let d : Dev := ((d.setF Reg.SOLV_TIP_N.TIP (c.tip.at 0).to32).setF Reg.SOLV_TIP_E.TIP (c.tip.at 1).to32).setF
    Reg.SOLV_TIP_D.TIP (c.tip.at 2).to32
  let d : Dev := ((d.setF Reg.SOLV_WRENCH_X.W (c.wrench.at 0).to32).setF Reg.SOLV_WRENCH_Y.W (c.wrench.at 1).to32).setF
    Reg.SOLV_WRENCH_N.W (c.wrench.at 2).to32
  let d : Dev := d.setF Reg.ALLOC_TIP_ERR.ERR (Vec.norm c.err).to32
  (List.range c.q.length).foldl (fun d j =>
    (d.setF (Reg.SOLV_JOINT.Q.Q j) (c.q.at j).to32).setF (Reg.SOLV_JOINT.QD.QD j) (c.qd.at j).to32) d

/-! ## Coupled transfer (R55, R274, R276) -/

/-- Coupled transfer is selected in a mode where it is active (R55). -/
def Dev.coupled (d : Dev) : Bool := d.flag Reg.SYS_MODE.COUPLED && (d.mode = 5 || d.mode = 6)

/-- Numbers of the chain's joints. -/
def Dev.jointList (d : Dev) : List Nat := match d.image.alloc.chain with
  | some c => List.range c.joints.length
  | none => []

/-- A joint's slot gives no fresh state. -/
def Dev.jointLate (d : Dev) (j : Nat) : Bool :=
  (d.entry.slots.getD (44 + j) none).isNone || d.flag (Reg.ENTRY_SLOT.SLOT_STAT.TIMED_OUT (44 + j))

/-- The gangway controller reports ready: the third value of every joint's datum is not 0. -/
def Dev.gangwayReady (d : Dev) : Bool :=
  d.jointList.all fun j => match d.entry.slots.getD (44 + j) none with
    | some p => !((Vec.at (d.valuesOf (44 + j) p) 2).eq F64.zero)
    | none => true

/-- Coupled transfer can be selected (R41). -/
def Dev.coupleAvailable (d : Dev) : Bool :=
  d.image.alloc.chain.isSome && d.gangwayReady && d.jointList.all (fun j => !d.jointLate j)

/-- The hull shift has reached its limit. -/
def Dev.shiftAtLimit (d : Dev) : Bool := (d.paramF P.ALLOC.COUPLE_SHIFT_MAX).le (Vec.norm d.alloc.shift)

/-- A joint stands at its limit less the margin. -/
def Dev.jointAtLimit (d : Dev) : Bool :=
  match d.image.alloc.chain with
  | none => false
  | some c => ((List.range c.joints.length).zip c.joints).any fun e =>
    match (d.jointAt e.1).head? with
    | none => false
    | some v => v.2.1.le (e.2.lo.to64.add e.2.margin.to64) || (e.2.hi.to64.sub e.2.margin.to64).le v.2.1

/-- Why coupling cannot hold now, lowest cause first; 0 when it can (R276, R278). -/
def Dev.coupleCause (d : Dev) : Nat :=
  if !d.gangwayReady then 1
  else if d.jointList.any d.jointLate then 2
  else if !d.flag Reg.FUS_STATUS.CONVERGED then 3
  else if d.flag Reg.FUS_STATUS.DR then 4
  else if d.shiftAtLimit then 5
  else if d.jointAtLimit then 6
  else 0

/-- Set or end COUPLE_HELD (R50, R276). -/
def Dev.setHeld (d : Dev) (b : Bool) : Dev :=
  ((d.setB Reg.ALLOC_STATUS.COUPLE_HELD b).setBitAt Reg.SYS_MODE.STATES 9 b).setB Reg.ALLOC_STATUS.COUPLE_ACTIVE (d.coupled && !b)

/-- Judge whether coupling holds (R276). -/
def Dev.judgeCouple (d : Dev) : Dev :=
  if !d.coupled then { (d.setHeld false) with alloc := { d.alloc with coupleOk := none } }
  else
    let cause := d.coupleCause
    if cause != 0 then
      { ((d.setHeld true).set Reg.ALLOC_COUPLE_CAUSE.CAUSE cause) with alloc := { d.alloc with coupleOk := none } }
    else if d.flag Reg.ALLOC_STATUS.COUPLE_HELD then
      let d : Dev := { d with alloc := { d.alloc with coupleOk := since d.sched.st true d.alloc.coupleOk } }
      if heldFor d.sched.st (d.paramNs P.ALLOC.COUPLE_RESUME) d.alloc.coupleOk then
        { ((d.setHeld false).set Reg.ALLOC_COUPLE_CAUSE.CAUSE 0) with alloc := { d.alloc with coupleOk := none } }
      else d
    else d.setHeld false

/-- R276: the conditions have held again for ALLOC.COUPLE_RESUME. -/
def execCoupleResumeTimer (t : Nat) (s : State) : Host.Outcome State Fault Refusal :=
  s.run fun d => (d.advance t).whenUp fun d => d.judgeCouple

/-- Show the hull shift (R278). -/
def Dev.showShift (d : Dev) : Dev :=
  (d.setF Reg.ALLOC_COUPLE_SHIFT_N.S (d.alloc.shift.at 0).to32).setF Reg.ALLOC_COUPLE_SHIFT_E.S (d.alloc.shift.at 1).to32

end Sys2Proof.Machine
end

