-- ==== Sys2Proof/Machine/Factor.lean ====
section
/-! DEFINITION. The factorisations of the solver engine (R285, R289, R290): dense LDLᵀ, block elimination with a Cholesky factorisation of
the Schur complement, and Householder QR. The manual names the methods; the order of operations within one is a plain loop's (DESIGN CHOICE,
log 156). -/
namespace Sys2Proof.Machine

/-! ## Dense LDLᵀ (method 0) -/

/-- What is left of a symmetric matrix after a pivot `d` with its column `l` of the unit lower factor. -/
def ldlRest (d : F64) (l : Vec) (rest : Mat) : Mat :=
  List.zipWith (fun r a => List.zipWith (fun x b => x.sub ((a.mul d).mul b)) r.tail l) rest l

/-- LDLᵀ of a symmetric matrix without pivoting: pivots with their columns of the unit lower factor; `k` bounds the rows. -/
def ldl : Nat → Mat → List (F64 × Vec)
  | k + 1, row :: rest =>
    let d := row.headD F64.zero
    let l := rest.map fun r => (r.headD F64.zero).div d
    (d, l) :: ldl k (ldlRest d l rest)
  | _, _ => []

/-- Solution with the lower factor. -/
def ldlDown : List (F64 × Vec) → Vec → Vec
  | (_, l) :: f, b :: bs => b :: ldlDown f (Vec.sub bs (Vec.scale b l))
  | _, _ => []

/-- Solution with the pivots and the upper factor. -/
def ldlUp : List (F64 × Vec) → Vec → Vec
  | (d, l) :: f, z :: zs =>
    let x := ldlUp f zs
    (z.div d).sub (Vec.dot l x) :: x
  | _, _ => []

/-- Solution of a factorised system. -/
def ldlApply (f : List (F64 × Vec)) (b : Vec) : Vec := ldlUp f (ldlDown f b)

/-- Solution of a symmetric system by LDLᵀ. -/
def ldlSolve (m : Mat) (b : Vec) : Vec := ldlApply (ldl m.length m) b

/-! ## Block elimination with Cholesky (method 1) -/

/-- Cholesky factor of a symmetric matrix: diagonal elements with the columns below them. -/
def cholesky : Nat → Mat → List (F64 × Vec)
  | k + 1, row :: rest =>
    let s := (row.headD F64.zero).sqrt
    let l := rest.map fun r => (r.headD F64.zero).div s
    (s, l) :: cholesky k (List.zipWith (fun r a => List.zipWith (fun x b => x.sub (a.mul b)) r.tail l) rest l)
  | _, _ => []

/-- Solution with a Cholesky factor. -/
def choleskyDown : List (F64 × Vec) → Vec → Vec
  | (s, l) :: f, b :: bs =>
    let y := b.div s
    y :: choleskyDown f (Vec.sub bs (Vec.scale y l))
  | _, _ => []

/-- Solution with its transpose. -/
def choleskyUp : List (F64 × Vec) → Vec → Vec
  | (s, l) :: f, y :: ys =>
    let x := choleskyUp f ys
    (y.sub (Vec.dot l x)).div s :: x
  | _, _ => []

/-- Solution of a symmetric system: the unknowns of `order` are eliminated one after the other, which along a scenario branch is its Riccati
recursion; the Schur complement on the others is factorised by Cholesky (R285). -/
def blockSolve (order : List Nat) (m : Mat) (b : Vec) : Vec :=
  let keep := (List.range m.length).filter fun i => !order.contains i
  let f := ldl order.length (order.map fun i => order.map fun j => m.at i j)
  let cols := keep.map fun j => ldlApply f (order.map fun i => m.at i j)
  let z := ldlApply f (order.map b.at)
  let row (i : Nat) : Vec := order.map fun j => m.at i j
  let schur : Mat := keep.map fun i => List.zipWith (fun j c => (m.at i j).sub (Vec.dot (row i) c)) keep cols
  let g := cholesky keep.length schur
  let xk := choleskyUp g (choleskyDown g (keep.map fun i => (b.at i).sub (Vec.dot (row i) z)))
  let xe := List.foldl (fun v e => Vec.sub v (Vec.scale e.2 e.1)) z (cols.zip xk)
  let all := order.zip xe ++ keep.zip xk
  (List.range m.length).map fun i => ((all.find? fun e => e.1 == i).map fun e => e.2).getD F64.zero

/-! ## Householder QR (method 2, R289) -/

/-- The reflection of a vector in the plane normal to `v`. -/
def reflectBy (v y : Vec) : Vec :=
  let n := Vec.dot v v
  if n.eq F64.zero then y else Vec.sub y (Vec.scale (((F64.ofInt 2).mul (Vec.dot v y)).div n) v)

/-- Householder QR of a matrix given by its columns: each reflection with the diagonal element of R and the rest of its row. -/
def qr : Nat → List Vec → List (Vec × F64 × Vec)
  | k + 1, x :: cols =>
    let a := if (x.at 0).isNeg then Vec.norm x else (Vec.norm x).neg
    let v := (x.at 0).sub a :: x.tail
    let rest := cols.map (reflectBy v)
    (v, a, rest.map fun c => c.at 0) :: qr k (rest.map List.tail)
  | _, _ => []

/-- Qᵀ times a vector. -/
def qrDown : List (Vec × F64 × Vec) → Vec → Vec
  | (v, _, _) :: f, b =>
    let y := reflectBy v b
    y.at 0 :: qrDown f y.tail
  | [], b => b

/-- Q times a vector. -/
def qrUp : List (Vec × F64 × Vec) → Vec → Vec
  | (v, _, _) :: f, y => reflectBy v (y.at 0 :: qrUp f y.tail)
  | [], y => y

/-- A quotient by a diagonal element of R; a column whose element falls below the limit is treated as zero (R289). -/
def overPivot (lim a b : F64) : F64 := if a.abs.lt lim || a.eq F64.zero then F64.zero else b.div a

/-- Solution with R. -/
def rSolve (lim : F64) : List (Vec × F64 × Vec) → Vec → Vec
  | (_, a, r) :: f, y :: ys =>
    let x := rSolve lim f ys
    overPivot lim a (y.sub (Vec.dot r x)) :: x
  | _, _ => []

/-- Solution with Rᵀ. -/
def rtSolve (lim : F64) : List (Vec × F64 × Vec) → Vec → Vec
  | (_, a, r) :: f, b :: bs =>
    let z := overPivot lim a b
    z :: rtSolve lim f (Vec.sub bs (Vec.scale z r))
  | _, _ => []

/-- 10⁻⁹ of the largest diagonal element of R (R289). -/
def pivotLimit (f : List (Vec × F64 × Vec)) : F64 :=
  (F64.ofRatio 1 1000000000).mul (f.foldl (fun m e => m.max e.2.1.abs) F64.zero)

/-- The pseudo-inverse of a matrix, given by its columns, times a vector (R289): least squares where the matrix is not wide, else the
smallest solution. -/
def leastSquares (cols : List Vec) (b : Vec) : Vec :=
  if cols.length ≤ b.length then
    let f := qr cols.length cols
    rSolve (pivotLimit f) f (qrDown f b)
  else
    let rows := (List.range b.length).map fun i => cols.map fun c => c.at i
    let f := qr rows.length rows
    qrUp f (rtSolve (pivotLimit f) f b ++ Vec.zeros (cols.length - b.length))

/-- Solution of a symmetric system as a factorisation method of R285 gives it. -/
def factorSolve (method : Nat) (order : List Nat) (m : Mat) (b : Vec) : Vec :=
  if method = 0 then ldlSolve m b else if method = 1 then blockSolve order m b else leastSquares m b

end Sys2Proof.Machine
end

