-- ==== Sys2Proof/Machine/Open.lean ====
section
/-! DEFINITION. What the manual leaves open over the model's own types: the numerical methods of the solver engine whose
arithmetic it does not give. -/
namespace Sys2Proof.Config
open Sys2Proof.Machine

/-- Diagonal equilibration of R286 step 4: table number, then 0 column, 1 equality row, 2 inequality row, then its index. -/
opaque equilibration : Nat → Nat → Nat → F64
/-- Starting values of variables that R294 does not give: task kind and variable. -/
opaque seedRest : Nat → Nat → F64
/-- Matrix exponential, for the zero-order hold of R260. -/
opaque matExp : Mat → Mat
/-- The problem of a customer's solver task (R285) at a release. -/
opaque customerProblem : Nat → Nat → QpProblem

end Sys2Proof.Config
end

