-- ==== Sys2Proof/Machine/Problem.lean ====
section
/-! DEFINITION. The problems that the press builds: the allocation QP (R253, R254, R274) and the plan (R258, R260 to R262, R264,
R266, R268). -/
namespace Sys2Proof.Machine
open Sys2Proof

/-! ## Sparse rows -/

/-- A row against a vector. -/
def rowDot (r : List (Nat × F64)) (x : Vec) : F64 := F64.sum (r.map (fun e => e.2.mul (x.at e.1)))

/-- Rows against a vector. -/
def rowsMul (m : List (List (Nat × F64))) (x : Vec) : Vec := m.map (fun r => rowDot r x)

/-- The transpose of rows against a vector, `n` long. -/
def rowsMulT (m : List (List (Nat × F64))) (n : Nat) (y : Vec) : Vec :=
  (List.range n).map fun j => F64.sum ((m.zip y).map fun e => match e.1.find? (fun c => c.1 == j) with
    | some c => c.2.mul e.2
    | none => F64.zero)

/-- The largest magnitude in a vector. -/
def infNorm (v : Vec) : F64 := v.foldl (fun m a => m.max a.abs) F64.zero

/-- The largest element of a vector, at least 0. -/
def maxPart (v : Vec) : F64 := v.foldl F64.max F64.zero

/-! ## The allocation QP (R254) -/

/-- Where the variables of the allocation QP stand: forces of azimuth thrusters, thrusts of tunnels, magnitude bounds, slack, joint
increments and hull shift. -/
structure QpLayout where
  az : List (Nat × Thruster × Nat)
  tun : List (Nat × Thruster × Nat)
  mag : List (Nat × Nat)
  s : Nat
  dq : Nat
  joints : Nat
  n : Nat
deriving DecidableEq, Repr, Inhabited

/-- The variables of some thrusters from a column on: forces, thrusts and magnitude bounds; what follows them stands at `s`. -/
def Dev.forceLayout (d : Dev) (avail : List Nat) (base : Nat) : QpLayout :=
  let thr := avail.filterMap fun i => (d.thruster i).map fun r => (i, r)
  let azs := thr.filter (fun e => e.2.type == .azimuth)
  let tuns := thr.filter (fun e => e.2.type == .tunnel)
  let t0 := base + 2 * azs.length
  let m0 := t0 + tuns.length
  let s0 := m0 + thr.length
  { az := ((List.range azs.length).zip azs).map fun e => (e.2.1, e.2.2, base + 2 * e.1)
    tun := ((List.range tuns.length).zip tuns).map fun e => (e.2.1, e.2.2, t0 + e.1)
    mag := ((List.range thr.length).zip thr).map fun e => (e.2.1, m0 + e.1)
    s := s0, dq := s0 + 3, joints := 0, n := s0 + 3 }

/-- The layout for some inputs. -/
def Dev.qpLayout (d : Dev) (q : QpIn) : QpLayout :=
  let l := d.forceLayout q.avail 0
  let nj := if q.coupled then (match q.chain with
    | some c => c.q.length
    | none => 0) else 0
  { l with joints := nj, n := l.dq + (if nj = 0 then 0 else nj + 3) }

/-- The column of a thruster's magnitude bound. -/
def QpLayout.magOf (l : QpLayout) (i : Nat) : Nat := ((l.mag.find? (fun e => e.1 == i)).map (fun e => e.2)).getD 0

/-- Direction `k` of the sixteen of R254. -/
def dir16 (k : Nat) : Vec :=
  let a := (piF.mul (.ofInt k)).div (.ofInt 8)
  [Config.cos a, Config.sin a]

/-- cos(π/16) of R254. -/
def cos16 : F64 := Config.cos (piF.div (.ofInt 16))

/-- Twice a number. -/
def twice (a : F64) : F64 := (F64.ofInt 2).mul a

/-- Rows of H and the linear part of the allocation QP (R254, R274), in the order of the variables; `sw` weighs the slack. -/
def Dev.qpCost (d : Dev) (q : QpIn) (l : QpLayout) (sw : F64) : List (List (Nat × F64)) × Vec :=
  let az := d.paramF P.ALLOC.AZ_WEIGHT
  let ch := d.paramF P.ALLOC.CHANGE_WEIGHT
  let forces := l.az.flatMap fun (i, r, c) =>
    let w := r.weight
    let e := twice (w.add (ch.mul w))
    let t := q.thr.getD i default
    let g (k : Nat) : F64 := (twice ((ch.mul w).mul (t.prev.at k))).neg
    match t.target with
    | none => [([(c, e)], g 0), ([(c + 1, e)], g 1)]
    | some a =>
      let u := dirOf a
      let nx := (u.at 1).neg
      let ny := u.at 0
      let k := twice (az.mul w)
      [([(c, e.add (k.mul (nx.mul nx))), (c + 1, k.mul (nx.mul ny))], g 0),
       ([(c, k.mul (nx.mul ny)), (c + 1, e.add (k.mul (ny.mul ny)))], g 1)]
  let tuns := l.tun.map fun (i, r, c) =>
    let w := r.weight
    ([(c, twice (w.add (ch.mul w)))], (twice ((ch.mul w).mul ((q.thr.getD i default).prev.at 1))).neg)
  let mags : List (List (Nat × F64) × F64) := l.mag.map fun _ => ([], F64.zero)
  let slack := (List.range 3).map fun k => ([(l.s + k, twice sw)], F64.zero)
  let weights := match d.image.alloc.chain with
    | some c => c.joints.map (fun j => j.weight)
    | none => []
  let hw := d.paramF P.ALLOC.COUPLE_HULL_W
  let couple := if l.joints = 0 then [] else
    (List.range l.joints).map (fun j => ([(l.dq + j, twice (Vec.at weights j))], F64.zero))
      ++ (List.range 3).map (fun k => ([(l.dq + l.joints + k, twice hw)], F64.zero))
  let rows := forces ++ tuns ++ mags ++ slack ++ couple
  (rows.map (fun e => e.1), rows.map (fun e => e.2))

/-- The generalised force of a layout's thrusters in one axis, as a row (R250, R254). -/
def QpLayout.axisRow (l : QpLayout) (k : Nat) : List (Nat × F64) :=
  let one := F64.one
  let zero := F64.zero
  (l.az.flatMap (fun (_, r, c) =>
      [(c, Vec.at (r.wrench [one, zero]) k), (c + 1, Vec.at (r.wrench [zero, one]) k)].filter (fun e => k = 2 || e.1 = c + k)))
    ++ (l.tun.map (fun (_, r, c) => (c, Vec.at (r.wrench [zero, one]) k))).filter (fun _ => k != 0)

/-- Equality rows of the allocation QP with their right-hand sides (R254, R274). -/
def qpEqual (q : QpIn) (l : QpLayout) : List (List (Nat × F64) × F64) :=
  let demand := (List.range 3).map fun k => (l.axisRow k ++ [(l.s + k, F64.one)], q.tau.at k)
  let tip := if l.joints = 0 then [] else match q.chain with
    | none => []
    | some ch => (List.range 3).map fun k =>
      ((List.range l.joints).map (fun j => (l.dq + j, Vec.at (ch.jq.getD j []) k))
        ++ (List.range 3).map (fun j => (l.dq + l.joints + j, Vec.at (ch.jeta.getD j []) k)), (ch.err.at k).neg)
  demand ++ tip

/-! ### Inequality rows with their bounds (R254) -/

/-- A horizontal vector within a radius, by the sixteen directions of R254. -/
def circleRows (c : Nat) (radius : F64) : List (List (Nat × F64) × F64) :=
  (List.range 16).map fun k => let u := dir16 k; ([(c, u.at 0), (c + 1, u.at 1)], cos16.mul radius)

/-- Thrust circle of an azimuth thruster; no force inside a forbidden sector. -/
def Thruster.circle (r : Thruster) (alpha : Word) (c : Nat) (tMax : F64) : List (List (Nat × F64) × F64) :=
  circleRows c (if (r.sectorAt alpha).isSome then F64.zero else r.tRated.min tMax)

/-- Azimuth wedge about an azimuth for a reach in degrees. -/
def Thruster.wedgeRows (r : Thruster) (alpha : Word) (reach : F64) (c : Nat) : List (List (Nat × F64) × F64) :=
  let (lo, hi) := r.wedge alpha reach
  let e1 := dirOf (turnBy alpha lo.neg)
  let e2 := dirOf (turnBy alpha hi)
  [([(c, e1.at 1), (c + 1, (e1.at 0).neg)], F64.zero), ([(c, (e2.at 1).neg), (c + 1, e2.at 0)], F64.zero)]

/-- Bias floor; a target outside the wedge leaves a row that binds nothing. -/
def Thruster.floorRow (r : Thruster) (t : ThrIn) (reach : F64) (c : Nat) : List (List (Nat × F64) × F64) :=
  match t.target with
  | none => []
  | some a =>
    let alpha := t.alpha.getD 0
    let (lo, hi) := r.wedge alpha reach
    let off := bamToDeg (a - alpha)
    let u := dirOf a
    [([(c, (u.at 0).neg), (c + 1, (u.at 1).neg)], if lo.neg.le off && off.le hi then t.tMin.neg else r.tRated)]

/-- Limits of a tunnel thruster at a derating. -/
def Thruster.tunnelRows (r : Thruster) (k tMax : F64) (c : Nat) : List (List (Nat × F64) × F64) :=
  [([(c, F64.one)], (k.mul r.fwd).min tMax), ([(c, F64.one.neg)], (k.mul r.rev).min tMax)]

/-- Magnitude bounds of a layout. -/
def QpLayout.magRows (l : QpLayout) : List (List (Nat × F64) × F64) :=
  l.az.flatMap (fun (i, _, c) => (List.range 16).map fun k =>
      let u := dir16 k
      ([(c, u.at 0), (c + 1, u.at 1), (l.magOf i, F64.one.neg)], F64.zero))
    ++ l.tun.flatMap (fun (i, _, c) => [([(c, F64.one), (l.magOf i, F64.one.neg)], F64.zero),
      ([(c, F64.one.neg), (l.magOf i, F64.one.neg)], F64.zero)])

/-- Power of each section at most a limit, linear about a magnitude of each thruster. -/
def QpLayout.powerRows (l : QpLayout) (mag : Nat → F64) (limit : List F64) : List (List (Nat × F64) × F64) :=
  (List.range limit.length).map fun j =>
    let mine := (l.az ++ l.tun).filter (fun e => e.2.1.sec == j)
    let t0 (i : Nat) (r : Thruster) : F64 := (mag i).max ((F64.ofRatio 1 10).mul r.tRated)
    let dp (i : Nat) (r : Thruster) : F64 := ((F64.ofRatio 3 2).mul r.kappa).mul (t0 i r).sqrt
    let fixed := F64.sum (mine.map fun (i, r, _) => (r.power (t0 i r)).sub ((dp i r).mul (t0 i r)))
    (mine.map (fun (i, r, _) => (l.magOf i, dp i r)), (limit.getD j F64.zero).sub fixed)

/-- Limits of the joints and of the hull shift in coupled transfer (R274). -/
def Dev.coupleRows (d : Dev) (q : QpIn) (l : QpLayout) : List (List (Nat × F64) × F64) :=
  if l.joints = 0 then [] else match q.chain, d.image.alloc.chain with
  | some ch, some im =>
    ((List.range l.joints).zip im.joints).flatMap (fun (j, jt) =>
      let c := l.dq + j
      let qj := ch.q.at j
      let step := jt.rate.to64.mul (.ofRatio 1 100)
      [([(c, F64.one)], (jt.hi.to64.sub jt.margin.to64).sub qj),
       ([(c, F64.one.neg)], qj.sub (jt.lo.to64.add jt.margin.to64)),
       ([(c, F64.one)], step), ([(c, F64.one.neg)], step)])
    ++ (List.range 16).map (fun k =>
      let u := dir16 k
      let c := l.dq + l.joints
      ([(c, u.at 0), (c + 1, u.at 1)], (cos16.mul (d.paramF P.ALLOC.COUPLE_SHIFT_MAX)).sub (Vec.dot u d.alloc.shift)))
  | _, _ => []

/-- Reach in degrees of a thruster's wedge in a time in s (R254). -/
def Thruster.reach (r : Thruster) (t : F64) : F64 := r.azRate.to64.mul t

/-- Thrust circle, wedge and tunnel rows of a layout for a time in s of azimuth travel. -/
def QpLayout.forceRows (l : QpLayout) (q : QpIn) (t : F64) : List (List (Nat × F64) × F64) :=
  let at_ (i : Nat) : ThrIn := q.thr.getD i default
  l.az.flatMap (fun (i, r, c) => r.circle ((at_ i).alpha.getD 0) c (at_ i).tMax)
    ++ l.az.flatMap (fun (i, r, c) => r.wedgeRows ((at_ i).alpha.getD 0) (r.reach t) c)
    ++ l.tun.flatMap (fun (i, r, c) => r.tunnelRows (r.k q.u) (at_ i).tMax c)

/-- Inequality rows of the allocation QP with their bounds (R254, R274). -/
def Dev.qpBounds (d : Dev) (q : QpIn) (l : QpLayout) : List (List (Nat × F64) × F64) :=
  let t := d.paramF P.ALLOC.AZ_HORIZON
  let limit := List.zipWith F64.min q.power q.caps
  l.forceRows q t ++ l.az.flatMap (fun (i, r, c) => r.floorRow (q.thr.getD i default) (r.reach t) c) ++ l.magRows
    ++ l.powerRows (fun i => Vec.norm (q.thr.getD i default).prev) limit ++ d.coupleRows q l

/-- A problem from its cost and its rows, with the unknowns that method 1 eliminates; where none are given, the multipliers. -/
def QpProblem.ofRows (n : Nat) (cost : List (List (Nat × F64)) × Vec) (eq le : List (List (Nat × F64) × F64)) (order : List Nat) : QpProblem :=
  ⟨n, cost.1, cost.2, eq.map (fun e => e.1), eq.map (fun e => e.2), le.map (fun e => e.1), le.map (fun e => e.2),
    if order.isEmpty then (List.range eq.length).map (n + ·) else order⟩

/-- The allocation QP in the standard form (R254, R290). -/
def Dev.qpProblem (d : Dev) (q : QpIn) : QpProblem :=
  let l := d.qpLayout q
  QpProblem.ofRows l.n (d.qpCost q l (d.paramF P.ALLOC.SLACK_WEIGHT)) (qpEqual q l) (d.qpBounds q l) []

/-- Force of each thruster in a point of the allocation QP. -/
def QpLayout.forces (l : QpLayout) (x : Vec) : List Vec :=
  (List.range 16).map fun i =>
    match l.az.find? (fun e => e.1 == i), l.tun.find? (fun e => e.1 == i) with
    | some e, _ => [x.at e.2.2, x.at (e.2.2 + 1)]
    | _, some e => [F64.zero, x.at e.2.2]
    | _, _ => [F64.zero, F64.zero]

/-! ## The plan (R258 to R262, R268) -/

/-- The branch of one scenario in the plan's variables (R261): its class and position bound, the layout of its surviving thrusters in a
step counted from column 0, the width of a step with its six vessel states, and the column of its first step. -/
structure Branch where
  f : Nat
  cls : Nat
  bound : F64
  lay : QpLayout
  width : Nat
  base : Nat
deriving DecidableEq, Repr, Inhabited

/-- A layout moved by some columns. -/
def QpLayout.shift (l : QpLayout) (o : Nat) : QpLayout :=
  { l with
    az := l.az.map fun e => (e.1, e.2.1, e.2.2 + o)
    tun := l.tun.map fun e => (e.1, e.2.1, e.2.2 + o)
    mag := l.mag.map fun e => (e.1, e.2 + o)
    s := l.s + o, dq := l.dq + o, n := l.n + o }

/-- The layout of step `k`, counted from 1. -/
def Branch.step (b : Branch) (k : Nat) : QpLayout := b.lay.shift (b.base + (k - 1) * b.width)
/-- Column of vessel state `j` at the end of step `k`: excursion north and east, heading change, velocity. -/
def Branch.state (b : Branch) (k j : Nat) : Nat := (b.step k).s + j
/-- Column of the terminal shortfall in axis `j`, in a plan of `n` steps. -/
def Branch.hold (b : Branch) (n j : Nat) : Nat := b.base + n * b.width + j
/-- Column of the relative overrun σ. -/
def Branch.over_ (b : Branch) (n : Nat) : Nat := b.base + n * b.width + 3

/-- The branches of some scenarios from a column on; what follows them. -/
def Dev.branches (d : Dev) (i : PlanIn) : List Nat → Nat → List Branch × Nat
  | [], base => ([], base)
  | f :: l, base =>
    let lost := d.get (Reg.ALLOC_SCEN.SC_THR.THRUSTERS f)
    let lay := d.forceLayout (i.avail.filter fun k => !lost.testBit k) 0
    let b : Branch := ⟨f, d.get (Reg.ALLOC_SCEN.SC_CFG.CLASS f), i.excPos.getD f F64.zero, lay, lay.s + 6, base⟩
    let r := d.branches i l (base + i.n * b.width + 4)
    (b :: r.1, r.2)

/-- The plan's step 0 seen as an allocation QP (R261): physical limits only. -/
def PlanIn.step0 (i : PlanIn) : QpIn :=
  ⟨i.rel, i.tau, i.avail, i.thr, i.state.at 3, i.power, i.power, true, false, none, i.tov, i.ins, none⟩

/-- The branches of a plan and the column after them, where the four class maxima stand. -/
def Dev.planBranches (d : Dev) (i : PlanIn) : List Branch × Nat := d.branches i i.solved (d.qpLayout i.step0).n

/-- −R(ψ0)ᵀ b, what the survivors must produce at the end (R261). -/
def PlanIn.holdForce (i : PlanIn) : Vec := (bodyBias (i.state.at 2) i.bias).map F64.neg

/-- What a terminal shortfall in an axis is held against: the bias of the axis, or a tenth of the smallest rating (R268). -/
def PlanIn.holdScale (i : PlanIn) (k : Nat) : F64 := (Vec.at i.holdForce k).abs.max ((F64.ofRatio 1 10).mul i.minRating)

/-- The vessel model over one step (R260): transition of (north, east, heading, velocity) about the heading at release, and the effect
of a generalised force, both by zero-order hold. -/
def Dev.planModel (d : Dev) (i : PlanIn) : Mat × Mat :=
  let c := Config.cos (i.state.at 2); let s := Config.sin (i.state.at 2)
  let m := Mat.inv3 d.image.fus.mass
  let a := Mat.mul m d.image.fus.damping 3
  let zero := F64.zero
  let cont := Mat.build 9 9 fun r j =>
    if r = 0 then (if j = 3 then c else if j = 4 then s.neg else zero)
    else if r = 1 then (if j = 3 then s else if j = 4 then c else zero)
    else if r = 2 then (if j = 5 then F64.one else zero)
    else if r < 6 then (if 3 ≤ j && j < 6 then (a.at (r - 3) (j - 3)).neg else if 6 ≤ j then m.at (r - 3) (j - 6) else zero)
    else zero
  let e := Config.matExp (Mat.scale (F32.mk i.dt).to64 cont)
  (Mat.build 6 6 e.at, Mat.build 6 3 fun r j => e.at r (j + 6))

/-- The vessel model as equality rows of a branch (R260, R261): the state at step 0 is the release's, the bias is held. -/
def Dev.motionRows (d : Dev) (i : PlanIn) (b : Branch) : List (List (Nat × F64) × F64) :=
  let (phi, gam) := d.planModel i
  let first : Vec := Vec.zeros 3 ++ [i.state.at 3, i.state.at 4, i.state.at 5]
  let drift := gam.mulVec (bodyBias (i.state.at 2) i.bias)
  (List.range i.n).flatMap fun k0 =>
    let k := k0 + 1
    let force := (List.range 3).flatMap fun x => (((b.step k).axisRow x).map fun e => (x, e))
    (List.range 6).map fun r =>
      let prev := if k0 = 0 then [] else (List.range 6).map fun j => (b.state k0 j, (phi.at r j).neg)
      ((b.state k r, F64.one) :: prev ++ force.map (fun e => (e.2.1, ((gam.at r e.1).mul e.2.2).neg)),
       if k0 = 0 then (Vec.at (phi.mulVec first) r).add (drift.at r) else drift.at r)

/-- The terminal hold as equality rows with the shortfall (R261, R268). -/
def Branch.holdRows (b : Branch) (i : PlanIn) : List (List (Nat × F64) × F64) :=
  (List.range 3).map fun k => ((b.step i.n).axisRow k ++ [(b.hold i.n k, F64.one)], Vec.at i.holdForce k)

/-- The column of a thruster's force or thrust. -/
def QpLayout.colOf (l : QpLayout) (i : Nat) : Nat := (((l.az ++ l.tun).find? (fun e => e.1 == i)).map (fun e => e.2.2)).getD 0

/-- Change of thrust between two columns by at most `r` (R261): of a tunnel with its sign; of an azimuth thruster as the change of its force
in the sixteen directions, which bounds the change of its magnitude. DESIGN CHOICE (log 157): the bound on the magnitude itself is not
convex. -/
def changeRows (type : ThrType) (c c0 : Nat) (r : F64) : List (List (Nat × F64) × F64) := match type with
  | .tunnel => [([(c, F64.one), (c0, F64.one.neg)], r), ([(c, F64.one.neg), (c0, F64.one)], r)]
  | .azimuth => (circleRows c r).map fun e => (e.1 ++ e.1.map fun x => (x.1 - c + c0, x.2.neg), e.2)

/-- The limits of a branch's surviving thrusters at step `k` (R261): circle, wedge about the step-0 azimuth, tunnel, magnitude, change
of thrust since the step before, and available power of the surviving sections. -/
def Branch.limitRows (b : Branch) (i : PlanIn) (l0 : QpLayout) (k : Nat) : List (List (Nat × F64) × F64) :=
  let l := b.step k
  let before : QpLayout := if k ≤ 1 then l0 else b.step (k - 1)
  let dt := (F32.mk i.dt).to64
  let rate := (l.az ++ l.tun).flatMap fun (t, r, c) => changeRows r.type c (before.colOf t) (r.rate.mul dt)
  l.forceRows i.step0 ((F64.ofInt k).mul dt) ++ l.magRows ++ rate ++ l.powerRows (fun t => i.thrust.getD t F64.zero) i.power

/-- The soft conditions of a branch (R261, R268): excursion in the sixteen directions, heading, terminal hold, and σ ≥ 0. -/
def Branch.softRows (b : Branch) (i : PlanIn) : List (List (Nat × F64) × F64) :=
  let sig := b.over_ i.n
  let soft (row : List (Nat × F64)) (scale : F64) : List (Nat × F64) := row ++ [(sig, scale.neg)]
  let hdg := radOfDeg i.excHdg
  let steps := (List.range i.n).flatMap fun k0 =>
    let k := k0 + 1
    (circleRows (b.state k 0) b.bound).map (fun e => (soft e.1 e.2, e.2))
      ++ [(soft [(b.state k 2, F64.one)] hdg, hdg), (soft [(b.state k 2, F64.one.neg)] hdg, hdg)]
  let hold := (List.range 3).flatMap fun j =>
    [(soft [(b.hold i.n j, F64.one)] (i.holdScale j), F64.zero), (soft [(b.hold i.n j, F64.one.neg)] (i.holdScale j), F64.zero)]
  steps ++ hold ++ [([(sig, F64.one.neg)], F64.zero)]

/-- The class weights of R268. -/
def classWeight (c : Nat) : F64 := F64.ofInt ((10 : Int) ^ (3 * (c + 1)))

/-- The unknowns of the plan's KKT system that method 1 eliminates (R285): of each branch the variables and multipliers of its steps from
the last to the first, then of its end; and the multipliers of step 0. The step-0 allocation and the class maxima stay. -/
def PlanIn.order (i : PlanIn) (bs : List Branch) (n eq0 : Nat) : List Nat :=
  let row (e : Nat) : Nat := n + eq0 + e * (6 * i.n + 3)
  let span (a k : Nat) : List Nat := (List.range k).map (a + ·)
  ((List.range bs.length).zip bs).flatMap (fun e =>
    (List.range i.n).reverse.flatMap (fun k => span (e.2.base + k * e.2.width) e.2.width ++ span (row e.1 + 6 * k) 6)
      ++ span (e.2.hold i.n 0) 4 ++ span (row e.1 + 6 * i.n) 3)
    ++ span n eq0

/-- The plan in the standard form (R261, R262, R268, R290): the nominal step 0, a branch for each scenario, and a column for the worst
overrun of each class. -/
def Dev.planProblem (d : Dev) (i : PlanIn) : QpProblem :=
  let q := i.step0
  let l0 := d.qpLayout q
  let (bs, top) := d.planBranches i
  let (h0, g0) := d.qpCost q l0 (F64.ofInt ((10 : Int) ^ 15))
  let n := top + 4
  let small (c : Nat) : F64 := (F64.ofRatio 1 1000).mul (classWeight c)
  let g := (List.range (n - l0.n)).map fun j =>
    let col := l0.n + j
    if top ≤ col then classWeight (col - top)
    else match bs.find? (fun b => b.over_ i.n == col) with
      | some b => small b.cls
      | none => F64.zero
  let step0 := l0.forceRows q i.azT ++ l0.magRows
    ++ l0.powerRows (fun t => Vec.norm (i.thr.getD t default).prev) i.power
  let branch := bs.flatMap fun b => (List.range i.n).flatMap (fun k => b.limitRows i l0 (k + 1)) ++ b.softRows i
  let worst := bs.map (fun b => ([(b.over_ i.n, F64.one), (top + b.cls, F64.one.neg)], F64.zero))
    ++ (List.range 4).map (fun c => ([(top + c, F64.one.neg)], F64.zero))
  QpProblem.ofRows n (h0 ++ List.replicate (n - l0.n) [], g0 ++ g)
    (qpEqual q l0 ++ bs.flatMap (fun b => d.motionRows i b ++ b.holdRows i)) (step0 ++ branch ++ worst)
    (i.order bs n (qpEqual q l0).length)

/-- A force of each thruster as the variables of a layout's forces. -/
def QpLayout.ofForces (l : QpLayout) (f : List Vec) : Vec :=
  l.az.flatMap (fun e => [Vec.at (f.getD e.1 []) 0, Vec.at (f.getD e.1 []) 1]) ++ l.tun.map (fun e => Vec.at (f.getD e.1 []) 1)

/-- Variables of a cold plan (R294): u_0 and every branch at the fallback's forces, the slack of u_0, and the variables that the manual
leaves open. -/
def Dev.coldPlan (d : Dev) (i : PlanIn) (f : List Vec) : Vec :=
  let l0 := d.qpLayout i.step0
  let (bs, top) := d.planBranches i
  let rest (o n : Nat) : Vec := (List.range n).map fun k => Config.seedRest 1 (o + k)
  let forces := l0.ofForces f
  let s := Vec.sub i.tau (d.totalForce (fun t => f.getD t [F64.zero, F64.zero]))
  let branch := bs.flatMap fun b =>
    let v := b.lay.ofForces f
    (List.range i.n).flatMap (fun k => v ++ rest ((b.step (k + 1)).shift v.length |>.n) (b.width - v.length)) ++ rest (b.hold i.n 0) 4
  forces ++ rest forces.length l0.mag.length ++ s ++ branch ++ rest top 4

/-- The relative overrun σ of a scenario (R268): of the position bound, of the heading bound, of the terminal hold. -/
def ScenReading.sigma (x : ScenReading) (i : PlanIn) (f : Nat) : F64 :=
  let short := (List.range 3).map fun k => (x.short.at k).abs.div (i.holdScale k)
  ((((x.d.div (i.excPos.getD f F64.zero)).sub F64.one).max ((x.h.div i.excHdg).sub F64.one)).max (maxPart short)).max F64.zero

/-- A scenario is infeasible (R269). -/
def ScenReading.relaxed (x : ScenReading) (i : PlanIn) (f : Nat) : Bool := (F64.ofRatio 1 1000).lt (x.sigma i f)

/-- What a point of the plan says of one scenario (R266, R268): largest excursions, utilisation at step N, terminal shortfall. -/
def Dev.readBranch (d : Dev) (i : PlanIn) (b : Branch) (x : Vec) : ScenReading :=
  let steps := (List.range i.n).map (· + 1)
  let f := (b.step i.n).forces x
  let force (t : Nat) : Vec := f.getD t [F64.zero, F64.zero]
  let part (e : Nat × Thruster × Nat) : F64 := match e.2.1.type with
    | .azimuth => (Vec.norm (force e.1)).div e.2.1.tRated
    | .tunnel =>
      let t := Vec.at (force e.1) 1
      t.abs.div ((e.2.1.k (i.state.at 3)).mul (if t.isNeg then e.2.1.rev else e.2.1.fwd))
  let mine := b.lay.az ++ b.lay.tun
  let section_ (j : Nat) : F64 :=
    let l := mine.filter (fun e => e.2.1.sec == j)
    if l.isEmpty then F64.zero else (F64.sum (l.map fun e => e.2.1.power (Vec.norm (force e.1)))).div (i.power.getD j F64.zero)
  { d := maxPart (steps.map fun k => Vec.norm [x.at (b.state k 0), x.at (b.state k 1)])
    h := maxPart (steps.map fun k => (degOfRad (x.at (b.state k 2))).abs)
    u := maxPart (mine.map part ++ (List.range i.power.length).map section_)
    short := Vec.sub i.holdForce (d.totalForce force) }

/-- Whether a thruster or section survives in a branch, which its layout tells. -/
def Branch.keeps (b : Branch) (p : Nat × Thruster × Nat → Bool) : Bool := (b.lay.az ++ b.lay.tun).any p

/-- The smallest number of a list; `top` where it is empty. -/
def leastCeiling (top : F64) : List F64 → F64
  | [] => top
  | a :: l => minAll a l

/-- The largest magnitude of a thruster at step 0 with which it still reaches, at its thrust rate, its force of step N in every scenario of
`bs` that it survives (R261, R264). -/
def PlanIn.ceiling (i : PlanIn) (bs : List Branch) (x : Vec) (k : Nat) (r : Thruster) : F64 :=
  let reach := ((F64.ofInt i.n).mul r.rate).mul (F32.mk i.dt).to64
  leastCeiling r.tRated ((bs.filter fun b => b.keeps fun e => e.1 == k).map fun b =>
    (Vec.norm (((b.step i.n).forces x).getD k [F64.zero, F64.zero])).add reach)

/-- The power that the terminal hold leaves unused in section `j`, in the scenario of `bs` that leaves least of those in which the section
survives (R264). -/
def PlanIn.sectionRoom (i : PlanIn) (bs : List Branch) (x : Vec) (j : Nat) : F64 :=
  let avail := i.power.getD j F64.zero
  leastCeiling avail ((bs.filter fun b => b.keeps fun e => e.2.1.sec == j).map fun b =>
    avail.sub (F64.sum ((b.lay.az ++ b.lay.tun).filterMap fun e =>
      if e.2.1.sec = j then some (e.2.1.power (Vec.norm (((b.step i.n).forces x).getD e.1 [F64.zero, F64.zero]))) else none)))

/-- What a point of the plan says (R264, R266). The bounds rest on the scenarios that are not relaxed (R269). DEDUCED (log 158): the
headroom of a thruster is what its thrust rate lets it make good by step N, that of a section the power that the terminal hold leaves. -/
def Dev.readPlan (d : Dev) (i : PlanIn) (x : Vec) : PlanReading :=
  let bs := (d.planBranches i).1
  let u0 := (d.qpLayout i.step0).forces x
  let read := bs.map fun b => (b, d.readBranch i b x)
  let held := (read.filter fun e => !e.2.relaxed i e.1.f).map fun e => e.1
  let room (k : Nat) : F64 := match d.thruster k with
    | some r => ((i.ceiling held x k r).sub (Vec.norm (u0.getD k [F64.zero, F64.zero]))).max F64.zero
    | none => F64.zero
  ⟨u0, (List.range 16).map room, (List.range i.power.length).map (fun j => (i.sectionRoom held x j).max F64.zero), read.map fun e => (e.1.f, e.2)⟩

end Sys2Proof.Machine
end

