-- ==== Sys2Proof/Machine/Solver.lean ====
section
/-! DEFINITION. The solver engine: the press with its inputs and signatures (R253, R257 to R260, R286 to R295), the
iteration (R290 to R292, R296), and the release rule at the fence (R297 to R301). -/
namespace Sys2Proof.Machine
open Sys2Proof

/-! ## The press (R286) -/

/-- The scaled problem (R286 step 4, R290). -/
def QpProblem.scale (p : QpProblem) (table : Nat) : QpProblem :=
  let dx := Config.equilibration table 0
  let ra := Config.equilibration table 1
  let rc := Config.equilibration table 2
  let rows (r : Nat → F64) (m : List (List (Nat × F64))) : List (List (Nat × F64)) :=
    ((List.range m.length).zip m).map fun e => e.2.map fun c => (c.1, ((r e.1).mul c.2).mul (dx c.1))
  let vec (r : Nat → F64) (v : Vec) : Vec := ((List.range v.length).zip v).map fun e => (r e.1).mul e.2
  ⟨p.n, rows dx p.h, vec dx p.g, rows ra p.a, vec ra p.b, rows rc p.c, vec rc p.d, p.order⟩

/-- The variables of the problem from scaled ones. -/
def unscale (table : Nat) (x : Vec) : Vec :=
  ((List.range x.length).zip x).map fun e => (Config.equilibration table 0 e.1).mul e.2

/-- Scaled variables. -/
def rescale (table : Nat) (x : Vec) : Vec :=
  ((List.range x.length).zip x).map fun e => e.2.div (Config.equilibration table 0 e.1)

/-- Bytes of a bit stream, first bit lowest (R293). -/
def packBits : Nat → List Bool → List Byte
  | 0, _ => []
  | _ + 1, [] => []
  | k + 1, l =>
    let b := (l.take 8)
    BitVec.ofNat 8 (((List.range b.length).zip b).foldl (fun n e => n + bit e.2 * 2 ^ e.1) 0) :: packBits k (l.drop 8)

/-- The sparsity bitmap of a problem (R293). -/
def QpProblem.bitmap (p : QpProblem) : List Byte :=
  let bits := (p.h ++ p.a ++ p.c).flatMap fun r => (List.range p.n).map fun j => r.any (fun c => c.1 == j)
  packBits (bits.length / 8 + 1) bits

/-- The structure signature (R293). -/
def signature (task : Nat) (p : QpProblem) (avail scen targets coupled joints planN : Nat) (planDt : Word) (table : Nat) : Word :=
  crc32c (leBytes 1 task ++ leBytes 2 p.n ++ leBytes 2 p.a.length ++ leBytes 2 p.c.length ++ leBytes 2 avail ++ leBytes 3 scen
    ++ leBytes 2 targets ++ leBytes 1 coupled ++ leBytes 1 joints ++ leBytes 1 planN ++ leBytes 4 planDt.toNat
    ++ leBytes 2 table ++ List.replicate 25 0 ++ p.bitmap)

/-- The plan in force does not bound the QP (R265). -/
def Dev.planStale (d : Dev) (avail : List Nat) : Bool :=
  match d.alloc.plan with
  | none => true
  | some p =>
    (match d.fus.initAt with
      | some t => d.alloc.planAt < t
      | none => true)
    || p.avail != avail || d.param P.ALLOC.PLAN_AGE_MAX < d.alloc.planAge
    || (d.mode = 7 && d.flag Reg.ALLOC_XPLAN.NO_TIGHTEN)

/-- The demand of one axis before chain loads (R253): the host's in M3, the PID channel's output in the other modes. -/
def Dev.axisDemand (d : Dev) (k : Nat) (p : Option Packet) : F64 :=
  if d.mode = 3 then (d.getF (Reg.LOOP_PID.PID_MAN.MAN k)).to64
  else match p with
    | some q => f32At q.payload 0
    | none => d.solv.tau.at k

/-- Rating of a thruster, 0 where the image has none. -/
def Dev.rating (d : Dev) (i : Nat) : F64 := match d.thruster i with
  | some r => r.tRated
  | none => F64.zero

/-- What the press takes for a thruster by the physical limits alone (R253, R265). -/
def Dev.thrIn (d : Dev) (i : Nat) : ThrIn :=
  ⟨(d.feedback i).map fbAzimuth, d.alloc.prev.getD i [F64.zero, F64.zero], none, F64.zero, d.rating i⟩

/-- The excursion bound of a scenario in m (R258). -/
def Dev.scenBound (d : Dev) (f : Nat) : F64 :=
  let own := d.paramF (P.ALLOC.SCEN_EXC_POS f)
  if own.eq F64.zero then d.paramF P.ALLOC.EXC_POS else own

/-- The smallest rating of the image's thrusters. -/
def Dev.minRating (d : Dev) : F64 :=
  match d.image.alloc.thrusters.filterMap id with
  | [] => F64.zero
  | r :: l => minAll r.tRated (l.map (fun t => t.tRated))

/-- The sensor slots that a press takes, each with its input number after the first five (R286): feedback of the image's thrusters, joints,
section powers. -/
def Dev.pressSlots (d : Dev) : List (Nat × Nat) :=
  ((List.range 16).filter (fun i => (d.thruster i).isSome)).map (fun i => (5 + i, 28 + i)) ++ d.jointList.map (fun j => (21 + j, 44 + j))
    ++ ((List.range d.image.alloc.sections.length).zip d.image.alloc.sections).filterMap fun e => e.2.map fun s => (29 + e.1, s)

/-- The data of those slots as a press sees them. -/
def Dev.pressData (d : Dev) : List Packet := d.pressSlots.filterMap fun e => d.entry.slots.getD e.2 none

/-- The device as a stage sees it that takes the fusion output `fus`: the estimates up to the one which that output carries (R19); none
where it has no such input. -/
def Dev.seenBy (v : Dev) (fus : Option Packet) : Dev :=
  { v with fus := { v.fus with hist := match fus with
    | some p => v.fus.hist.dropWhile fun h => (h.rel : Int) != p.tovNs
    | none => [] } }

/-- The plan whose bounds a press takes as its input 4: the plan in force; where its bounds are broken, the one before it under Hold (R126).
-/
def Dev.takeBounds (d v : Dev) (role : TaskRole) (res : Nat) (fault : ChainFault) : Option PlanSet × Dev :=
  match v.alloc.plan with
  | none => (none, d)
  | some p =>
    let (b, d) := d.takeOf role res fault 4 0x22 0 p.bounds (v.alloc.before.map fun o => o.bounds)
    match b with
    | none => (none, d)
    | some b => (if b = p.bounds then some p else v.alloc.before.map fun o => { o with bounds := b }, d)

/-- What the inputs of an allocation show (R253, R278): whether the plan bounds it, the demand, the chain quantities of the press. -/
def Dev.showQp (d : Dev) (q : QpIn) : Dev :=
  let d : Dev := match q.chain with
    | some c => d.showChain c
    | none => d
  let d : Dev := (d.setB Reg.ALLOC_STATUS.PLAN_STALE q.stale).setB Reg.ALLOC_STATUS.PLAN_VALID (!q.stale)
  let d : Dev := ((d.setF Reg.ALLOC_DEMAND_X.TAU (q.tau.at 0).to32).setF Reg.ALLOC_DEMAND_Y.TAU (q.tau.at 1).to32).setF
    Reg.ALLOC_DEMAND_N.TAU (q.tau.at 2).to32
  { d with solv := { d.solv with tau := q.tau } }

/-- The outputs behind an allocation exist (R62): the fusion output, and where the position loops give the demand theirs. -/
def Dev.hasDemand (v : Dev) : Bool :=
  (v.output 0x10 0).isSome && (v.mode = 3 || [0, 1, 2].all fun k => (v.output 0x20 k).isSome)

/-- Gather the inputs of an allocation QP released at `tRel` (R253), from what the task `role` sees. -/
def Dev.gatherQp (d v : Dev) (role : TaskRole) (res tRel : Nat) (fault : ChainFault) : QpIn × Dev :=
  let (v, d) := d.takeSlots v role res fault v.pressSlots
  let (avail, d) := d.sampleThrusters v
  let (fus, d) := d.takeInput v role res fault 0 0x10 0
  let v : Dev := v.seenBy fus
  let (p0, d) := if v.mode = 3 then (none, d) else d.takeInput v role res fault 1 0x20 0
  let (p1, d) := if v.mode = 3 then (none, d) else d.takeInput v role res fault 2 0x20 1
  let (p2, d) := if v.mode = 3 then (none, d) else d.takeInput v role res fault 3 0x20 2
  let (plan, d) := d.takeBounds v role res fault
  let v : Dev := v.judgeCouple
  let chain := v.image.alloc.chain.map (fun c => v.chainIn c tRel)
  let wrench := match chain with
    | some c => c.wrench
    | none => Vec.zeros 3
  let tau := Vec.sub [v.axisDemand 0 p0, v.axisDemand 1 p1, v.axisDemand 2 p2] wrench
  let stale := v.planStale avail || plan.isNone
  let power := (List.range v.image.alloc.sections.length).map fun j => (v.secPower j).1
  let thr := (List.range 16).map fun i => match stale, plan with
    | false, some p => ({ v.thrIn i with
        target := p.targets.getD i none, tMin := p.tMin.getD i F64.zero, tMax := p.tMax.getD i (v.rating i) } : ThrIn)
    | _, _ => v.thrIn i
  let caps := match stale, plan with
    | false, some p => p.caps
    | _, _ => power
  let ins := [fus, p0, p1, p2].filterMap id ++ v.pressData
  ({ rel := tRel, tau := tau, avail := avail, thr := thr
     u := (match fus with
       | some p => f32At p.payload 5
       | none => v.surge)
     power := power, caps := caps, stale := stale
     coupled := v.coupled && !v.flag Reg.ALLOC_STATUS.COUPLE_HELD
     chain := chain
     tov := (match fus with
       | some p => p.tovNs
       | none => tRel)
     ins := ins, bounds := if stale then none else plan.map fun p => p.bounds }, d)

/-- Scenarios enabled, split into those to solve and the moot ones (R259). -/
def Dev.scenarios (d : Dev) (avail : List Nat) : List Nat × List Nat :=
  let on := (List.range d.image.alloc.scenarios.length).filter fun f => d.alloc.enabled.testBit f
  let moot (f : Nat) : Bool := (List.range 16).all fun i =>
    !(d.get (Reg.ALLOC_SCEN.SC_THR.THRUSTERS f)).testBit i || !avail.contains i
  (on.filter (fun f => !moot f), on.filter moot)

/-- Gather the inputs of a plan released at `tRel` (R260), from what its task sees, and evaluate the chain (R286 step 3). -/
def Dev.gatherPlan (d v : Dev) (tRel : Nat) (fault : ChainFault) : PlanIn × Dev :=
  let (v, d) := d.takeSlots v .plan 65 fault v.pressSlots
  let (avail, d) := d.sampleThrusters v
  let (fus, d) := d.takeInput v .plan 65 fault 0 0x10 0
  let v : Dev := v.seenBy fus
  let (plan, d) := d.takeBounds v .plan 65 fault
  let d : Dev := match v.image.alloc.chain with
    | some c => d.showChain (v.chainIn c tRel)
    | none => d
  let (solved, moot) := v.scenarios avail
  let x := match v.fus.hist with
    | h :: _ => h.x
    | [] => Vec.zeros 15
  let power := (List.range v.image.alloc.sections.length).map fun j => (v.secPower j).1
  ({ rel := tRel, state := x, bias := [x.at 6, x.at 7, x.at 8], tau := v.solv.tau, avail := avail
     thr := (List.range 16).map (fun i => match v.planStale avail, plan with
       | false, some p => { v.thrIn i with target := p.targets.getD i none }
       | _, _ => v.thrIn i)
     thrust := (List.range 16).map (fun i => Vec.norm (v.fedForce (x.at 3) i))
     power := power, n := v.param P.ALLOC.PLAN_N, dt := BitVec.ofNat 32 (v.param P.ALLOC.PLAN_DT)
     azT := v.paramF P.ALLOC.PLAN_AZ_T, excPos := (List.range 24).map v.scenBound, excHdg := v.paramF P.ALLOC.EXC_HDG
     minRating := v.minRating, solved := solved, moot := moot
     tov := (match fus with
       | some p => p.tovNs
       | none => tRel)
     ins := [fus].filterMap id ++ v.pressData }, d)

/-- One solver task's state. -/
def Dev.slot (d : Dev) (t : Nat) : SolvSlot := d.solv.slots.getD t default

/-- Change one solver task's state. -/
def Dev.setSlot (d : Dev) (t : Nat) (f : SolvSlot → SolvSlot) : Dev :=
  { d with solv := { d.solv with slots := modAt d.solv.slots t f } }

/-- The image's row of a solver task. -/
def Dev.solvTask (d : Dev) (t : Nat) : Option SolvTask := d.image.alloc.solver[t]?

/-- Show the lanes that iterate (R303). -/
def Dev.setBusy (d : Dev) (r : SolvTask) (b : Bool) : Dev :=
  (List.range r.laneCount).foldl (fun d k => d.setBitAt Reg.SOLV_LANES.BUSY (r.laneFirst + k) b) d

/-- Slack, w and z of a cold start (R294). -/
def coldPoint (p : QpProblem) (x : Vec) (push : F64) : Iterate :=
  let w := (Vec.sub p.d (rowsMul p.c x)).map (fun a => a.max push)
  ⟨x, Vec.zeros p.a.length, w.map (fun a => F64.one.div a), w⟩

/-- Variables of a cold allocation QP (R294): the fallback's forces, its slack, and the variables the manual leaves open. -/
def Dev.coldQp (d : Dev) (q : QpIn) (l : QpLayout) : Vec :=
  let f := d.fallbackForces q
  let forces : Vec := l.ofForces f
  let s := Vec.sub q.tau (d.totalForce (fun i => f.getD i [F64.zero, F64.zero]))
  let mags := (List.range l.mag.length).map (fun k => Config.seedRest 0 (forces.length + k))
  let joints := if l.joints = 0 then [] else
    (match q.chain with
      | some c => leastSquares c.jq (c.err.map F64.neg)
      | none => []) ++ (List.range 3).map (fun k => Config.seedRest 0 (l.dq + l.joints + k))
  forces ++ mags ++ s ++ joints

/-- Why a solve starts cold, 0 for a warm start (R294). -/
def SolvSlot.coldCause (s : SolvSlot) (sig : Word) : Nat :=
  if !s.ran then 3
  else if s.discarded then 4
  else match s.warm with
    | none => 2
    | some w => if w.2 = sig then 0 else 1

/-- The role and the kind of output of a solver task (R121). -/
def SolvTask.output (r : SolvTask) : TaskRole × Nat := if r.kind = 0 then (.qp, 0x21) else if r.kind = 1 then (.plan, 0x22) else (.customer, 0xF0)

/-- Two solver tasks share no lane and no byte of the solver SRAM (R284). -/
def SolvTask.apart (a b : SolvTask) : Bool :=
  let disjoint (x y : Nat × Nat) : Bool := x.2 = 0 || y.2 = 0 || x.1 + x.2 ≤ y.1 || y.1 + y.2 ≤ x.1
  disjoint (a.laneFirst, a.laneCount) (b.laneFirst, b.laneCount) && disjoint a.sram b.sram

/-- The lanes and the SRAM region of solver task `t` are its own: no task before it has them (R284). -/
def Dev.ownsLanes (d : Dev) (t : Nat) (row : SolvTask) : Bool :=
  row.laneCount != 0 && (List.range t).all fun k => match d.solvTask k with
    | some r => r.laneCount = 0 || r.apart row
    | none => true

/-- A solver task has work at a release that `v` shows (R33, R34, R62): its mode needs it, and its inputs exist. -/
def Dev.solves (v : Dev) (row : SolvTask) : Bool :=
  if row.kind = 0 then v.allocates && v.hasDemand else if row.kind = 1 then (v.output 0x10 0).isSome else true

/-- The press of a solver task (R286, R293, R294): problem, signature, start; E55 at its end when the signatures differ. -/
def Dev.press (d v : Dev) (t : Nat) (fault : ChainFault) : Dev :=
  match d.solvTask t with
  | none => d
  | some row =>
    let tRel := v.sched.st
    if !v.solves row || !d.ownsLanes t row then d
    else
      let (inp, prob, seed, sig, d) : SolveIn × QpProblem × Vec × Word × Dev :=
        if row.kind = 0 then
          let (q, d) := d.gatherQp v .qp 64 tRel fault
          let l := v.qpLayout q
          let p := v.qpProblem q
          let targets := maskOf (q.avail.filter (fun i => (q.thr.getD i default).target.isSome))
          (.qp q, p, v.coldQp q l,
           signature t p (maskOf q.avail) 0 targets (bit q.coupled) (v.jointList.length) 0 0 row.table,
           { (d.showQp q) with solv := { (d.showQp q).solv with qp := some q } })
        else if row.kind = 1 then
          let (i, d) := d.gatherPlan v tRel fault
          let p := v.planProblem i
          (.plan i, p, v.coldPlan i (v.fallbackForces i.step0),
           signature t p (maskOf i.avail) (maskOf i.solved) 0 (bit v.coupled) (v.jointList.length) i.n i.dt row.table, d)
        else
          let p := Config.customerProblem t tRel
          (.customer tRel, p, Vec.zeros p.n, signature t p 0 0 0 0 0 0 0 row.table, d)
      let slot := d.slot t
      let cause := slot.coldCause sig
      let d : Dev := match d.opRow row.output.1 row.output.2 0 with
        | some o => d.opStart o.1 o.2
        | none => d
      let scaled := prob.scale row.table
      let push := d.paramD P.SOLV.WS_PUSH
      let start := match cause, slot.warm with
        | 0, some w => (⟨w.1.x, w.1.y, w.1.z.map (fun a => a.max push), w.1.w.map (fun a => a.max push)⟩ : Iterate)
        | _, _ => coldPoint scaled (rescale row.table seed) push
      let d : Dev := ((d.set (Reg.SOLV_TASK.ST_DIMS.NVAR t) prob.n).set (Reg.SOLV_TASK.ST_DIMS.NCON t) prob.c.length).set
        (Reg.SOLV_TASK.ST_SIG.SIG t) sig.toNat
      let d : Dev := (d.setSlot t (fun s => { s with
        run := some ⟨inp, prob, scaled, sig, cause, start, none, none, false, none⟩
        ran := true, discarded := false })).setBusy row true
      if cause = 1 then
        ((d.inc (Reg.SOLV_TASK.ST_CNT2.COLD t)).setB Reg.SOLV_STATUS.COLD_STICKY true).raise 55
          [0xC0000, 0xC0114 + 0x40 * t, 0xC0118 + 0x40 * t]
      else d

/-- R286: the press of solver task `task` ends, in the slot of its certified task. -/
def execSolverPress (t task : Nat) (fault : ChainFault) (s : State) : Host.Outcome State Fault Refusal :=
  s.run fun d => (d.advance t).whenUp fun d => match d.solvTask task with
    | some row => d.runTask row.task 0 fun v d => d.press v task fault
    | none => d

/-! ## The iteration (R290) -/

/-- Residuals of a point. -/
def QpProblem.rd (p : QpProblem) (i : Iterate) : Vec :=
  Vec.add (Vec.add (Vec.add (rowsMul p.h i.x) p.g) (rowsMulT p.a p.n i.y)) (rowsMulT p.c p.n i.z)
/-- Equality residual. -/
def QpProblem.rp (p : QpProblem) (i : Iterate) : Vec := Vec.sub (rowsMul p.a i.x) p.b
/-- Inequality residual. -/
def QpProblem.ri (p : QpProblem) (i : Iterate) : Vec := Vec.sub (Vec.add (rowsMul p.c i.x) i.w) p.d

/-- μ of a point: wᵀz over the number of inequalities. -/
def muOf (w z : Vec) : F64 := (Vec.dot w z).div (.ofInt w.length)

/-- The largest step in [0, 1] that keeps a vector non-negative. -/
def maxStepOf (v dv : Vec) : F64 :=
  (v.zip dv).foldl (fun a e => if e.2.isNeg then a.min ((e.1.neg).div e.2) else a) F64.one

/-- maxstep of R290. -/
def maxStep (i s : Iterate) : F64 := (maxStepOf i.w s.w).min (maxStepOf i.z s.z)

/-- Product element by element. -/
def hadamard (a b : Vec) : Vec := List.zipWith F64.mul a b

/-- Element of sparse rows. -/
def rowsAt (m : List (List (Nat × F64))) (i j : Nat) : F64 :=
  (((m.getD i []).find? fun c => c.1 == j).map fun c => c.2).getD F64.zero

/-- Quotient element by element. -/
def quotients (a b : Vec) : Vec := List.zipWith F64.div a b

/-- The reduced KKT matrix (R290): H + C′ diag(z ./ w) C + 10⁻¹⁰ I beside A′, above A beside −10⁻¹⁰ I. -/
def QpProblem.kkt (p : QpProblem) (w z : Vec) : Mat :=
  let eps := F64.ofRatio 1 10000000000
  let q := (List.range p.c.length).zip (quotients z w)
  Mat.build (p.n + p.a.length) (p.n + p.a.length) fun i j =>
    if i < p.n && j < p.n then
      let s := (rowsAt p.h i j).add (F64.sum (q.map fun e => ((rowsAt p.c e.1 i).mul e.2).mul (rowsAt p.c e.1 j)))
      if i = j then s.add eps else s
    else if i < p.n then rowsAt p.a (j - p.n) i
    else if j < p.n then rowsAt p.a (i - p.n) j
    else if i = j then eps.neg else F64.zero

/-- kkt_solve of R290: the system for x and y by the task's method, then the steps of w and z that its elimination gives:
C δx + δw = −ri, and z δw + w δz equal to the last right-hand side. -/
def QpProblem.kktSolve (p : QpProblem) (method : Nat) (a : KktArgs) : Iterate :=
  let lead := quotients (Vec.add a.rc (hadamard a.z a.ri)) a.w
  let rhs := (Vec.add a.rd (rowsMulT p.c p.n lead)).map F64.neg ++ a.rp.map F64.neg
  let s := factorSolve method p.order (p.kkt a.w a.z) rhs
  let dx := s.take p.n
  let dw := (Vec.add a.ri (rowsMul p.c dx)).map F64.neg
  ⟨dx, s.drop p.n, quotients (Vec.sub a.rc (hadamard a.z dw)) a.w, dw⟩

/-- One iteration (R290): the new point, and σ and the step length for the expert log. -/
def QpProblem.iterate (p : QpProblem) (method : Nat) (i : Iterate) : Iterate × F64 × F64 :=
  let rd := p.rd i
  let rp := p.rp i
  let ri := p.ri i
  let mu := muOf i.w i.z
  let wz := hadamard i.w i.z
  let aff := p.kktSolve method ⟨i.w, i.z, rd, rp, ri, wz.map F64.neg⟩
  let a1 := maxStep i aff
  let muAff := muOf (Vec.add i.w (Vec.scale a1 aff.w)) (Vec.add i.z (Vec.scale a1 aff.z))
  let ratio := muAff.div mu
  let sig := (ratio.mul ratio).mul ratio
  let cor := p.kktSolve method ⟨i.w, i.z, rd, rp, ri,
    (Vec.sub (wz.map F64.neg) (hadamard aff.w aff.z)).map (fun e => e.add (sig.mul mu))⟩
  let a := F64.one.min ((F64.ofRatio 995 1000).mul (maxStep i cor))
  (⟨Vec.add i.x (Vec.scale a cor.x), Vec.add i.y (Vec.scale a cor.y), Vec.add i.z (Vec.scale a cor.z),
    Vec.add i.w (Vec.scale a cor.w)⟩, sig, a)

/-- The feasibility verdict (R297), on the problem as it stands before equilibration. -/
def Dev.feasibleAt (d : Dev) (p : QpProblem) (x : Vec) : Bool :=
  let tol := d.paramD P.SOLV.FEAS_TOL
  (infNorm (Vec.sub (rowsMul p.a x) p.b)).le (tol.mul (F64.one.add (infNorm p.b)))
    && (maxPart (Vec.sub (rowsMul p.c x) p.d)).le (tol.mul (F64.one.add (infNorm p.d)))

/-- The time of validity of what a solve works on, and the tagged inputs it used (R19, R124). -/
def SolveIn.chain : SolveIn → Int × List Packet
  | .qp q => (q.tov, q.ins ++ q.bounds.toList)
  | .plan i => (i.tov, i.ins)
  | .customer rel => (rel, [])

/-- The words of a checkpoint (R296): iteration number with the verdicts, residual norms and μ, and the iterate. -/
def checkpointWords (k : Nat) (feas conv : Bool) (rd rp ri mu : F64) (i : Iterate) : List Word :=
  BitVec.ofNat 32 (k + 65536 * bit feas + 131072 * bit conv)
    :: ([rd, rp, ri, mu] ++ i.x ++ i.y ++ i.z ++ i.w).flatMap fun e => quadWords e.bits

/-- Seal a checkpoint of a point (R291, R296, R124): its words, lineage and flags from the solve's inputs, COLD of a cold start (R295). -/
def Dev.checkpoint (d : Dev) (s : Solve) (row : SolvTask) (k : Nat) (i : Iterate) : Checkpoint × Dev :=
  let p := s.scaled
  let rd := infNorm (p.rd i)
  let rp := infNorm (p.rp i)
  let ri := infNorm (p.ri i)
  let mu := muOf i.w i.z
  let opt := d.paramD P.SOLV.OPT_TOL
  let feas := d.feasibleAt s.problem (unscale row.table i.x)
  let conv := rd.le (opt.mul (F64.one.add (infNorm p.g)))
    && rp.le ((d.paramD P.SOLV.FEAS_TOL).mul (F64.one.add (infNorm p.b))) && mu.le opt && feas
  let (role, kind) := row.output
  let own : BitVec 8 := if s.cause = 0 then 0 else 4
  let (p, d) := d.transform (64 + row.laneFirst) kind (d.opOf role kind 0) own s.input.chain.1 s.input.chain.2
    (checkpointWords k feas conv rd rp ri mu i)
  (⟨k, i, rd, rp, ri, mu, feas, conv, d.sched.st, p⟩, d)

/-- One entry of the expert log (R306). -/
def Dev.logCheckpoint (d : Dev) (t : Nat) (c : Checkpoint) (sig a : F64) : Dev :=
  if d.mode = 7 && d.flag Reg.SOLV_XLOG.EN && d.get Reg.SOLV_XLOG.TASK = t then
    let f (x : F64) : List Byte := leBytes 8 x.bits.toNat
    let bytes := leBytes 4 d.ts32.toNat ++ leBytes 4 c.k ++ f c.rd ++ f c.rp ++ f c.ri ++ f c.mu ++ f sig ++ f a
      ++ leBytes 4 (bit c.feasible + 2 * bit c.converged) ++ leBytes 4 0
    let n := d.solv.logAt % 4096
    { (d.bar2Write (0x03B00000 + 64 * n) bytes) with solv := { d.solv with logAt := n + 1 } }
  else d

/-- The gate of R292: whether a further iteration may start before the fence; it would start at the seal of the checkpoint before it. The
override's cap stands while it is active, and for a solve that it was active for as the unit left M7 (R79). -/
def Dev.mayIterate (d : Dev) (t fence : Nat) (row : SolvTask) (s : Solve) : Bool :=
  match s.latest with
  | none => true
  | some c =>
    if c.converged then false
    else if d.mode = 7 && d.flag Reg.SCHED_XOVR.EN && d.get Reg.SCHED_XOVR.TASK = row.task then
      c.k < d.get Reg.SCHED_XOVR.ITER_CAP
    else match s.xcap with
      | some n => c.k < n
      | none => c.k < d.get (Reg.SOLV_TASK.ST_CAP.CAP t) && c.at_ + row.tIt ≤ fence

/-- Seal a checkpoint into LATEST and, if feasible, into FEASIBLE (R296): the release buffers are where its stream is consumed (R127). The
lanes are idle once no further iteration may start (R291, R292, R303). -/
def Dev.sealCheckpoint (d : Dev) (t fence : Nat) (row : SolvTask) (s : Solve) (i : Iterate) (k : Nat) (sig a : F64) : Dev :=
  let (c, d) := d.checkpoint s row k i
  let s : Solve := { s with point := i, latest := some c, feasible := if c.feasible then some c else s.feasible }
  let d : Dev := (d.deliver c.pkt fun d => d.setSlot t fun u => { u with run := some s }).logCheckpoint t c sig a
  if d.mayIterate t fence row s then d else d.setBusy row false

/-- Boundary 0 after the initial point, then each iteration (R290, R296); `sram` tells that the iteration met an
uncorrectable error in the task's SRAM region (R65, R299). -/
def Dev.solverIterate (d : Dev) (t fence : Nat) (sram : Bool) (fault : ChainFault) : Dev :=
  match d.solvTask t, (d.slot t).run with
  | some row, some s =>
    if sram then
      let d : Dev := (d.setB Reg.SOLV_STATUS.SRAM_ERR_STICKY true).setSlot t fun u => { u with
        warm := none, run := some { s with noWarm := true } }
      ((d.set (Reg.SOLV_TASK.ST_WSIG.SIG t) 0).raise 23 [0xC0000]).uncover 1
    else if !d.mayIterate t fence row s then d.setBusy row false
    else
      match fault with
      | .datapath _ d0 d1 =>
        let (role, kind) := row.output
        let (q, _) := d.seal (64 + row.laneFirst) kind (d.opOf role kind 0) 0 0 s.input.chain.1 []
        d.chainBreak 1 (64 + row.laneFirst) row.task q d0 d1
      | _ =>
        match s.latest with
        | none => d.sealCheckpoint t fence row s s.point 0 F64.zero F64.zero
        | some c =>
          let (i, sig, a) := s.scaled.iterate row.method s.point
          d.sealCheckpoint t fence row s i (c.k + 1) sig a
  | _, _ => d

/-- R290: solver task `task` completes an iteration in the slot of its certified task and seals its checkpoint, or the gate of R292 stops
it. -/
def execSolverIteration (t task : Nat) (sram : Bool) (fault : ChainFault) (s : State) :
    Host.Outcome State Fault Refusal :=
  s.run fun d => (d.advance t).whenUp fun d => match (d.solvTask task).bind fun row => d.slotAt row.task with
    | some e => d.within e fun _ d => d.solverIterate task e.fence sram fault
    | none => d

/-! ## The fence (R297 to R299) -/

/-- The checkpoint released at the fence with its outcome 0 or 1 (R297). -/
def Solve.pick (s : Solve) : Option (Nat × Checkpoint) :=
  match s.latest, s.feasible with
  | some c, f => if c.converged then some (0, c) else f.map (fun k => (1, k))
  | none, _ => none

/-- A persistent fallback is counted and told to the canary (R301): major frames in a row in which the QP's outcome was 2. -/
def Dev.countFallback (d : Dev) (outcome : Nat) : Dev :=
  if outcome = 2 then
    let n := d.solv.fbRun + 1
    let d : Dev := { d with solv := { d.solv with fbRun := n } }
    if d.param P.SOLV.FB_PERSIST ≤ n then d.setB Reg.SOLV_STATUS.FB_PERSIST true else d
  else ({ d with solv := { d.solv with fbRun := 0 } }).setB Reg.SOLV_STATUS.FB_PERSIST false

/-- Show how a solve ended (R299, R304): iterations, outcome, cold start with its cause, and whether the fence fell inside a factorisation;
and count it (R301, R303). E53 of a customer's result, which no task of the path takes, is raised at the fence (log 159). -/
def Dev.solveEnds (d : Dev) (t : Nat) (row : SolvTask) (iters outcome cause : Nat) (inFact : Bool) : Dev :=
  let d : Dev := ((d.set (Reg.SOLV_TASK.ST_LAST.ITERS t) iters).set (Reg.SOLV_TASK.ST_LAST.OUTCOME t) outcome).setB
    (Reg.SOLV_TASK.ST_LAST.COLD t) (cause != 0)
  let d : Dev := (d.set (Reg.SOLV_TASK.ST_LAST.COLD_CAUSE t) cause).setB (Reg.SOLV_TASK.ST_LAST.FACT_ABORT t) inFact
  let d : Dev := if d.get (Reg.SOLV_TASK.ST_ITMAX.ITER_HWM t) < iters then
      d.set (Reg.SOLV_TASK.ST_ITMAX.ITER_HWM t) iters else d
  let d : Dev :=
    if outcome = 1 then (d.inc (Reg.SOLV_TASK.ST_CNT1.PARTIAL t)).setB Reg.SOLV_STATUS.PARTIAL_STICKY true
    else if outcome = 2 then (d.inc (Reg.SOLV_TASK.ST_CNT1.FALLBACK t)).setB Reg.SOLV_STATUS.FALLBACK_STICKY true
    else if outcome = 3 then d.inc (Reg.SOLV_TASK.ST_CNT1.FALLBACK t)
    else d
  let d : Dev := if inFact then
      (d.inc (Reg.SOLV_TASK.ST_CNT2.FACT_ABORT t)).setB Reg.SOLV_STATUS.FACT_ABORT_STICKY true else d
  let d : Dev := if row.kind = 0 then d.countFallback outcome else d
  if row.kind = 2 && outcome = 1 then d.raise 53 [0xC0000] else d

/-- Keep the warm start of a solver task (R294, R298). -/
def Dev.keepWarm (d : Dev) (t : Nat) (warm : Option (Iterate × Word)) : Dev :=
  (d.set (Reg.SOLV_TASK.ST_WSIG.SIG t) ((warm.map fun w => w.2.toNat).getD 0)).setSlot t fun u => { u with warm := warm }

/-- The outcome of a solve that has no result of its own (R297). -/
def SolvTask.failed (r : SolvTask) : Nat := if r.kind = 0 then 2 else 3

/-- What the fence of a solver task does (R297 to R299): the release, the registers of the solve, the warm start kept; `inFact` tells that
the fence fell inside a factorisation, `v` is the device as the task sees it. Where the press of a solve was cut off, nothing is held
(R298): an outcome without a result, and no warm start. -/
def Dev.solverFence (d v : Dev) (t : Nat) (inFact : Bool) : Dev :=
  match d.solvTask t, (d.slot t).run with
  | some row, some s =>
    let d : Dev := d.setBusy row false
    let iters := match s.latest with
      | some c => c.k
      | none => 0
    let outcome := match s.pick with
      | some e => e.1
      | none => row.failed
    let d : Dev := match s.pick with
      | some (_, c) => (((d.set (Reg.SOLV_TASK.ST_REL.REL_ITER t) c.k).setF (Reg.SOLV_TASK.ST_RP.RP t) c.rp.to32).setF
          (Reg.SOLV_TASK.ST_RD.RD t) c.rd.to32).setF (Reg.SOLV_TASK.ST_MU.MU t) c.mu.to32
      | none => d.set (Reg.SOLV_TASK.ST_REL.REL_ITER t) 0xFFF
    let d : Dev := d.solveEnds t row iters outcome s.cause inFact
    let flags : BitVec 8 := if outcome = 1 then 8 else 0
    let d : Dev := d.keepWarm t (if s.noWarm then none else s.latest.map (fun c => (c.it, s.sig)))
    d.setSlot t fun u => { u with
      run := none
      out := some ⟨outcome, s.input, (match s.pick with
        | some (_, c) => unscale row.table c.it.x
        | none => []), s.cause != 0, s.pick.map fun e => { e.2.pkt with tag := { e.2.pkt.tag with flags := e.2.pkt.tag.flags ||| flags } }⟩ }
  | some row, none =>
    if v.solves row && d.ownsLanes t row then
      let input : SolveIn := if row.kind = 0 then .qp default else if row.kind = 1 then .plan default else .customer v.sched.st
      let d : Dev := ((d.set (Reg.SOLV_TASK.ST_REL.REL_ITER t) 0xFFF).solveEnds t row 0 row.failed 0 inFact).keepWarm t none
      d.setSlot t fun u => { u with ran := true, out := some ⟨row.failed, input, [], false, none⟩ }
    else
      let d : Dev := d.setSlot t fun u => { u with out := none }
      if row.kind = 0 then { d with solv := { d.solv with fbRun := 0 } } else d
  | none, _ => d

/-- The solver task of a certificate task, where it is one. -/
def Dev.solverOf (d : Dev) (task : Nat) : Option Nat :=
  (List.range d.image.alloc.solver.length).find? fun t => match d.solvTask t with
    | some r => r.task == task
    | none => false

/-- The solver task of a kind: 0 allocation QP, 1 plan. -/
def Dev.solverKind (d : Dev) (k : Nat) : Option Nat :=
  (List.range d.image.alloc.solver.length).find? fun t => match d.solvTask t with
    | some r => r.kind == k
    | none => false

/-- Every warm start is discarded (R226, R294, R303). -/
def Dev.discardWarm (d : Dev) : Dev :=
  (List.range 8).foldl (fun d t => (d.setSlot t (fun u => { u with warm := none, discarded := true })).set
    (Reg.SOLV_TASK.ST_WSIG.SIG t) 0) d

/-- SOLV_CTRL.WS_DISCARD (R303): accepted in M1, M2 and M7 only. -/
def Dev.wsDiscard (d : Dev) (port : Nat) : Dev :=
  if d.mode = 1 || d.mode = 2 || d.mode = 7 then d.discardWarm else d.reportWrite 8 port 0 0xC0060 false

/-- R303: the host discards every warm start. -/
def execWsDiscard (t port : Nat) (s : State) : Host.Outcome State Fault Refusal :=
  s.run fun d => (d.advance t).whenUp fun d => d.wsDiscard port

end Sys2Proof.Machine
end

