-- ==== Sys2Proof/Machine/Alloc.lean ====
section
/-! DEFINITION. The allocation: fallback, select and seal, capability margins and the plan's coming into force, and the drive-off
arrest up to its stop mask (R255, R256, R262 to R272, R300, R301). -/
namespace Sys2Proof.Machine
open Sys2Proof

/-- A fault that concerns a stage's inputs. -/
def ChainFault.atInput : ChainFault → Bool
  | .input _ _ | .replayed _ | .skipped _ => true
  | _ => false

/-- The device as the fallback task takes its inputs (R300): as the QP of this major frame sees it, or where none has its slot, as the task
itself does. -/
def Dev.fallbackView (d v : Dev) : Dev :=
  match ((d.solverKind 0).bind d.solvTask).bind fun r => lookup d.shots r.task with
  | some s => if periodStart v.sched.st 1 ≤ s.rel then d.view s else v
  | none => v

/-- The fallback allocation of this major frame (R300), from the QP's inputs as its press has gathered them, or gathered by the fallback
task where the press has not or where one of the inputs fails. -/
def Dev.fallbackRun (d v : Dev) (fault : ChainFault) : Dev :=
  let w := d.fallbackView v
  if !w.allocates || !w.hasDemand then d
  else
    let (q, d) := match d.solv.qp with
      | some q => if periodStart v.sched.st 1 ≤ q.rel && !fault.atInput then (q, d) else d.gatherQp w .fallback 24 w.sched.st fault
      | none => d.gatherQp w .fallback 24 w.sched.st fault
    let payload := (v.fallbackForces q).flatMap (fun f => quadWords (f.at 0).bits ++ quadWords (f.at 1).bits)
    let (p, d) := d.emitOut .fallback 24 0x21 1 2 q.tov q.ins payload fault
    if p.isNone then d else { d with solv := { d.solv with fallback := some (q.rel, q) } }

/-- R300: the fallback task completes. -/
def execFallbackAllocation (t : Nat) (fault : ChainFault) (s : State) : Host.Outcome State Fault Refusal :=
  s.run fun d => (d.advance t).whenUp fun d => d.runOf .fallback 0 fun v d => d.fallbackRun v fault

/-! ## Select and seal (R255, R256, R297, R301) -/

/-- The forces that a fallback output carries (R300). -/
def Packet.fallback (p : Packet) : List Vec := (List.range 16).map fun i => [f64At p.payload (4 * i), f64At p.payload (4 * i + 2)]

/-- What the select stage works from: outcome, inputs, forces, whether the solve started cold, joint increments and hull shift, and what the
stage took, the result selected with its flags (R122, R124). -/
structure Selected where
  outcome : Nat
  q : QpIn
  forces : List Vec
  cold : Bool
  dq : Vec
  shift : Vec
  ins : List Packet
deriving DecidableEq, Repr, Inhabited

/-- The release of the QP's task (R297). -/
def Dev.qpRelease (d : Dev) : Option Release := (d.solverKind 0).bind fun t => (d.slot t).out

/-- The QP's release `rel`, or the fallback output `fb` (R297); none while neither exists. -/
def Dev.selection (d : Dev) (rel fb : Option Packet) : Option Selected :=
  let out := d.qpRelease
  let cold := (out.map fun o => o.cold).getD false
  let back : Option Selected := match fb, d.solv.fallback with
    | some p, some e =>
      some ⟨2, e.2, p.fallback, cold, [], [F64.zero, F64.zero], (rel.map Packet.beside).toList ++ [p]⟩
    | _, _ => none
  match out, rel with
  | some ⟨o, .qp q, x, c, _⟩, some p =>
    if o ≤ 1 then
      let l := d.qpLayout q
      some ⟨o, q, l.forces x, c, (x.drop l.dq).take l.joints, if l.joints = 0 then [F64.zero, F64.zero] else
        (x.drop (l.dq + l.joints)).take 2, p :: (fb.map Packet.beside).toList⟩
    else back
  | _, _ => back

/-- The magnitude with sign and the azimuth of one thruster's command before scaling (R254, R255). -/
def Dev.rawCommand (d : Dev) (q : QpIn) (i : Nat) (r : Thruster) (f : Vec) : F64 × Word :=
  match r.type with
  | .tunnel => (f.at 1, ninety)
  | .azimuth =>
    let m := Vec.norm f
    let alpha := (q.thr.getD i default).alpha.getD 0
    match r.sectorAt alpha with
    | some s => (m, nearEdge alpha s)
    | none =>
      if m.lt (((d.paramF P.ALLOC.AZ_HOLD_T).div (.ofInt 100)).mul r.tRated) then (m, d.word (0xB0108 + 0x20 * i))
      else (m, bamOfRad (Config.atan2 (f.at 1) (f.at 0)))

/-- Commands of the available thrusters after the exact power scaling (R255): number, thruster, force, azimuth; and which sections were
scaled. -/
def Dev.scaleCommands (d : Dev) (q : QpIn) (forces : List Vec) : List (Nat × Thruster × F64 × Word) × List Nat :=
  let cmds := q.avail.filterMap fun i => (d.thruster i).map fun r => (i, r, d.rawCommand q i r (forces.getD i []))
  let sum (j : Nat) : F64 := F64.sum ((cmds.filter (fun e => e.2.1.sec == j)).map (fun e => e.2.1.power e.2.2.1))
  let lim (j : Nat) : F64 :=
    let a := q.power.getD j F64.zero
    if q.stale then a else a.min (q.caps.getD j F64.zero)
  let past := (List.range q.power.length).filter (fun j => (lim j).lt (sum j))
  (cmds.map fun (i, r, f, a) =>
    if past.contains r.sec then
      (i, r, (Config.pow ((lim r.sec).div (sum r.sec)) (.ofRatio 2 3)).mul f, a)
    else (i, r, f, a), past)

/-- Show one thruster's command (R279). -/
def Dev.showCommand (d : Dev) (i : Nat) (f : F64) (az : Word) (dem pwr : F64) : Dev :=
  ((((d.setF (Reg.ALLOC_THR.THR_F.F i) f.to32).set (Reg.ALLOC_THR.THR_AZ.AZ i) az.toNat).setF
    (Reg.ALLOC_THR.THR_DEM.DEM i) dem.to32).setF (Reg.ALLOC_THR.THR_PWR.P i) pwr.to32)

/-- The force of a thruster that a sealed allocation carries (R255). -/
def Dev.sealedForce (d : Dev) (p : Packet) (i : Nat) : Vec :=
  let f := f32At p.payload (3 * i)
  match d.thruster i with
  | some r => (match r.type with
    | .tunnel => [F64.zero, f]
    | .azimuth => Vec.scale f (dirOf (p.payload.getD (3 * i + 1) 0)))
  | none => [F64.zero, F64.zero]

/-- The forces of an allocation that a stage has taken; 0 where it has none. -/
def Dev.sealedForces (d : Dev) (p : Option Packet) : List Vec := (List.range 16).map fun i => match p with
  | some p => d.sealedForce p i
  | none => [F64.zero, F64.zero]

/-- The payload of an allocation (R255, R288): force, azimuth and demand of each thruster, the chain wrench, the force produced. -/
def Dev.allocPayload (d : Dev) (wrench achieved : Vec) : List Word :=
  (List.range 16).flatMap (fun i => [d.word (0xB0104 + 0x20 * i), d.word (0xB0108 + 0x20 * i), d.word (0xB010C + 0x20 * i)])
    ++ wrench.flatMap (fun x => quadWords x.framed) ++ achieved.map (fun x => x.to32.framed)

/-- Take the joint set-points and the hull shift of a coupled allocation (R274). -/
def Dev.takeCouple (d : Dev) (s : Selected) : Dev :=
  if !s.q.coupled then d
  else match s.q.chain with
    | none => d
    | some c =>
      let sp := if s.dq.isEmpty then c.q else Vec.add c.q s.dq
      ({ d with alloc := { d.alloc with joints := sp, shift := Vec.add d.alloc.shift s.shift } }).showShift

/-- The flags that an allocation carries beside those of the results behind it: COLD of the solve (R295), and those of the plan whose caps
bound it (R265). -/
def Selected.own (s : Selected) : BitVec 8 := (if s.cold then 4 else 0) ||| flagsOf s.q.bounds.toList

/-- E53 and E54 of a released result, raised at the release of the task that takes it (R297). -/
def Dev.tellOutcome (d : Dev) (rel outcome : Nat) : Dev := d.asOf rel fun d =>
  if outcome = 1 then d.raise 53 [0xC0000] else if outcome = 2 then d.raise 54 [0xC0000] else d

/-- The select and seal stage on a selection, with the position PID outputs behind the demand: commands, their figures, and the sealed
allocation. -/
def Dev.selectWith (d : Dev) (s : Selected) (pids : List Packet) (fault : ChainFault) : Dev :=
  let q := s.q
  let d : Dev := d.setBitAt Reg.SYS_MODE.STATES 3 (s.outcome == 2)
  let (cmds, past) := d.scaleCommands q s.forces
  let d : Dev := (List.range 16).foldl (fun d i => match d.thruster i with
    | none => d
    | some r => match cmds.find? (fun e => e.1 == i) with
      | some (_, _, f, az) => d.showCommand i f az (r.demandFor (f.div (r.k q.u))) (r.power f)
      | none => d.showCommand i F64.zero (d.word (0xB0108 + 0x20 * i)) F64.zero F64.zero) d
  let force (i : Nat) : Vec := match cmds.find? (fun e => e.1 == i) with
    | some (_, r, f, az) => (match r.type with
      | .tunnel => [F64.zero, f]
      | .azimuth => Vec.scale f (dirOf az))
    | none => [F64.zero, F64.zero]
  let achieved := d.totalForce force
  let slack := Vec.sub q.tau achieved
  let tol := (d.paramD P.SOLV.FEAS_TOL).mul (F64.one.add (infNorm q.tau))
  let d : Dev := ((d.setF Reg.ALLOC_SLACK_X.SLACK (slack.at 0).to32).setF Reg.ALLOC_SLACK_Y.SLACK (slack.at 1).to32).setF
    Reg.ALLOC_SLACK_N.SLACK (slack.at 2).to32
  let d : Dev := ((d.setB Reg.ALLOC_STATUS.SLACK (tol.lt (infNorm slack))).setB Reg.ALLOC_STATUS.PWR_SCALED (!past.isEmpty)).set
    Reg.ALLOC_TOV.TS (ts32Of q.tov).toNat
  let d : Dev := (((d.setB Reg.ALLOC_STATUS.QP_OK (s.outcome ≤ 1)).setB Reg.ALLOC_STATUS.FALLBACK (s.outcome == 2)).setB
    Reg.ALLOC_STATUS.COLD s.cold).setB Reg.ALLOC_STATUS.PARTIAL (s.outcome == 1)
  let d : Dev := (List.range q.power.length).foldl (fun d j =>
    let used := F64.sum ((cmds.filter (fun e => e.2.1.sec == j)).map (fun e => e.2.1.power e.2.2.1))
    (d.setF (Reg.ALLOC_SEC.USED.USED j) used.to32).setB (Reg.ALLOC_SEC.STAT.SCALED j) (past.contains j)) d
  let d : Dev := { d with alloc := { d.alloc with prev := (List.range 16).map force, achieved := achieved } }
  let d : Dev := d.takeCouple s
  let wrench := match q.chain with
    | some c => c.wrench
    | none => Vec.zeros 3
  d.emit .select 24 0x21 0 s.own q.tov (s.ins ++ pids) (d.allocPayload wrench achieved) fault

/-- The select and seal stage: where its datapaths disagree, the output with all that follows from it is discarded (R126). -/
def Dev.selectOn (d : Dev) (s : Selected) (pids : List Packet) (fault : ChainFault) : Dev :=
  if fault.splits then d.emit .select 24 0x21 0 s.own s.q.tov (s.ins ++ pids) [] fault else d.selectWith s pids fault

/-- The select and seal stage (R255): the QP's release or the fallback. Input 0 is the QP's release, input 1 the fallback's output, inputs 2
to 4 the position PID outputs. -/
def Dev.selectRun (d v : Dev) (fault : ChainFault) : Dev :=
  if !v.allocates then d
  else
    let (rel, d) := match d.qpRelease.bind fun o => o.pkt with
      | some p => d.takeSealed .select 24 fault 0 p
      | none => (none, d)
    let (fb, d) := d.takeInput v .select 24 fault 1 0x21 1
    let (pids, d) : List Packet × Dev := if v.mode = 3 then ([], d) else
      [0, 1, 2].foldl (fun acc k =>
        let (p, d) := acc.2.takeInput v .select 24 fault (2 + k) 0x20 k
        (acc.1 ++ p.toList, d)) ([], d)
    let sel := d.selection rel fb
    let outcome := match sel, d.qpRelease with
      | some s, _ => s.outcome
      | none, some o => o.outcome
      | none, none => 0
    let d : Dev := match d.solverKind 0 with
      | some t => d.setSlot t (fun u => { u with out := none })
      | none => d
    match sel with
    | some s => d.about s.q.tov fun d => (d.tellOutcome v.sched.st outcome).selectOn s pids fault
    | none => d.tellOutcome v.sched.st outcome

/-- R255: the select and seal task completes. -/
def execAllocationSelectAndSeal (t : Nat) (fault : ChainFault) (s : State) : Host.Outcome State Fault Refusal :=
  s.run fun d => (d.advance t).whenUp fun d => d.runOf .select 0 fun v d => d.selectRun v fault

/-! ## Margins (R262 to R269) -/

/-- The judgement of a scenario from the plan's reading (R266, R268, R269), against the bounds at the plan's release. -/
def judgeScenario (i : PlanIn) (f : Nat) (x : ScenReading) : ScenJudged :=
  let rp := x.d.div (i.excPos.getD f F64.zero)
  let rh := x.h.div i.excHdg
  ⟨f, x.d, x.h, x.u, if x.relaxed i f then (x.sigma i f).neg else F64.one.sub ((rp.max rh).max x.u), x.relaxed i f⟩

/-- The arrest table from the forces of the allocation in force (R271). -/
def Dev.arrestTable (d : Dev) (prev : List Vec) : List Nat :=
  (List.range 16).map fun s =>
    let u := dirOf (BitVec.ofNat 32 (s * 2 ^ 28))
    maskOf ((List.range 16).filter fun i => match d.thruster i with
      | none => false
      | some r => (((d.paramF P.ALLOC.ARREST_FRAC).div (.ofInt 100)).mul r.tRated).lt
          (Vec.dot u (prev.getD i [F64.zero, F64.zero])))

/-- The bounds of R264 with the judgements and the arrest table, from a released plan and the forces of the allocation in force. -/
def Dev.planSet (d : Dev) (i : PlanIn) (x : Vec) (prev : List Vec) : PlanSet :=
  let rd := d.readPlan i x
  let force (k : Nat) : Vec := rd.u0.getD k [F64.zero, F64.zero]
  let az (k : Nat) : Bool := match d.thruster k with
    | some r => r.type == .azimuth
    | none => false
  let opposed (k : Nat) : Bool := az k && (List.range 16).any fun m => az m && m != k && (Vec.dot (force k) (force m)).isNeg
  let rated (k : Nat) : F64 := match d.thruster k with
    | some r => r.tRated
    | none => F64.zero
  let hold (k : Nat) : F64 := ((d.paramF P.ALLOC.AZ_HOLD_T).div (.ofInt 100)).mul (rated k)
  let power (j : Nat) : F64 := F64.sum ((List.range 16).filterMap fun k => match d.thruster k with
    | some r => if r.sec = j then some (r.power (Vec.norm (force k))) else none
    | none => none)
  { targets := (List.range 16).map fun k =>
      if az k && (hold k).le (Vec.norm (force k)) then some (bamOfRad (Config.atan2 (Vec.at (force k) 1) (Vec.at (force k) 0))) else none
    tMax := (List.range 16).map fun k => ((Vec.norm (force k)).add (rd.headroom.getD k F64.zero)).min (rated k)
    tMin := (List.range 16).map fun k => if opposed k then Vec.norm (force k) else F64.zero
    caps := (List.range i.power.length).map fun j => ((power j).add (rd.capRoom.getD j F64.zero)).min (i.power.getD j F64.zero)
    scen := rd.scen.map fun e => judgeScenario i e.1 e.2
    moot := i.moot, table := d.arrestTable prev, avail := i.avail, n := i.n, dt := i.dt, tov := i.tov
    bounds := default, arrests := default, margins := default }

/-- Words of the margins of a plan (kind 0x24). -/
def PlanSet.marginWords (p : PlanSet) : List Word :=
  p.scen.flatMap fun e => [BitVec.ofNat 32 e.f, e.m.to32.framed, e.d.to32.framed, e.h.to32.framed, e.u.to32.framed]

/-- Words of the bounds of a plan (kind 0x22). -/
def PlanSet.boundWords (p : PlanSet) : List Word :=
  p.targets.map (fun a => a.getD 0) ++ p.tMax.map (fun x => x.to32.framed) ++ p.tMin.map (fun x => x.to32.framed)
    ++ p.caps.map (fun x => x.to32.framed)

/-- The plan task has released nothing that can be sealed (R297). -/
def Dev.planMissed (d : Dev) (t : Nat) : Dev :=
  (d.setB Reg.SOLV_STATUS.PLAN_MISS_STICKY true).note 0x01 0x0C 1 [d.word (0xC0114 + 0x40 * t)]

/-- The capability-margin task (R262, R297): what it seals from the plan's release; nothing when the plan released nothing. Input 0 is the
plan's release, input 1 the allocation in force. -/
def Dev.marginsRun (d v : Dev) (fault : ChainFault) : Dev :=
  match d.solverKind 1 with
  | none => d
  | some t =>
    match (d.slot t).out with
    | some ⟨outcome, .plan i, x, _, pkt⟩ =>
      let d : Dev := d.setSlot t (fun u => { u with out := none })
      let (rel, d) := match pkt with
        | some p => d.takeSealed .margins 25 fault 0 p
        | none => (none, d)
      match rel with
      | none => d.about i.tov fun d => d.planMissed t
      | some rel => d.about i.tov fun d =>
        let d : Dev := d.tellOutcome v.sched.st outcome
        let (a, d) := d.takeInput v .margins 25 fault 1 0x21 0
        let p := v.planSet i x (v.sealedForces a)
        let old (kind : Nat) : Packet := (v.output kind 0).getD default
        let (q, d) := d.emitOut .margins 25 0x22 0 0 i.tov [rel] p.boundWords (fault.of 0)
        let (m, d) := d.emitOut .margins 25 0x24 0 0 i.tov [rel] p.marginWords (fault.of 1)
        let (w, d) := d.emitOut .margins 25 0x23 0 0 i.tov (rel :: a.toList) (p.table.map (BitVec.ofNat 32)) (fault.of 2)
        match q with
        | none => d
        | some q =>
          { d with alloc := { d.alloc with sealed := some { p with
            bounds := q, arrests := w.getD (old 0x23), margins := m.getD (old 0x24)
            table := if w.isSome then p.table else (List.range 16).map fun s => v.get (Reg.ALLOC_ARREST_TBL.MASK s) } } }
    | _ => d

/-- R266: the capability-margin task completes. -/
def execCapabilityMargins (t : Nat) (fault : ChainFault) (s : State) : Host.Outcome State Fault Refusal :=
  s.run fun d => (d.advance t).whenUp fun d => d.runOf .margins 0 fun v d => d.marginsRun v fault

/-- A scenario's state of R267. -/
def Dev.scenState (d : Dev) (e : ScenJudged) : Nat :=
  if e.relaxed then 4
  else if ((d.paramF P.ALLOC.MARGIN_LOW).div (.ofInt 100)).le e.m then 2
  else 3

/-- Move a scenario's state, with a record at each change (R267). -/
def Dev.setScenState (d : Dev) (f state : Nat) : Dev :=
  if d.get (Reg.ALLOC_SCEN.SC_CFG.STATE f) = state then d
  else
    let d : Dev := d.set (Reg.ALLOC_SCEN.SC_CFG.STATE f) state
    d.note 0x01 0x0B 1 [BitVec.ofNat 32 f, d.word (0xB0400 + 0x10 * f), d.word (0xB0408 + 0x10 * f), d.word (0xB040C + 0x10 * f)]

/-- Show a scenario's figures (R280). -/
def Dev.showScenario (d : Dev) (e : ScenJudged) : Dev :=
  let k := F64.ofInt 1000
  let d : Dev := (d.setInt (Reg.ALLOC_SCEN.SC_MARGIN.MARGIN e.f) ((e.m.mul k).toQ 32 0)).set (Reg.ALLOC_SCEN.SC_MARGIN.EXC e.f)
    ((e.d.mul (.ofInt 100)).toU 16 0)
  (d.set (Reg.ALLOC_SCEN.SC_EXC.HDG e.f) ((e.h.mul (.ofInt 100)).toU 16 0)).set (Reg.ALLOC_SCEN.SC_EXC.UTIL e.f)
    ((e.u.mul k).toU 16 0)

/-- The scenario that R282 forces in M7, solved or not. -/
def Dev.forcedF (d : Dev) : Option Nat :=
  if d.mode = 7 && d.flag Reg.ALLOC_XPLAN.FORCE_EN && d.get Reg.ALLOC_XPLAN.FORCE_SCEN < 24 then some (d.get Reg.ALLOC_XPLAN.FORCE_SCEN)
  else none

/-- The judgements with the scenario that R282 forces, which reads INFEASIBLE with a margin of −0.1 %. -/
def Dev.withForced (d : Dev) (l : List ScenJudged) : List ScenJudged :=
  match d.forcedF with
  | none => l
  | some f =>
    let x := (l.find? fun e => e.f == f).getD ⟨f, F64.zero, F64.zero, F64.zero, F64.zero, true⟩
    l.filter (fun e => e.f != f) ++ [{ x with m := .ofRatio (-1) 1000, relaxed := true }]

/-- A scenario that is not judged reports no margin (R259): its words read as at reset. DESIGN CHOICE (log 185). -/
def Dev.noMargin (d : Dev) (f : Nat) : Dev :=
  (((d.set (Reg.ALLOC_SCEN.SC_MARGIN.MARGIN f) 0).set (Reg.ALLOC_SCEN.SC_MARGIN.EXC f) 0).set (Reg.ALLOC_SCEN.SC_EXC.HDG f) 0).set
    (Reg.ALLOC_SCEN.SC_EXC.UTIL f) 0

/-- The judgement of lowest margin. -/
def lowestMargin : List ScenJudged → Option ScenJudged
  | [] => none
  | e :: l => match lowestMargin l with
    | none => some e
    | some f => if e.m.le f.m then some e else some f

/-- Judge the scenarios of the plan that comes into force (R267, R269): states, E56 and E57, degradation states, RELAX. -/
def Dev.judgeScenarios (d : Dev) (p : PlanSet) : Dev :=
  let old (f : Nat) : Nat := d.get (Reg.ALLOC_SCEN.SC_CFG.STATE f)
  let list := d.withForced p.scen
  let low := list.any fun e => d.scenState e == 3 && old e.f == 2
  let inf := list.any fun e => d.scenState e == 4 && old e.f != 4
  let d : Dev := list.foldl (fun d e => (d.showScenario e).setScenState e.f (d.scenState e)) d
  let d : Dev := (p.moot.filter fun f => d.forcedF != some f).foldl (fun d f => (d.noMargin f).setScenState f 1) d
  let relaxed := (list.filter (fun e => e.relaxed)).map (fun e => d.get (Reg.ALLOC_SCEN.SC_CFG.CLASS e.f) + 1)
  let d : Dev := d.set Reg.ALLOC_STATUS.RELAX (relaxed.foldl max 0)
  let d : Dev := match lowestMargin list with
    | some e => (d.setInt Reg.ALLOC_MARGIN_MIN.MARGIN ((e.m.mul (.ofInt 1000)).toQ 32 0)).set Reg.ALLOC_MARGIN_MIN.SCEN e.f
    | none => d.setWord 0xB0028 (regReset 0xB0028)
  let d : Dev := if low then (d.setB Reg.ALLOC_STATUS.MARGIN_STICKY true).raise 56 [0xB0000, 0xB0028] else d
  if inf then (d.setB Reg.ALLOC_STATUS.INFEAS_STICKY true).raise 57 [0xB0000, 0xB0028] else d

/-- The degradation states that follow the scenarios (R50, R267). -/
def Dev.showScenStates (d : Dev) : Dev :=
  let some_ (n : Nat) : Bool := (List.range 24).any fun f => d.get (Reg.ALLOC_SCEN.SC_CFG.STATE f) == n
  (d.setBitAt Reg.SYS_MODE.STATES 4 (some_ 3)).setBitAt Reg.SYS_MODE.STATES 5 (some_ 4)

/-- Show the plan in force (R278, R279, R281). -/
def Dev.showPlan (d : Dev) (p : PlanSet) : Dev :=
  let d : Dev := (((d.set Reg.ALLOC_PLAN.N p.n).set Reg.ALLOC_PLAN.DT (((F32.mk p.dt).to64.mul (.ofInt 20)).toU 8 0)).set
    Reg.ALLOC_PLAN.SCEN p.scen.length).set Reg.ALLOC_PLAN_TOV.TS (ts32Of p.tov).toNat
  let d : Dev := (List.range 16).foldl (fun d i =>
    ((d.setF (Reg.ALLOC_THR.THR_TMAX.TMAX i) (p.tMax.getD i F64.zero).to32).setF (Reg.ALLOC_THR.THR_TMIN.TMIN i)
      (p.tMin.getD i F64.zero).to32).set (Reg.ALLOC_THR.THR_AZT.AZT i) ((p.targets.getD i none).getD 0).toNat) d
  let d : Dev := (List.range p.caps.length).foldl (fun d j => d.setF (Reg.ALLOC_SEC.CAP.CAP j) (p.caps.getD j F64.zero).to32) d
  (List.range 16).foldl (fun d s => d.set (Reg.ALLOC_ARREST_TBL.MASK s) (p.table.getD s 0)) d

/-- Show whether the plan in force would bound an allocation of the thrusters available (R265): at a hyperframe boundary, and as
ALLOC_XPLAN changes. DESIGN CHOICE (log 160). -/
def Dev.showStale (d : Dev) : Dev :=
  let stale := d.planStale d.availNow
  (d.setB Reg.ALLOC_STATUS.PLAN_STALE stale).setB Reg.ALLOC_STATUS.PLAN_VALID (!stale)

/-- What a hyperframe boundary does for the allocation (R258, R263, R265, R267). -/
def Dev.planIntoForce (d : Dev) : Dev :=
  let on := maskOf ((List.range 24).filter fun f => d.flag (Reg.ALLOC_SCEN.SC_CFG.ENABLE f))
  let d : Dev := { d with alloc := { d.alloc with enabled := on } }
  let d : Dev := ((List.range 24).filter fun f => !on.testBit f && d.forcedF != some f).foldl (fun d f => (d.noMargin f).setScenState f 0) d
  let d : Dev := match d.alloc.sealed with
    | some p =>
      let p := { p with scen := p.scen.filter (fun e => on.testBit e.f), moot := p.moot.filter (fun f => on.testBit f) }
      let d : Dev := { d with alloc := { d.alloc with sealed := none, before := d.alloc.plan, plan := some p, planAt := d.sched.st, planAge := 0 } }
      d.about p.tov fun d => (d.showPlan p).judgeScenarios p
    | none => { d with alloc := { d.alloc with planAge := d.alloc.planAge + 1 } }
  d.showScenStates.showStale

/-! ## The drive-off arrest (R270 to R272) -/

/-- Control-point positions of the ADMITTED position references near in time to a release, with their effective times (R270). -/
def Dev.positionsNow (d : Dev) (tRel : Nat) : List (Vec × Int) :=
  match d.fus.hist with
  | [] => []
  | h :: _ =>
    (d.admitted (refGroup 0)).filterMap fun s =>
      match d.entry.slots.getD s none with
      | none => none
      | some p =>
        match (d.xforms s p).find? (fun t => !d.flag (Reg.FUS_XFORM.XF_CFG.OBJ_EN t)) with
        | none => none
        | some t =>
          let tEff := p.tovNs - d.toff t
          if ((tRel : Int) - tEff).natAbs ≤ d.paramNs P.FUS.VOTE_AGE then
            some (d.positionOf t (d.valuesOf s p) h.x tEff, tEff)
          else none

/-- The position set-point, with the hull shift (R270, R274). -/
def Dev.positionSetPoint (d : Dev) : Vec :=
  let sp (n : Nat) : F64 := (d.loop.rm.getD n default).sp
  Vec.add [sp 0, sp 1] d.alloc.shift

/-- The heading of the latest estimate. -/
def Dev.headingNow (d : Dev) : F64 := match d.fus.hist with
  | h :: _ => h.x.at 2
  | [] => F64.zero

/-- The outward unit vector in the earth frame from the set-point to a position. -/
def Dev.outward (d : Dev) (p : Vec) : Vec :=
  let r := Vec.sub p d.positionSetPoint
  Vec.scale (F64.one.div (Vec.norm r)) r

/-- An earth-frame horizontal vector in the body frame. -/
def toBody (psi : F64) (v : Vec) : Vec :=
  [((Config.cos psi).mul (v.at 0)).add ((Config.sin psi).mul (v.at 1)),
   ((Config.cos psi).mul (v.at 1)).sub ((Config.sin psi).mul (v.at 0))]

/-- A detection by R270 as a monitor sees it: the median position and the latest time of validity behind it. `fus` and `a` are the latest
fusion output and the sealed allocation in force. -/
def Dev.driveOff (v : Dev) (fus a : Option Packet) : Option (Vec × Int) :=
  match v.positionsNow v.sched.st, fus, a, v.fus.hist with
  | e :: l, some p, some q, h :: _ =>
    let pos := medianVec 2 ((e :: l).map (fun x => x.1))
    let o := toBody (h.x.at 2) (v.outward pos)
    let far := (v.paramF P.ALLOC.ARREST_RADIUS).lt (Vec.norm (Vec.sub pos v.positionSetPoint))
    let fast := (v.paramF P.ALLOC.ARREST_SPEED).lt (Vec.dot o [f32At p.payload 5, f32At p.payload 6])
    let push := F64.zero.lt (Vec.dot o [f32At q.payload 54, f32At q.payload 55])
    if far && fast && push then some (pos, (l.map (fun x => x.2)).foldl max e.2) else none
  | _, _, _, _ => none

/-- The unit judges drive-off (R270): it commands, in M5 or M6. -/
def Dev.judgesDriveOff (d : Dev) : Bool :=
  d.flag Reg.SYS_MODE.IN_COMMAND && d.tallyNow != 0 && (d.mode = 5 || d.mode = 6)

/-- The drive-off judgement (R270). Input 0 is the fusion output, input 1 the allocation, inputs 2 to 17 the position slots. Where no
detection holds, no arrest entry is held for the frame build. -/
def Dev.monitor (d v : Dev) (fault : ChainFault) : Dev :=
  let (fus, d) := d.takeInput v .excursion 26 fault 0 0x10 0
  let (a, d) := d.takeInput v .excursion 26 fault 1 0x21 0
  let (v, d) := d.takeSlots v .excursion 26 fault ((List.range 16).map fun s => (2 + s, s))
  let v : Dev := v.seenBy fus
  let hit : Option (Vec × Int) := if v.judgesDriveOff then v.driveOff fus a else none
  let d : Dev := { d with alloc := { d.alloc with detected := hit } }
  match hit with
  | some _ => d.set Reg.ALLOC_ARREST_TS.TS d.ts32.toNat
  | none =>
    let d : Dev := { d with
      alloc := { d.alloc with stop := none }
      sched := { d.sched with held := d.sched.held.filter (fun e => e.1 != (0x23, 1)) } }
    if d.get Reg.ALLOC_ARREST.STATE = 1 then d.set Reg.ALLOC_ARREST.STATE 0 else d

/-- R270: the excursion monitor runs. -/
def execExcursionMonitor (t : Nat) (fault : ChainFault) (s : State) : Host.Outcome State Fault Refusal :=
  s.run fun d => (d.advance t).whenUp fun d => d.runOf .excursion 0 fun v d => d.monitor v fault

/-- The sector of a bearing in the body frame (R271). -/
def sectorOf (b : Word) : Nat := (b + 0x08000000).toNat / 2 ^ 28

/-- The sector and the table's mask for a detection at a position, and the outward direction (R271). -/
def Dev.arrestEntry (v : Dev) (pos : Vec) : Nat × Nat × Vec :=
  let o := toBody v.headingNow (v.outward pos)
  let sec := sectorOf (bamOfRad (Config.atan2 (o.at 1) (o.at 0)))
  (sec, v.get (Reg.ALLOC_ARREST_TBL.MASK sec), o)

/-- The stop mask at a detection (R271); an empty one leads to STATE 1. Input 0 is the allocation, input 1 the arrest table in force: one
that is broken is absent, or the table before it where its task's substitute is Hold (R126). -/
def Dev.arrestAllocate (d v : Dev) (fault : ChainFault) : Dev :=
  match v.alloc.detected with
  | none => d
  | some (pos, tov) => d.about tov fun d =>
    let (a, d) := d.takeInput v .arrestAllocation 26 fault 0 0x21 0
    let (w, d) := match v.alloc.plan with
      | some p => d.takeOf .arrestAllocation 26 fault 1 0x23 0 p.arrests (v.alloc.before.map PlanSet.arrests)
      | none => (none, d)
    let (sec, _, o) := v.arrestEntry pos
    let row := match w with
      | some p => (p.payload.getD sec 0).toNat
      | none => 0
    let mask := row &&& maskOf ((List.range 16).filter fun i => F64.zero.lt (Vec.dot o ((v.sealedForces a).getD i [])))
    let d : Dev := d.set Reg.ALLOC_ARREST.SECTOR sec
    let d : Dev := { d with alloc := { d.alloc with stop := some (sec, mask) } }
    let d : Dev :=
      if mask = 0 && d.get Reg.ALLOC_ARREST.STATE = 0 then
        (d.set Reg.ALLOC_ARREST.STATE 1).note 0x01 0x0B 2 [BitVec.ofNat 32 sec, 0, (pos.at 0).to32.framed, (pos.at 1).to32.framed]
      else d
    d.emit .arrestAllocation 26 0x23 1 0 tov (a.toList ++ w.toList) [BitVec.ofNat 32 sec, BitVec.ofNat 32 mask] fault

/-- R271: the arrest allocation runs. -/
def execArrestAllocation (t : Nat) (fault : ChainFault) (s : State) : Host.Outcome State Fault Refusal :=
  s.run fun d => (d.advance t).whenUp fun d => d.runOf .arrestAllocation 0 fun v d => d.arrestAllocate v fault

/-- ALLOC_CTRL.ARREST_CLR (R272). -/
def Dev.arrestClr (d : Dev) : Dev :=
  let d : Dev := ((d.set Reg.ALLOC_ARREST.STATE 0).set Reg.ALLOC_ARREST.MASK 0).setB Reg.ALLOC_STATUS.ARREST false
  { d with alloc := { d.alloc with arrested := 0, lastMask := none } }

/-- R272: host software returns the arrested thrusters. -/
def execArrestClr (t : Nat) (s : State) : Host.Outcome State Fault Refusal :=
  s.run fun d => (d.advance t).whenUp fun d => d.arrestClr

/-! ## The hydrodynamic input of fusion (R21, R222, R288) -/

/-- The force of a thruster for the filter (R222): as fed back, or as the allocation `a` gives it where its feedback slot has timed out. -/
def Dev.filterForce (d : Dev) (a : Option Packet) (i : Nat) : Vec :=
  if d.flag (Reg.ENTRY_SLOT.SLOT_STAT.TIMED_OUT (28 + i)) || (d.feedback i).isNone then (d.sealedForces a).getD i []
  else d.fedForce d.surge i

/-- τ_thr + τ_chain as fusion sees them: the thrusters' forces, and the chain wrench that the sealed allocation `a` carries. -/
def Dev.fusionTau (d : Dev) (a : Option Packet) : Vec :=
  let chain := match a with
    | some p => [f64At p.payload 48, f64At p.payload 50, f64At p.payload 52]
    | none => Vec.zeros 3
  Vec.add (d.totalForce (d.filterForce a)) chain

/-- The fusion task (R215) on a release `rel`. Its inputs are the data of the interval from 0, the drives' feedback from 1000, and the
allocation, 1016, which it uses for the chain wrench and for thrusters without feedback (R222). -/
def Dev.fusionRun (d v : Dev) (rel : Nat) (fault : ChainFault) : Dev := d.about rel fun d =>
  let (fresh, d) := d.hearTimeouts.takeFresh rel fault
  let mine := (List.range 16).filter fun i => (d.thruster i).isSome
  let (v, d) := d.takeSlots v .fusion 8 fault (mine.map fun i => (1000 + i, 28 + i))
  let (a, d) := d.takeInput v .fusion 8 fault 1016 0x21 0
  let fed := mine.filterMap fun i => if v.flag (Reg.ENTRY_SLOT.SLOT_STAT.TIMED_OUT (28 + i)) then none else v.feedback i
  let uses := v.image.alloc.chain.isSome || fed.length != mine.length
  let d : Dev := d.fusionUpdate rel fresh (v.fusionTau a) (fed ++ if uses then a.toList else []) fault
  { d with alloc := { d.alloc with fed := v.totalForce (v.fedForce v.surge) } }

/-- R215: the fusion update released at `rel` completes. -/
def execFusionUpdate (t rel : Nat) (fault : ChainFault) (s : State) : Host.Outcome State Fault Refusal :=
  s.run fun d => (d.advance t).whenUp fun d => match d.slotOf .fusion 0 with
    | some e => if e.shot.rel = rel then d.runIn e 0 fun v d => d.fusionRun v rel fault else d
    | none => d

/-! ## Image and mode -/

/-- The registers of ALLOC and SOLV that the image fixes (R279 to R281, R302 to R305). -/
def Dev.loadAlloc (d : Dev) : Dev :=
  let im := d.image.alloc
  let d : Dev := (List.range 16).foldl (fun d i => match im.thrusters.getD i none with
    | some r => (d.set (Reg.ALLOC_THR.THR_CFG.TYPE i) (match r.type with
        | .azimuth => 1
        | .tunnel => 2)).set (Reg.ALLOC_THR.THR_CFG.SECTION i) r.sec
    | none => d.set (Reg.ALLOC_THR.THR_CFG.TYPE i) 0) d
  let d : Dev := ((List.range im.scenarios.length).zip im.scenarios).foldl (fun d (f, s) =>
    ((((d.set (Reg.ALLOC_SCEN.SC_CFG.KIND f) s.kind).set (Reg.ALLOC_SCEN.SC_CFG.CLASS f) s.cls).set
      (Reg.ALLOC_SCEN.SC_CFG.SECTIONS f) s.sections).set (Reg.ALLOC_SCEN.SC_THR.THRUSTERS f) s.thrusters)) d
  let d : Dev := d.set Reg.ALLOC_PLAN.N_MAX im.nMax
  let d : Dev := ((List.range im.solver.length).zip im.solver).foldl (fun d (t, r) =>
    let d : Dev := (((d.set (Reg.SOLV_TASK.ST_CFG.TASK t) r.task).set (Reg.SOLV_TASK.ST_CFG.LANE_FIRST t) r.laneFirst).set
      (Reg.SOLV_TASK.ST_CFG.LANE_COUNT t) r.laneCount).set (Reg.SOLV_TASK.ST_CFG.KIND t) r.kind
    let d : Dev := (((d.set (Reg.SOLV_TASK.ST_CFG.METHOD t) r.method).set (Reg.SOLV_TASK.ST_CAP.CAP t) r.cap).set
      (Reg.SOLV_TASK.ST_TIT.T_IT t) r.tIt).set (Reg.SOLV_TASK.ST_OVH.T_OVH t) r.tOvh
    (List.range r.laneCount).foldl (fun d k => d.setBitAt Reg.SOLV_LANES.ASSIGNED (r.laneFirst + k) true) d) d
  let d : Dev := d.setB Reg.SOLV_STATUS.READY true
  match im.chain with
  | none => d
  | some c =>
    let d : Dev := (d.set Reg.SOLV_CHAIN.JOINTS c.joints.length).setB Reg.SOLV_CHAIN.PRESENT true
    ((List.range c.joints.length).zip c.joints).foldl (fun d (j, x) =>
      let d : Dev := ((d.setB (Reg.SOLV_JOINT.JT_CFG.TYPE j) x.prismatic).setB (Reg.SOLV_JOINT.JT_CFG.VALID j) true).setF
        (Reg.SOLV_JOINT.Q_LO.Q_LO j) x.lo
      ((d.setF (Reg.SOLV_JOINT.Q_HI.Q_HI j) x.hi).setF (Reg.SOLV_JOINT.RATE.RATE j) x.rate).setF
        (Reg.SOLV_JOINT.MARGIN.MARGIN j) x.margin) d

/-- ALLOC_XPLAN and SOLV_XLOG clear on leaving M7 (R282, R306). -/
def Dev.allocLeaveM7 (d : Dev) : Dev :=
  let d : Dev := d.setWord 0xC8000 0
  if d.word 0xB8000 = 0 then d else ((d.setWord 0xB8000 0).note 0x01 0x0B 3 [0]).showStale

end Sys2Proof.Machine
end

