-- ==== Sys2Proof/Machine/Loop.lean ====
section
/-! DEFINITION. The loop engine: biquad and PID channels, reference models, set-points, coefficient banks with their blends, and the
trace units' commands (R308 to R340). -/
namespace Sys2Proof.Machine
open Sys2Proof

/-! ## Banks (R328, R329) -/

/-- Word `i` of a bank as a number, widened exactly (R309). -/
def bankF (b : List Word) (i : Nat) : F64 := (F32.mk (b.getD i 0)).to64

/-- Sections of a biquad bank. -/
def bankSections (b : List Word) : Nat := min 8 (b.getD 0 0).toNat

/-- The five coefficients and the gain of section `s`: b0, b1, b2, a1, a2, g. -/
def bankSection (b : List Word) (s : Nat) : List F64 := (List.range 6).map fun k => bankF b (3 + 6 * s + k)

/-- Biquad channel `c`. -/
def Dev.bq (d : Dev) (c : Nat) : BqState := d.loop.bq.getD c default
/-- Change biquad channel `c`. -/
def Dev.setBq (d : Dev) (c : Nat) (f : BqState → BqState) : Dev := { d with loop := { d.loop with bq := modAt d.loop.bq c f } }
/-- PID channel `c`. -/
def Dev.pid (d : Dev) (c : Nat) : PidState := d.loop.pid.getD c default
/-- Change PID channel `c`. -/
def Dev.setPid (d : Dev) (c : Nat) (f : PidState → PidState) : Dev := { d with loop := { d.loop with pid := modAt d.loop.pid c f } }
/-- Reference model `n`. -/
def Dev.rm (d : Dev) (n : Nat) : RmState := d.loop.rm.getD n default
/-- Change reference model `n`. -/
def Dev.setRm (d : Dev) (n : Nat) (f : RmState → RmState) : Dev := { d with loop := { d.loop with rm := modAt d.loop.rm n f } }

/-- The period of a PID channel in seconds (R316). -/
def Dev.pidStep (d : Dev) (c : Nat) : F64 := if d.flag (Reg.LOOP_PID.PID_CFG.RATE c) then .ofRatio 1 1000 else .ofRatio 1 100

/-- A coefficient bank, by kind (true for PID), channel and bank number. -/
def Dev.bank (d : Dev) (pid : Bool) (c b : Nat) : List Word :=
  if pid then (if b = 0 then (d.pid c).bankA else (d.pid c).bankB)
  else (if b = 0 then (d.bq c).bankA else (d.bq c).bankB)

/-- Change a coefficient bank. -/
def Dev.setBank (d : Dev) (pid : Bool) (c b : Nat) (w : List Word) : Dev :=
  if pid then d.setPid c (fun s => if b = 0 then { s with bankA := w } else { s with bankB := w })
  else d.setBq c (fun s => if b = 0 then { s with bankA := w } else { s with bankB := w })

/-- The status word's fields of a channel, which both kinds lay out alike (R337): address of STAT. -/
def statAt (pid : Bool) (c : Nat) : Nat := if pid then 0xD2008 + 0x40 * c else 0xD1008 + 0x20 * c

/-- A bit of a channel's status. -/
def Dev.stat (d : Dev) (pid : Bool) (c lo : Nat) : Nat := d.get ⟨statAt pid c, lo, 1⟩
/-- Write a bit of a channel's status. -/
def Dev.setStat (d : Dev) (pid : Bool) (c lo : Nat) (v : Nat) : Dev := d.set ⟨statAt pid c, lo, 1⟩ v

/-- The channel is open. -/
def Dev.chanOpen (d : Dev) (pid : Bool) (c : Nat) : Bool := d.stat pid c 0 == 1

/-- The bank is the target of a running blend (R330). -/
def Dev.blendTarget (d : Dev) (pid : Bool) (c b : Nat) : Bool := d.stat pid c 2 == 1 && d.stat pid c 1 != b

/-- A refused LOOP write (R330): flagged with its offset in the block and its cause. -/
def Dev.loopRefuse (d : Dev) (offset cause : Nat) : Dev :=
  ((d.setB Reg.LOOP_STATUS.REFUSED_STICKY true).set Reg.LOOP_REFUSE.OFFSET offset).set Reg.LOOP_REFUSE.CAUSE cause

/-- The same for a write that is refused at once, which HOST_WERR reports too (R507). -/
def Dev.loopRefuseWrite (d : Dev) (offset cause werr port : Nat) : Dev :=
  (d.loopRefuse offset cause).reportWrite werr port 0 (0xD0000 + offset) false

/-- Words of a bank of either kind that host software writes; the last one is the CRC (R328). -/
def bankWords (pid : Bool) : Nat := if pid then 8 else 51

/-- The selected bank of the coefficient window: kind, channel, bank, word (R336). -/
def Dev.cwSel (d : Dev) : Bool × Nat × Nat × Nat :=
  (d.flag Reg.LOOP_CW_SEL.KIND, d.get Reg.LOOP_CW_SEL.CHAN, d.get Reg.LOOP_CW_SEL.BANK, d.get Reg.LOOP_CW_SEL.WORD)

/-- WORD moves on after a data access when AUTOINC is set (R336). -/
def Dev.cwAdvance (d : Dev) : Dev :=
  if d.flag Reg.LOOP_CW_SEL.AUTOINC then d.incWrap Reg.LOOP_CW_SEL.WORD else d

/-- A bank with its CRC word set, as its validation leaves it (R328); no NaN or infinity enters it (R6). -/
def bankSealed (pid : Bool) (w : List Word) : List Word :=
  let n := bankWords pid
  let l : List Word := (List.range n).map fun k => if pid || k != 0 then (F32.mk (w.getD k 0)).framed else w.getD k 0
  l ++ [crc32c (l.flatMap (fun x => leBytes 4 x.toNat))] ++ w.drop (n + 1)

/-- What LOOP_CW_DATA reads as (R336). -/
def Dev.cwData (d : Dev) : Word := let (k, c, b, w) := d.cwSel; (d.bank k c b).getD w 0

/-- A write to LOOP_CW_DATA (R329, R330); a NaN or infinity is not taken (R6), nor is a channel or a word that does not exist. -/
def Dev.cwWrite (d : Dev) (w : Word) (port : Nat) : Dev :=
  let (pid, c, b, i) := d.cwSel
  let active := d.stat pid c 1 == b
  let fp := pid || i != 0
  let d' : Dev :=
    if (if pid then 16 else 96) ≤ c then d.reportWrite 8 port 0 0xD0014 false
    else if d.blendTarget pid c b then d.loopRefuseWrite 0x14 2 8 port
    else if active && (!d.chanOpen pid c || d.stat pid c 2 == 1) then d.loopRefuseWrite 0x14 1 4 port
    else if bankWords pid ≤ i then d.reportWrite 8 port 0 0xD0014 false
    else if fp && (F32.mk w).bad then d.reportWrite 6 port 0 0xD0014 false
    else (d.setBank pid c b (setAt (d.bank pid c b) i w)).setStat pid c (6 + b) 0
  d'.cwAdvance

/-- R330: a coefficient word is written. -/
def execCoefficientWrite (t : Nat) (w : Word) (port : Nat) (s : State) : Host.Outcome State Fault Refusal :=
  s.run fun d => (d.advance t).whenUp fun d => d.cwWrite w port

/-- R336: a coefficient word is read. -/
def execCoefficientRead (t : Nat) (s : State) : Host.Outcome State Fault Refusal :=
  s.run fun d => (d.advance t).whenUp fun d =>
    ({ d with host := { d.host with readOut := d.cwData } }).cwAdvance

/-- The checks of R329 on a bank: 1 valid, 2 unstable section, 3 limits, NSEC or a word that is not finite, 4 gain or TF. -/
def judgeBank (pid : Bool) (h : F64) (b : List Word) : Nat :=
  let bad (n : Nat) (l : List Word) : Bool := (l.take n).any (fun w => (F32.mk w).bad)
  if pid then
    if bad 8 b then 3
    else if (bankF b 7).le (bankF b 6) then 3
    else if [0, 1, 2, 4].any (fun i => (bankF b i).isNeg) || (bankF b 3).lt h then 4
    else 1
  else
    let n := (b.getD 0 0).toNat
    if n = 0 || 8 < n then 3
    else if bad 50 (b.drop 1) then 3
    else if (List.range n).any (fun s =>
      let q := bankSection b s
      let a1 := q.getD 3 F64.zero
      let a2 := q.getD 4 F64.zero
      !(a2.abs.lt F64.one) || !(a1.abs.lt (F64.one.add a2))) then 2
    else if (bankF b 2).le (bankF b 1) then 3
    else 1

/-- LOOP_CW_VAL.GO (R329): the selected bank is validated or the reason is reported; a blend's target is locked. -/
def Dev.validateBank (d : Dev) : Dev :=
  let (pid, c, b, _) := d.cwSel
  let limit := if pid then 16 else 96
  if limit ≤ c then d
  else if d.blendTarget pid c b then d.set Reg.LOOP_CW_VAL.RESULT 5
  else
    let w := d.bank pid c b
    let r := judgeBank pid (d.pidStep c) w
    let d : Dev := d.set Reg.LOOP_CW_VAL.RESULT r
    if r = 1 then
      (d.setBank pid c b (bankSealed pid w)).setStat pid c (6 + b) 1
    else d.setStat pid c (6 + b) 0

/-- R329: the host asks for the selected bank to be validated. -/
def execBankValidate (t : Nat) (s : State) : Host.Outcome State Fault Refusal :=
  s.run fun d => (d.advance t).whenUp fun d => d.validateBank

/-! ## Requests and blends (R331 to R333) -/

/-- The requests that a channel holds. -/
def Dev.reqOf (d : Dev) (pid : Bool) (c : Nat) : Option BankReq × Option BankReq :=
  if pid then ((d.pid c).req, (d.pid c).held) else ((d.bq c).req, (d.bq c).held)

/-- Change the requests that a channel holds. -/
def Dev.setReq (d : Dev) (pid : Bool) (c : Nat) (req held : Option BankReq) : Dev :=
  let d : Dev := if pid then d.setPid c (fun s => { s with req := req, held := held })
    else d.setBq c (fun s => { s with req := req, held := held })
  (d.setStat pid c 3 (bit held.isSome)).setStat pid c 4 (match held with
    | some r => r.bank
    | none => d.stat pid c 4)

/-- A write of CTRL.REQ (R331, R333): during a blend it is held, with E60; else it waits for the channel's next run. -/
def Dev.bankRequest (d : Dev) (pid : Bool) (c bank len : Nat) : Dev :=
  let r : BankReq := ⟨bank, len, d.sched.st, false⟩
  let (req, _) := d.reqOf pid c
  if d.stat pid c 2 = 1 then
    ((d.setReq pid c req (some r)).setB Reg.LOOP_STATUS.HELD_STICKY true).raiseSub 60 (bit pid * 256 + c)
      [0xD0000, statAt pid c]
  else d.setReq pid c (some r) none

/-- R331: a bank is requested on a channel, with N = `lenM1` + 1, by a write of its CTRL word. -/
def execBankRequest (t : Nat) (pid : Bool) (channel bank lenM1 : Nat) (s : State) : Host.Outcome State Fault Refusal :=
  s.run fun d => (d.advance t).whenUp fun d =>
    if channel < (if pid then 16 else 96) then
      ((d.set ⟨statAt pid channel - 4, 2, 1⟩ (bank % 2)).set ⟨statAt pid channel - 4, 3, 12⟩ (lenM1 % 4096)).bankRequest pid channel
        (bank % 2) (lenM1 % 4096 + 1)
    else d

/-- What a judged request leads to (R331). -/
inductive Judged where
  | nothing | refuse | switch (b : Nat) | blend (b n : Nat)
deriving DecidableEq, Repr, Inhabited

/-- Judge the waiting request at a run (R331): a blend requires both banks to be validated (R329), and a request that a blend held and whose
bank has lost its validation is discarded and counted (R333). -/
def Dev.judgeReq (d : Dev) (pid : Bool) (c tRel : Nat) : Judged × Dev :=
  match (d.reqOf pid c).1 with
  | none => (.nothing, d)
  | some r =>
    if tRel ≤ r.at_ && !r.carried then (.nothing, d)
    else
      let d : Dev := d.setReq pid c none (d.reqOf pid c).2
      let active := d.stat pid c 1
      if r.carried && active = r.bank then (.nothing, d)
      else if d.stat pid c (6 + r.bank) = 0 then
        if r.carried then (.nothing, d.inc ⟨if pid then 0xD2034 + 0x40 * c else 0xD1018 + 0x20 * c, 16, 16⟩)
        else (.refuse, d.loopRefuse (statAt pid c - 4 - 0xD0000) 3)
      else if active = r.bank then (.nothing, d)
      else if d.chanOpen pid c then (.switch r.bank, d.setStat pid c 1 r.bank)
      else if d.stat pid c (6 + active) = 0 then (.refuse, d.loopRefuse (statAt pid c - 4 - 0xD0000) 3)
      else (.blend r.bank r.len, d)

/-- A blend is complete (R332, R333): the target is active, E59, and a held request waits for the next run. -/
def Dev.blendDone (d : Dev) (pid : Bool) (c : Nat) : Dev :=
  let d : Dev := ((d.setStat pid c 1 (1 - d.stat pid c 1)).setStat pid c 2 0).set ⟨statAt pid c, 8, 13⟩ 0
  let d : Dev := (d.setB Reg.LOOP_STATUS.BLEND_STICKY true).raiseSub 59 (bit pid * 256 + c)
    [0xD0000, statAt pid c]
  match (d.reqOf pid c).2 with
  | none => d
  | some r => d.setReq pid c (some { r with carried := true }) none

/-! ## Inputs (R308, R312) -/

/-- The value of a PID's or a reference model's node for the test signal, and the wave of R339 at a time. -/
def Dev.injected (d : Dev) (code : Nat) : F64 :=
  if d.mode != 7 || d.get Reg.LOOP_XINJ.NODE != code then F64.zero
  else
    let amp := (F32.mk (d.word 0xD8004)).to64
    let w := d.get Reg.LOOP_XINJ.WAVE
    if w = 1 then amp
    else if w = 2 then
      let period := (F32.mk (d.word 0xD8008)).to64
      amp.mul (Config.sin (((twice piF).mul (.ofRatio d.sched.st 1000000000)).div period))
    else F64.zero

/-- Where a bound value stands: the packet that carries it, and its raw word or number. -/
structure Bound where
  pkt : Packet
  raw : Word
  val : F64
deriving DecidableEq, Repr, Inhabited

/-- A datum that the host's register gives rather than a packet: as it stands at the release. -/
def Dev.hostDatum (d : Dev) (w : Word) (v : F64) : Bound :=
  ⟨⟨⟨0, d.ts32, frame16Of d.sched.st, 0, 0, 0, 0, 0⟩, [w], d.sched.st, d.sched.st⟩, w, v⟩

/-- Fetch a binding's value as input `i` of a stage (R63, R312, R126), another biquad channel's as it stands now; none when absent or
broken without a held one. A sensor value's word is its BAM32 code for an angle channel (R313), its binary32 one for any other. -/
def Dev.fetch (d v : Dev) (role : TaskRole) (res : Nat) (fault : ChainFault) (i : Nat) (angle : Bool) (b : Bind) : Option Bound × Dev :=
  let value (w : Nat) (bam : Bool) (p : Packet) : Bound :=
    let x := p.payload.getD w 0
    ⟨p, x, if bam then bamToDeg x else (F32.mk x).to64⟩
  let fromOut (v : Dev) (kind index w : Nat) (bam : Bool) : Option Bound × Dev :=
    let (p, d) := d.takeInput v role res fault i kind index
    (p.map (value w bam), d)
  match b with
  | .biquad c => fromOut d 0x30 c 0 (d.flag (Reg.LOOP_BQ.BQ_CFG.ANGLE c))
  | .demand t =>
    if v.leversRule then let w := (d.out.lever.getD t default).1; (some (v.hostDatum w (F32.mk w).to64), d)
    else fromOut v 0x21 0 (3 * t + 2) false
  | .azimuth t =>
    if v.leversRule then let w := (d.out.lever.getD t default).2.1; (some (v.hostDatum w (bamToDeg w)), d)
    else fromOut v 0x21 0 (3 * t + 1) true
  | .slot s k =>
    let (p, d) := d.takeSlot v role res fault i s
    (p.map (fun p => let x := Vec.at (d.valuesOf s p) k; ⟨p, if angle then degToBam x else x.to32.bits, x⟩), d)
  | .word kind index w bam => fromOut v kind index w bam

/-! ## Biquad channels (R311 to R315) -/

/-- One section in transposed direct form II (R311): output and new states. -/
def sectionRun (q : List F64) (z : F64 × F64) (w : F64) : F64 × (F64 × F64) :=
  let c (i : Nat) : F64 := q.getD i F64.zero
  let y := ((c 0).mul w).add z.1
  let z1 := (((c 1).mul w).sub ((c 3).mul y)).add z.2
  let z2 := ((c 2).mul w).sub ((c 4).mul y)
  ((c 5).mul y, (z1, z2))

/-- The steady state of a section for an input (R315): its output and states; zero states where 1 + a1 + a2 is 0. -/
def sectionSteady (q : List F64) (w : F64) : F64 × (F64 × F64) :=
  let c (i : Nat) : F64 := q.getD i F64.zero
  let den := (F64.one.add (c 3)).add (c 4)
  if den.eq F64.zero then ((c 5).mul ((c 0).mul w), (F64.zero, F64.zero))
  else
    let g := (((c 0).add (c 1)).add (c 2)).div den
    let y := g.mul w
    let z2 := ((c 2).mul w).sub ((c 4).mul y)
    let z1 := (((c 1).mul w).sub ((c 3).mul y)).add z2
    ((c 5).mul y, (z1, z2))

/-- Run a cascade: section outputs and new states. -/
def cascade (b : List Word) : List Nat → List (F64 × F64) → F64 → List F64 × List (F64 × F64)
  | [], _, _ => ([], [])
  | s :: rest, z, w =>
    let (g, z') := sectionRun (bankSection b s) (z.headD (F64.zero, F64.zero)) w
    let (gs, zs) := cascade b rest z.tail g
    (g :: gs, z' :: zs)

/-- The steady states of a cascade for an input (R315). -/
def cascadeSteady (b : List Word) : List Nat → F64 → List (F64 × F64)
  | [], _ => []
  | s :: rest, w =>
    let (g, z) := sectionSteady (bankSection b s) w
    z :: cascadeSteady b rest g

/-- Run a bank: the section outputs, the pre-limit output v, and the new states (R311). -/
def bankRun (b : List Word) (z : List (F64 × F64)) (x : F64) : List F64 × F64 × List (F64 × F64) :=
  let (gs, zs) := cascade b (List.range (bankSections b)) z x
  (gs, gs.getLastD x, zs)

/-- Steady states of a bank. -/
def bankSteady (b : List Word) (x : F64) : List (F64 × F64) := cascadeSteady b (List.range (bankSections b)) x

/-- Limit by [LO, HI] (R311). -/
def limitTo (lo hi v : F64) : F64 := (v.max lo).min hi

/-- Enter or leave saturation (R314, R318): E58 at most once per channel and hyperframe, and a record at each entry. -/
def Dev.setSat (d : Dev) (pid : Bool) (c : Nat) (b : Bool) : Dev :=
  let was := d.stat pid c 5 == 1
  let d : Dev := d.setStat pid c 5 (bit b)
  if !b || was then d
  else
    let d : Dev := d.inc ⟨if pid then 0xD2034 + 0x40 * c else 0xD1018 + 0x20 * c, 0, 16⟩
    let now := d.sched.st / 100000000
    let last := if pid then (d.pid c).satAt else (d.bq c).satAt
    let words := [d.word 0xD0000, d.word (statAt pid c)]
    if last = some now then d.note 0x01 0x0D (bit pid * 256 + c) words
    else
      let d : Dev := if pid then d.setPid c (fun s => { s with satAt := some now }) else d.setBq c (fun s => { s with satAt := some now })
      (d.setB Reg.LOOP_STATUS.SAT_STICKY true).raiseWith 58 (bit pid * 256 + c) words none

/-- What one run of a biquad channel computes (R311 to R313, R332). -/
structure BqRun where
  x : F64
  gs : List F64
  v : F64
  out : F64
  lo : F64
  hi : F64
  z : List (F64 × F64)
  zT : List (F64 × F64)
  k : Nat
  done : Bool
deriving DecidableEq, Repr, Inhabited

/-- λ of R332. -/
def mixF (lam a b : F64) : F64 := ((F64.one.sub lam).mul a).add (lam.mul b)

/-- The run's arithmetic on the channel's input `x`; `start` begins a blend of `n` runs to the other bank. -/
def Dev.bqCompute (d : Dev) (c : Nat) (x : F64) (start : Option Nat) : BqRun :=
  let s := d.bq c
  let act := d.stat false c 1
  let src := d.bank false c act
  let tgt := d.bank false c (1 - act)
  let angle := d.flag (Reg.LOOP_BQ.BQ_CFG.ANGLE c)
  let isOpen := d.chanOpen false c
  let lim (lo hi v : F64) : F64 := if angle then v else limitTo lo hi v
  let blending := d.stat false c 2 == 1
  if isOpen && !blending then
    let out := lim (bankF src 1) (bankF src 2) x
    ⟨x, [], x, out, bankF src 1, bankF src 2, s.z, [], 0, false⟩
  else
    let z := if s.init then bankSteady src x else s.z
    let zT := if start.isSome then bankSteady tgt x else s.zT
    let (gs, vs, z') := bankRun src z x
    if start.isNone && !blending then
      let lo := bankF src 1
      let hi := bankF src 2
      ⟨x, gs, vs, lim lo hi vs, lo, hi, z', [], 0, false⟩
    else
      let n := start.getD s.blendN
      let k := if start.isSome then 1 else d.get ⟨statAt false c, 8, 13⟩ + 1
      let lam := if isOpen then F64.one else F64.ofRatio k n
      let (gt, vt, zT') := bankRun tgt zT x
      let v := mixF lam vs vt
      let lo := mixF lam (bankF src 1) (bankF tgt 1)
      let hi := mixF lam (bankF src 2) (bankF tgt 2)
      let done := isOpen || n ≤ k
      ⟨x, if done then gt else gs, v, lim lo hi v, lo, hi, if done then zT' else z', if done then [] else zT', k, done⟩

/-- A run of biquad channel `c` (R310 to R314): nothing is committed when the datapaths disagree. -/
def Dev.bqRun (d v : Dev) (c : Nat) (fault : ChainFault) : Dev :=
  match d.image.loop.bq[c]? with
  | none => d
  | some im =>
    let (got, d) := d.fetch v .biquads 81 fault 0 im.angle im.bind
    let s := d.bq c
    let (inp, absent) : Option (Word × F64 × Packet) × Bool := match got with
      | some b => (some (b.raw, b.val, b.pkt), false)
      | none => (s.last, true)
    match inp with
    | none => d
    | some (raw, val, pkt) => d.about pkt.tovNs fun before =>
      let d : Dev := before
      let angle := im.angle
      let x0 : F64 :=
        if angle then match s.last with
          | some l => s.turn.add (bamToDeg (raw - l.1))
          | none => bamToDeg raw
        else val
      let x := x0.add (d.injected (16 * c))
      let (j, d) := d.judgeReq false c v.sched.st
      let start : Option Nat := match j with
        | .blend _ n => some n
        | _ => none
      let r := d.bqCompute c x start
      let word : Word := if angle then degToBam r.out else r.out.to32.bits
      let own : BitVec 8 := if absent then 1 else 0
      match fault with
      | .datapath _ _ _ => before.emit .biquads 81 0x30 c own pkt.tovNs [pkt] [word] fault
      | _ =>
        let d : Dev := d.setBq c (fun s => { s with
          z := r.z, zT := r.zT, last := some (raw, val, pkt), turn := x0, init := s.init && d.chanOpen false c
          blendN := start.getD s.blendN })
        let d : Dev := if r.k = 0 then d else (d.setStat false c 2 1).set ⟨statAt false c, 8, 13⟩ r.k
        let d : Dev := if r.done then d.blendDone false c else d
        let d : Dev := ((d.setShown (Reg.LOOP_BQ.IN.IN c) angle (if angle then raw else x.to32.bits)).setShown (Reg.LOOP_BQ.OUT.OUT c) angle word).set
          (Reg.LOOP_BQ.TOV.TOV c) pkt.tag.tov.toNat
        let d : Dev := d.setSat false c (!angle && (r.v.lt r.lo || r.hi.lt r.v))
        let d : Dev := d.emit .biquads 81 0x30 c own pkt.tovNs [pkt] [word] fault
        let d : Dev := d.traceNode (16 * c) x
        let d : Dev := ((List.range r.gs.length).zip r.gs).foldl (fun d e => d.traceNode (16 * c + 1 + e.1) e.2) d
        (d.traceNode (16 * c + 9) r.v).traceNode (16 * c + 10) r.out

/-- A biquad channel runs in the minor frame that starts at or before a release (R312). -/
def Dev.bqDue (d : Dev) (rel c : Nat) : Bool :=
  c < 96 && (rel / 1000000) % (max 1 (d.get (Reg.LOOP_BQ.BQ_CFG.DIV c))) = 0

/-- R311: biquad channel `channel` runs, in the minor frames that its divisor gives (R312). -/
def execThrusterLoopRun (t channel : Nat) (fault : ChainFault) (s : State) : Host.Outcome State Fault Refusal :=
  s.run fun d => (d.advance t).whenUp fun d => match d.slotOf .biquads channel with
    | some e => if d.bqDue e.shot.rel channel then d.runIn e channel fun v d => d.bqRun v channel fault else d
    | none => d

/-- A biquad channel closes (R315): the states take the steady state of the latest input, and OPEN reads 0. -/
def Dev.bqClose (d : Dev) (c : Nat) : Dev :=
  if !d.chanOpen false c then d
  else
    let s := d.bq c
    let b := d.bank false c (d.stat false c 1)
    let x := match s.last with
      | some l => if d.flag (Reg.LOOP_BQ.BQ_CFG.ANGLE c) then s.turn else l.2.1
      | none => F64.zero
    (d.setBq c (fun s => { s with z := bankSteady b x, init := s.last.isNone })).setStat false c 0 0 |>.setB (Reg.LOOP_BQ.CTRL.OPEN c) false

/-- A write of BQ_CTRL.OPEN (R315): in M1 and M7 only. -/
def Dev.bqOpen (d : Dev) (c : Nat) (b : Bool) (port : Nat) : Dev :=
  if d.mode = 1 || d.mode = 7 then
    let d : Dev := d.setB (Reg.LOOP_BQ.CTRL.OPEN c) b
    if b then d.setStat false c 0 1 else d.bqClose c
  else d.loopRefuseWrite (0x1004 + 0x20 * c) 4 8 port

/-- R315: host software opens or closes a biquad channel. -/
def execBiquadOpen (t channel : Nat) (on : Bool) (port : Nat) (s : State) : Host.Outcome State Fault Refusal :=
  s.run fun d => (d.advance t).whenUp fun d => if channel < 96 then d.bqOpen channel on port else d

/-! ## Estimates (R316, R321) -/

/-- Degrees modulo one turn, in [−180, 180): a number that lies there stands as it is. -/
def wrapDeg (x : F64) : F64 :=
  match fmt64.decode x.bits.toNat with
  | .fin s m e =>
    let num : Int := (if s then -1 else 1) * ((m * 2 ^ e.toNat : Nat) : Int)
    let den : Nat := 2 ^ (-e).toNat
    let half : Int := 180 * (den : Int)
    if -half ≤ num ∧ num < half then x else .ofRatio ((num + half) % (2 * half) - half) den
  | _ => x

/-- What the position loops take from a fusion output: north, east, heading in degrees, and their rates (R241). -/
structure Estimate where
  n : F64
  e : F64
  psi : F64
  vn : F64
  ve : F64
  r : F64
deriving DecidableEq, Repr, Inhabited

/-- Decode an own-vessel state (R241). -/
def estimateOf (p : Packet) : Estimate :=
  let psi := radOfBam (p.payload.getD 4 0)
  let u := f32At p.payload 5
  let v := f32At p.payload 6
  let c := Config.cos psi
  let s := Config.sin psi
  ⟨f64At p.payload 0, f64At p.payload 2, bamToDeg (p.payload.getD 4 0), (c.mul u).sub (s.mul v), (s.mul u).add (c.mul v),
   f32At p.payload 7⟩

/-- The estimate's component for reference model 0, 1 or 2 with its rate. -/
def Estimate.axis (e : Estimate) (n : Nat) : F64 × F64 :=
  if n = 0 then (e.n, e.vn) else if n = 1 then (e.e, e.ve) else (e.psi, e.r)

/-! ## Reference models (R321 to R324) -/

/-- Sign of a number; 0 for 0. -/
def signF (x : F64) : F64 := if x.isNeg then F64.one.neg else if F64.zero.lt x then F64.one else F64.zero

/-- One step of a reference model (R322): the set-point error and the new state. -/
def RmState.step (m : RmState) (angle : Bool) (s vm am jm h : F64) : F64 × RmState :=
  let d := if angle then wrapDeg (s.sub m.p) else s.sub m.p
  let root := ((am.sq.div ((F64.ofInt 4).mul jm.sq)).add ((twice d.abs).div am)).sqrt
  let vd := am.mul (root.sub (am.div (twice jm)))
  let vt := (signF d).mul (vm.min vd)
  let at' := (signF (vt.sub m.v)).mul (am.min (((twice jm).mul (vt.sub m.v).abs).sqrt))
  let a := m.a.add (((at'.sub m.a).max (jm.neg.mul h)).min (jm.mul h))
  let v := ((m.v.add (a.mul h)).max vm.neg).min vm
  let p := m.p.add (v.mul h)
  (d, { m with p := if angle then wrapDeg p else p, v := v, a := a })

/-- The braking distance B of a state (R324). -/
def RmState.braking (m : RmState) (am jm : F64) : F64 :=
  let up := F64.zero.max (m.a.mul (signF m.v))
  let ta := up.div jm
  let ve := m.v.abs.add (up.sq.div (twice jm))
  (ve.mul ta).add ((ve.sq.div (twice am)).add (ve.mul (am.div (twice jm))))

/-- The rest point of R48 and R324. -/
def Dev.restPoint (d : Dev) (n : Nat) : F64 :=
  let m := d.rm n
  m.p.add ((signF m.v).mul (m.braking (d.paramF (P.LOOP.RM_AMAX n)) (d.paramF (P.LOOP.RM_JMAX n))))

/-- A model's number as a register word: BAM32 for a heading model (R338). -/
def Dev.rmWord (d : Dev) (n : Nat) (x : F64) : Word :=
  if d.flag (Reg.LOOP_RM.CFG.ANGLE n) then degToBam x else x.to32.bits

/-- Show a model's number in a register of it; one that is not finite is not written (R6). -/
def Dev.setRmWord (d : Dev) (x : Field) (n : Nat) (v : F64) : Dev := d.setShown x (d.flag (Reg.LOOP_RM.CFG.ANGLE n)) (d.rmWord n v)

/-- Show a model's state and update its trace nodes (R334, R338). -/
def Dev.showRm (d : Dev) (n : Nat) (lag : F64) : Dev :=
  let m := d.rm n
  let d : Dev := ((d.setRmWord (Reg.LOOP_RM.P.P n) n m.p).setF (Reg.LOOP_RM.V.V n) m.v.to32).setF (Reg.LOOP_RM.A.A n) m.a.to32
  let d : Dev := (d.setF (Reg.LOOP_RM.STOP.STOP n) (m.braking (d.paramF (P.LOOP.RM_AMAX n)) (d.paramF (P.LOOP.RM_JMAX n))).to32).setF
    (Reg.LOOP_RM.LAG.LAG n) lag.to32
  let c := 0x2000 + 16 * n
  (((d.traceNode c m.p).traceNode (c + 1) m.v).traceNode (c + 2) m.a).traceNode (c + 3) lag

/-- Some model is limiting: the degradation state REF_LIMIT (R50). -/
def Dev.showRefLimit (d : Dev) : Dev :=
  d.setBitAt Reg.SYS_MODE.STATES 6 ((List.range 8).any fun n => d.flag (Reg.LOOP_RM.STAT.LIMITING n))

/-- Judge a model's limiting episode after a run (R323). -/
def Dev.judgeLimit (d : Dev) (n : Nat) (lag : F64) : Dev :=
  let m := d.rm n
  let k := F64.one.sub (.ofRatio 1 1000000)
  let tol := d.paramF (P.LOOP.RM_LAG_TOL n)
  let was := d.flag (Reg.LOOP_RM.STAT.LIMITING n)
  let hit := tol.lt lag.abs && ((k.mul (d.paramF (P.LOOP.RM_VMAX n))).le m.v.abs || (k.mul (d.paramF (P.LOOP.RM_AMAX n))).le m.a.abs)
  if hit && !was then
    let d : Dev := (d.setB (Reg.LOOP_RM.STAT.LIMITING n) true).setB Reg.LOOP_STATUS.RMLIM_STICKY true
    d.showRefLimit.raiseSub 63 n [0xD0000, 0xD2804 + 0x40 * n]
  else if was && lag.abs.le tol then (d.setB (Reg.LOOP_RM.STAT.LIMITING n) false).showRefLimit
  else d

/-- A model whose axis is open follows the estimate (R321). -/
def Dev.followRm (d : Dev) (n : Nat) (p v : F64) : Dev :=
  let d : Dev := d.setRm n (fun m => { m with p := p, v := v, a := F64.zero, sp := p, wrote := false })
  let d : Dev := ((d.setRmWord (Reg.LOOP_RM.SP.SP n) n p).setB (Reg.LOOP_RM.STAT.FOLLOWING n) true).setB
    (Reg.LOOP_RM.STAT.LIMITING n) false
  d.showRefLimit.showRm n F64.zero

/-- A model's run with its axis closed (R45, R321 to R323): its start state without a step, or a step to set-point `s`. -/
def Dev.stepRm (d : Dev) (n : Nat) (s h : F64) : Dev :=
  let d : Dev := d.setB (Reg.LOOP_RM.STAT.FOLLOWING n) false
  let m := d.rm n
  if m.hold then (d.setRm n (fun m => { m with hold := false })).showRm n F64.zero
  else
    let angle := d.flag (Reg.LOOP_RM.CFG.ANGLE n)
    let (lag, m') := m.step angle s (d.paramF (P.LOOP.RM_VMAX n)) (d.paramF (P.LOOP.RM_AMAX n)) (d.paramF (P.LOOP.RM_JMAX n)) h
    let after := if angle then wrapDeg (s.sub m'.p) else s.sub m'.p
    ((d.setRm n (fun _ => m')).showRm n lag).judgeLimit n after

/-! ## Track set-points (R325, R326) -/

/-- Waypoint `w` of the path in force. -/
def Dev.wp (d : Dev) (w : Nat) : Waypoint := d.loop.path.getD w default

/-- A waypoint's place. -/
def Waypoint.pos (w : Waypoint) : Vec := [w.n, w.e]

/-- Length left of the path from a point on leg `l`. -/
def Dev.pathLeft (d : Dev) (p : Vec) (l : Nat) : F64 :=
  let n := d.loop.path.length
  (List.range n).foldl (fun s w =>
    if w = l then s.add (Vec.norm (Vec.sub (d.wp w).pos p))
    else if l < w then s.add (Vec.norm (Vec.sub (d.wp w).pos (d.wp (w - 1)).pos)) else s) F64.zero

/-- Show the path's progress (R327). -/
def Dev.showPath (d : Dev) (p : Vec) (l : Nat) (stop : Bool) : Dev :=
  ((d.set Reg.LOOP_PATH_STAT.LEG l).setB Reg.LOOP_PATH_STAT.END stop).setF Reg.LOOP_PATH_DIST.DIST (d.pathLeft p l).to32

/-- The nearest point of leg 1 to a position (R325 step 1). -/
def Dev.nearLeg1 (d : Dev) (p : Vec) : Vec :=
  let a := (d.wp 0).pos
  let ab := Vec.sub (d.wp 1).pos a
  let t := ((Vec.dot (Vec.sub p a) ab).div (Vec.dot ab ab)).clamp F64.zero F64.one
  Vec.add a (Vec.scale t ab)

/-- Move the path point for a time along the legs (R325 step 2, 3): point, leg and whether it stands at the end; `fuel` bounds the legs
crossed. -/
def Dev.movePoint (d : Dev) : Nat → Vec → Nat → F64 → Vec × Nat × Bool
  | 0, p, l, _ => (p, l, true)
  | k + 1, p, l, h =>
    let w := d.wp l
    let r := Vec.sub w.pos p
    let len := Vec.norm r
    let go := w.speed.mul h
    if go.lt len then (Vec.add p (Vec.scale (go.div len) r), l, false)
    else if d.loop.path.length ≤ l + 1 then (w.pos, l, true)
    else d.movePoint k w.pos (l + 1) (h.sub (len.div w.speed))

/-- The path generator's run (R325). -/
def Dev.pathRun (d : Dev) (e : Estimate) (h : F64) : Dev :=
  if d.loop.path.length < 2 then d
  else if d.loop.place then
    let p := d.nearLeg1 [e.n, e.e]
    ({ d with loop := { d.loop with point := p, place := false } }).showPath p 1 false
  else if d.flag Reg.LOOP_PATH_STAT.END then d
  else
    let (p, l, stop) := d.movePoint 33 d.loop.point (d.get Reg.LOOP_PATH_STAT.LEG) h
    ({ d with loop := { d.loop with point := p } }).showPath p l stop

/-- The heading that the path asks for (R325). -/
def Dev.pathHeading (d : Dev) : F64 :=
  let l := d.get Reg.LOOP_PATH_STAT.LEG
  let w := d.wp l
  if d.loop.hdgMode then
    let r := Vec.sub w.pos (d.wp (l - 1)).pos
    wrapDeg ((degOfRad (Config.atan2 (r.at 1) (r.at 0))).add (bamToDeg w.hdg))
  else bamToDeg w.hdg

/-- The set-points that M6 gives models 0, 1 and 2 (R325, R326): from the target's track `p` where the target is followed. -/
def Dev.trackPoint (d : Dev) (p : Option Packet) : F64 × F64 × F64 :=
  match p with
  | some p =>
    let psi := radOfBam (p.payload.getD 5 0)
    let c := Config.cos psi
    let s := Config.sin psi
    let x := d.loop.offset.at 0
    let y := d.loop.offset.at 1
    ((f32At p.payload 1).add ((c.mul x).sub (s.mul y)), (f32At p.payload 2).add ((s.mul x).add (c.mul y)),
     wrapDeg ((degOfRad psi).add (d.loop.offset.at 2)))
  | none => (d.loop.point.at 0, d.loop.point.at 1, d.pathHeading)

/-- Take a set-point into a model and its register. -/
def Dev.setSp (d : Dev) (n : Nat) (x : F64) : Dev :=
  (d.setRm n (fun m => { m with sp := x })).setRmWord (Reg.LOOP_RM.SP.SP n) n x

/-- Take the start set-point of a model whose axis has closed (R45); what host software has written since the boundary stands in the
register for the next one (R321). -/
def Dev.startSp (d : Dev) (n : Nat) (x : F64) : Dev :=
  if (d.rm n).wrote then d.setRm n (fun m => { m with sp := x }) else d.setSp n x

/-- The set-points of the position models for a run in M6; a lost target brings them to rest (R48, R50), where they stay until host software
requests following again (R240), and one whose track is absent leaves them where they are. `target` is the target's track. -/
def Dev.trackSetPoints (d v : Dev) (target : Option Packet) : Dev :=
  if v.mode != 6 then d
  else if v.bitAt Reg.SYS_MODE.STATES 8 && v.flag Reg.SYS_MODE.TRACK_TARGET then
    if d.loop.restHeld then d
    else
      let d : Dev := ((d.setSp 0 (d.restPoint 0)).setSp 1 (d.restPoint 1)).setSp 2 (d.rm 2).p
      { d with loop := { d.loop with restHeld := true } }
  else if v.flag Reg.SYS_MODE.TRACK_TARGET && (d.loop.restHeld || target.isNone) then d
  else
    let d : Dev := { d with loop := { d.loop with restHeld := false } }
    let (n, e, psi) := d.trackPoint target
    ((d.setSp 0 n).setSp 1 e).setSp 2 psi

/-- Run reference model `n` for a position loop. -/
def Dev.positionRm (d v : Dev) (n : Nat) (e : Estimate) (isOpen : Bool) (h : F64) : Dev :=
  let (p, pv) := e.axis n
  if isOpen then d.followRm n p pv
  else
    let m := d.rm n
    let d : Dev := if m.hold then
        (d.setRm n (fun m => { m with p := p, v := pv, a := F64.zero })).startSp n p else d
    let s := (d.rm n).sp.add (if n < 2 then v.alloc.shift.at n else F64.zero)
    d.stepRm n s h

/-! ## PID channels (R316 to R320) -/

/-- Coefficients of a PID bank: KP, KI, KD, TF, KB, KFF, LO, HI. -/
structure PidGains where
  kp : F64
  ki : F64
  kd : F64
  tf : F64
  kb : F64
  kff : F64
  lo : F64
  hi : F64
deriving DecidableEq, Repr, Inhabited

/-- Read a PID bank. -/
def gainsOf (b : List Word) : PidGains :=
  ⟨bankF b 0, bankF b 1, bankF b 2, bankF b 3, bankF b 4, bankF b 5, bankF b 6, bankF b 7⟩

/-- The terms of one bank at a run: P, D, FF, and the integrator's step (R316). -/
def PidGains.terms (g : PidGains) (h e ePrev dPrev rdd aPrev vPrev : F64) : F64 × F64 × F64 × F64 :=
  let den := g.tf.add h
  (g.kp.mul e, ((g.tf.div den).mul dPrev).add ((g.kd.div den).mul (e.sub ePrev)), g.kff.mul rdd,
   h.mul ((g.ki.mul ePrev).add (g.kb.mul (aPrev.sub vPrev))))

/-- What one run of a PID channel computes. -/
structure PidRun where
  p : F64
  i : F64
  d : F64
  ff : F64
  v : F64
  u : F64
  lo : F64
  hi : F64
  iS : F64
  dS : F64
  iT : F64
  dT : F64
  k : Nat
  done : Bool
deriving DecidableEq, Repr, Inhabited

/-- The run's arithmetic (R316, R320, R332): an open channel's v and u are PID_MAN (log 161); error, reference acceleration, achieved output
of the previous run and the host's PID_MAN given. -/
def Dev.pidCompute (d : Dev) (c : Nat) (e rdd aPrev man : F64) (start : Option Nat) : PidRun :=
  let s := d.pid c
  let h := d.pidStep c
  let act := d.stat true c 1
  let g := gainsOf (d.bank true c act)
  let gt := gainsOf (d.bank true c (1 - act))
  let isOpen := d.chanOpen true c
  let blending := d.stat true c 2 == 1 || start.isSome
  let (p, df, ff, di) := match s.preset with
    | some _ => g.terms h e e F64.zero rdd aPrev s.vPrev
    | none => g.terms h e s.ePrev s.d rdd aPrev s.vPrev
  if isOpen && !blending then
    ⟨p, s.i, df, ff, man, man, g.lo, g.hi, s.i, df, s.iT, s.dT, 0, false⟩
  else
    let i := match s.preset with
      | some u0 => limitTo g.lo g.hi ((u0.sub p).sub ff)
      | none => if isOpen then s.i else s.i.add di
    let v1 := ((p.add i).add df).add ff
    if !blending then
      ⟨p, i, df, ff, v1, limitTo g.lo g.hi v1, g.lo, g.hi, i, df, s.iT, s.dT, 0, false⟩
    else
      let n := start.getD s.blendN
      let k := if start.isSome then 1 else d.get ⟨statAt true c, 8, 13⟩ + 1
      let (e0, d0) : F64 × F64 := if s.preset.isSome then (e, F64.zero) else (s.ePrev, s.d)
      let (pt, dt, fft, dit) := gt.terms h e e0 (if start.isSome then d0 else s.dT) rdd aPrev s.vPrev
      let it := if start.isSome then ((v1.sub pt).sub dt).sub fft else s.iT.add dit
      let vt := ((pt.add it).add dt).add fft
      let lam := if isOpen then F64.one else F64.ofRatio k n
      let v := if isOpen then man else mixF lam v1 vt
      let lo := mixF lam g.lo gt.lo
      let hi := mixF lam g.hi gt.hi
      let done := isOpen || n ≤ k
      let u := if isOpen then man else limitTo lo hi v
      if done then ⟨pt, it, dt, fft, v, u, lo, hi, it, dt, F64.zero, F64.zero, k, true⟩
      else ⟨p, i, df, ff, v, u, lo, hi, i, df, it, dt, k, false⟩

/-- The achieved output of the previous run (R317): what the allocation since then produced in the axis of a position channel, or the output
itself; outside command and without SYNC, what the drives feed back (R390). The allocation has no axis of a channel 3 to 15 (log 161). -/
def Dev.achievedPrev (d v : Dev) (c : Nat) (a : Option Packet) : F64 :=
  let s := d.pid c
  if s.aNext.isSome then s.aNext.getD F64.zero
  else if c < 3 && v.get Reg.RED_STATUS.ROLE != 3 && !v.flag Reg.RED_STATUS.SYNC then v.alloc.fed.at c
  else if 3 ≤ c || !d.flag (Reg.LOOP_PID.PID_CFG.EXT_ACH c) then s.uPrev
  else match a with
    | some p => if p.flag 0 || p.sealedAt < s.ranAt then s.uPrev else f32At p.payload (54 + c)
    | none => s.uPrev

/-- Error and reference acceleration of a position channel, in the body frame (R316). -/
def Dev.positionError (d : Dev) (c : Nat) (e : Estimate) : F64 × F64 :=
  if c = 2 then
    let m := d.rm 2
    (wrapDeg (m.p.sub e.psi), m.a)
  else
    let psi := radOfDeg e.psi
    let err := toBody psi [(d.rm 0).p.sub e.n, (d.rm 1).p.sub e.e]
    let acc := toBody psi [(d.rm 0).a, (d.rm 1).a]
    (err.at c, acc.at c)

/-- Commit a PID run: state, registers, saturation, seal and trace nodes (R310, R318); where the datapaths disagree, the device stays as it
was `before` the run. A preset puts u0 in the place of the v of the run before (R320); the run's own v follows it (R316). -/
def Dev.pidCommit (d before : Dev) (c : Nat) (e a : F64) (r : PidRun) (start : Option Nat) (kind : Nat) (own : BitVec 8) (tov : Int)
    (ins : List Packet) (fault : ChainFault) : Dev :=
  let u := r.u.add (d.injected (0x1000 + 16 * c + 6))
  let old := d.pid c
  match fault with
  | .datapath _ _ _ => before.emit .pid 80 kind c own tov ins [u.to32.bits] fault
  | _ =>
    let d : Dev := d.setPid c (fun s => { s with
      i := r.iS, d := r.dS, iT := r.iT, dT := r.dT, ePrev := e, uPrev := r.u, ranAt := d.sched.st
      vPrev := r.v
      preset := none, aNext := none, blendN := start.getD s.blendN })
    let d : Dev := if r.k = 0 then d else (d.setStat true c 2 1).set ⟨statAt true c, 8, 13⟩ r.k
    let d : Dev := if r.done then d.blendDone true c else d
    let f (x : Field) (v : F64) (d : Dev) : Dev := d.setF x v.to32
    let d : Dev := f (Reg.LOOP_PID.E.E c) e (f (Reg.LOOP_PID.P.P c) r.p (f (Reg.LOOP_PID.I.I c) r.i (f (Reg.LOOP_PID.D.D c) r.d d)))
    let d : Dev := f (Reg.LOOP_PID.FF.FF c) r.ff (f (Reg.LOOP_PID.V.V c) r.v (f (Reg.LOOP_PID.U.U c) u (f (Reg.LOOP_PID.A.A c) a d)))
    let d : Dev := d.set (Reg.LOOP_PID.TOV.TOV c) (ts32Of tov).toNat
    let tol := ((d.paramF P.LOOP.SAT_TOL).div (.ofInt 100)).mul (r.lo.abs.max r.hi.abs)
    let sat := (!(r.u.eq r.v)
      || (d.flag (Reg.LOOP_PID.PID_CFG.EXT_ACH c) && tol.lt (a.sub (old.preset.getD old.vPrev)).abs))
    let d : Dev := (d.setSat true c sat).emit .pid 80 kind c own tov ins [u.to32.bits] fault
    let code := 0x1000 + 16 * c
    ((List.range 8).zip [e, r.p, r.i, r.d, r.ff, r.v, u, a]).foldl (fun d n => d.traceNode (code + n.1) n.2) d

/-- What every run of a PID channel does with its error and reference acceleration (R316, R317, R331): the waiting bank request, the
achieved output, its input 2, and the run. `before` is the device before it. A channel other than a position channel closes on PID_MAN
(R320). -/
def Dev.pidLaw (d before v : Dev) (c : Nat) (e acc : F64) (kind : Nat) (tov : Int) (ins : List Packet) (fault : ChainFault) : Dev :=
  let (al, d) := if d.flag (Reg.LOOP_PID.PID_CFG.EXT_ACH c) then d.takeInput v .pid 80 fault 2 0x21 0 else (none, d)
  let (j, d) := d.judgeReq true c v.sched.st
  let start : Option Nat := match j with
    | .blend _ n => some n
    | _ => none
  let a := d.achievedPrev v c al
  let man := (v.getF (Reg.LOOP_PID.PID_MAN.MAN c)).to64
  let d : Dev := if c < 3 then d else d.setPid c fun s => { s with preset := s.preset.map fun _ => man }
  let r := d.pidCompute c e acc a man start
  d.pidCommit before c e a r start kind 0 tov (ins ++ al.toList) fault

/-- A run of a position loop, channel 0, 1 or 2 (R316, R321, R325). Input 0 is the fusion output, input 1 the target's track. -/
def Dev.positionRun (d v : Dev) (c : Nat) (fault : ChainFault) : Dev :=
  let (fus, d) := d.takeInput v .pid 80 fault 0 0x10 0
  match fus with
  | none => d
  | some p => d.about p.tovNs fun before =>
    let d : Dev := before
    let e := estimateOf p
    let h := d.pidStep c
    let isOpen := d.chanOpen true c
    let follow := c = 0 && v.mode = 6 && v.flag Reg.SYS_MODE.TRACK_TARGET
    let (target, d) := if follow then d.takeInput v .pid 80 fault 1 0x11 (d.param P.FUS.TARGET_OBJ) else (none, d)
    let d : Dev := if c = 0 && v.mode = 6 && !v.flag Reg.SYS_MODE.TRACK_TARGET then d.pathRun e h else d
    let d : Dev := if c = 0 then d.trackSetPoints v target else d
    let d : Dev :=
      if c = 0 then (d.positionRm v 0 e isOpen h).positionRm v 1 e isOpen h
      else if c = 2 then d.positionRm v 2 e isOpen h
      else d
    let (err, acc) := d.positionError c e
    d.pidLaw before v c err acc 0x20 p.tovNs (p :: target.toList) fault

/-- The rate of a model that follows channel `c`'s measurement (R321): the estimate's where the channel measures the estimated heading, else
a free value, for the manual gives no rate of another measurement (log 162). -/
def measuredRate (b : Option Bind) (c : Nat) (y : Bound) : F64 :=
  if b = some (.word 0x10 0 4 true) then f32At y.pkt.payload 7 else Config.estimatedRate c y.val

/-- A run of a PID channel 3 to 15 (R308, R316). Input 0 is the measurement, input 1 the reference; without either that the image binds the
channel does not run (log 163). -/
def Dev.otherRun (d v : Dev) (c : Nat) (im : PidImage) (fault : ChainFault) : Dev :=
  let (y, d) := match im.meas with
    | some b => d.fetch v .pid 80 fault 0 im.angle b
    | none => (none, d)
  let (rf, d) := match im.rm, im.ref with
    | none, some b => d.fetch v .pid 80 fault 1 im.angle b
    | _, _ => (none, d)
  match (if im.rm.isNone && im.ref.isSome && rf.isNone then none else y) with
  | none => d
  | some y => d.about y.pkt.tovNs fun before =>
    let d : Dev := before
    let h := d.pidStep c
    let d : Dev := match im.rm with
      | some n =>
        let rate := measuredRate im.meas c y
        if d.chanOpen true c then d.followRm n y.val rate
        else if (d.rm n).hold then
          ((d.setRm n (fun m => { m with p := y.val, v := rate, a := F64.zero })).startSp n y.val).stepRm n y.val h
        else d.stepRm n (d.rm n).sp h
      | none => d
    let (ref, acc) : F64 × F64 := match im.rm, rf with
      | some n, _ => ((d.rm n).p, (d.rm n).a)
      | none, some b => (b.val, F64.zero)
      | none, none => (F64.zero, F64.zero)
    let e := if im.angle then wrapDeg (ref.sub y.val) else ref.sub y.val
    d.pidLaw before v c e acc im.kind y.pkt.tovNs (y.pkt :: (rf.map (fun b => b.pkt)).toList) fault

/-- R316: PID channel `c` runs. -/
def Dev.pidRun (d v : Dev) (c : Nat) (fault : ChainFault) : Dev :=
  if c < 3 then d.positionRun v c fault
  else match d.image.loop.pid[c]? with
    | some im => d.otherRun v c im fault
    | none => d

/-- A PID channel runs in the slots of its rate: 1 kHz in a minor-frame slot, 100 Hz in a major-frame slot (R308). -/
def Dev.pidSlot (d : Dev) (c : Nat) (row : TaskRow) : Bool := c < 16 && (row.period == 0) == d.flag (Reg.LOOP_PID.PID_CFG.RATE c)

/-- A write of PID_CTRL.OPEN (R319): ignored for channels 0 to 2; accepted in M1 and M7, and in M2 to M6 where HOST_OPEN is 1. -/
def Dev.pidOpen (d : Dev) (c : Nat) (b : Bool) (port : Nat) : Dev :=
  if c < 3 then (if b then d.reportWrite 8 port 0 (0xD2004 + 0x40 * c) false else d)
  else if d.mode = 1 || d.mode = 7 || d.flag (Reg.LOOP_PID.PID_CFG.HOST_OPEN c) then
    let was := d.chanOpen true c
    let d : Dev := (d.setB (Reg.LOOP_PID.CTRL.OPEN c) b).setStat true c 0 (bit b)
    if b && !was then d.setF (Reg.LOOP_PID.PID_MAN.MAN c) (d.pid c).uPrev.to32
    else if !b && was then d.setPid c (fun s => { s with preset := some (d.getF (Reg.LOOP_PID.PID_MAN.MAN c)).to64 })
    else d
  else d.loopRefuseWrite (0x2004 + 0x40 * c) 4 8 port

/-- R319: host software opens or closes a PID channel. -/
def execPidOpen (t channel : Nat) (on : Bool) (port : Nat) (s : State) : Host.Outcome State Fault Refusal :=
  s.run fun d => (d.advance t).whenUp fun d => if channel < 16 then d.pidOpen channel on port else d

/-- The force being applied in an axis just before a boundary (R46); `m2` is the generalised force of the last commands in M2. -/
def Dev.appliedForce (d : Dev) (old c : Nat) (m2 : Vec) : F64 :=
  if old = 2 then m2.at c
  else if 3 ≤ old && old ≤ 6 then
    match d.output 0x20 c with
    | some p => f32At p.payload 0
    | none => (d.getF (Reg.LOOP_PID.PID_MAN.MAN c)).to64
  else F64.zero

/-- The axes that a mode closes (R319). -/
def closedIn (m c : Nat) : Bool := if c = 2 then 4 ≤ m && m ≤ 6 else m = 5 || m = 6

/-- What a mode change does in the loop engine (R45 to R48, R315, R319); `mirrored` tells that the states come from the mirror
(R53). -/
def Dev.loopModeChange (d : Dev) (old new : Nat) (m2 : Vec) (mirrored : Bool) : Dev :=
  let d : Dev := [0, 1, 2].foldl (fun d c =>
    let was := closedIn old c
    let now := closedIn new c
    if now && !was then
      let d : Dev := d.setStat true c 0 0
      if mirrored then d
      else (d.setPid c (fun s => { s with preset := some (d.appliedForce old c m2) })).setRm c (fun m => { m with hold := true })
    else if was && !now then
      (d.setStat true c 0 1).setF (Reg.LOOP_PID.PID_MAN.MAN c) (d.pid c).uPrev.to32
    else d) d
  let d : Dev :=
    if old = 6 && new = 5 then ((d.setSp 0 (d.restPoint 0)).setSp 1 (d.restPoint 1)).setSp 2 (d.rm 2).p
    else if old = 6 && new = 4 then d.setSp 2 (d.rm 2).p
    else d
  let d : Dev := if new = 6 && old != 6 then { d with loop := { d.loop with place := true, restHeld := false } } else d
  if 2 ≤ new && new ≤ 6 then (List.range 96).foldl Dev.bqClose d else d

/-! ## What takes effect at a major-frame boundary (R321, R325, R326) -/

/-- The waypoints as host software has written them. -/
def Dev.writtenPath (d : Dev) (n : Nat) : List Waypoint :=
  (List.range n).map fun w => ⟨d.xfF (Reg.LOOP_WP.N.N w), d.xfF (Reg.LOOP_WP.E.E w), d.word (0xD3908 + 0x10 * w),
    d.xfF (Reg.LOOP_WP.SPEED.SPEED w)⟩

/-- Why a commit is refused, 0 when it is accepted (R325). -/
def Dev.pathResult (d : Dev) (n : Nat) : Nat :=
  let p := d.writtenPath n
  let vm := (d.paramF (P.LOOP.RM_VMAX 0)).min (d.paramF (P.LOOP.RM_VMAX 1))
  if n < 2 || 32 < n then 1
  else if p.any (fun w => w.n.bad || w.e.bad || w.speed.bad) then 2
  else if (p.drop 1).any (fun w => w.speed.le F64.zero || vm.lt w.speed) then 3
  else if (List.range (n - 1)).any (fun k =>
    (Vec.norm (Vec.sub (p.getD (k + 1) default).pos (p.getD k default).pos)).lt (.ofRatio 1 10)) then 4
  else 0

/-- Judge a path commit or clear (R325). -/
def Dev.judgePath (d : Dev) : Dev :=
  match d.loop.pathReq with
  | none => d
  | some (clear, commit, n, mode) =>
    let d : Dev := { (d.setB Reg.LOOP_PATH_STAT.PENDING false) with loop := { d.loop with pathReq := none } }
    if clear && commit then d.set Reg.LOOP_PATH_STAT.RESULT 6
    else if clear then
      if d.mode = 6 && !d.flag Reg.SYS_MODE.TRACK_TARGET then d.set Reg.LOOP_PATH_STAT.RESULT 5
      else ({ d with loop := { d.loop with path := [] } }.setB Reg.LOOP_PATH_STAT.VALID false).set Reg.LOOP_PATH_STAT.RESULT 0
    else
      let r := d.pathResult n
      let d : Dev := d.set Reg.LOOP_PATH_STAT.RESULT r
      if r = 0 then
        ({ d with loop := { d.loop with path := d.writtenPath n, hdgMode := mode, place := true } }.setB
          Reg.LOOP_PATH_STAT.VALID true).setB Reg.LOOP_PATH_STAT.END false
      else d

/-- A write of LOOP_PATH_CTRL with CLEAR or COMMIT (R325). -/
def Dev.pathWrite (d : Dev) (clear commit : Bool) (count : Nat) (mode : Bool) : Dev :=
  { (d.setB Reg.LOOP_PATH_STAT.PENDING true) with loop := { d.loop with pathReq := some (clear, commit, count, mode) } }

/-- R325: host software commits a path; `clear` tells that the same write also set CLEAR. -/
def execPathCommit (t count : Nat) (hdgMode clear : Bool) (s : State) : Host.Outcome State Fault Refusal :=
  s.run fun d => (d.advance t).whenUp fun d =>
    ((d.set Reg.LOOP_PATH_CTRL.COUNT count).setB Reg.LOOP_PATH_CTRL.HDG_MODE hdgMode).pathWrite clear true (count % 64) hdgMode

/-- R325: host software clears the path in force. -/
def execPathClear (t : Nat) (s : State) : Host.Outcome State Fault Refusal :=
  s.run fun d => (d.advance t).whenUp fun d =>
    d.pathWrite true false (d.get Reg.LOOP_PATH_CTRL.COUNT) (d.flag Reg.LOOP_PATH_CTRL.HDG_MODE)

/-- What host software wrote to the set-points since the last boundary, and the offsets, take effect (R321, R326); a write to a model whose
axis opens here, or in M6, is discarded (R324). -/
def Dev.loopMajor (d : Dev) : Dev :=
  let d : Dev := d.judgePath
  let d : Dev := (List.range 8).foldl (fun d n =>
    let isOpen := if n < 3 then d.chanOpen true n else d.flag (Reg.LOOP_RM.STAT.FOLLOWING n)
    let w := d.word (0xD2808 + 0x40 * n)
    let x := if d.flag (Reg.LOOP_RM.CFG.ANGLE n) then bamToDeg w else (F32.mk w).to64
    d.setRm n (fun m => { m with sp := if m.wrote && !(isOpen || (n < 3 && d.mode = 6)) then x else m.sp, wrote := false })) d
  { d with loop := { d.loop with offset := [d.xfF Reg.LOOP_TGT_OFS_X.X, d.xfF Reg.LOOP_TGT_OFS_Y.Y, bamToDeg (d.word 0xD3818)] } }

/-- At an origin move the path in force moves with the state (R325). -/
def Dev.movePath (d : Dev) (sh : Vec) : Dev :=
  { d with loop := { d.loop with
    path := d.loop.path.map (fun w => { w with n := w.n.add (sh.at 0), e := w.e.add (sh.at 1) })
    point := Vec.add d.loop.point [sh.at 0, sh.at 1] } }

/-! ## Trace commands (R334, R335) -/

/-- TR_CTRL.ARM. -/
def Dev.traceArm (d : Dev) (u : Nat) : Dev :=
  let d : Dev := { d with loop := { d.loop with trace := setAt d.loop.trace u ⟨0, 0, [], none, 0, d.get (Reg.LOOP_TR.DEC.DEC u)⟩ } }
  ((d.set (Reg.LOOP_TR.STAT.STATE u) 1).set (Reg.LOOP_TR.STAT.PRE_HAVE u) 0).set (Reg.LOOP_TR.FIRST_TS.FIRST_TS u) 0

/-- R335: trace unit `u` is armed; its buffer is discarded. -/
def execTraceArm (t u : Nat) (s : State) : Host.Outcome State Fault Refusal :=
  s.run fun d => (d.advance t).whenUp fun d => if u < 8 then d.traceArm u else d

/-- TR_CTRL.FORCE. -/
def Dev.traceForce (d : Dev) (u : Nat) : Dev :=
  if d.get (Reg.LOOP_TR.STAT.STATE u) = 1 then Dev.flushTrace 24 (d.traceTrigger u) else d

/-- R335: an armed unit is triggered at once. -/
def execTraceForce (t u : Nat) (s : State) : Host.Outcome State Fault Refusal :=
  s.run fun d => (d.advance t).whenUp fun d => if u < 8 then d.traceForce u else d

/-- TR_CTRL.STOP. -/
def Dev.traceStop (d : Dev) (u : Nat) : Dev :=
  let st := d.get (Reg.LOOP_TR.STAT.STATE u)
  if st = 1 || st = 2 then d.set (Reg.LOOP_TR.STAT.STATE u) 3 else d

/-- R335: capture ends at once, without E62. -/
def execTraceStop (t u : Nat) (s : State) : Host.Outcome State Fault Refusal :=
  s.run fun d => (d.advance t).whenUp fun d => if u < 8 then d.traceStop u else d

/-! ## Image, schedule start and mode -/

/-- Banks and configuration from the image, both banks validated (R328, R337, R338). -/
def Dev.loadLoop (d : Dev) : Dev :=
  let im := d.image.loop
  let d : Dev := ((List.range im.bq.length).zip im.bq).foldl (fun d (c, x) =>
    let d : Dev := d.setBq c (fun s => { s with bankA := bankSealed false x.bankA, bankB := bankSealed false x.bankB })
    let d : Dev := ((d.set (Reg.LOOP_BQ.BQ_CFG.SRC c) x.src).set (Reg.LOOP_BQ.BQ_CFG.DIV c) x.div).setB (Reg.LOOP_BQ.BQ_CFG.ANGLE c) x.angle
    (d.setStat false c 6 1).setStat false c 7 1) d
  let d : Dev := ((List.range im.pid.length).zip im.pid).foldl (fun d (c, x) =>
    let d : Dev := d.setPid c (fun s => { s with bankA := bankSealed true x.bankA, bankB := bankSealed true x.bankB })
    let d : Dev := ((d.setB (Reg.LOOP_PID.PID_CFG.RATE c) x.fast).setB (Reg.LOOP_PID.PID_CFG.ANGLE c) x.angle).setB
      (Reg.LOOP_PID.PID_CFG.EXT_ACH c) x.extAch
    let d : Dev := ((d.setB (Reg.LOOP_PID.PID_CFG.HOST_OPEN c) x.hostOpen).set (Reg.LOOP_PID.PID_CFG.RM c) (x.rm.getD 0)).setB
      (Reg.LOOP_PID.PID_CFG.RM_EN c) x.rm.isSome
    (d.setStat true c 6 1).setStat true c 7 1) d
  let d : Dev := ((List.range im.rmValid.length).zip im.rmValid).foldl (fun d (n, v) => d.setB (Reg.LOOP_RM.CFG.VALID n) v) d
  let angles := 2 :: ((im.pid.filter (fun x => x.angle)).filterMap (fun x => x.rm))
  angles.foldl (fun d n => if n < 8 then d.setB (Reg.LOOP_RM.CFG.ANGLE n) true else d) d

/-- The channels that are closed when the schedule starts initialise at their first run (R315, R319). -/
def Dev.loopStart (d : Dev) : Dev :=
  let d : Dev := (List.range 96).foldl (fun d c => if d.chanOpen false c then d else d.setBq c (fun s => { s with init := true })) d
  (List.range 16).foldl (fun d c => if d.chanOpen true c then d
    else d.setPid c (fun s => { s with preset := some (d.getF (Reg.LOOP_PID.PID_MAN.MAN c)).to64 })) d

/-- LOOP_XINJ clears on leaving M7 (R339). -/
def Dev.loopLeaveM7 (d : Dev) : Dev :=
  let was := [0xD8000, 0xD8004, 0xD8008].map d.word
  let d : Dev := ((d.setWord 0xD8000 (regReset 0xD8000)).setWord 0xD8004 0).setWord 0xD8008 0
  if was = [regReset 0xD8000, 0, 0] then d else d.note 0x01 0x0D 0x300 [d.word 0xD8000, 0, 0]

end Sys2Proof.Machine
end

