-- ==== Sys2Proof/Machine/Bus.lean ====
section
/-! DEFINITION. The CAN controllers: transmit buffers, cancelling, fault confinement, listen-only operation, and the host buffers
(R341 to R350, R371 to R373). -/
namespace Sys2Proof.Machine
open Sys2Proof

/-- Controller `c`. -/
def Dev.can (d : Dev) (c : Nat) : CanCtl := d.out.can.getD c default

/-- Change controller `c`. -/
def Dev.setCan (d : Dev) (c : Nat) (f : CanCtl → CanCtl) : Dev := { d with out := { d.out with can := modAt d.out.can c f } }

/-- The buffer of a key that holds a frame. -/
def Dev.txBuf (d : Dev) (c : Nat) (k : TxKey) : Option TxBuf := (d.can c).bufs.find? (fun b => b.key == k)

/-- Replace the contents of a buffer. -/
def Dev.setBuf (d : Dev) (c : Nat) (b : TxBuf) : Dev :=
  d.setCan c fun x => { x with bufs := b :: x.bufs.filter (fun y => y.key != b.key) }

/-- Empty a buffer. -/
def Dev.dropBuf (d : Dev) (c : Nat) (k : TxKey) : Dev :=
  d.setCan c fun x => { x with bufs := x.bufs.filter (fun y => y.key != k) }

/-- Show the result of the host buffer that BUF names (R373). -/
def Dev.showHtx (d : Dev) (c : Nat) : Dev :=
  d.set (Reg.CAN_HTX.HTX_RES.RESULT c) ((d.can c).results.getD (d.get (Reg.CAN_HTX.HTX_CTRL.BUF c)) 0)

/-- Write the result of a host buffer (R373); a protocol buffer has none. -/
def Dev.txResult (d : Dev) (c : Nat) (k : TxKey) (r : Nat) : Dev :=
  match k with
  | .host b => (d.setCan c fun x => { x with results := setAt x.results b r }).showHtx c
  | .proto _ => d

/-- The place of a frame in arbitration, lowest first: the base part of its identifier, a base frame before an extended one, the rest of the
identifier (R343, R352). -/
def TxFrame.rank (f : TxFrame) : Nat := if f.xtd then (f.id / 2 ^ 18 * 2 + 1) * 2 ^ 18 + f.id % 2 ^ 18 else f.id * 2 ^ 19

/-- The place of a buffer among those pending (R343): its frame's, then the number of a host buffer. -/
def TxBuf.rank (b : TxBuf) : Nat := b.frame.rank * 16 + match b.key with
  | .proto _ => 0
  | .host n => n

/-- Another frame that was pending on the controller at a time enters arbitration before a buffer's (R343). -/
def Dev.outranked (d : Dev) (c sof : Nat) (b : TxBuf) : Bool :=
  (d.can c).bufs.any fun x => x.sof.isNone && x.since ≤ sof && x.rank < b.rank

/-- The cancelled frame whose SOF this is: the cancel was registered at or after it (R350). -/
def Dev.goneAt (d : Dev) (s : TxSof) : Option TxBuf :=
  ((d.can s.ctrl).gone.find? fun e => e.1.key == s.key && e.1.since ≤ s.sof && s.sof ≤ e.2).map fun e => e.1

/-- A frame holds a thrust command whose data age at `at_`, both in TS32, is 2^31 ns or more: it is never transmitted (R26). -/
def TxBuf.tooOld (b : TxBuf) (at_ : Nat) : Bool :=
  (match b.key with
    | .proto id => 0x100 ≤ id && id < 0x130
    | .host _ => false) && 2 ^ 31 ≤ (ts32Of at_ - wordAt b.frame.data 16).toNat

/-- The SOF of a frame of the device has been transmitted (R344, R350): of the frame that enters arbitration first (R343). -/
def Dev.noteSof (d : Dev) (s : TxSof) : Dev :=
  match d.txBuf s.ctrl s.key with
  | none => d
  | some b =>
    if b.sof.isSome || s.sof < b.since || (d.goneAt s).isSome || d.outranked s.ctrl s.sof b || b.tooOld s.sof then d
    else (d.setBuf s.ctrl { b with sof := some s.sof }).set (Reg.CAN_CH.CH_LAST_SOF.TS s.ctrl) (ts32Of s.sof).toNat

/-- The frame of a SOF that is on its bus. -/
def Dev.onBus (d : Dev) (s : TxSof) : Option TxBuf := (d.txBuf s.ctrl s.key).filter fun b => b.sof.isSome

/-- The SOFs transmitted up to now. -/
def Dev.noteSofs (d : Dev) (l : List TxSof) : Dev := l.foldl Dev.noteSof d

/-- No frame is sent: the test access port is open (R491), a shutdown or the entry into M0 has begun (R474, R484), or rung 4 has
been taken (R493). -/
def Dev.framesOff (d : Dev) : Bool := d.safe.scanOpen || d.clk.shutdown.isSome || d.clk.cycleReq

/-- Hand a frame to a protocol buffer (R344): it replaces a frame that has not started; behind one that has, it waits in the shadow. -/
def Dev.handFrame (d : Dev) (c : Nat) (id : Nat) (data : List Byte) : Dev :=
  let f : TxFrame := ⟨id, false, true, true, 12, data⟩
  let k := TxKey.proto id
  if d.framesOff then d
  else match d.txBuf c k with
  | none => d.setBuf c ⟨k, f, none, false, none, d.sched.st⟩
  | some b =>
    match b.sof with
    | none => (d.setBuf c { b with frame := f }).inc (Reg.CAN_CH.CH_TXCNT.SUPERSEDED c)
    | some _ =>
      let d : Dev := d.setBuf c { b with shadow := some f }
      if b.shadow.isSome then d.inc (Reg.CAN_CH.CH_TXCNT.SUPERSEDED c) else d

/-- Hand an urgent frame to controllers and to their mirrors (R345): each controller once. -/
def Dev.handUrgent (d : Dev) (cs : List Nat) (id : Nat) (data : List Byte) : Dev :=
  let mirrors := cs.flatMap fun c => match d.get (Reg.CAN_CH.CH_CFG.MIRROR c) with
    | 7 => []
    | m => [m]
  (cs ++ mirrors).eraseDups.foldl (fun d c => d.handFrame c id data) d

/-- Cancel a buffer (R350): a frame not started is dropped, and kept in mind until its SOF shows whether it had (log 166); one that has
started is dropped when it fails, or goes out despite. -/
def Dev.cancelBuf (d : Dev) (c : Nat) (k : TxKey) : Dev :=
  match d.txBuf c k with
  | none => d
  | some b =>
    match b.sof with
    | none =>
      let d : Dev := ((d.dropBuf c k).inc (Reg.CAN_CH.CH_TXCNT.CANCELLED c)).txResult c k 2
      d.setCan c fun x => { x with gone := (b, d.sched.st) :: x.gone.filter fun e => e.1.key != k }
    | some _ =>
      let d : Dev := d.setBuf c { b with cancel := true, shadow := none }
      if b.shadow.isSome then d.inc (Reg.CAN_CH.CH_TXCNT.CANCELLED c) else d

/-- Cancel the unit's pending frames whose identifier satisfies a predicate, on every controller (R350, R399). -/
def Dev.cancelProto (d : Dev) (p : Nat → Bool) : Dev :=
  [0, 1, 2, 3, 4, 5].foldl (fun d c => (d.can c).bufs.foldl (fun d b => match b.key with
    | .proto id => if p id then d.cancelBuf c b.key else d
    | .host _ => d) d) d

/-- The commands whose data have grown too old while they were pending are cancelled (R26), at a minor-frame boundary. DESIGN CHOICE (log
172). -/
def Dev.dropAged (d : Dev) : Dev :=
  [0, 1, 2, 3, 4, 5].foldl (fun d c => ((d.can c).bufs.filter fun b => b.sof.isNone && b.tooOld d.sched.st).foldl
    (fun d b => d.cancelBuf c b.key) d) d

/-! ## Fault confinement (R346) -/

/-- The state that the counters give an operating controller. -/
def CanCtl.grade (x : CanCtl) : Nat := if 255 < x.tec then 2 else if 127 < x.tec || 127 < x.rxe then 1 else 0

/-- Show the error counters. -/
def Dev.showCan (d : Dev) (c : Nat) : Dev :=
  (d.set (Reg.CAN_CH.CH_STAT.TEC c) (min 255 (d.can c).tec)).set (Reg.CAN_CH.CH_STAT.REC c) (min 255 (d.can c).rxe)

/-- A controller's state changes: E64 + c with its record, and the summary bits. -/
def Dev.canState (d : Dev) (c st : Nat) : Dev :=
  if d.get (Reg.CAN_CH.CH_STAT.STATE c) = st then d
  else
    let d : Dev := ((d.set (Reg.CAN_CH.CH_STAT.STATE c) st).setBitAt Reg.CAN_STATUS.BUSOFF c (st == 2 || st == 3)).setBitAt
      Reg.CAN_STATUS.PASSIVE c (st == 1)
    d.raiseSub (64 + c) st [0xE0000, 0xE0108 + 0x40 * c, 0xE010C + 0x40 * c]

/-- Recovery from bus-off starts. -/
def Dev.startRecovery (d : Dev) (c : Nat) : Dev :=
  if d.get (Reg.CAN_CH.CH_STAT.STATE c) = 2 then d.canState c 3 else d

/-- The frame in the shadow becomes pending, or the buffer empties (R344). -/
def Dev.nextInBuf (d : Dev) (c : Nat) (b : TxBuf) : Dev :=
  match b.shadow with
  | some f => d.setBuf c ⟨b.key, f, none, false, none, d.sched.st⟩
  | none => d.dropBuf c b.key

/-- A started frame ends without success and is not dropped by one-shot operation (R344, R350): a cancelled one counts as cancelled, one
with a newer frame behind it gives way, any other stays pending. -/
def Dev.txAborted (d : Dev) (c : Nat) (b : TxBuf) : Dev :=
  if b.cancel then ((d.nextInBuf c b).inc (Reg.CAN_CH.CH_TXCNT.CANCELLED c)).txResult c b.key 2
  else if b.shadow.isSome then (d.nextInBuf c b).inc (Reg.CAN_CH.CH_TXCNT.SUPERSEDED c)
  else d.setBuf c { b with sof := none }

/-- The controller stops transmitting: its started frame ends there. -/
def Dev.endStarted (d : Dev) (c : Nat) : Dev := ((d.can c).bufs.filter fun b => b.sof.isSome).foldl (fun d b => d.txAborted c b) d

/-- Judge the counters: the state of an operating controller, and the entry into bus-off with E70. -/
def Dev.judgeCan (d : Dev) (c : Nat) : Dev :=
  let d : Dev := d.showCan c
  if 2 ≤ d.get (Reg.CAN_CH.CH_STAT.STATE c) then d
  else
    let g := (d.can c).grade
    let d : Dev := d.canState c g
    if g = 2 then
      let d : Dev := (d.endStarted c).inc (Reg.CAN_CH.CH_STAT.BUSOFF_CNT c) |>.setB Reg.CAN_STATUS.BUSOFF_STICKY true
      let d : Dev := d.raiseSub 70 c [0xE0000, 0xE0108 + 0x40 * c]
      if d.flag (Reg.CAN_CH.CH_CFG.AUTO_REC c) then d.startRecovery c else d
    else d

/-- The controller takes part in traffic: up to error-passive, awake (R346, R349). -/
def Dev.canActive (d : Dev) (c : Nat) : Bool :=
  c < 6 && d.get (Reg.CAN_CH.CH_STAT.STATE c) < 2 && !d.flag (Reg.CAN_CH.CH_STAT.SLEEP c)

/-- The controller may transmit (R346, R348); while the test access port is open no frame is sent (R491). -/
def Dev.canSends (d : Dev) (c : Nat) : Bool := d.canActive c && !d.flag (Reg.CAN_CH.CH_STAT.LISTENING c) && !d.safe.scanOpen

/-- In M0 every controller sleeps (R349). -/
def Dev.canSleep (d : Dev) : Dev := [0, 1, 2, 3, 4, 5].foldl (fun d c => d.setB (Reg.CAN_CH.CH_STAT.SLEEP c) true) d

/-- The protocol frames sent are kept for 30 ms from their SOF (R366). -/
def Dev.noteSent (d : Dev) (s : TxSof) (f : TxFrame) : Dev :=
  match s.key with
  | .host _ => d
  | .proto id => { d with out := { d.out with
      sent := ⟨id, s.sof, byteAt f.data 1, byteAt f.data 2, wordAt f.data 16⟩ :: d.out.sent.filter (fun f => d.sched.st < f.sentAt + 30000000) } }

/-- A frame has been sent (R346). -/
def Dev.countSent (d : Dev) (s : TxSof) (f : TxFrame) : Dev :=
  ((d.incWrap (Reg.CAN_CH.CH_TXOK.COUNT s.ctrl)).setCan s.ctrl (fun x => { x with tec := x.tec - 1 })).noteSent s f

/-- A frame has been sent despite its cancel (R350): E72. -/
def Dev.sentDespite (d : Dev) (c : Nat) (f : TxFrame) : Dev :=
  (((d.inc (Reg.CAN_CH.CH_TXCNT2.DESPITE c)).set (Reg.CAN_CH.CH_DESPITE_ID.ID c) f.id).setB
    Reg.CAN_STATUS.DESPITE_STICKY true).raiseSub 72 c [0xE0000, 0xE0128 + 0x40 * c]

/-- A cancelled frame is forgotten. -/
def Dev.forget (d : Dev) (s : TxSof) : Dev :=
  (d.setCan s.ctrl fun x => { x with gone := x.gone.filter fun e => e.1.key != s.key }).set (Reg.CAN_CH.CH_LAST_SOF.TS s.ctrl) (ts32Of s.sof).toNat

/-- A frame that had started when its cancel was registered completes (R350): it has not been cancelled, and CANCELLED is put right. DESIGN
CHOICE (log 166). -/
def Dev.goneSent (d : Dev) (s : TxSof) (b : TxBuf) : Dev :=
  let c := s.ctrl
  let d : Dev := (d.forget s).set (Reg.CAN_CH.CH_TXCNT.CANCELLED c) (d.get (Reg.CAN_CH.CH_TXCNT.CANCELLED c) - 1)
  let d : Dev := (d.countSent s b.frame).sentDespite c b.frame
  if (d.txBuf c s.key).isSome then d else d.txResult c s.key 5

/-- A transmission completes (R344, R346, R350). -/
def Dev.txComplete (d : Dev) (s : TxSof) : Dev :=
  let c := s.ctrl
  if !d.canSends c then d
  else match d.goneAt s with
  | some b => (d.goneSent s b).judgeCan c
  | none =>
    let d : Dev := d.noteSof s
    match d.onBus s with
    | none => d
    | some b =>
      let d : Dev := (d.countSent s b.frame).nextInBuf c b
      let d : Dev := if b.cancel then (d.txResult c s.key 5).sentDespite c b.frame else d.txResult c s.key 0
      d.judgeCan c

/-- R344: a frame of the device has been sent to completion. -/
def execCanTxComplete (t : Nat) (s : TxSof) (st : State) : Host.Outcome State Fault Refusal :=
  st.run fun d => (d.advance t).whenUp fun d => d.txComplete s

/-- The dropping of a frame that failed in one-shot operation (R347), and its superseding where a newer one waits (R344): E71 at most once
per hyperframe. -/
def Dev.oneShotDrop (d : Dev) (c : Nat) (b : TxBuf) : Dev :=
  let hyper := d.sched.st / 100000000
  let d : Dev := ((d.nextInBuf c b).inc (Reg.CAN_CH.CH_TXCNT2.ONESHOT c)).txResult c b.key 4
  let d : Dev := if b.shadow.isSome then d.inc (Reg.CAN_CH.CH_TXCNT.SUPERSEDED c) else d
  let d : Dev := d.setB Reg.CAN_STATUS.ONESHOT_STICKY true
  if (d.can c).oneShotAt = some hyper then d.note 0x01 0x0E c [d.word 0xE0000, d.word (0xE0118 + 0x40 * c)]
  else (d.setCan c fun x => { x with oneShotAt := some hyper }).raiseSub 71 c [0xE0000, 0xE0118 + 0x40 * c]

/-- What becomes of a frame whose transmission failed (R344, R347, R350). -/
def Dev.txFailed (d : Dev) (c : Nat) (b : TxBuf) : Dev :=
  if !b.cancel && d.flag (Reg.CAN_CH.CH_CFG.ONESHOT c) then d.oneShotDrop c b else d.txAborted c b

/-- A transmission loses arbitration (`code` 0) or meets an error of CH_LASTERR's code; `inc` is the increase of the TEC that ISO
11898-1 gives the error (R346). -/
def Dev.txError (d : Dev) (s : TxSof) (code inc : Nat) (dataPhase : Bool) : Dev :=
  let c := s.ctrl
  let failed (d : Dev) : Dev :=
    if code = 0 then d.inc (Reg.CAN_CH.CH_TXCNT2.LOSTARB c)
    else
      let d : Dev := ((d.set (Reg.CAN_CH.CH_LASTERR.CODE c) code).setB (Reg.CAN_CH.CH_LASTERR.DATA_PHASE c) dataPhase).setCan c
        (fun x => { x with tec := x.tec + inc })
      d.judgeCan c
  if !d.canSends c then d
  else if (d.goneAt s).isSome then failed (d.forget s)
  else
    let d : Dev := d.noteSof s
    match d.onBus s with
    | none => d
    | some b => failed (d.txFailed c b)

/-- R346: a transmission fails. -/
def execCanTxError (t : Nat) (s : TxSof) (code inc : Nat) (dataPhase : Bool) (st : State) : Host.Outcome State Fault Refusal :=
  st.run fun d => (d.advance t).whenUp fun d => d.txError s (code % 7) inc dataPhase

/-- R346: an error in a frame that the controller receives; `inc` is the increase of the REC that ISO 11898-1 gives it. In listen-only
operation the counters stand still (R348). -/
def execCanRxError (t c code inc : Nat) (dataPhase : Bool) (s : State) : Host.Outcome State Fault Refusal :=
  s.run fun d => (d.advance t).whenUp fun d =>
    if !d.canActive c then d
    else
      let d : Dev := (d.set (Reg.CAN_CH.CH_LASTERR.CODE c) (code % 7)).setB (Reg.CAN_CH.CH_LASTERR.DATA_PHASE c) dataPhase
      if d.flag (Reg.CAN_CH.CH_STAT.LISTENING c) then d
      else (d.setCan c fun x => { x with rxe := x.rxe + inc }).judgeCan c

/-- A frame has been received without error (R346): the REC falls by 1, or to a value of ISO 11898-1's range above 127. -/
def Dev.rxGood (d : Dev) (c : Nat) : Dev :=
  if d.flag (Reg.CAN_CH.CH_STAT.LISTENING c) then d
  else (d.setCan c fun x => { x with rxe := if 127 < x.rxe then 119 + (Config.recResume c) % 9 else x.rxe - 1 }).judgeCan c

/-- A write of CH_CTRL.RECOVER (R346). -/
def Dev.canRecover (d : Dev) (c : Nat) : Dev := d.startRecovery c

/-- R346: host software starts the recovery of a controller. -/
def execCanRecover (t c : Nat) (s : State) : Host.Outcome State Fault Refusal :=
  s.run fun d => (d.advance t).whenUp fun d => if c < 6 then d.canRecover c else d

/-- R346: recovery ends; both counters are 0. -/
def execCanBusoffRecoveryComplete (t c : Nat) (s : State) : Host.Outcome State Fault Refusal :=
  s.run fun d => (d.advance t).whenUp fun d =>
    if c < 6 && d.get (Reg.CAN_CH.CH_STAT.STATE c) = 3 then
      ((d.setCan c fun x => { x with tec := 0, rxe := 0 }).showCan c).canState c 0
    else d

/-- A write of CH_CTRL.LISTEN (R348): 1 is accepted in M7 only. -/
def Dev.canListen (d : Dev) (c : Nat) (b : Bool) : Dev :=
  if b && d.mode != 7 then d
  else
    let d : Dev := (d.setB (Reg.CAN_CH.CH_CTRL.LISTEN c) b).setB (Reg.CAN_CH.CH_STAT.LISTENING c) b
    if b then d.endStarted c else d

/-- A host write of it (R507). -/
def Dev.listenWrite (d : Dev) (c : Nat) (b : Bool) (port : Nat) : Dev :=
  if b && d.mode != 7 then d.reportWrite 3 port 0 (0xE0104 + 0x40 * c) false else d.canListen c b

/-- R348: host software puts a controller into or out of listen-only operation. -/
def execCanListen (t c : Nat) (on : Bool) (port : Nat) (s : State) : Host.Outcome State Fault Refusal :=
  s.run fun d => (d.advance t).whenUp fun d => if c < 6 then d.listenWrite c on port else d

/-- Leaving M7 clears LISTEN (R348). -/
def Dev.busLeaveM7 (d : Dev) : Dev := [0, 1, 2, 3, 4, 5].foldl (fun d c => d.canListen c false) d

/-! ## Host buffers (R352, R373) -/

/-- The bytes of a data length code (ISO 11898-1): more than 8 in the FD form only. -/
def dlcBytes (fd : Bool) (dlc : Nat) : Nat :=
  if dlc ≤ 8 then dlc else if fd then [12, 16, 20, 24, 32, 48, 64].getD (dlc - 9) 64 else 8

/-- An identifier that a host buffer refuses (R352): by its base part. -/
def Dev.idRefused (d : Dev) (id : Nat) (xtd : Bool) : Bool :=
  let b := if xtd then id / 2 ^ 18 else id
  b < 0x200 || d.image.out.jointIds.any (fun l => l.contains b)

/-- HTX_CTRL.GO on controller `c` (R373); the busy case is reported as refused by the register. -/
def Dev.htxGo (d : Dev) (c : Nat) : Dev × Bool :=
  let b := d.get (Reg.CAN_HTX.HTX_CTRL.BUF c)
  let id := d.get (Reg.CAN_HTX.HTX_ID.ID c)
  let xtd := d.flag (Reg.CAN_HTX.HTX_ID.XTD c)
  let k := TxKey.host b
  if !xtd && 2048 ≤ id then (d.txResult c k 6, false)
  else if d.idRefused id xtd then (d.txResult c k 3, false)
  else if (d.txBuf c k).isSome then (d, true)
  else
    let fd := d.flag (Reg.CAN_HTX.HTX_ID.FD c)
    let dlc := d.get (Reg.CAN_HTX.HTX_CTRL.DLC c)
    let bytes := ((List.range 16).flatMap fun q => leBytes 4 (d.get (Reg.CAN_HTX.DATA.DATA c q))).take (dlcBytes fd dlc)
    ((d.setBuf c ⟨k, ⟨id, xtd, fd, d.flag (Reg.CAN_HTX.HTX_ID.BRS c), dlc, bytes⟩, none, false, none, d.sched.st⟩).txResult c k 1, false)

/-- A GO that finds its buffer busy is ignored and reported (R373, R507). -/
def Dev.htxGoWrite (d : Dev) (c port : Nat) : Dev :=
  if d.framesOff then d.reportWrite 8 port 0 (0xE0804 + 0x100 * c) false else
  let (d, busy) := d.htxGo c
  if busy then d.reportWrite 9 port 0 (0xE0804 + 0x100 * c) false else d

/-- R373: host software writes HTX_CTRL with GO. -/
def execHostTxGo (t port c buf dlc : Nat) (s : State) : Host.Outcome State Fault Refusal :=
  s.run fun d => (d.advance t).whenUp fun d =>
    if c < 6 then
      (((d.set (Reg.CAN_HTX.HTX_CTRL.BUF c) buf).set (Reg.CAN_HTX.HTX_CTRL.DLC c) dlc).showHtx c).htxGoWrite c port
    else d

/-- HTX_CTRL.CANCEL on controller `c` (R350). -/
def Dev.htxCancel (d : Dev) (c : Nat) : Dev := d.cancelBuf c (.host (d.get (Reg.CAN_HTX.HTX_CTRL.BUF c)))

/-- R350: host software cancels a host buffer; `sofs` are the starts of frames up to now, the present instant among them. -/
def execHostTxCancel (t c buf : Nat) (sofs : List TxSof) (s : State) : Host.Outcome State Fault Refusal :=
  s.run fun d => (d.advance t).whenUp fun d =>
    if c < 6 then (((d.noteSofs sofs).set (Reg.CAN_HTX.HTX_CTRL.BUF c) buf).showHtx c).htxCancel c else d

end Sys2Proof.Machine
end

