-- ==== Sys2Proof/Machine/Red.lean ====
section
/-! DEFINITION. Redundancy: identity, echoes, roles and tallies, the canary and its give-up, and the revert (R366, R378, R379, R393 to
R401). -/
namespace Sys2Proof.Machine
open Sys2Proof

/-! ## Identity and frames (R353 to R356, R378) -/

/-- The frame check of R355. -/
def frameCheck (bs : List Byte) (id : Nat) : Word := crc32c (bs ++ leBytes 2 id)

/-- A protocol frame from its first 20 bytes. -/
def frameOf (bs : List Byte) (id : Nat) : List Byte := bs ++ leBytes 4 (frameCheck bs id).toNat

/-- The next alive counter of an identifier (R353). -/
def Dev.frameAlive (d : Dev) (id : Nat) : Nat :=
  match lookup d.out.alive id with
  | some a => (a + 1) % 256
  | none => 0

/-- A frame of an identifier has been handed over, unless none is: its alive counter advances (R353). -/
def Dev.noteHanded (d : Dev) (id alive : Nat) : Dev :=
  if d.framesOff then d else { d with out := { d.out with alive := update d.out.alive id alive } }

/-- The thrusters configured (R374). -/
def Dev.thrusters (d : Dev) : List Nat := (List.range 16).filter fun i => d.flag (Reg.OUT_THR.TH_CFG.PRESENT i)

/-- The controllers that carry the unit's command frames for some thrusters. -/
def Dev.busesOf (d : Dev) (l : List Nat) : List Nat := (l.map fun i => d.get (Reg.OUT_THR.TH_CFG.BUS i)).eraseDups

/-- A frame that failed its exit verification is withheld (R126, R374). -/
def Dev.frameWithheld (d : Dev) (fault : ChainFault) : Dev := match fault with
  | .exit _ => d.setB Reg.OUT_STATUS.WITHHELD_STICKY true
  | _ => d

/-- Seal an arrest or release frame from its first 4 bytes, stop mask and time of validity, verify it at the exit, and hand it to some
controllers (R123, R356): whether it has been handed over. A failed check withholds it (R126). -/
def Dev.sendUrgent (d : Dev) (role : TaskRole) (kind head mask tally : Nat) (tov : Int) (cs : List Nat) (ins : List Packet)
    (fault : ChainFault) : Bool × Dev :=
  if d.unit = 3 then (false, d)
  else
    let id := 0x10 + d.unit
    let alive := d.frameAlive id
    let bs := leBytes 4 (head + 256 * tally + 65536 * alive) ++ leBytes 2 mask ++ List.replicate 10 0 ++ leBytes 4 (ts32Of tov).toNat
    let data := frameOf bs id
    match d.emitExit role 82 kind 0 0 tov ins (packWords data) fault with
    | (some _, d) => (true, (d.handUrgent cs id data).noteHanded id alive)
    | (none, d) => (false, d.frameWithheld fault)

/-- Send a release frame (R356): the tally withdrawn, and the present instant. -/
def Dev.sendRelease (d : Dev) (tally : Nat) : Dev :=
  (d.sendUrgent .commandBuild 0x33 0x40 0 tally d.sched.st (d.busesOf d.thrusters) [] .none).2

/-- Send an arrest frame on the controllers of the thrusters in its stop mask (R272, R356). -/
def Dev.sendArrest (d : Dev) (sector mask : Nat) (tov : Int) (ins : List Packet) (fault : ChainFault) : Bool × Dev :=
  d.sendUrgent .arrestBuild 0x32 (0x30 + 16777216 * (sector % 16)) mask d.tallyNow tov
    (d.busesOf ((List.range 16).filter fun i => mask.testBit i)) ins fault

/-! ## Echoes (R366, R396, R397) -/

/-- State of a thruster's command and feedback. -/
def Dev.thr (d : Dev) (i : Nat) : ThrEcho := d.out.thr.getD i default

/-- Change it. -/
def Dev.setThr (d : Dev) (i : Nat) (f : ThrEcho → ThrEcho) : Dev := { d with out := { d.out with thr := modAt d.out.thr i f } }

/-- The tally a thruster has echoed within the last 30 ms, and whether it is accepted as this unit's (R396). -/
def Dev.echoOf (d : Dev) (i : Nat) : Option (Nat × Bool) :=
  match (d.thr i).echo with
  | some (tally, sof, ok) => if d.sched.st < sof + 30000000 then some (tally, ok) else none
  | none => none

/-- The thrusters whose echo satisfies a predicate. -/
def Dev.echoMask (d : Dev) (p : Nat → Bool → Bool) : Nat :=
  maskOf (d.thrusters.filter fun i => match d.echoOf i with
    | some (t, ok) => p t ok
    | none => false)

/-- A record of type 0x03 with its event: RED_STATUS, RED_ECHO, tallies before and after (R436). -/
def Dev.tallyEvent (d : Dev) (n before after : Nat) : Dev :=
  (d.setBitAt Reg.RED_EVT.STICKY (n - 76) true).raiseWith n 0
    [d.word 0x100000, d.word 0x100010, BitVec.ofNat 32 (before + 256 * after)] none

/-- Whether an echo of a valid feedback is a mismatch (R366): tally, alive counter and time of validity echoed, NO_CMD or LOCAL reported. -/
def Dev.echoMismatch (d : Dev) (i tally alive : Nat) (tov : Word) (idle : Bool) : Bool :=
  let own := 0x100 + 0x10 * d.unit + i
  let mine := d.out.sent.filter fun f => f.id == own && d.sched.st < f.sentAt + 30000000
  if tally = 0 then 0x60 ≤ (d.thr i).tally && !idle
  else match unitOfTally tally with
    | none => true
    | some u =>
      if u != d.unit then false
      else !(mine.any fun f => f.tally == tally) || !(mine.any fun f => f.alive == alive) || !(mine.any fun f => f.tov == tov)

/-! ## The canary (R393, R394) -/

/-- The unit is told of by a peer with a path whose verdict is not unfit, whose grade suffices, and which holds SYNC (R393). -/
def Dev.fitPeer (d : Dev) (u : Nat) : Bool :=
  d.flag (Reg.RED_PEER.PR_STAT.HEARD u) && d.get (Reg.RED_PEER.PR_STAT.VERDICT u) != 2
    && d.param P.RED.UNFIT_GRADE ≤ d.get (Reg.RED_PEER.PR_STAT.GRADE u) && d.flag (Reg.RED_PEER.PR_STAT.SYNC u)

/-- The forcing conditions present, in the order of R394. -/
def Dev.forcing (d : Dev) : Nat :=
  let l := d.red.latched
  maskOf ((List.range 9).filter fun i =>
    if i = 2 then d.sched.breaksFault else if i = 3 then d.sched.hitsFault else if i = 5 then d.red.shadowFault
    else if i = 1 then l.testBit 1 || d.flag Reg.BIST_STATUS.UNREPAIRABLE
    else if i = 6 then d.red.clockFault
    else if i = 7 then l.testBit 7 || d.flag Reg.RED_STATUS.DUP_ID || d.flag Reg.RED_STATUS.STRAP_ERR
    else if i = 8 then d.red.envFault
    else l.testBit i)

/-- The protocol controllers now bus-off. -/
def Dev.busesOff (d : Dev) : Nat :=
  ([0, 1, 2, 3, 4, 5].filter fun c => d.bitAt Reg.CAN_STATUS.BUSOFF c && d.flag (Reg.CAN_CH.CH_CFG.PROTO c)).length

/-- The penalty inputs in the order of RED_CANARY.PENALTY, each with its weight; 0 when it is not active (R394). -/
def Dev.penalties (d : Dev) : List Nat :=
  let hyper := d.sched.st / 100000000
  let on (b : Bool) (w : Nat) : Nat := if b then w else 0
  let isolated := (d.sched.hyperHits != 0 && d.sched.hyperHits < d.param P.SCHED.FENCE_PERSIST)
    || (d.sched.hyperBreaks != 0 && d.sched.hyperBreaks < d.param P.CHK.BREAK_PERSIST)
  [ on (d.flag Reg.SYS_ENV_STAT.TEMP_WARN || d.flag Reg.SYS_ENV_STAT.VIN_WARN || d.flag Reg.SYS_ENV_STAT.VAON_WARN
      || d.flag Reg.SYS_ENV_STAT.VIO_WARN) 4,
    on (d.flag Reg.SOLV_STATUS.FB_PERSIST) 12,
    on (d.flag Reg.FUS_STATUS.DR) 8,
    on (d.flag Reg.FUS_STATUS.DR_EXPIRED) 8,
    on (d.flag Reg.FUS_STATUS.HDG_DR) 8,
    on (d.bitAt Reg.SYS_MODE.STATES 1) 4,
    12 * d.busesOff,
    on ((List.range 8).any fun n => d.flag (Reg.OUT_AO.AO_STAT.OPEN_LOAD n) || d.flag (Reg.OUT_AO.AO_STAT.READBACK_ERR n)) 8,
    on (match d.red.echoBad with
      | some h => hyper ≤ h + 1
      | none => false) 4,
    on isolated 2 ]

/-- Show the inputs of the canary (R394). -/
def Dev.showCanary (d : Dev) : Dev :=
  let p := d.penalties
  (d.set Reg.RED_CANARY.FORCING d.forcing).set Reg.RED_CANARY.PENALTY
    (maskOf ((List.range 10).filter fun i => p.getD i 0 != 0))

/-! ## Roles (R397, R398) -/

/-- The echoed unit (R397). -/
def Dev.echoedUnit (d : Dev) : Option Nat := unitOfTally (d.get Reg.RED_ECHO_TOP.TALLY)

/-- A condition that began at `a` still stands within `n` ns. -/
def Dev.standsFor (d : Dev) (n : Nat) : Option Nat → Bool
  | some a => d.sched.st < a + n
  | none => false

/-- This unit's own claim or revert is not yet answered (R398, R400). -/
def Dev.claiming (d : Dev) : Bool := d.standsFor 50000000 d.red.claimAt || d.standsFor 50000000 d.red.revertAt

/-- The claim window after a withdrawal of the unit in command is open (R398). -/
def Dev.claimWindow (d : Dev) : Bool :=
  match d.red.claimUntil with
  | some e => d.sched.st < e
  | none => false

/-- Take a role (R398): its code, and whether the unit sends its own tally. -/
def Dev.takeRole (d : Dev) (role : Nat) (holds : Bool) : Dev :=
  { (d.set Reg.RED_STATUS.ROLE role) with red := { d.red with holds := holds } }

/-- The unit claims command (R398). -/
def Dev.claim (d : Dev) : Dev :=
  let at_ := if d.red.holds then d.red.claimAt else some d.sched.st
  let d : Dev := d.takeRole 2 true
  { d with red := { d.red with claimAt := at_, dwellAt := none } }

/-- The role and the tally by the first row of R398 that fits; a shutdown has withdrawn the unit (R484). -/
def Dev.judgeRole (d : Dev) : Dev :=
  if d.silent then d.takeRole 0 false
  else if d.get Reg.RED_STATUS.VERDICT = 2 || d.unit = 3 || d.red.yielded || d.clk.shutdown.isSome then d.takeRole 1 false
  else match d.echoedUnit with
    | some v =>
      if v = d.unit then d.takeRole 3 true
      else if v < d.unit then d.takeRole 2 true
      else if d.claimWindow || (d.red.holds && d.claiming) then d.claim
      else d.takeRole 1 false
    | none =>
      let quiet := match d.red.quietSince with
        | some q => q + nsOfMs (d.paramF P.RED.CLAIM_WAIT) ≤ d.sched.st
        | none => false
      if quiet || d.claimWindow then d.claim
      else d.takeRole (if d.red.holds then 2 else 1) d.red.holds

/-- SYNC ends (R388). -/
def Dev.dropSync (d : Dev) : Dev :=
  let d : Dev := (d.setB Reg.RED_STATUS.SYNC false).set Reg.RED_MIRROR.SYNC_CNT 0
  { d with red := { d.red with missed := 0, syncUnit := none, mirrorPrev := none } }

/-- Judge the echoes (R396): RED_ECHO, IN_COMMAND with E78 and E79, SPLIT, the echoed unit, and the role that follows. -/
def Dev.judgeEcho (d : Dev) : Dev :=
  let own := d.echoMask fun t ok => ok && unitOfTally t == some d.unit
  let other := d.echoMask fun t _ => t != 0 && unitOfTally t != some d.unit && (unitOfTally t).isSome
  let top := (d.thrusters.filterMap d.echoOf).foldl (fun m e => if (unitOfTally e.1).isSome then max m e.1 else m) 0
  let was := d.flag Reg.SYS_MODE.IN_COMMAND
  let now := own != 0
  let d : Dev := ((d.set Reg.RED_ECHO.OWN own).set Reg.RED_ECHO.OTHER other).set Reg.RED_ECHO_TOP.TALLY top
  let d : Dev := ((d.setB Reg.SYS_MODE.IN_COMMAND now).setB Reg.RED_STATUS.IN_COMMAND now).setB Reg.RED_STATUS.SPLIT (now && other != 0)
  let d : Dev := { d with red := { d.red with
    quietSince := if top = 0 then some (d.red.quietSince.getD d.sched.st) else none } }
  let d : Dev := if now && !was then { d.dropSync with red := { d.dropSync.red with claimAt := none, revertAt := none } } else d
  let d : Dev := match d.red.syncUnit, d.echoedUnit with
    | some a, some b => if a = b then d else d.dropSync
    | _, _ => d
  let d : Dev := d.judgeRole
  let last := d.get Reg.OUT_STATUS.TALLY
  if now && !was then d.tallyEvent 79 last d.tallyNow
  else if was && !now then d.tallyEvent 78 last d.tallyNow
  else d

/-- R396: an echo leaves the 30 ms window. -/
def execEchoWindowExpiry (t : Nat) (s : State) : Host.Outcome State Fault Refusal :=
  s.run fun d => (d.advance t).whenUp fun d => d.judgeEcho

/-- R398: no tally has been echoed for RED.CLAIM_WAIT. -/
def execClaimWaitExpiry (t : Nat) (s : State) : Host.Outcome State Fault Refusal :=
  s.run fun d => (d.advance t).whenUp fun d => d.judgeRole

/-! ## Give-up (R399) -/

/-- Step 2 of a give-up: the unit's pending command and arrest frames are cancelled, and a release frame of the tally goes out (R350, R399).
-/
def Dev.cutTally (d : Dev) (tally : Nat) : Dev :=
  let u := d.unit
  let d : Dev := { d with red := { d.red with cutDue := none } }
  (d.cancelProto fun id => (0x100 + 0x10 * u ≤ id && id < 0x110 + 0x10 * u) || id = 0x10 + u).sendRelease tally

/-- A frame build is in its slot and has not handed its frames over. -/
def Dev.building (d : Dev) : Bool :=
  d.shots.any fun e => match d.image.tasks[e.1]? with
    | some row => row.role == .commandBuild && e.2.done.isEmpty && decide (e.2.rel ≤ d.sched.st) && decide (d.sched.st < e.2.rel + row.slot)
    | none => false

/-- The unit's tally becomes 0 and its frames are cut: behind a frame build that read the tally at its release, at most its slot later,
within the 0.5 ms of step 2 (R359, R399; log 154). -/
def Dev.withdrawTally (d : Dev) (tally : Nat) : Dev :=
  let d : Dev := { d with red := { d.red with holds := false } }
  if d.building then { d with red := { d.red with cutDue := some tally } } else d.cutTally tally

/-- The cut that a frame build held up. -/
def Dev.finishCut (d : Dev) : Dev :=
  match d.red.cutDue with
  | some tally => if d.building then d else d.cutTally tally
  | none => d

/-- Canary give-up of a unit that holds its tally, steps 1 and 2. -/
def Dev.giveUp (d : Dev) : Dev :=
  let before := d.tallyNow
  let d : Dev := { d with red := { d.red with
    holds := false, gaveUp := true, revertAt := none, dwellAt := none, claimAt := none } }
  ((d.tallyEvent 80 before 0).withdrawTally before).judgeRole

/-! ## Ending a drill (R404) -/

/-- End a drill with a result: record, doorbell (R404, R517). -/
def Dev.drillDone (d : Dev) (result : Nat) : Dev :=
  let d : Dev := { d with red := { d.red with drill := none } }
  let d : Dev := (d.setB Reg.RED_DRILL_RES.BUSY false).set Reg.RED_DRILL_RES.RESULT result
  let d : Dev := if result = 0 then
      ({ d with red := { d.red with drillMs := 0 } }.set Reg.RED_DRILL_AGE.HOURS 0).setB Reg.RED_DRILL_AGE.DUE false
    else d
  let d : Dev := if result = 0 then d.setB Reg.RED_STATUS.DRILL_DUE false else d
  let d : Dev := d.note 0x0B 0x10 result ([d.word 0x100034] ++ (List.range 8).map (fun n => d.word (0x110300 + 0x10 * n)))
  d.doorbell 8

/-- An unfit verdict of any unit ends a drill at once. -/
def Dev.drillUnfit (d : Dev) : Dev :=
  if d.red.drill.isSome && (d.get Reg.RED_STATUS.VERDICT = 2 || [0, 1, 2].any fun u => d.flag (Reg.RED_PEER.PR_STAT.HEARD u)
    && d.get (Reg.RED_PEER.PR_STAT.VERDICT u) = 2) then d.drillDone 3
  else d

/-- The running set meets the conditions of R100 now; slot F is known-good by definition. -/
def Dev.kgHolds (d : Dev) : Bool :=
  d.flag Reg.SYS_MODE.STARTED && d.param P.IMG.KG_MIN_MODE ≤ d.mode && d.get Reg.RED_STATUS.VERDICT != 2
    && (!d.flag Reg.IMG_STATUS.UNTESTED || d.flag Reg.IMG_STATUS.ACC_USED)
    && 1 ≤ d.get Reg.IMG_STATUS.BOOTED && d.get Reg.IMG_STATUS.BOOTED ≤ 4

/-- Keep the moment since when they have held (R100). -/
def Dev.kgTrack (d : Dev) : Dev :=
  { d with img := { d.img with kgSince := if d.kgHolds then some (d.img.kgSince.getD d.sched.st) else none } }

/-- Judge the verdict (R393), and give up when it becomes unfit (R398, R399). -/
def Dev.judgeVerdict (d : Dev) : Dev :=
  let d : Dev := d.showCanary
  let g := d.get Reg.RED_STATUS.GRADE
  let low := g < d.param P.RED.UNFIT_GRADE && [0, 1, 2].any d.fitPeer
  let unfit := d.forcing != 0 || low
  let v := if unfit then 2 else if d.param P.RED.REVERT_GRADE ≤ g then 0 else 1
  let d : Dev := (d.set Reg.RED_STATUS.VERDICT v).kgTrack.drillUnfit
  if unfit && d.red.holds && !d.silent then d.giveUp else d.judgeRole

/-- The grade, at a major-frame boundary (R393). -/
def Dev.judgeGrade (d : Dev) : Dev :=
  (d.set Reg.RED_STATUS.GRADE (31 - d.penalties.foldl (· + ·) 0)).judgeVerdict

/-- A forcing condition is reported (R393, R394): condition 0 lockstep, which halts the island (R421), 1 an uncorrectable memory error,
with E21 or E23 and its address (R510); the others stand in the state already. -/
def Dev.reportForcing (d : Dev) (cond : Nat) (sram : Bool) (addr : Word) : Dev :=
  let d : Dev :=
    if cond = 0 then { d with red := { d.red with latched := d.red.latched ||| 1 }, safe := { d.safe with halted := true } }
    else if cond = 1 then
      let d : Dev := { d with red := { d.red with latched := d.red.latched ||| 2 } }.uncover 1
      (d.set Reg.SYS_MEMERR_ADDR.ADDR addr.toNat).raise (if sram then 23 else 21) [0x30, 0x34]
    else d
  d.judgeVerdict

/-- R393: a forcing condition is reported to the canary; `sofs` are the starts of frames up to now. -/
def execCanaryForcingReport (t cond : Nat) (sram : Bool) (addr : Word) (sofs : List TxSof) (s : State) :
    Host.Outcome State Fault Refusal :=
  s.run fun d => (d.advance t).whenUp fun d => (d.noteSofs sofs).reportForcing cond sram addr

/-! ## Revert (R400, R401) -/

/-- The unit has a path to a unit (R383). -/
def Dev.pathTo (d : Dev) (u : Nat) : Bool := d.flag (Reg.RED_PEER.PR_STAT.HEARD u)

/-- The unit follows a unit in its mode and options, by the heartbeat's bits of SYS_MODE (R400). -/
def Dev.sameMode (d : Dev) (u : Nat) : Bool :=
  let m := d.get (Reg.RED_PEER.PR_MODE.MODE u)
  m % 8 == d.mode && m.testBit 10 == d.flag Reg.SYS_MODE.COUPLED && m.testBit 11 == d.flag Reg.SYS_MODE.TRACK_TARGET

/-- The conditions whose break restarts the dwell (R400, R401). -/
def Dev.revertHolds (d : Dev) : Bool :=
  match d.echoedUnit with
  | none => false
  | some v =>
    d.get Reg.RED_STATUS.ROLE = 1 && d.unit < v && d.get Reg.RED_STATUS.VERDICT = 0 && !d.red.yielded
      && (if d.pathTo v then d.flag Reg.RED_STATUS.SYNC && d.flag Reg.SYS_MODE.FOLLOW && d.paramB P.RED.REVERT_EN
        else d.flag Reg.RED_CTL.REVERT_BLIND)

/-- The revert waits for the mode to be followed (R401). -/
def Dev.revertReady (d : Dev) : Bool :=
  match d.echoedUnit with
  | none => false
  | some v => !d.pathTo v || d.sameMode v

/-- Judge the dwell (R400): it runs from the first boundary at which its conditions hold. -/
def Dev.judgeDwell (d : Dev) : Dev :=
  let go := d.revertHolds && (d.red.dwellAt.isSome || d.revertReady)
  let at_ := if go then some (d.red.dwellAt.getD d.sched.st) else none
  let d : Dev := { d with red := { d.red with dwellAt := at_ } }
  let run := match at_ with
    | some a => min 65535 ((d.sched.st - a) / 100000000)
    | none => 0
  (d.setB Reg.RED_STATUS.REVERT_PEND go).set Reg.RED_DWELL.CLEAR_TIME run

/-- The dwell is complete (R400): E82, and the next build carries the unit's own tally. -/
def Dev.revertNow (d : Dev) : Dev :=
  if d.revertHolds && d.revertReady && heldFor d.sched.st (d.paramNs P.RED.REVERT_DWELL) d.red.dwellAt then
    let d : Dev := { d with red := { d.red with holds := true, revertAt := some d.sched.st, dwellAt := none } }
    ((d.setB Reg.RED_STATUS.REVERT_PEND false).tallyEvent 82 0 d.tallyNow).judgeRole
  else d

/-- R400: the revert dwell completes. -/
def execRevertDwellComplete (t : Nat) (s : State) : Host.Outcome State Fault Refusal :=
  s.run fun d => (d.advance t).whenUp fun d => d.judgeDwell.revertNow

/-- R400: no thruster has echoed a reverting unit's tally within 50 ms. -/
def Dev.revertFailed (d : Dev) : Dev :=
  match d.red.revertAt with
  | none => d
  | some a =>
    if a + 50000000 ≤ d.sched.st && d.get Reg.RED_ECHO.OWN = 0 then
      let d : Dev := { d with red := { d.red with holds := false, revertAt := none } }
      (((d.setB Reg.RED_EVT.REVERT_FAIL_STICKY true).note 0x03 0x10 82 [d.word 0x100000, d.word 0x100010, 0]).judgeRole).judgeDwell
    else d

/-- R400: the echo of a reverting unit's tally has not come. -/
def execRevertEchoTimeout (t : Nat) (s : State) : Host.Outcome State Fault Refusal :=
  s.run fun d => (d.advance t).whenUp fun d => d.revertFailed

/-- The unit at the far end of link `l` of unit `u` (R380), in a class 2 cabinet of two units or a class 3 ring of three. -/
def linkPeer (units u l : Nat) : Nat := if units = 3 then (u + 1 + l) % 3 else 1 - u

/-- The unit at the far end of each Coruz link; a unit without identity has none. -/
def Dev.linkPeers (d : Dev) : Dev :=
  [0, 1].foldl (fun d l => d.set (Reg.RED_LINK.LK_STAT.PEER l) (if d.unit = 3 then 0 else linkPeer d.image.red.units d.unit l)) d

/-- Read the identity straps (R378): at the start they give the identity, later a change is a forcing condition until reset. -/
def Dev.readStraps (d : Dev) (p : Nat) : Dev :=
  match d.red.strap with
  | none =>
    let u := unitOfStrap p
    let d : Dev := { d with red := { d.red with strap := some p } }
    let d : Dev := (d.set Reg.RED_STATUS.UNIT u).setB Reg.RED_STATUS.STRAP_ERR (u == 3)
    d.linkPeers
  | some q => if p = q then d else { d with red := { d.red with latched := d.red.latched ||| 128 } }

end Sys2Proof.Machine
end

