-- ==== Sys2Proof/Machine/Coruz.lean ====
section
/-! DEFINITION. The Coruz links: link states, heartbeats, the state mirror, the shadow compare, and the handover drill (R379 to R392,
R402 to R404). -/
namespace Sys2Proof.Machine
open Sys2Proof

/-! ## Frames and links (R380 to R383) -/

/-- A peer's record. -/
def Dev.peer (d : Dev) (u : Nat) : CoruzPeer := d.red.peers.getD u default
/-- Change it. -/
def Dev.setPeer (d : Dev) (u : Nat) (f : CoruzPeer → CoruzPeer) : Dev := { d with red := { d.red with peers := modAt d.red.peers u f } }
/-- A link's record. -/
def Dev.link (d : Dev) (l : Nat) : CoruzLink := d.red.links.getD l default
/-- Change it. -/
def Dev.setLink (d : Dev) (l : Nat) (f : CoruzLink → CoruzLink) : Dev := { d with red := { d.red with links := modAt d.red.links l f } }

/-- RED.LINK_TIMEOUT in ns. -/
def Dev.linkTimeout (d : Dev) : Nat := nsOfMs (d.paramF P.RED.LINK_TIMEOUT)

/-- Bytes of a word list. -/
def wordBytes (l : List Word) : List Byte := l.flatMap fun w => leBytes 4 w.toNat

/-- A Coruz frame that this unit originates now (R382): type, sequence, payload. -/
def Dev.coruzFrame (d : Dev) (type : Nat) (seq : Word) (payload : List Byte) : List Byte :=
  let h := leBytes 4 (type + 256 * d.unit + 65536 * payload.length) ++ leBytes 4 seq.toNat ++ leBytes 4 d.ts32.toNat
    ++ leBytes 2 (frame16Of d.sched.st).toNat ++ [0, 0] ++ payload
  h ++ leBytes 4 (crc32c h).toNat

/-- Send a frame on both links (R383); a unit without identity sends none (R378). -/
def Dev.sendCoruz (d : Dev) (bs : List Byte) : Dev :=
  if d.unit = 3 then d else { d with red := { d.red with out := [bs, bs] } }

/-- Show whether a link is up. -/
def Dev.showLink (d : Dev) (l : Nat) (up : Bool) : Dev :=
  (d.setB (Reg.RED_LINK.LK_STAT.UP l) up).setB (if l = 0 then Reg.RED_STATUS.LINK0_UP else Reg.RED_STATUS.LINK1_UP) up

/-- Show the paths to the peers (R383), with what following does when both links are down (R54). -/
def Dev.showPaths (d : Dev) : Dev :=
  let live (o : Option Nat) : Bool := match o with
    | some a => d.sched.st < a + d.linkTimeout
    | none => false
  let d : Dev := [0, 1, 2].foldl (fun d u =>
    let h := (d.peer u).heard
    let d : Dev := (d.setB (Reg.RED_PEER.PR_STAT.HEARD u) (h.any live)).set (Reg.RED_PEER.PR_STAT.DIRECT u)
      (bit (live (h.getD 0 none)) + 2 * bit (live (h.getD 1 none)))
    (d.setB (Reg.RED_PEER.PR_STAT.RELAYED u) (live (h.getD 2 none))).setBitAt Reg.RED_STATUS.HEARD u (h.any live)) d
  if !d.flag Reg.RED_STATUS.LINK0_UP && !d.flag Reg.RED_STATUS.LINK1_UP && d.flag Reg.SYS_MODE.FOLLOW then
    { (d.setB Reg.SYS_MODE.FOLLOW false) with red := { d.red with followOff := true } }
  else d

/-- A link goes down (R381). -/
def Dev.linkDown (d : Dev) (l : Nat) : Dev :=
  let d : Dev := d.setLink l (fun x => { x with run := 0 })
  if d.flag (Reg.RED_LINK.LK_STAT.UP l) then
    let d : Dev := ((d.showLink l false).inc (Reg.RED_LINK.LK_STAT.DOWN_CNT l)).setBitAt Reg.RED_EVT.STICKY l true
    (d.raise (76 + l) [0x100000, 0x100100 + 0x20 * l]).showPaths
  else d.showPaths

/-- R381: no valid frame from the direct peer within RED.LINK_TIMEOUT. -/
def execCoruzLinkTimeout (t l : Nat) (s : State) : Host.Outcome State Fault Refusal :=
  s.run fun d => (d.advance t).whenUp fun d =>
    match (d.link l).validAt with
    | some a => if l < 2 && a + d.linkTimeout ≤ d.sched.st then d.linkDown l else d.showPaths
    | none => d.showPaths

/-- R381: a link loses block lock. -/
def execCoruzBlockLockLoss (t l : Nat) (s : State) : Host.Outcome State Fault Refusal :=
  s.run fun d => (d.advance t).whenUp fun d =>
    if l < 2 then (d.setB (Reg.RED_LINK.LK_STAT.LOCK l) false).linkDown l else d

/-! ## Heartbeats (R384, R385) -/

/-- This unit's latest shadow word with its sequence (R391). -/
def Dev.ownShadow (d : Dev) : Word × Word :=
  match d.red.words.find? (fun e => e.2.1 == d.unit) with
  | some (q, _, w) => (w, q)
  | none => (0, 0)

/-- The payload of a heartbeat (R384). -/
def Dev.heartbeat (d : Dev) : List Byte :=
  let f := d.forcing
  let sh := d.ownShadow
  let canary := d.get Reg.RED_STATUS.GRADE + 32 * d.get Reg.RED_STATUS.VERDICT + 128 * bit (f != 0)
  let links := bit (d.flag Reg.RED_STATUS.LINK0_UP) + 2 * bit (d.flag Reg.RED_STATUS.LINK1_UP)
    + 4 * bit (d.flag Reg.RED_STATUS.SYNC) + 8 * bit (d.flag Reg.RED_CTL.REVERT_BLIND) + 16 * bit d.red.drill.isSome
  let entry (u : Nat) : List Byte :=
    if u = d.unit || !d.flag (Reg.RED_PEER.PR_STAT.HEARD u) then leBytes 8 0
    else leBytes 4 (d.peer u).sentTs.toNat ++ leBytes 4 (d.peer u).rxTs.toNat
  leBytes 4 (d.unit + 256 * d.get Reg.RED_STATUS.ROLE + 65536 * d.get Reg.RED_STATUS.TALLY + 16777216 * canary)
    ++ leBytes 2 (d.word 0x10).toNat ++ leBytes 2 links ++ leBytes 2 (d.get Reg.RED_ECHO.OWN) ++ [0, 0]
    ++ leBytes 4 sh.1.toNat ++ leBytes 4 sh.2.toNat ++ [0, 1, 2].flatMap entry ++ leBytes 4 0

/-- The unit sends heartbeats (R378, R384): from the first hyperframe boundary after the schedule's start, and with an identity. -/
def Dev.beats (d : Dev) : Bool := d.unit != 3 && d.sched.startAt / 100000000 < d.sched.st / 100000000

/-- R384: the heartbeat of a minor frame, verified at the RED sender's exit (R123). -/
def Dev.sendHeartbeat (d v : Dev) (fault : ChainFault) : Dev :=
  if !v.beats then d
  else
    let bs := v.heartbeat
    match d.emitExit .heartbeat 84 0x40 0 0 v.sched.st [] (packWords bs) fault with
    | (none, d) => d
    | (some _, d) =>
      let seq := d.red.seqHb
      let d : Dev := d.sendCoruz (d.coruzFrame 1 seq bs)
      { d with red := { d.red with seqHb := seq + 1 } }

/-- R384: the unit sends its heartbeat. -/
def execCoruzHeartbeatSend (t : Nat) (fault : ChainFault) (s : State) : Host.Outcome State Fault Refusal :=
  s.run fun d => (d.advance t).whenUp fun d => d.runOf .heartbeat 0 fun v d => d.sendHeartbeat v fault

/-! ## Shadow words (R391, R392) -/

/-- The shadow word of the runs as they stand, with the fallback's vector (R300, R391): two values of an available azimuth thruster, one of
a tunnel. -/
def Dev.shadowWord (d : Dev) (avail : List Nat) (fb : List Vec) : Word :=
  let q (x : F64) : List Byte := leBytes 8 x.framed.toNat
  let rms := [0, 1, 2].flatMap fun n => let m := d.rm n; q m.p ++ q m.v ++ q m.a
  let pids := [0, 1, 2].flatMap fun c => let s := d.pid c; q s.vPrev ++ q s.uPrev
  let force (i : Nat) : List Byte := match d.thruster i with
    | none => []
    | some r => (match r.type with
      | .tunnel => q (Vec.at (fb.getD i []) 1)
      | .azimuth => q (Vec.at (fb.getD i []) 0) ++ q (Vec.at (fb.getD i []) 1))
  crc32c (rms ++ pids ++ avail.flatMap force)

/-- Judge the words held for a mirror sequence (R392), once. -/
def Dev.judgeWords (d : Dev) (seq : Word) : Dev :=
  let ws := d.red.words.filter fun e => e.1 == seq
  let words := ws.map fun e => e.2.2
  if ws.length < 2 || d.red.judged == some seq then d
  else
    let d : Dev := { d with red := { d.red with judged := some seq } }
    if words.all (fun w => w == words.headD 0) then d
    else
      let odd := ws.filter fun e => (words.filter (fun w => w == e.2.2)).length = 1
      let d : Dev := ((d.inc Reg.RED_SHADOW.MISMATCH).set Reg.RED_SHADOW_SEQ.SEQ seq.toNat).setBitAt Reg.RED_EVT.STICKY 5 true
      let d : Dev := d.raise 81 [0x100020, 0x100024]
      match ws.length, odd with
      | 3, [e] =>
        if e.2.1 = d.unit then
          let n := d.red.shadowHits + 1
          { d with red := { d.red with
            shadowHits := n, shadowFault := d.red.shadowFault || d.param P.RED.SHADOW_PERSIST ≤ n } }
        else d
      | _, _ => d.inc Reg.RED_SHADOW.UNATTRIB

/-- Hold a unit's shadow word (R392): when every unit's word of the sequence is held, or a later sequence begins, it is judged. -/
def Dev.addWord (d : Dev) (seq : Word) (unit : Nat) (w : Word) : Dev :=
  if d.red.words.any (fun e => e.1 == seq && e.2.1 == unit) then d
  else
    let d : Dev := d.judgeWords (seq - 1)
    let d : Dev := { d with red := { d.red with words := ((seq, unit, w) :: d.red.words).take 12 } }
    if (d.red.words.filter fun e => e.1 == seq).length = d.image.red.units then d.judgeWords seq else d

/-! ## The state mirror (R386 to R389) -/

/-- Words of a binary64 value. -/
def f64Words (x : F64) : List Word := quadWords x.framed

/-- The bytes of a tag (R24), the flags first. -/
def Tag.bytes (t : Tag) : List Byte :=
  [t.flags, t.kind, t.source, t.opId] ++ leBytes 2 t.alive.toNat ++ leBytes 2 t.frame.toNat ++ leBytes 4 t.tov.toNat
    ++ leBytes 4 t.check.toNat

/-- A tag from its bytes. -/
def Tag.ofBytes (bs : List Byte) : Tag where
  check := wordAt bs 12
  tov := wordAt bs 8
  frame := BitVec.ofNat 16 (ofLeBytes ((bs.drop 6).take 2))
  alive := BitVec.ofNat 16 (ofLeBytes ((bs.drop 4).take 2))
  opId := bs.getD 3 0
  source := bs.getD 2 0
  kind := bs.getD 1 0
  flags := bs.getD 0 0

/-- One record of a mirror (R386). -/
def mirrorRec (p : Packet) : List Byte := p.tag.bytes ++ leBytes 4 (4 * p.payload.length) ++ wordBytes p.payload

/-- The header of a mirror (R386): mode register, options, set-points, hull shift, stop mask, thrusters available, tally. -/
def Dev.mirrorHeader (d : Dev) : List Word :=
  [d.word 0x10, BitVec.ofNat 32 (bit (d.flag Reg.SYS_MODE.COUPLED) + 2 * bit (d.flag Reg.SYS_MODE.TRACK_TARGET))]
    ++ [0, 1, 2].flatMap (fun n => f64Words (d.rm n).sp) ++ f64Words (d.alloc.shift.at 0) ++ f64Words (d.alloc.shift.at 1)
    ++ [BitVec.ofNat 32 (d.get Reg.ALLOC_ARREST.MASK), BitVec.ofNat 32 (maskOf d.availNow), BitVec.ofNat 32 (d.get Reg.RED_STATUS.TALLY)]

/-- The shadow inputs (R386 record 7): fed-back azimuths, surge speed and section powers that the fallback allocation took, and the shadow
word. -/
def Dev.mirrorInputs (d : Dev) (word : Word) : List Word :=
  let q := match d.solv.fallback with
    | some e => e.2
    | none => default
  (List.range 16).map (fun i => ((q.thr.getD i default).alpha).getD 0) ++ f64Words q.u
    ++ (List.range d.image.alloc.sections.length).flatMap (fun j => f64Words (q.power.getD j F64.zero)) ++ [word]

/-- Several inputs of a stage, each by its number, kind and index: what they are, none where one is absent. -/
def Dev.takeInputs (d v : Dev) (role : TaskRole) (res : Nat) (fault : ChainFault) : List (Nat × Nat × Nat) → List (Option Packet) × Dev
  | [] => ([], d)
  | (i, kind, index) :: l =>
    let (p, d) := d.takeInput v role res fault i kind index
    let (ps, d) := d.takeInputs v role res fault l
    (p :: ps, d)

/-- A record that the mirror's task forms itself (R386), output `n` of it, on duplicated datapaths (R124): none where they disagree. -/
def Dev.sealRecord (d : Dev) (n kind : Nat) (tov : Int) (ins : List Packet) (payload : List Word) (fault : ChainFault) :
    Option Packet × Dev :=
  let r := d.resourceOf .mirror 84
  match fault.of n with
  | .datapath _ d0 d1 => (none, d.chainBreak 1 r (d.taskNumber .mirror) (d.seal r kind 0 0 0 tov payload).1 d0 d1)
  | _ => let (p, d) := d.transform r kind 0 0 tov ins payload; (some p, d)

/-- The mirror of a major frame from what its task sees (R386): the bytes of its records, its header's packet where the exit verification
lets it pass, and the sender's shadow word. Input 0 is the own-vessel state, input 1 the allocation, inputs 2 to 4 bounds, arrest table and
margins of the plan in force, input 5 the fallback's output, inputs from 6 the tracks. Its own records are outputs 1 to 3; each keeps the
time of validity of what it is formed from (R19). -/
def Dev.mirrorPayload (d v : Dev) (fault : ChainFault) : Option (List Byte) × Word × Dev :=
  let rel : Int := v.sched.st
  let (own, d) := d.takeInput v .mirror 84 fault 0 0x10 0
  let (al, d) := d.takeInput v .mirror 84 fault 1 0x21 0
  let plan := match v.alloc.plan with
    | some p => [(2, p.bounds), (3, p.arrests), (4, p.margins)]
    | none => []
  let (parts, d) := plan.foldl (fun (acc : List Packet × Dev) e =>
    let (p, d) := acc.2.takeSealed .mirror 84 fault e.1 e.2
    (acc.1 ++ p.toList, d)) ([], d)
  let (fb, d) := d.takeInput v .mirror 84 fault 5 0x21 1
  let live := (List.range 8).filter fun k => v.get (Reg.FUS_OBJ.OBJ.STATE k) != 0
  let (tracks, d) := d.takeInputs v .mirror 84 fault (live.map fun k => (6 + k, 0x11, k))
  let tracks := tracks.filterMap id
  let word := match v.allocates, v.solv.fallback, fb with
    | true, some e, some p => v.shadowWord e.2.avail p.fallback
    | _, _, _ => v.shadowWord [] []
  let tovOf (p : Option Packet) : Int := (p.map Packet.tovNs).getD rel
  let (p3, d) := d.sealRecord 1 0x12 (tovOf own) own.toList ([0, 1, 2].flatMap fun n =>
    let m := v.rm n; f64Words m.p ++ f64Words m.v ++ f64Words m.a) fault
  let (p4, d) := d.sealRecord 2 0x20 (tovOf own) (own.toList ++ al.toList) ([0, 1, 2].flatMap fun c =>
    let s := v.pid c
    f64Words s.i ++ f64Words s.ePrev ++ f64Words s.d ++ f64Words s.vPrev ++ f64Words (v.achievedPrev v c al)) fault
  let (p7, d) := d.sealRecord 3 0x42 (tovOf fb) fb.toList (v.mirrorInputs word) fault
  let rest := own.toList ++ p3.toList ++ p4.toList ++ al.toList ++ parts ++ p7.toList ++ tracks
  let (p1, d) := d.emitExit .mirror 84 0x41 0 0 rel rest v.mirrorHeader (fault.of 0)
  let whole := p3.isSome && p4.isSome && p7.isSome
  (if whole then p1.map fun p => (p :: rest).flatMap mirrorRec else none, word, d)

/-- R386: the unit in command captures the mirror and its own shadow word; the boundary sends it. -/
def Dev.captureMirror (d v : Dev) (fault : ChainFault) : Dev :=
  if v.get Reg.RED_STATUS.ROLE != 3 then d
  else
    let (bs, word, d) := d.mirrorPayload v fault
    let d : Dev := d.addWord d.red.seqMirror d.unit word
    { d with red := { d.red with captured := bs } }

/-- R386: the state-mirror capture runs. -/
def execStateMirrorCapture (t : Nat) (fault : ChainFault) (s : State) : Host.Outcome State Fault Refusal :=
  s.run fun d => (d.advance t).whenUp fun d => d.runOf .mirror 0 fun v d => d.captureMirror v fault

/-- Send the captured mirror, at a major-frame boundary (R386); a unit that has left role 3 since sends none. -/
def Dev.sendMirror (d : Dev) : Dev :=
  match d.red.captured with
  | none => d
  | some bs => if d.get Reg.RED_STATUS.ROLE != 3 then { d with red := { d.red with captured := none } } else
    let seq := d.red.seqMirror
    let d : Dev := (d.sendCoruz (d.coruzFrame 2 seq bs)).set Reg.RED_MIRROR.SIZE bs.length
    { d with red := { d.red with captured := none, seqMirror := seq + 1 } }

/-- The records of a mirror payload (R386): none when it is not made of whole records. -/
def parseMirror : Nat → List Byte → Option (List (Tag × List Word))
  | 0, _ => none
  | k + 1, bs =>
    if bs.isEmpty then some []
    else
      let len := ofLeBytes ((bs.drop 16).take 2)
      let pad := (len + 3) / 4 * 4
      if bs.length < 20 + pad then none
      else match parseMirror k (bs.drop (20 + pad)) with
        | some l => some ((Tag.ofBytes bs, packWords ((bs.drop 20).take pad)) :: l)
        | none => none

/-- The age in ns of a datum of a mirror when its frame was sent, from TS32 and FRAME16 of both (R22, R24). -/
def mirrorAge (sent : Word) (frame : BitVec 16) (t : Tag) : Nat :=
  let a := (sent - t.tov).toNat
  let ms := (frame - t.frame).toNat
  let fits (k : Nat) : Bool :=
    let f := (a + 4294967296 * k) / 1000000
    f % 65536 = ms || (f + 1) % 65536 = ms
  a + 4294967296 * ((List.range 16).find? fits).getD 0

/-- Reseal the records of a verified mirror as an entry stage (R387), their times of validity converted to this unit's (R385); `sent` and
`frame` are the send time of the frame. -/
def Dev.resealMirror (d : Dev) (u : Nat) (check sent : Word) (frame : BitVec 16) (l : List (Tag × List Word)) : List Packet × Dev :=
  let transit := (d.ts32 - (sent - d.word (0x100208 + 0x20 * u))).toInt
  l.foldl (fun (acc : List Packet × Dev) e =>
    let d := acc.2
    let tov := (d.sched.st : Int) - transit - mirrorAge sent frame e.1
    let (p, d) := d.seal 89 e.1.kind.toNat e.1.opId.toNat e.1.flags check tov e.2
    (acc.1 ++ [p], d)) ([], d)

/-- A mirror is missing or fails (R388): the second in a row ends SYNC. -/
def Dev.mirrorMissed (d : Dev) : Dev :=
  let n := d.red.missed + 1
  let d : Dev := { (d.set Reg.RED_MIRROR.SYNC_CNT 0) with red := { d.red with missed := n } }
  if 2 ≤ n then { d.dropSync with red := { d.dropSync.red with missed := n } } else d

/-- A mirror has been verified (R388): SYNC sets after RED.SYNC_N in a row from the unit in command. -/
def Dev.mirrorGood (d : Dev) (m : Mirror) (size : Nat) : Dev :=
  let gap := match d.red.mirror with
    | some p => if p.unit = m.unit then (m.seq - p.seq).toNat else 1
    | none => 1
  let d : Dev := if 3 ≤ gap && gap < 2 ^ 31 then d.dropSync else d
  let broken := gap != 1 || d.red.syncUnit != some m.unit
  let d : Dev := if broken then d.set Reg.RED_MIRROR.SYNC_CNT 0 else d
  let d : Dev := ((d.inc Reg.RED_MIRROR.SYNC_CNT).set Reg.RED_MIRROR.SIZE size).set Reg.RED_MIRROR_SEQ.SEQ m.seq.toNat
  let prev := match d.red.mirror with
    | some p => if p.unit = m.unit && m.seq = p.seq + 1 then some p else none
    | none => none
  let d : Dev := { d with red := { d.red with mirror := some m, mirrorPrev := prev, syncUnit := some m.unit, missed := 0 } }
  let d : Dev := if d.param P.RED.SYNC_N ≤ d.get Reg.RED_MIRROR.SYNC_CNT then d.setB Reg.RED_STATUS.SYNC true else d
  if d.flag Reg.RED_STATUS.SYNC then { d with red := { d.red with loadDue := some d.sched.st } } else d

/-- A mirror arrives from unit `u` (R387, R388), sent at `sent` in frame `frame` of its sender. -/
def Dev.takeMirror (d : Dev) (u : Nat) (seq check sent : Word) (frame : BitVec 16) (payload : List Byte) : Dev :=
  let now := d.sched.st
  let d : Dev := d.setPeer u (fun p => { p with mirrorAt := some now })
  let rival := [0, 1, 2].any fun v => v != u && (match (d.peer v).mirrorAt with
    | some a => now < a + 20000000
    | none => false) && d.get (Reg.RED_PEER.PR_STAT.TALLY u) < d.get (Reg.RED_PEER.PR_STAT.TALLY v)
  if rival then d
  else
    let fail (d : Dev) : Dev := (d.inc Reg.RED_MIRROR.FAIL).mirrorMissed
    match parseMirror (payload.length + 1) payload with
    | none => fail d
    | some l =>
      if l.all (fun e => (Packet.mk e.1 e.2 0 0).intact) then
        let (recs, d) := d.resealMirror u check sent frame l
        if d.flag Reg.SYS_MODE.IN_COMMAND || d.echoedUnit != some u then d
        else d.mirrorGood ⟨u, seq, recs⟩ payload.length
      else fail d

/-- The first record of a kind in a mirror. -/
def Mirror.part (m : Mirror) (kind : Nat) : Option Packet := m.recs.find? (fun p => p.tag.kind.toNat == kind)

/-- The records of a mirror that the PID pipe takes, each verified before use (R123): records 1, 3, 4 and 5 are its inputs 3 to 6. -/
def Dev.takeMirrorParts (d : Dev) (m : Mirror) (fault : ChainFault) : Mirror × Dev :=
  let take (acc : List Packet × Dev) (e : Nat × Nat) : List Packet × Dev := match m.part e.2 with
    | some p =>
      let (q, d) := acc.2.takeSealed .pid 80 fault e.1 p
      (acc.1 ++ q.toList, d)
    | none => acc
  let (ps, d) := [(3, 0x41), (4, 0x12), (5, 0x20), (6, 0x21)].foldl take ([], d)
  ({ m with recs := ps }, d)

/-- Load the states of reference models 0 to 2 and PID channels 0 to 2 from a mirror's records 3 and 4 (R389). -/
def Dev.loadRuns (d : Dev) (m : Mirror) : Dev :=
  let d : Dev := match m.part 0x12 with
    | some p => [0, 1, 2].foldl (fun d n => d.setRm n (fun r => { r with
        p := f64At p.payload (6 * n), v := f64At p.payload (6 * n + 2), a := f64At p.payload (6 * n + 4), hold := false })) d
    | none => d
  match m.part 0x20 with
  | some p => [0, 1, 2].foldl (fun d c => d.setPid c (fun s => { s with
      i := f64At p.payload (10 * c), ePrev := f64At p.payload (10 * c + 2), d := f64At p.payload (10 * c + 4)
      vPrev := f64At p.payload (10 * c + 6), aNext := some (f64At p.payload (10 * c + 8)), preset := none })) d
  | none => d

/-- Load the set-points from a mirror's header (R389). -/
def Dev.loadSetPoints (d : Dev) (m : Mirror) : Dev :=
  match m.part 0x41 with
  | some p => [0, 1, 2].foldl (fun d n => d.setSp n (f64At p.payload (2 + 2 * n))) d
  | none => d

/-- Load the mirror that is due (R389). -/
def Dev.mirrorLoad (d : Dev) (fault : ChainFault) : Dev :=
  match d.red.loadDue, d.red.mirror with
  | some _, some m =>
    let d : Dev := { d with red := { d.red with loadDue := none } }
    if d.flag Reg.SYS_MODE.IN_COMMAND || !d.flag Reg.RED_STATUS.SYNC then d
    else
      let (m, d) := d.takeMirrorParts m fault
      let d : Dev := (d.loadRuns m).loadSetPoints m
      let d : Dev := match m.part 0x41 with
        | some p =>
          let mask := (p.payload.getD 12 0).toNat % 65536
          ({ d with alloc := { d.alloc with
            shift := [f64At p.payload 8, f64At p.payload 10], arrested := mask } }).set Reg.ALLOC_ARREST.MASK mask
        | none => d
      let d : Dev := d.showShift
      match m.part 0x21 with
      | some p =>
        let prev := (List.range 16).map fun i =>
          let f := f32At p.payload (3 * i)
          (match d.thruster i with
            | some r => (match r.type with
              | .tunnel => [F64.zero, f]
              | .azimuth => Vec.scale f (dirOf (p.payload.getD (3 * i + 1) 0)))
            | none => [F64.zero, F64.zero] : Vec)
        { d with alloc := { d.alloc with prev := prev } }
      | none => d
  | _, _ => d

/-- The position PID pipe released after a mirror's verification runs on what it loads (R389): the device, and the task in its slot. -/
def Dev.loadInto (d : Dev) (e : InSlot) (fault : ChainFault) : Dev × InSlot :=
  match d.red.loadDue with
  | some a =>
    if a < e.shot.rel then
      let w := (d.view e.shot).mirrorLoad fault
      let take (x : Shot) : Shot := { x with alloc := w.alloc, loop := w.loop }
      ((d.mirrorLoad fault).setShot e take, { e with shot := take e.shot })
    else (d, e)
  | none => (d, e)

/-- R316: a PID channel runs; a unit that holds SYNC loads a mirror that is due before the pipe's first run (R389). -/
def execPositionPidRun (t channel : Nat) (fault : ChainFault) (s : State) : Host.Outcome State Fault Refusal :=
  s.run fun d => (d.advance t).whenUp fun d => match d.slotWith .pid channel (fun e => d.pidSlot channel e.row) with
    | some e =>
      let (d, e) := if channel < 3 then d.loadInto e fault else (d, e)
      d.runIn e channel fun v d => d.pidRun v channel fault
    | none => d

/-- The mode of the major frame of a mirror, as its header gives it (R386). -/
def Mirror.mode (m : Mirror) : Nat := ((m.part 0x41).map (fun p => (p.payload.getD 0 0).toNat % 8)).getD 1

/-- The position loops as they stood in the mirrored unit before the runs of a repeat (R391): open or closed by the mode of that major frame
(R319), an open channel at the value it gave, a channel that closes between the two mirrors about to preset, the hull shift as mirrored.
Path and target following act through the mirrored set-points, so M6 is repeated as M5. DEDUCED (log 182). -/
def Dev.asMirrored (d : Dev) (prev m : Mirror) : Dev :=
  let d : Dev := d.set Reg.SYS_MODE.MODE (if m.mode = 6 then 5 else m.mode)
  let d : Dev := match m.part 0x41 with
    | some p => { d with alloc := { d.alloc with shift := [f64At p.payload 8, f64At p.payload 10] } }
    | none => d
  let v (x : Mirror) (c : Nat) : F64 := match x.part 0x20 with
    | some p => f64At p.payload (10 * c + 6)
    | none => F64.zero
  [0, 1, 2].foldl (fun d c =>
    let closes := closedIn m.mode c && !closedIn prev.mode c
    let d : Dev := (d.setStat true c 0 (bit (!closedIn m.mode c))).setF (Reg.LOOP_PID.PID_MAN.MAN c) (v m c).to32
    let d : Dev := d.setPid c fun s => { s with preset := if closes then some (v prev c) else none }
    d.setRm c fun r => { r with hold := closes }) d

/-- Repeat the runs of the major frame of mirror `m` from the states of the mirror before it (R391): on the mirrored unit's own-vessel
state, set-points, modes and shadow inputs, and on the chain wrench that its allocation carries. -/
def Dev.repeatWord (d : Dev) (prev m : Mirror) : Word :=
  let c : Dev := ((d.loadRuns prev).loadSetPoints m).asMirrored prev m
  let c : Dev := match m.part 0x10 with
    | some p => c.holdOutput 0x10 0 p
    | none => c
  let c : Dev := [0, 1, 2].foldl (fun c k => c.positionRun c k .none) c
  match c.allocates, m.part 0x42, m.part 0x41 with
  | true, some p, some h =>
    let wrench : Vec := match m.part 0x21 with
      | some a => [f64At a.payload 48, f64At a.payload 50, f64At a.payload 52]
      | none => Vec.zeros 3
    let mask := (h.payload.getD 13 0).toNat
    let q : QpIn := { (default : QpIn) with
      tau := Vec.sub ([0, 1, 2].map fun k => c.axisDemand k (c.output 0x20 k)) wrench
      avail := (List.range 16).filter (fun i => mask.testBit i)
      u := f64At p.payload 16
      power := (List.range c.image.alloc.sections.length).map fun j => f64At p.payload (18 + 2 * j)
      thr := (List.range 16).map fun i => { (default : ThrIn) with alpha := some (p.payload.getD i 0) } }
    c.shadowWord q.avail (c.fallbackForces q)
  | _, _, _ => c.shadowWord [] []

/-- R391: the repeat of the last mirror's major frame ends, or is skipped when it is late or lacks the mirror before. -/
def Dev.shadowRepeat (d : Dev) (done : Bool) : Dev :=
  if !d.flag Reg.RED_STATUS.SYNC then d
  else match done, d.red.mirrorPrev, d.red.mirror with
    | true, some p, some m => d.addWord m.seq d.unit (d.repeatWord p m)
    | _, _, _ => d.inc Reg.RED_SHADOW.SKIPPED

/-- R391: the off-schedule repeat of a standby. -/
def execShadowRepeatComplete (t : Nat) (done : Bool) (s : State) : Host.Outcome State Fault Refusal :=
  s.run fun d => (d.advance t).whenUp fun d => d.shadowRepeat done

/-! ## The handover drill (R403, R404) -/

/-- Heartbeat byte 6 bit 4 of some peer ranked below this unit: a drill asks this unit to withdraw. -/
def Dev.drillAsked (d : Dev) : Bool :=
  [0, 1, 2].any fun v => d.unit < v && d.pathTo v && (d.peer v).links.testBit 4

/-- Withdraw for a drill of a lower-ranked unit, or reclaim after it (R404 steps 2 and 6). -/
def Dev.drillYield (d : Dev) : Dev :=
  let ask := d.drillAsked && d.mode = 7
  if ask && !d.red.yielded then
    let before := d.tallyNow
    let d : Dev := { d with red := { d.red with yielded := true } }
    if before = 0 then d.judgeRole else (d.withdrawTally before).judgeRole
  else if !ask && d.red.yielded then ({ d with red := { d.red with yielded := false } }).judgeRole
  else d

/-- A drill can run on this unit (R404). -/
def Dev.drillReady (d : Dev) : Bool :=
  d.unit != 3 && d.mode = 7 && d.get Reg.RED_STATUS.VERDICT != 2
    && (List.range d.image.red.units).all fun u => u = d.unit || (d.pathTo u && d.get (Reg.RED_PEER.PR_MODE.MODE u) % 8 = 7)

/-- RED_DRILL.GO (R404). -/
def Dev.drillGo (d : Dev) (port : Nat) : Dev :=
  if d.red.drill.isSome then d.reportWrite 9 port 0 0x100030 false
  else if d.drillReady then
    let d : Dev := { d with red := { d.red with drill := some ⟨d.sched.st, 0, [], 0, false⟩ } }
    ((d.setB Reg.RED_DRILL_RES.BUSY true).set Reg.RED_DRILL_RES.STEP 0).set Reg.RED_DRILL_RES.THR_FAIL 0
  else (d.set Reg.RED_DRILL_RES.RESULT 2).doorbell 8

/-- R404: host software starts a drill. -/
def execDrillGo (t port : Nat) (s : State) : Host.Outcome State Fault Refusal :=
  s.run fun d => (d.advance t).whenUp fun d => d.drillGo port

/-- Units ranked above the target must be seen to release on every command bus and its mirror (R404 step 2). -/
def Dev.releasesSeen (d : Dev) (r : Drill) : Bool :=
  let cs := d.busesOf d.thrusters
  let cs := (cs ++ (cs.map fun c => d.get (Reg.CAN_CH.CH_CFG.MIRROR c)).filter (· != 7)).eraseDups
  (List.range d.unit).all fun u => cs.all fun c => r.seen.contains (c, 0x10 + u)

/-- A drill's steps by the time that has passed (R404), judged at each major-frame boundary. -/
def Dev.drillTick (d : Dev) : Dev :=
  match d.red.drill with
  | none => d
  | some r =>
    if d.drillUnfit.red.drill.isNone then d.drillUnfit
    else
      let age := d.sched.st - r.start
      let all := maskOf d.thrusters
      let fail := d.get Reg.RED_DRILL_RES.THR_FAIL
      let goOn (d : Dev) (n : Nat) : Dev :=
        { (d.set Reg.RED_DRILL_RES.STEP n) with red := { d.red with drill := d.red.drill.map (fun x => { x with step := n }) } }
      if r.step = 0 then goOn d 1
      else if r.step = 1 && 1000000 ≤ age then goOn d 2
      else if r.step = 2 && 45000000 ≤ age then
        let miss := all &&& (0xFFFF ^^^ d.get Reg.RED_ECHO.OWN)
        goOn ((d.set Reg.RED_DRILL_RES.THR_FAIL (fail ||| miss)).sendArrest 0 all d.sched.st [] .none).2 3
      else if r.step = 3 && 60000000 ≤ age then
        goOn (d.set Reg.RED_DRILL_RES.THR_FAIL (fail ||| (all &&& (0xFFFF ^^^ r.arrested)))) 4
      else d

/-- The load test's results pass: every pair with thrusters has passed (R428). -/
def Dev.loadPassed (d : Dev) (masks : Nat → Nat) : Bool :=
  (List.range 8).all fun n => masks n = 0 || d.get (Reg.SAFE_OUT.OUT_STAT.LOAD_RESULT n) = 1

/-- RED_DRILL.END (R404 step 6). -/
def Dev.drillEnd (d : Dev) : Dev :=
  match d.red.drill with
  | none => d
  | some r =>
    let masks (n : Nat) : Nat := d.param (P.SAFE.OUT_THRMASK n)
    let ok := 4 ≤ r.step && d.get Reg.RED_DRILL_RES.THR_FAIL = 0 && d.releasesSeen r && r.analogueOk && d.loadPassed masks
    (d.set Reg.RED_DRILL_RES.STEP 5).drillDone (if ok then 0 else 1)

/-- R404: host software ends a drill. -/
def execDrillEnd (t : Nat) (s : State) : Host.Outcome State Fault Refusal :=
  s.run fun d => (d.advance t).whenUp fun d => d.drillEnd

/-- RED_DRILL.ABORT (R404). -/
def Dev.drillAbort (d : Dev) : Dev := if d.red.drill.isSome then d.drillDone 3 else d

/-- R404: host software aborts a drill. -/
def execDrillAbort (t : Nat) (s : State) : Host.Outcome State Fault Refusal :=
  s.run fun d => (d.advance t).whenUp fun d => d.drillAbort

/-- Show the drill's age (R403): DUE with a record when it reaches RED.DRILL_INTERVAL. -/
def Dev.judgeDrillAge (d : Dev) : Dev :=
  let hours := d.red.drillMs / 3600000
  let d : Dev := d.set Reg.RED_DRILL_AGE.HOURS (min 65535 hours)
  let due := ((d.paramF P.RED.DRILL_INTERVAL).mul (.ofInt 3600000)).toU 64 0
  if due ≤ d.red.drillMs && !d.flag Reg.RED_DRILL_AGE.DUE then
    ((d.setB Reg.RED_DRILL_AGE.DUE true).setB Reg.RED_STATUS.DRILL_DUE true).note 0x0B 0x10 4 [d.word 0x100038]
  else d

/-- R403: the drill's age reaches RED.DRILL_INTERVAL. -/
def execDrillDue (t : Nat) (s : State) : Host.Outcome State Fault Refusal :=
  s.run fun d => (d.advance t).whenUp fun d => d.judgeDrillAge

/-! ## Reception (R382 to R385) -/

/-- The direct peer's frame keeps its link up, and ten heartbeats in a row bring it up (R381). -/
def Dev.linkHeard (d : Dev) (l : Nat) (hb : Bool) : Dev :=
  let now := d.sched.st
  let run := (d.link l).run + bit hb
  let d : Dev := d.setLink l (fun _ => ⟨some now, run⟩)
  if 10 ≤ run && !d.flag (Reg.RED_LINK.LK_STAT.UP l) then (d.showLink l true).note 0x01 0x10 l [d.word 0x100000, d.word (0x100100 + 0x20 * l)]
  else d

/-- The timing of a direct heartbeat (R385): link delay and the peer's offset. -/
def Dev.takeTiming (d : Dev) (l u : Nat) (sent : Word) (payload : List Byte) : Dev :=
  let t1 := wordAt payload (20 + 8 * d.unit)
  let t2 := wordAt payload (24 + 8 * d.unit)
  let t3 := sent
  let t4 := d.ts32
  let d : Dev := d.setPeer u (fun p => { p with sentTs := sent, rxTs := d.ts32 })
  if t1 = 0 && t2 = 0 then d
  else
    let delay := ((t4 - t1).toInt - (t3 - t2).toInt) / 2
    let theta := ((t2 - t1).toInt + (t3 - t4).toInt) / 2
    (d.set (Reg.RED_LINK.LK_DELAY.DELAY l) (BitVec.ofInt 32 delay).toNat).set (Reg.RED_PEER.PR_OFFSET.THETA u) (BitVec.ofInt 32 theta).toNat

/-- A heartbeat of a peer (R384). -/
def Dev.takeHeartbeat (d : Dev) (u : Nat) (b : List Byte) : Dev :=
  let role := byteAt b 1
  let can := byteAt b 3
  let wasRole := d.get (Reg.RED_PEER.PR_STAT.ROLE u)
  let d : Dev := (((d.set (Reg.RED_PEER.PR_STAT.ROLE u) role).setB (Reg.RED_PEER.PR_STAT.SYNC u) ((byteAt b 6).testBit 2)).set
    (Reg.RED_PEER.PR_STAT.TALLY u) (byteAt b 2)).set (Reg.RED_PEER.PR_STAT.GRADE u) can
  let d : Dev := ((d.set (Reg.RED_PEER.PR_STAT.VERDICT u) (can / 32)).set (Reg.RED_PEER.PR_MODE.MODE u) (byteAt b 4 + 256 * byteAt b 5)).set
    (Reg.RED_PEER.PR_HB_TS.TS u) d.ts32.toNat
  let d : Dev := d.set (Reg.RED_PEER.PR_SHADOW.WORD u) (wordAt b 12).toNat
  let d : Dev := d.setPeer u (fun p => { p with canary := can, mode := byteAt b 4 + 256 * byteAt b 5, links := byteAt b 6 })
  let d : Dev := if wordAt b 12 = 0 && wordAt b 16 = 0 then d else d.addWord (wordAt b 16) u (wordAt b 12)
  let d : Dev :=
    if role = 1 && (wasRole = 3 || (wasRole != 1 && d.echoedUnit == some u)) then
      { d with red := { d.red with claimUntil := some (d.sched.st + 10000000) } }
    else d
  d.drillYield.judgeRole.drillUnfit

/-- A Coruz frame arrives on link `l` (R382, R383). -/
def Dev.coruzReceived (d : Dev) (l : Nat) (bs : List Byte) : Dev :=
  let d : Dev := d.setB (Reg.RED_LINK.LK_STAT.LOCK l) true
  let len := ofLeBytes ((bs.drop 2).take 2)
  let body := bs.take (16 + len)
  let hop := (byteAt bs 1).testBit 2
  let plain := setAt body 1 ((bs.getD 1 0) &&& 0xFB)
  let ok := bs.length = 20 + len && crc32c plain = wordAt bs (16 + len)
  if !ok then (d.inc (Reg.RED_LINK.LK_RXERR.CRC l)).setLink l (fun x => { x with run := 0 })
  else
    let type := byteAt bs 0
    let u := byteAt bs 1 % 4
    let seq := wordAt bs 4
    let payload := (bs.drop 16).take len
    if 8 ≤ byteAt bs 1 || !((type = 1 && len = 48) || (type = 2 && len ≤ 8192)) then d
    else
      let d : Dev := d.incWrap (Reg.RED_LINK.LK_RXOK.COUNT l)
      let direct := !hop && u = d.get (Reg.RED_LINK.LK_STAT.PEER l)
      let d : Dev := if direct then d.linkHeard l (type == 1) else d
      let d : Dev := if !hop && d.image.red.units = 3 && d.unit != 3 then
          { d with red := { d.red with out := setAt d.red.out (1 - l) (setAt bs 1 ((bs.getD 1 0) ||| 4)) } }
        else d
      if d.image.red.units ≤ u then d.note 0x01 0x10 16 [BitVec.ofNat 32 u]
      else if u = d.unit then if type = 1 then (d.setB Reg.RED_STATUS.DUP_ID true).judgeVerdict else d
      else
        let d : Dev := if type = 1 then
            let now := d.sched.st
            (d.setPeer u (fun p => { p with heard := setAt p.heard (if hop then 2 else l) (some now) })).showPaths
          else d
        let d : Dev := if type = 1 && !hop then d.takeTiming l u (wordAt bs 8) payload else d
        if (d.peer u).seqs.contains (type, seq) then d
        else
          let d : Dev := d.setPeer u (fun p => { p with seqs := ((type, seq) :: p.seqs).take 16 })
          if type = 1 then d.takeHeartbeat u payload else d.takeMirror u seq (wordAt bs (16 + len)) (wordAt bs 8)
            (BitVec.ofNat 16 (ofLeBytes ((bs.drop 12).take 2))) payload

/-- R382: a Coruz frame is received. -/
def execCoruzFrameReceived (t l : Nat) (bs : List Byte) (s : State) : Host.Outcome State Fault Refusal :=
  s.run fun d => (d.advance t).whenUp fun d => if l < 2 then d.coruzReceived l bs else d

/-- The RED work of a major-frame boundary: the mirror leaves, a mirror that did not come is counted, paths, grade, dwell and drill
(R386, R388, R393, R400, R404). -/
def Dev.redMajor (d : Dev) : Dev :=
  let d : Dev := d.sendMirror.showPaths
  let late : Bool := match d.red.syncUnit with
    | some u => (match (d.peer u).mirrorAt with
      | some a => a + 20000000 ≤ d.sched.st
      | none => true)
    | none => false
  let d : Dev := if late then d.mirrorMissed else d
  let d : Dev := d.judgeEcho.judgeGrade
  d.judgeDwell.drillTick

/-- The RED work of a hyperframe boundary: mismatches of the hyperframe that ends (R392, R394). -/
def Dev.redHyper (d : Dev) : Dev :=
  { d with red := { d.red with
    shadowFault := d.red.shadowFault && d.param P.RED.SHADOW_PERSIST ≤ d.red.shadowHits, shadowHits := 0 } }

/-- A drill that still runs ends when M7 is left (R404). -/
def Dev.drillLeaveM7 (d : Dev) : Dev := if d.red.drill.isSome then d.drillDone 3 else d

end Sys2Proof.Machine
end

