-- ==== Sys2Proof/Machine/Out.lean ====
section
/-! DEFINITION. The thrust-command output: frame build with its clamp stage, arrest and joint frames, feedback, levers, analogue and
discrete outputs (R76, R272, R275, R353 to R376). -/
namespace Sys2Proof.Machine
open Sys2Proof

/-- A safety parameter of the sealed set (R107, R429). -/
def Dev.sealedVal (d : Dev) (i : Nat) : Nat := d.param i

/-- A safety parameter that is a binary32 value. -/
def Dev.sealedF (d : Dev) (i : Nat) : F64 := (F32.ofBits (d.sealedVal i)).to64

/-- Function `f` reacts by limit (R414). -/
def Dev.limits (d : Dev) (f : Nat) : Bool := d.flag Reg.SAFE_STATUS.SEAL_OK && d.get (Reg.SAFE_FN.FN_CFG.REACT f) = 2

/-- No frame goes to a thruster bus (R358, R378). -/
def Dev.sendsFrames (d : Dev) : Bool := d.flag Reg.SYS_MODE.STARTED && d.mode != 0 && d.unit != 3

/-! ## Demands (R358, R376) -/

/-- Limit a demand by R376: in M2 to the ends of the curve, under test so that the thrust stays within SYS.SVC_THRUST_LIMIT. -/
def Dev.limitLever (d : Dev) (r : Thruster) (x : F64) : F64 :=
  let lo := (r.curve.head?.map (fun p => p.1)).getD F64.zero
  let hi := (r.curve.getLast?.map (fun p => p.1)).getD F64.zero
  if d.mode = 2 then x.clamp lo hi
  else
    let k := r.k d.surge
    let lim := ((d.paramF P.SYS.SVC_THRUST_LIMIT).div (.ofInt 100)).mul r.tRated
    if k.le F64.zero then x
    else x.clamp (r.demandFor (lim.div k).neg) (r.demandFor (lim.div k))

/-- What the build works out for one thruster before it makes a frame: kind, demand, azimuth, rate, flags of byte 3, inputs, time of
validity, whether the clamp altered it, and the lever's demand passed on after limiting (R376). -/
structure Command where
  kind : Nat
  dem : F32
  az : Word
  rate : F32
  flags : Nat
  ins : List Packet
  tov : Int
  clamped : Bool
  lever : Option F32
deriving DecidableEq, Repr, Inhabited

/-- The kind of frame for a thruster (R358); its availability is that of the last sampling (R251). -/
def Dev.frameKind (d : Dev) (i : Nat) : Nat :=
  if d.mode = 7 then if (d.out.lever.getD i default).2.2 then 2 else 1
  else if d.mode = 1 || !d.flag (Reg.ALLOC_THR.THR_CFG.AVAIL i) then 1
  else 0

/-- The zero-hold command (R358). -/
def Dev.zeroHold (d : Dev) (i : Nat) (rel : Nat) : Command :=
  let az := match d.feedback i with
    | some p => fbAzimuth p
    | none => 0
  ⟨1, F32.zero, az, F32.zero, 2, [], rel, false, none⟩

/-- The biquad channel that is a thruster's loop. -/
def Dev.loopChan (d : Dev) (i : Nat) : Option Nat := (d.image.out.thr.getD i none).bind fun o => o.chan

/-- The allocation rules the thrusters (R358). -/
def Dev.allocRules (d : Dev) : Bool := 3 ≤ d.mode && d.mode ≤ 6

/-- The packets a live command is made from, as its task sees them: the loop's output, input 0, and the allocation, input 1. -/
def Dev.commandInputs (d v : Dev) (i : Nat) (fault : ChainFault) : Option Packet × Option Packet × Dev :=
  let (l, d) : Option Packet × Dev := match v.loopChan i with
    | some c => d.takeInput v .commandBuild 82 fault 0 0x30 c
    | none => (none, d)
  if v.allocRules then
    let (a, d) := d.takeInput v .commandBuild 82 fault 1 0x21 0
    (l, a, d)
  else (l, none, d)

/-- An input of a thruster's command whose check does not hold, with the check recomputed (R125). -/
def Dev.badCommandInput (v : Dev) (i : Nat) (fault : ChainFault) : Option (Packet × Word) :=
  let ins := [(0, (v.loopChan i).bind (v.output 0x30)), (1, if v.allocRules then v.output 0x21 0 else none)]
  ins.findSome? fun e => e.2.bind fun p => if fault.got e.1 p = p.tag.check then none else some (p, fault.got e.1 p)

/-- The live command of a thruster before the clamp (R358), from what its task sees; none where its loop's output or its allocated azimuth
is absent (log 79). -/
def Dev.liveCommand (d v : Dev) (i kind : Nat) (r : Thruster) (l a : Option Packet) : Option Command :=
  let lever := v.out.lever.getD i default
  let raw : Option F64 := match l, a with
    | some p, _ => some (f32At p.payload 0)
    | none, some q => if (v.loopChan i).isNone then some (f32At q.payload (3 * i + 2)) else none
    | none, none => if (v.loopChan i).isNone && v.leversRule then some (F32.mk lever.1).to64 else none
  let az : Option Word := match r.type, a with
    | .tunnel, _ => some ninety
    | .azimuth, some q => some (q.payload.getD (3 * i + 1) 0)
    | .azimuth, none => if v.leversRule then some lever.2.1 else none
  match raw, az with
  | some x, some az =>
    let stopped := v.mode = 7 && (d.flag Reg.SAFE_STATUS.STOP || d.flag Reg.SAFE_STATUS.INHIBIT)
    let x := if stopped then F64.zero else if v.leversRule then v.limitLever r x else x
    let hold : Nat := match r.type with
      | .tunnel => 2
      | .azimuth => 0
    let ins := [l, a].filterMap id
    let f := flagsOf ins
    let bits := 4 * bit (f.getLsbD 0) + 8 * bit (f.getLsbD 1)
    let tov : Int := match l with
      | some p => p.tovNs
      | none => (a.map Packet.tovNs).getD v.sched.st
    some ⟨kind, x.to32, az, r.azRate, hold + bits, ins, tov, false, if v.leversRule then some x.to32 else none⟩
  | _, _ => none

/-- Zero a command and hold its azimuth. -/
def Command.zero (c : Command) (flag : Nat) : Command := { c with dem := F32.zero, flags := c.flags ||| 2 ||| flag }

/-- The rate limit that the clamp of function 1 sets for a thruster, if it is in force (R415). -/
def Dev.rateClamp (d : Dev) (i : Nat) : Option F32 :=
  if d.flag Reg.SAFE_CLAMP.AZ_RATE then some (F32.ofBits (d.sealedVal (P.SAFE.AZ_RATE i))) else none

/-- The clamp stage must alter a command (R126, R415). -/
def Dev.mustClamp (d : Dev) (i : Nat) (r : Thruster) : Bool :=
  d.bitAt Reg.SAFE_CLAMP.THR_ZERO i || (match d.rateClamp i with
    | some m => m.lt r.azRate
    | none => false)

/-- The clamp stage (R27, R415). -/
def Dev.clampCommand (d : Dev) (i : Nat) (c : Command) : Command :=
  let c : Command := match d.rateClamp i with
    | some m => if m.lt c.rate then { c with rate := m, flags := c.flags ||| 16, clamped := true } else c
    | none => c
  if d.bitAt Reg.SAFE_CLAMP.THR_ZERO i then { (c.zero 16) with clamped := true } else c

/-- The stop mask overrides the allocation (R358). -/
def Dev.arrestCommand (d : Dev) (i : Nat) (c : Command) : Command :=
  if d.bitAt Reg.ALLOC_ARREST.MASK i then c.zero 32 else c

/-- The effective age limit in ns (R76). -/
def Dev.ageLimit (d : Dev) : Nat :=
  max (nsOfMs (d.paramF P.SCHED.AGE_LIMIT)) (((d.image.paths.filter (fun p => p.thrust)).map (fun p => p.maxAge + 10000000)).foldl max 0)

/-- A frame is withheld (R359): counted and marked. -/
def Dev.withhold (d : Dev) (i : Nat) : Dev := (d.inc (Reg.OUT_THR.TH_CNT.WITHHELD i)).setB Reg.OUT_STATUS.WITHHELD_STICKY true

/-- The bytes of a command frame before its check (R353). -/
def commandBytes (c : Command) (i tally alive : Nat) : List Byte :=
  leBytes 4 (i + 16 * c.kind + 256 * tally + 65536 * alive + 16777216 * c.flags) ++ leBytes 4 c.dem.framed.toNat
    ++ leBytes 4 c.az.toNat ++ leBytes 4 c.rate.framed.toNat ++ leBytes 4 (ts32Of c.tov).toNat

/-- Show the last frame built (R374). -/
def Dev.showLast (d : Dev) (i tally alive : Nat) (c : Command) : Dev :=
  ((((d.set (Reg.OUT_THR.TH_LAST.KIND i) c.kind).set (Reg.OUT_THR.TH_LAST.ALIVE i) alive).set
    (Reg.OUT_THR.TH_LAST.FLAGS i) c.flags).set (Reg.OUT_THR.TH_LAST.TALLY i) tally).set (Reg.OUT_THR.TH_TOV.TS i) (ts32Of c.tov).toNat

/-- Fill, seal, verify and hand over one command frame (R359 steps 4 and 5). -/
def Dev.sendCommand (d v : Dev) (i tally : Nat) (c : Command) (fault : ChainFault) : Dev := d.about c.tov fun d =>
  let id := 0x100 + 0x10 * d.unit + i
  let alive := d.frameAlive id
  let c := { c with flags := c.flags + bit (d.flag (Reg.OUT_THR.TH_CFG.PITCH i)) + 64 * bit (!v.flag Reg.SYS_MODE.IN_COMMAND) }
  let data := frameOf (commandBytes c i tally alive) id
  let own : BitVec 8 := if c.clamped then 0x20 else 0
  match fault, d.emitExit .commandBuild 82 0x31 i own c.tov c.ins (packWords data) fault with
  | .exit _, (none, d) => (d.showLast i tally alive c).withhold i
  | _, (none, d) => d
  | _, (some _, d) =>
    let now := d.sched.st
    let d : Dev := d.showLast i tally alive c
    if d.framesOff then d
    else
      ((d.handFrame (d.get (Reg.OUT_THR.TH_CFG.BUS i)) id data).noteHanded id alive).setThr i (fun e => { e with
        tally := tally
        since := if tally = 0 then none else some (e.since.getD now)
        dem := c.dem.framed
        az := c.az })

/-- Show a lever's demand as it is passed on to the frame build (R376). -/
def Dev.showLever (d : Dev) (i : Nat) (c : Command) : Dev :=
  match c.lever with
  | some x => d.setF (Reg.OUT_LEVER.LV_LIMIT.LIMITED i) x
  | none => d

/-- Build the frame of one thruster (R358, R359): whether it was withheld for its age, and the device after. -/
def Dev.buildOne (d v : Dev) (i tally : Nat) (r : Thruster) (fault : ChainFault) : Bool × Dev :=
  let kind := v.frameKind i
  if kind = 1 then (false, d.sendCommand v i tally (d.arrestCommand i (v.zeroHold i v.sched.st)) fault)
  else
    match d.mustClamp i r, v.badCommandInput i fault with
    | true, some (p, got) => (false, (d.chainBreak 3 82 (d.taskNumber .commandBuild) p p.tag.check got).withhold i)
    | _, _ =>
      let (l, a, d) := d.commandInputs v i fault
      match d.liveCommand v i kind r l a with
      | none => (false, d)
      | some c =>
        let d : Dev := d.showLever i c
        let c := d.arrestCommand i (d.clampCommand i c)
        let age := (d.sched.st : Int) - c.tov
        if (d.ageLimit : Int) < age then (true, d.withhold i) else (false, d.sendCommand v i tally c fault)

/-- Show the tally of a build, with a record where it changes (R29, R436). -/
def Dev.showTally (d : Dev) (tally : Nat) : Dev :=
  let before := d.get Reg.RED_STATUS.TALLY
  let d : Dev := (d.set Reg.OUT_STATUS.TALLY tally).set Reg.RED_STATUS.TALLY tally
  if before = tally then d
  else d.note 0x03 0x10 0 [d.word 0x100000, d.word 0x100010, BitVec.ofNat 32 (before + 256 * tally)]

/-- The frame build (R358, R359), from what its task sees, with the tally of its release: `thr` is the thruster whose frame the fault
concerns. -/
def Dev.commandBuild (d v : Dev) (thr : Nat) (fault : ChainFault) : Dev :=
  let tally := v.tallyNow
  let d : Dev := d.showTally tally
  if !v.sendsFrames then d
  else
    let (late, d) := d.thrusters.foldl (fun (acc : Bool × Dev) i => match acc.2.thruster i with
      | none => acc
      | some r =>
        let (w, d) := acc.2.buildOne v i tally r (if i = thr then fault else .none)
        (acc.1 || w, d)) (false, d)
    if late then (d.setB Reg.SCHED_STATUS.AGE_WITHHELD true).fenceHit (d.taskNumber .commandBuild) 3 82 d.ts32 else d

/-- R359: the frame build completes; `sofs` are the starts of frames up to now. -/
def execThrustCommandBuild (t thr : Nat) (fault : ChainFault) (sofs : List TxSof) (s : State) : Host.Outcome State Fault Refusal :=
  s.run fun d => (d.advance t).whenUp fun d => ((d.noteSofs sofs).runOf .commandBuild 0 fun v d => d.commandBuild v thr fault).finishCut

/-! ## Arrest frames (R272, R356) -/

/-- The stop mask for the arrest frame of a detection at a position (R71, R271): as the arrest allocation sealed it, input 0; where it
sealed none and its substitute is Hold, the entry of the arrest table in force, input 1. Sector, mask and the input. -/
def Dev.arrestStop (d v : Dev) (pos : Vec) (fault : ChainFault) : Option (Nat × Nat × Packet) × Dev :=
  match d.takeInput v .arrestBuild 82 fault 0 0x23 1 with
  | (some q, d) => (some ((q.payload.getD 0 0).toNat, (q.payload.getD 1 0).toNat, q), d)
  | (none, d) =>
    match v.alloc.plan with
    | some p =>
      if d.substOf 0x23 1 != 0 then (none, d)
      else
        let (w, d) := d.takeOf .arrestBuild 82 fault 1 0x23 0 p.arrests (v.alloc.before.map PlanSet.arrests)
        let sec := (v.arrestEntry pos).1
        (w.map fun w => (sec, (w.payload.getD sec 0).toNat, w), d)
    | none => (none, d)

/-- The arrest frame of a changed stop mask (R272). -/
def Dev.arrestBuild (d v : Dev) (fault : ChainFault) : Dev :=
  match v.alloc.detected with
  | none => d
  | some (pos, tov) => d.about tov fun d =>
    match d.arrestStop v pos fault with
    | (none, d) => d
    | (some (sec, mask, q), d) =>
      if mask = 0 || d.alloc.lastMask = some mask || !v.sendsFrames || d.tallyNow = 0 then d
      else
        let (ok, d) := d.sendArrest sec mask tov [q] fault
        if !ok then d
        else
          let d : Dev := { d with alloc := { d.alloc with lastMask := some mask, arrested := d.alloc.arrested ||| mask } }
          let d : Dev := ((d.set Reg.ALLOC_ARREST.STATE 2).set Reg.ALLOC_ARREST.MASK d.alloc.arrested).set Reg.ALLOC_ARREST.SECTOR sec
          let d : Dev := (d.setB Reg.ALLOC_STATUS.ARREST true).setB Reg.ALLOC_STATUS.ARREST_STICKY true
          d.note 0x01 0x0B 3 [BitVec.ofNat 32 sec, BitVec.ofNat 32 mask, (pos.at 0).to32.framed, (pos.at 1).to32.framed]

/-- R272: the arrest-frame build completes; `sofs` are the starts of frames up to now. -/
def execArrestFrameBuild (t : Nat) (fault : ChainFault) (sofs : List TxSof) (s : State) : Host.Outcome State Fault Refusal :=
  s.run fun d => (d.advance t).whenUp fun d => (d.noteSofs sofs).runOf .arrestBuild 0 fun v d => d.arrestBuild v fault

/-! ## Joint-command frames (R275, R276) -/

/-- Time of validity and position of a joint as its latest datum gives it. -/
def Dev.jointNow (d : Dev) (j : Nat) : Int × F64 := match (d.jointAt j).head? with
  | some v => (v.1, v.2.1)
  | none => (d.sched.st, F64.zero)

/-- The position clamp acts on a joint's frame of kind 0 (R415). -/
def Dev.jointStill (d : Dev) (j kind : Nat) : Bool := d.bitAt Reg.SAFE_CLAMP.JOINT_HOLD j && kind = 0

/-- The speed limit that the clamp stage sets for a joint, where it is below the joint's own (R415). -/
def Dev.jointSlow (d : Dev) (j : Nat) (x : Joint) : Option F32 :=
  let lim := F32.ofBits (d.sealedVal (P.SAFE.JOINT_SPEED j))
  if d.limits 2 && lim.lt x.rate then some lim else none

/-- The joint-command frame of joint `j` by its kind (R275): set-points of the allocation `a`, or of the latest joint state. -/
def Dev.jointFrame (d v : Dev) (j kind : Nat) (x : Joint) (ctrls : List Nat) (a : Option Packet) (fault : ChainFault) : Dev :=
  let id := (d.image.out.jointIds.getD j []).getD d.unit 0
  let tally := v.tallyNow
  let alive := d.frameAlive id
  let still := d.jointStill j kind
  let kind := if still then 1 else kind
  let (tov, sp, ins) : Int × F64 × List Packet := match kind, a with
    | 0, some p => (p.tovNs, v.alloc.joints.at j, [p])
    | _, _ => ((v.jointNow j).1, (v.jointNow j).2, (v.entry.slots.getD (44 + j) none).toList)
  let rate := (d.jointSlow j x).getD x.rate
  let active := v.coupled && !v.flag Reg.ALLOC_STATUS.COUPLE_HELD
  let bs := leBytes 4 (j + 16 * kind + 256 * tally + 65536 * alive + 16777216 * bit active) ++ leBytes 4 sp.to32.framed.toNat
    ++ leBytes 4 rate.framed.toNat ++ leBytes 4 0 ++ leBytes 4 (ts32Of tov).toNat
  let data := frameOf bs id
  let own : BitVec 8 := if still || (d.jointSlow j x).isSome then 0x20 else 0
  match d.emitExit .jointBuild 82 0x31 (16 + j) own tov ins (packWords data) fault with
  | (none, d) => d.frameWithheld fault
  | (some _, d) => (ctrls.foldl (fun d c => d.handFrame c id data) d).noteHanded id alive

/-- The unit sends joint-command frames: while coupled transfer is active, and for the hand-back (R275, R276). -/
def Dev.sendsJoints (d : Dev) : Bool :=
  d.image.alloc.chain.isSome && d.sendsFrames && (d.coupled || d.alloc.handback != 0)

/-- The joint-command frames of a major frame: set-points while coupled, held while suspended, then the hand-back (R275, R276). Input 0 is
the allocation, inputs from 1 the joints' data; a clamp that must alter a set-point whose input fails withholds the frames (R126). A
disagreement of the datapaths and a failed exit verification concern joint 0. -/
def Dev.jointSend (d v : Dev) (fault : ChainFault) : Dev :=
  match v.image.alloc.chain with
  | none => d
  | some c =>
    if !v.sendsJoints then d
    else
      let live := v.coupled
      let kind := if !live then 2 else if v.flag Reg.ALLOC_STATUS.COUPLE_HELD then 1 else 0
      let joints := (List.range c.joints.length).zip c.joints
      let clamps := joints.any fun e => d.jointStill e.1 kind || (d.jointSlow e.1 e.2).isSome
      let n := if live then d.alloc.handback else d.alloc.handback - 1
      let d : Dev := { d with alloc := { d.alloc with handback := n } }.setB Reg.ALLOC_STATUS.HANDBACK (!live && n != 0)
      let bad := if kind = 0 then (v.output 0x21 0).filter fun p => fault.got 0 p != p.tag.check else none
      match clamps, bad with
      | true, some p => (d.chainBreak 3 82 (d.taskNumber .jointBuild) p p.tag.check (fault.got 0 p)).setB Reg.OUT_STATUS.WITHHELD_STICKY true
      | _, _ =>
        let (v, d) := d.takeSlots v .jointBuild 82 fault (joints.map fun e => (1 + e.1, 44 + e.1))
        let (a, d) := if kind = 0 then d.takeInput v .jointBuild 82 fault 0 0x21 0 else (none, d)
        if kind = 0 && a.isNone then d
        else joints.foldl (fun d e => d.jointFrame v e.1 kind e.2 c.ctrls a (if e.1 = 0 then fault else .none)) d

/-- R275: the unit sends its joint-command frames; `sofs` are the starts of frames up to now. -/
def execJointCommandSend (t : Nat) (fault : ChainFault) (sofs : List TxSof) (s : State) : Host.Outcome State Fault Refusal :=
  s.run fun d => (d.advance t).whenUp fun d => (d.noteSofs sofs).runOf .jointBuild 0 fun v d => d.jointSend v fault

/-! ## Feedback (R357, R366, R367) -/

/-- Azimuth rate from consecutive feedback frames (R408), for the safety function. -/
def Dev.noteAzimuth (d : Dev) (i sof : Nat) (az : Word) : Dev :=
  let rate : F64 := match d.safe.azLast.getD i none with
    | some (t, a, _) => if (sof : Int) = t then F64.zero
      else (bamToDeg (az - a)).abs.div (F64.ofRatio ((sof : Int) - t) 1000000000)
    | none => F64.zero
  { d with safe := { d.safe with azLast := setAt d.safe.azLast i (some (sof, az, rate)) } }

/-- What a load test sees in a feedback frame (R428): the drive trips while its pair is open, and is ready within 1 s after. -/
def Dev.noteLoad (d : Dev) (i : Nat) (ready fault : Bool) : Dev :=
  match d.safe.load with
  | none => d
  | some l =>
    let age := d.sched.st - l.start
    let mark (k n : Nat) (m : List Nat) (on : Bool) : List Nat :=
      if on && (d.sealedVal (P.SAFE.OUT_THRMASK n)).testBit i then setAt m k (m.getD k 0 ||| 2 ^ i) else m
    let step (l : LoadTest) (e : Nat × Nat) : LoadTest :=
      let o := 100000000 * e.1
      { l with trip := mark e.1 e.2 l.trip (o ≤ age && age < o + 100000000 && (!ready || fault))
               back := mark e.1 e.2 l.back (ready && (d.safe.outs.getD e.2 default).onSince.any fun b =>
                 l.start + o + 100000000 ≤ b && b ≤ d.sched.st && d.sched.st ≤ b + 1000000000) }
    { d with safe := { d.safe with load := some (((List.range l.pairs.length).zip l.pairs).foldl step l) } }

/-- A valid feedback frame of thruster `i` has been sealed (R366, R367, R396). -/
def Dev.takeFeedback (d : Dev) (i sof : Nat) (bs : List Byte) : Dev :=
  let tally := byteAt bs 1
  let alive := byteAt bs 2
  let status := byteAt bs 4 + 256 * byteAt bs 5
  let now := d.sched.st
  let d : Dev := ((d.set (Reg.OUT_THR.TH_ECHO.TALLY i) tally).set (Reg.OUT_THR.TH_ECHO.ALIVE i) alive).set (Reg.OUT_THR.TH_ECHO.STATUS i) status
  let d : Dev := d.set (Reg.OUT_THR.TH_ECHO_TS.TS i) (ts32Of sof).toNat
  let wrong := d.echoMismatch i tally alive (wordAt bs 16) (status.testBit 2 || status.testBit 4)
  let d : Dev := d.setThr i (fun e => { e with fbAt := some now, episode := false, echo := some (tally, sof, !wrong) })
  let d : Dev :=
    if wrong then
      let d : Dev := { d with red := { d.red with echoBad := some (now / 100000000) } }
      ((d.inc (Reg.OUT_THR.TH_ECHOERR.MISMATCH i)).setB Reg.OUT_STATUS.ECHO_STICKY true).raiseSub 74 i
        [0xF0000, 0xF010C + 0x20 * i, 0xF0110 + 0x20 * i]
    else d
  let d : Dev := d.noteAzimuth i sof (wordAt bs 12)
  let d : Dev := d.noteLoad i (status.testBit 0) (status.testBit 6)
  let d : Dev := if status.testBit 3 then { d with red := { d.red with drill := d.red.drill.map (fun r =>
      if r.step = 3 then { r with arrested := r.arrested ||| 2 ^ i } else r) } } else d
  d.judgeEcho

/-- R367: no valid feedback within OUT.FB_TIMEOUT while frames with a tally other than 0 are sent. -/
def Dev.feedbackLate (d : Dev) (i : Nat) : Dev :=
  let e := d.thr i
  match e.since with
  | none => d
  | some a =>
    let opened := max a (e.fbAt.getD 0)
    if !e.episode && opened + nsOfMs (d.paramF P.OUT.FB_TIMEOUT) ≤ d.sched.st then
      ((d.setThr i (fun e => { e with episode := true })).inc (Reg.OUT_THR.TH_CNT.FBTO i)).setB Reg.OUT_STATUS.FBTO_STICKY true
        |>.raiseSub 75 i [0xF0000, 0xF010C + 0x20 * i, 0xF0110 + 0x20 * i]
    else d

/-- R367: a thruster's feedback is late. -/
def execFeedbackTimeout (t i : Nat) (s : State) : Host.Outcome State Fault Refusal :=
  s.run fun d => (d.advance t).whenUp fun d => if i < 16 then d.feedbackLate i else d

/-! ## Analogue and discrete outputs (R368 to R370) -/

/-- The command-owner line is high (R369); step 5 of a drill raises it (R404). -/
def Dev.ownerHigh (d : Dev) : Bool :=
  (d.flag Reg.SYS_MODE.IN_COMMAND && 2 ≤ d.mode && d.mode ≤ 6) || (match d.red.drill with
    | some r => r.step == 4
    | none => false)

/-- The analogue outputs carry computed values (R369). -/
def Dev.aoLive (d : Dev) : Bool :=
  2 ≤ d.mode && d.mode ≤ 6 && (d.image.out.owner.isNone || d.flag Reg.SYS_MODE.IN_COMMAND)

/-- The range of an output's mode. -/
def aoRange (m : Nat) : F64 × F64 :=
  if m = 0 then (.ofInt (-10), .ofInt 10) else if m = 1 then (F64.zero, .ofInt 20) else (.ofInt 4, .ofInt 20)

/-- Judge an output's readback (R369): a difference of more than 2 % of full scale from the value written, or an open loop in a current
mode. An output whose lamp check failed keeps its error (R489). -/
def Dev.aoJudge (d : Dev) (n : Nat) (im : AoImage) (b : AoBack) : Dev :=
  let full := (aoRange im.mode).2
  let want := d.xfF (Reg.OUT_AO.AO_VAL.VALUE n)
  let err := (full.mul (.ofRatio 2 100)).lt ((b.level.to64.sub want).abs) || d.bist.aoutFail.getLsbD n
  let opn := b.isOpen && im.mode != 0
  let fresh := (err && !d.flag (Reg.OUT_AO.AO_STAT.READBACK_ERR n)) || (opn && !d.flag (Reg.OUT_AO.AO_STAT.OPEN_LOAD n))
  let d : Dev := (d.setB (Reg.OUT_AO.AO_STAT.READBACK_ERR n) err).setB (Reg.OUT_AO.AO_STAT.OPEN_LOAD n) opn
  if fresh then d.note 0x01 0x0F n [d.word (0xF0404 + 0x10 * n), d.word (0xF040C + 0x10 * n)] else d

/-- Write a value to an output: its 16-bit code stands at the ball (R368). -/
def Dev.aoPut (d : Dev) (n mode : Nat) (v : F32) (tov : Int) (hold : Bool) : Dev :=
  let d : Dev := ((d.setF (Reg.OUT_AO.AO_VAL.VALUE n) v).set (Reg.OUT_AO.AO_TOV.TS n) (ts32Of tov).toNat).setB (Reg.OUT_AO.AO_STAT.HELD n) hold
  { d with out := { d.out with aoBall := setAt d.out.aoBall n (some (Config.aoCode mode v)) } }

/-- The outputs are unpowered and stand at 0 V or 0 mA (R369). -/
def Dev.aoOff (d : Dev) : Dev := { d with out := { d.out with aoBall := List.replicate 8 none } }

/-- Write one analogue output (R368, R369): the test value in a drill, the computed value from input 0, or the safe value. -/
def Dev.aoWrite (d v : Dev) (n : Nat) (im : AoImage) (fault : ChainFault) : Dev :=
  let drill : Bool := match d.red.drill with
    | some r => r.step == 4
    | none => false
  if drill then d.aoPut n im.mode (Config.aoTest n) d.sched.st false
  else if !v.aoLive then d.aoPut n im.mode (d.paramF32 (P.OUT.AO_SAFE n)) d.sched.st true
  else
    match d.fetch v .analogue 82 fault 0 false im.bind with
    | (none, d) => d
    | (some b, d) => d.about b.pkt.tovNs fun d =>
      let (lo, hi) := aoRange im.mode
      let x := (((b.val.mul im.scale).add im.offset).clamp lo hi).to32
      let (p, d) := d.emitExit .analogue 82 0x34 n 0 b.pkt.tovNs [b.pkt] [x.bits] fault
      if p.isNone then d else d.aoPut n im.mode x b.pkt.tovNs false

/-- The analogue-output slot (R368): every output is written, then read back. `n` is the output that the fault concerns. -/
def Dev.analogueRun (d v : Dev) (n : Nat) (fault : ChainFault) (back : List AoBack) : Dev :=
  if !v.flag Reg.SYS_MODE.STARTED then d
  else
    let d : Dev := ((List.range 8).zip d.image.out.ao).foldl (fun d e => match e.2 with
      | none => d
      | some im =>
        let d : Dev := d.aoWrite v e.1 im (if e.1 = n then fault else .none)
        match back[e.1]? with
        | some b => d.aoJudge e.1 im b
        | none => d) d
    let good := (List.range 8).all fun k => !d.flag (Reg.OUT_AO.AO_STAT.READBACK_ERR k) && !d.flag (Reg.OUT_AO.AO_STAT.OPEN_LOAD k)
    { d with red := { d.red with drill := d.red.drill.map (fun r => if r.step = 4 then { r with analogueOk := good } else r) } }

/-- R368: the analogue outputs are written. -/
def execAnalogueOutputWrite (t n : Nat) (fault : ChainFault) (back : List AoBack) (s : State) : Host.Outcome State Fault Refusal :=
  s.run fun d => (d.advance t).whenUp fun d => d.runOf .analogue 0 fun v d => d.analogueRun v n fault back

/-- The discrete lines at a minor-frame boundary (R370): inputs sampled and sealed where bound, outputs applied, the owner line driven.
`levels` is what the 100 µs filters hold (log 89). -/
def Dev.gpioMinor (d : Dev) (levels : Nat) : Dev :=
  let im := d.image.out
  let d : Dev := d.set Reg.OUT_GPIO_IN.IN levels
  let host := d.get Reg.OUT_GPIO_OUT.OUT &&& (0xFFFFFF ^^^ im.gpioBound)
  let owner := match im.owner with
    | some p => if d.ownerHigh then 2 ^ p else 0
    | none => 0
  let d : Dev := { d with out := { d.out with gpio := (host ||| owner) &&& im.gpioDir } }
  if d.running then
    im.gpioIn.foldl (fun d e =>
      let v : F64 := if levels.testBit e.1 then F64.one else F64.zero
      d.sealSlot e.2.1 85 e.2.2 0 0 ((d.sched.st : Int) - d.paramThen (P.ENTRY.SLOT_LAT e.2.1) d.sched.st) [v.to32.bits]) d
  else d

/-! ## Levers and modes (R47, R376) -/

/-- The levers of the last major frame take effect (R376), and where they rule so do the trace nodes bound to them (R334). -/
def Dev.leverMajor (d : Dev) : Dev :=
  let d : Dev := { d with out := { d.out with lever := (List.range 16).map fun i =>
    (d.word (0xF0600 + 0x10 * i), d.word (0xF0604 + 0x10 * i), d.flag (Reg.OUT_LEVER.LV_CTRL.TEST_EN i)) } }
  if !d.leversRule then d
  else d.traceBound fun b => match b with
    | .demand t => some (F32.mk (d.out.lever.getD t default).1).to64
    | .azimuth t => some (bamToDeg (d.out.lever.getD t default).2.1)
    | _ => none

/-- Entry into M2 (R47): every lever takes the last commanded demand and azimuth. -/
def Dev.leverFromLast (d : Dev) : Dev :=
  (d.thrusters.foldl (fun d i =>
    (d.set (Reg.OUT_LEVER.LV_DEM.DEM i) (d.thr i).dem.toNat).set (Reg.OUT_LEVER.LV_AZ.AZ i) (d.thr i).az.toNat) d).leverMajor

/-- Leaving M7 (R376): TEST_EN clears. -/
def Dev.outLeaveM7 (d : Dev) : Dev :=
  ((List.range 16).foldl (fun d i => d.setB (Reg.OUT_LEVER.LV_CTRL.TEST_EN i) false) d).leverMajor

/-- The generalised force that the last commands in M2 produce (R46). -/
def Dev.leverForce (d : Dev) : Vec :=
  d.totalForce fun i => match d.thruster i with
    | some r =>
      let f := (r.k d.surge).mul (r.thrustAt (F32.mk (d.thr i).dem).to64)
      Vec.scale f (dirOf (match r.type with
        | .tunnel => ninety
        | .azimuth => (d.thr i).az))
    | none => [F64.zero, F64.zero]

/-- The registers of CAN, OUT and RED that the image fixes (R372, R374, R375). -/
def Dev.loadOut (d : Dev) : Dev :=
  let im := d.image.out
  let d : Dev := ((List.range im.can.length).zip im.can).foldl (fun d (c, x) =>
    let d : Dev := ((d.set (Reg.CAN_CH.CH_CFG.NBR c) x.nbr).set (Reg.CAN_CH.CH_CFG.DBR c) x.dbr).setB (Reg.CAN_CH.CH_CFG.ONESHOT c) x.oneshot
    let d : Dev := ((d.set (Reg.CAN_CH.CH_CFG.WAKE c) x.wake).set (Reg.CAN_CH.CH_CFG.MIRROR c) (x.mirror.getD 7)).setB (Reg.CAN_CH.CH_CFG.PROTO c) x.proto
    d.setB (Reg.CAN_CH.CH_CFG.AUTO_REC c) (d.paramB (P.CAN.AUTO_REC c))) d
  let d : Dev := ((List.range im.thr.length).zip im.thr).foldl (fun d (i, x) => match x with
    | some o => ((d.set (Reg.OUT_THR.TH_CFG.BUS i) o.bus).setB (Reg.OUT_THR.TH_CFG.PITCH i) o.pitch).setB (Reg.OUT_THR.TH_CFG.PRESENT i) true
    | none => d) d
  let d : Dev := ((List.range im.ao.length).zip im.ao).foldl (fun d (n, x) => match x with
    | some a => ((d.setB (Reg.OUT_AO.AO_CFG.EN n) true).set (Reg.OUT_AO.AO_CFG.MODE n) a.mode).set (Reg.OUT_AO.AO_CFG.SRC n) a.src
    | none => d) d
  d.set Reg.OUT_GPIO_DIR.DIR im.gpioDir

end Sys2Proof.Machine
end

