-- ==== Sys2Proof/Machine/Entry.lean ====
section
/-! DEFINITION. Sensor entry: serial sentences and frames, IEC 61162-450 datagrams, CAN frames, extraction into slots, and the slots'
timeouts (R137 to R151, R351, R357). -/
namespace Sys2Proof.Machine
open Sys2Proof

/-! ## Latencies (R139, R140) -/

/-- The time of validity of what arrived at `tArr` from a source with the latency parameter `src`, while it has no slot. -/
def Dev.sourceTov (d : Dev) (tArr src : Nat) : Int := (tArr : Int) - d.paramThen src tArr

/-- The time of validity of a datum for `slot` that arrived at `tArr` from a source with the latency parameter `src` (R139). -/
def Dev.entryTov (d : Dev) (tArr src slot : Nat) : Int := d.sourceTov tArr src - d.paramThen (P.ENTRY.SLOT_LAT slot) tArr

/-! ## The sentence layer (R142) -/

/-- A character's value as a decimal digit. -/
def digit (b : Byte) : Option Nat := if 0x30 ≤ b.toNat && b.toNat ≤ 0x39 then some (b.toNat - 0x30) else none

/-- A character's value as a hexadecimal digit. -/
def hexDigit (b : Byte) : Option Nat :=
  let n := b.toNat
  if 0x30 ≤ n && n ≤ 0x39 then some (n - 0x30) else if 0x41 ≤ n && n ≤ 0x46 then some (n - 55)
  else if 0x61 ≤ n && n ≤ 0x66 then some (n - 87) else none

/-- The number that digits spell in a base; none for an empty or a foreign string. -/
def digitsOf (base : Nat) (f : Byte → Option Nat) (l : List Byte) : Option Nat :=
  if l.isEmpty then none
  else l.foldl (fun a b => match a, f b with
    | some n, some x => some (n * base + x)
    | _, _ => none) (some 0)

/-- Cut a list at each occurrence of a byte. -/
def cutAt (c : Byte) : List Byte → List (List Byte)
  | [] => [[]]
  | b :: bs =>
    match cutAt c bs with
    | [] => [[b]]
    | x :: xs => if b = c then [] :: x :: xs else (b :: x) :: xs

/-- XOR of characters. -/
def xorOf (l : List Byte) : Byte := l.foldl (· ^^^ ·) 0

/-- Text and its checksum: what stands before "*", and whether the two hexadecimal digits behind it hold the XOR; none without a checksum of
this form at the end. DESIGN CHOICE (log 167): a digit may be in either case, and a tag block without such a checksum is a format error. -/
def checkedText (l : List Byte) : Option (List Byte × Bool) :=
  let n := l.length
  if n < 3 then none
  else
    let body := l.take (n - 3)
    match l.drop (n - 3) with
    | [star, h, g] =>
      if star != 0x2A then none
      else match digitsOf 16 hexDigit [h, g] with
        | some v => some (body, xorOf body == BitVec.ofNat 8 v)
        | none => none
    | _ => none

/-- A sentence as parsed: the "s:" value of its tag block, the address field and the data fields. -/
structure Sentence where
  source : List Byte
  address : List Byte
  fields : List (List Byte)
  sum : Byte
deriving DecidableEq, Repr, Inhabited

/-- The outcome of the sentence layer: a sentence, a format error or a checksum error. -/
inductive Parsed where
  | good (x : Sentence)
  | format
  | check
deriving DecidableEq, Repr, Inhabited

/-- An address field of R142: two talker and three formatter characters, or P with a proprietary code. -/
def addressOk (a : List Byte) : Bool := a.length == 5 || (a.head? == some 0x50 && 2 ≤ a.length)

/-- The value of the "s:" parameter of a tag block. -/
def tagSource (l : List Byte) : List Byte :=
  match (cutAt 0x2C l).find? (fun p => p.take 2 == [0x73, 0x3A]) with
  | some p => p.drop 2
  | none => []

/-- A sentence from its start character to LF, with the "s:" value of its tag block (R142). -/
def parseBare (source : List Byte) (tagOk : Bool) (l : List Byte) : Parsed :=
  let n := l.length
  let core := (l.take (n - 2)).drop 1
  let start := l.head?
  if n < 3 || 82 < n || (start != some 0x24 && start != some 0x21) || l.drop (n - 2) != [0x0D, 0x0A]
      || core.any (fun b => b.toNat < 0x20 || 0x7E < b.toNat) then .format
  else match checkedText core with
    | none => .format
    | some (body, ok) =>
      let fields := cutAt 0x2C body
      let a := fields.headD []
      if !addressOk a then .format else if !ok || !tagOk then .check else .good ⟨source, a, fields, xorOf body⟩

/-- A sentence with the tag block that may precede it (R142). -/
def parseSentence (l : List Byte) : Parsed :=
  match l with
  | 0x5C :: rest =>
    let block := rest.takeWhile (· != 0x5C)
    let after := rest.drop (block.length + 1)
    if 80 < block.length + 2 || block.length = rest.length then .format
    else match checkedText block with
      | none => .format
      | some (body, ok) => parseBare (tagSource body) ok after
  | _ => parseBare [] true l

/-! ## Raw values (R148) -/

/-- What a field holds: nothing, no value of its format, or a value. -/
inductive Raw where
  | null
  | bad
  | val (v : F64)
deriving DecidableEq, Repr, Inhabited

/-- A decimal text without sign as a ratio: digits with an optional fraction. -/
def decimalRatio (l : List Byte) : Option (Nat × Nat) :=
  match cutAt 0x2E l with
  | [w] => (digitsOf 10 digit w).map (fun n => (n, 1))
  | [w, f] =>
    if w.isEmpty && f.isEmpty then none
    else
      let all := w ++ f
      (digitsOf 10 digit all).map (fun n => (n, 10 ^ f.length))
  | _ => none

/-- Decimal text with an optional sign (format 0). -/
def decimalText (l : List Byte) : Raw :=
  let (s, u) : Int × List Byte := match l with
    | 0x2D :: r => (-1, r)
    | 0x2B :: r => (1, r)
    | r => (1, r)
  match decimalRatio u with
  | some (n, q) => .val (F64.ofRatio (s * n) q)
  | none => .bad

/-- Degrees and minutes with a hemisphere letter in the next field (formats 1 and 2). DESIGN CHOICE (log 168): any number of degree digits
and any minutes are taken. -/
def degreesText (l next : List Byte) (pos neg : Byte) : Raw :=
  let whole := l.takeWhile (· != 0x2E)
  let k := whole.length - 2
  let sign : Option Int := if next == [pos] then some 1 else if next == [neg] then some (-1) else none
  if whole.length < 3 then .bad
  else match sign, digitsOf 10 digit (l.take k), decimalRatio (l.drop k) with
    | some s, some deg, some (n, q) => .val (F64.ofRatio (s * ((deg * 60 * q + n : Nat) : Int)) (60 * q))
    | _, _, _ => .bad

/-- hhmmss.ss as seconds of the day (format 3). DESIGN CHOICE (log 168): of any range. -/
def timeText (l : List Byte) : Raw :=
  match digitsOf 10 digit (l.take 2), digitsOf 10 digit ((l.drop 2).take 2), decimalRatio (l.drop 4) with
  | some h, some m, some (n, q) => .val (F64.ofRatio (((h * 3600 + m * 60) * q + n : Nat) : Int) q)
  | _, _, _ => .bad

/-- A text field's raw value (R148). -/
def textRaw (fields : List (List Byte)) (e : ExtField) : Raw :=
  let l := fields.getD e.index []
  let next := fields.getD (e.index + 1) []
  if l.isEmpty then .null
  else if e.code = 0 then decimalText l
  else if e.code = 1 then degreesText l next 0x4E 0x53
  else if e.code = 2 then degreesText l next 0x45 0x57
  else if e.code = 3 then timeText l
  else if e.code = 4 then (match l with
    | [b] => .val (F64.ofInt b.toNat)
    | _ => .bad)
  else if e.code = 5 then (match digitsOf 16 hexDigit l with
    | some n => .val (F64.ofInt n)
    | none => .bad)
  else .bad

/-- A binary field's raw value (R148): a signed integer of 1, 2, 4 or 8 bytes, or an FP32. -/
def binaryRaw (bs : List Byte) (e : ExtField) : Raw :=
  let n := if e.code = 8 || e.code = 9 then 4 else e.size
  let b := (bs.drop e.index).take n
  if b.length < n || n = 0 then .null
  else
    let v := if e.code = 7 || e.code = 9 then ofBeBytes b else ofLeBytes b
    if e.code = 6 || e.code = 7 then
      .val (F64.ofInt (if v < 2 ^ (8 * n - 1) then (v : Int) else (v : Int) - 2 ^ (8 * n)))
    else if e.code = 8 || e.code = 9 then
      let f := F32.ofBits v
      if f.bad then .bad else .val f.to64
    else .bad

/-! ## Extraction (R147, R149) -/

/-- A value in a destination format (R149). -/
def DestFormat.words (f : DestFormat) (v : F64) : List Word :=
  match f with
  | .q32 m n => [BitVec.ofInt 32 (v.toQ m n)]
  | .q64 m n => quadWords (BitVec.ofInt 64 (v.toQ m n))
  | .bam32 => [degToBam v]
  | .fp32 => [v.to32.bits]

/-- How many words a format fills. -/
def DestFormat.size : DestFormat → Nat
  | .q64 _ _ => 2
  | _ => 1

/-- scale × raw + offset in binary64 (R149). -/
def scaled (scale offset : Quad) (v : F64) : F64 := ((F64.mk scale).mul v).add ⟨offset⟩

/-- The payload of an extraction entry: destination words, then the validity mask; none where a required field is null or unparseable
(R147, R149). -/
def extract (fields : List ExtField) (raw : ExtField → Raw) : Option (List Word) :=
  let size := fields.foldl (fun n e => max n (e.dest + e.format.size)) 0
  if fields.any (fun e => e.required && (match raw e with
      | .val _ => false
      | _ => true)) then none
  else
    let p := fields.foldl (fun (p : List Word × Nat) e =>
      match raw e with
      | .val v =>
        let ws := e.format.words (scaled e.scale e.offset v)
        (((List.range ws.length).zip ws).foldl (fun l x => setAt l (e.dest + x.1) x.2) p.1, p.2)
      | _ => (p.1, p.2 ||| 2 ^ e.dest)) (List.replicate size 0, 0)
    some (p.1 ++ [BitVec.ofNat 32 p.2])

/-- An address field matches a pattern with "?" for one character (R147). -/
def matchesAddress : List Byte → List Byte → Bool
  | [], [] => true
  | p :: ps, a :: rest => (p = 0x3F || p = a) && matchesAddress ps rest
  | _, _ => false

/-- An extraction entry matches a sentence (R147). -/
def ExtEntry.takesText (e : ExtEntry) (x : Sentence) : Bool :=
  match e.pattern with
  | .text a s => matchesAddress a x.address && (s.isEmpty || s == x.source)
  | _ => false

/-- An extraction entry matches the start of a binary frame (R143). -/
def ExtEntry.takesBinary (e : ExtEntry) (bs : List Byte) : Bool :=
  match e.pattern with
  | .binary sync mid at_ _ _ _ _ => bs.take sync.length == sync && (bs.drop at_).take mid.length == mid
  | _ => false

/-- An extraction entry matches a CAN frame (R146). -/
def ExtEntry.takesCan (e : ExtEntry) (c : Nat) (f : RxFrame) : Bool :=
  match e.pattern with
  | .can k id x => k == c && id == f.id && x == f.xtd
  | _ => false

/-! ## Serial ports (R140 to R144) -/

/-- Whether the sentence or frame that arrived at `tArr` is one that lost a byte (R144): it is discarded when its end is seen; a later one
shows that it has been given up at the start of the next. Those that arrived later are still awaited. -/
def Dev.takeLost (d : Dev) (port tArr : Nat) : Bool × Dev :=
  let l := d.entry.lost.getD port []
  (l.contains tArr, { d with entry := { d.entry with lost := setAt d.entry.lost port (l.filter (fun x => tArr < x)) } })

/-- The entry engine takes `n` bytes of a FIFO that held `fill` (R144, R161). -/
def Dev.showFill (d : Dev) (port fill n : Nat) : Dev :=
  let fill := min 4096 fill
  let d : Dev := if d.get (Reg.ENTRY_PORT.PORT_FILL.HWM port) < fill then d.set (Reg.ENTRY_PORT.PORT_FILL.HWM port) fill else d
  d.set (Reg.ENTRY_PORT.PORT_FILL.LEVEL port) (fill - n)

/-- A checksum or frame check fails on a serial port (R142, R143). -/
def Dev.serialCheckFail (d : Dev) (port : Nat) : Dev :=
  ((d.inc (Reg.ENTRY_PORT.PORT_ERR.CHK port)).setB Reg.ENTRY_STATUS.CHK_STICKY true).raiseSub 32 port
    [0x60000, 0x6010C + 0x20 * port]

/-- A datum of a serial port is sealed (R139, R161); edges are captured at CLK_IO, to 10 ns. -/
def Dev.sealSerial (d : Dev) (port tArr : Nat) (e : ExtEntry) (lineage : Word) (payload : List Word) : Dev :=
  let edge := tArr / 10 * 10
  let tov := d.entryTov edge (P.ENTRY.PORT_LAT port) e.slot
  let d : Dev := d.about tov fun d => d.sealSlot e.slot 85 e.kind 0 lineage tov payload
  (d.incWrap (Reg.ENTRY_PORT.PORT_OK.COUNT port)).set (Reg.ENTRY_PORT.PORT_LAST_TS.TS port) (ts32Of edge).toNat

/-- What precedes extraction on a serial port: the rate rule (R150), a lost byte (R144), a framing or parity error (R142). -/
def Dev.serialAdmit (d : Dev) (port tArr fill n : Nat) (bad : Bool) : Bool × Dev :=
  let d : Dev := d.showFill port fill n
  let (broken, d) := d.takeLost port tArr
  let (ok, d) := d.countArrival port tArr
  if !ok then (false, (d.uncover 3).inc (Reg.ENTRY_PORT.PORT_DROP.RATE port))
  else if broken then (false, d)
  else if bad then (false, d.inc (Reg.ENTRY_PORT.PORT_ERR.FRAMING port))
  else (true, d)

/-- A sentence on a text-mode port (R142). -/
def Dev.serialText (d : Dev) (port tArr : Nat) (l : List Byte) : Dev :=
  match parseSentence l with
  | .format => d.inc (Reg.ENTRY_PORT.PORT_ERR.FORMAT port)
  | .check => d.serialCheckFail port
  | .good x =>
    match (d.image.entry.serial.getD port []).find? (fun e => e.takesText x) with
    | none => d.inc (Reg.ENTRY_PORT.PORT_ERR.UNMATCHED port)
    | some e =>
      match extract e.fields (textRaw x.fields) with
      | none => d.inc (Reg.ENTRY_PORT.PORT_ERR.FORMAT port)
      | some p => d.sealSerial port tArr e (x.sum.setWidth 32) p

/-- The two sums of Fletcher-16. -/
def fletcher (l : List Byte) : Nat × Nat :=
  l.foldl (fun s b => let a := (s.1 + b.toNat) % 255; (a, (s.2 + a) % 255)) (0, 0)

/-- Whether a binary frame's check, its last bytes, holds over the bytes before it (R143). -/
def FrameCheck.holds (c : FrameCheck) (bs : List Byte) : Bool :=
  let back (n : Nat) : List Byte × Nat := (bs.take (bs.length - n), ofLeBytes (bs.drop (bs.length - n)))
  match c with
  | .none => true
  | .xor8 => let p := back 1; (xorOf p.1).toNat == p.2
  | .sum8 => let p := back 1; (p.1.foldl (fun n b => n + b.toNat) 0) % 256 == p.2
  | .fletcher16 => let p := back 2; (fletcher p.1).1 + 256 * (fletcher p.1).2 == p.2
  | .crc16 => let p := back 2; (Sys2Proof.Machine.crc16 p.1).toNat == p.2
  | .crc32c => let p := back 4; (Sys2Proof.Machine.crc32c p.1).toNat == p.2

/-- A binary frame's check as a word, the lineage word of its seal (R123); 0 for a frame without one. -/
def FrameCheck.word (c : FrameCheck) (bs : List Byte) : Word :=
  let n : Nat := match c with
    | .none => 0
    | .xor8 | .sum8 => 1
    | .fletcher16 | .crc16 => 2
    | .crc32c => 4
  BitVec.ofNat 32 (ofLeBytes (bs.drop (bs.length - n)))

/-- The length that an entry gives a frame (R143): fixed, or read from its length field. -/
def frameLength (fixed at_ size : Nat) (bs : List Byte) : Nat :=
  if fixed != 0 then fixed else ofLeBytes ((bs.drop at_).take size)

/-- A frame that entry `e` takes (R143), its first sync byte at the head: its length and the device after. DESIGN CHOICE (log 169): a length
that is 0, over 1,024 or beyond the bytes at hand counts as a format error and passes for the first byte alone. -/
def Dev.binaryFrame (d : Dev) (port tArr : Nat) (e : ExtEntry) (bs : List Byte) : Nat × Dev :=
  match e.pattern with
  | .binary _ _ _ fixed at_ size check =>
    let n := frameLength fixed at_ size bs
    let frame := bs.take n
    if n = 0 || 1024 < n || bs.length < n then (1, d.inc (Reg.ENTRY_PORT.PORT_ERR.FORMAT port))
    else if !check.holds frame then (n, d.serialCheckFail port)
    else match extract e.fields (binaryRaw frame) with
      | none => (n, d.inc (Reg.ENTRY_PORT.PORT_ERR.FORMAT port))
      | some p => (n, d.sealSerial port tArr e (check.word frame) p)
  | _ => (1, d)

/-- An entry's sync sequence stands at the head of the bytes (R143). -/
def ExtEntry.syncs (e : ExtEntry) (bs : List Byte) : Bool :=
  match e.pattern with
  | .binary sync _ _ _ _ _ _ => !sync.isEmpty && bs.take sync.length == sync
  | _ => false

/-- How long `k` characters last on a port, in ns (R141, R161): start bit, 8 data bits, parity, stop bits. -/
def Dev.charsNs (d : Dev) (port k : Nat) : Nat :=
  let rate := [4800, 9600, 19200, 38400, 57600, 115200, 230400, 460800, 921600].getD (d.get (Reg.ENTRY_PORT.PORT_CFG.BAUD port)) 4800
  let bits := 10 + bit (d.get (Reg.ENTRY_PORT.PORT_CFG.PARITY port) != 0) + bit (d.flag (Reg.ENTRY_PORT.PORT_CFG.STOP2 port))
  k * bits * 1000000000 / rate

/-- What begins at the head of the bytes (R143): how many of them it takes, and the device after. A byte that starts no sync sequence is
skipped; a sync sequence of no entry whose identifier stands behind it counts as unmatched. A frame of the correction path goes to the
baseband whole (R178). -/
def Dev.binaryAt (d : Dev) (port tArr : Nat) (bs : List Byte) : Nat × Dev :=
  let l := d.image.entry.serial.getD port []
  if d.get Reg.GNSS_CORR_CFG.SRC = port && bs.head? == some 0xD3 then
    (rtcmLength bs, d.rtcmFrame tArr (bs.take (rtcmLength bs)))
  else match l.find? (fun e => e.takesBinary bs) with
    | some e => d.binaryFrame port tArr e bs
    | none => (1, if l.any (fun e => e.syncs bs) then d.inc (Reg.ENTRY_PORT.PORT_ERR.UNMATCHED port) else d)

/-- Look for frames in what arrived from `tArr` on a binary-mode port (R143), from byte `k` on; `skip` of the bytes at hand belong to a
frame already taken. -/
def Dev.serialBinary (d : Dev) (port tArr : Nat) : Nat → Nat → List Byte → Dev
  | _, _, [] => d
  | k, skip + 1, _ :: bs => d.serialBinary port tArr (k + 1) skip bs
  | k, 0, b :: bs =>
    let (n, d) := d.binaryAt port (tArr + d.charsNs port k) (b :: bs)
    d.serialBinary port tArr (k + 1) (n - 1) bs

/-- R142: a sentence has ended on serial port `port` at `t`; `tArr` is the leading edge of its first start bit, `bad` a framing or
parity error in it, `fill` the bytes that the FIFO held. -/
def execSerialSentenceReceived (t port tArr : Nat) (chars : List Byte) (bad : Bool) (fill : Nat) (s : State) :
    Host.Outcome State Fault Refusal :=
  s.run fun d => (d.advance t).whenUp fun d =>
    if 12 ≤ port || d.get (Reg.ENTRY_PORT.PORT_CFG.MODE port) != 0 then d
    else
      d.about (d.sourceTov (tArr / 10 * 10) (P.ENTRY.PORT_LAT port)) fun d =>
        let (ok, d) := d.serialAdmit port tArr fill chars.length bad
        if ok then d.serialText port tArr chars else d

/-- R143: a frame has ended on serial port `port`; `tArr` is the leading edge of its first sync byte's start bit. -/
def execSerialBinaryFrameReceived (t port tArr : Nat) (bytes : List Byte) (bad : Bool) (fill : Nat) (s : State) :
    Host.Outcome State Fault Refusal :=
  s.run fun d => (d.advance t).whenUp fun d =>
    if 12 ≤ port || d.get (Reg.ENTRY_PORT.PORT_CFG.MODE port) != 1 then d
    else
      d.about (d.sourceTov (tArr / 10 * 10) (P.ENTRY.PORT_LAT port)) fun d =>
        let (ok, d) := d.serialAdmit port tArr fill bytes.length bad
        if ok then d.serialBinary port tArr 0 0 bytes else d

/-- R144: a byte arrives while its port's FIFO is full and is lost; condition 4 of R65 has failed. A loss in a later sentence is counted and
reported on its own. -/
def execSerialFifoOverflow (t : Nat) (b : LostByte) (s : State) : Host.Outcome State Fault Refusal :=
  s.run fun d => (d.advance t).whenUp fun d =>
    let port := b.port
    let first := b.first
    if 12 ≤ port || d.get (Reg.ENTRY_PORT.PORT_CFG.MODE port) = 2 then d
    else if (d.entry.lost.getD port []).contains first then d
    else
      let d : Dev := { d with entry := { d.entry with lost := modAt d.entry.lost port (fun l => l ++ [first]) } }
      let d : Dev := ((d.showFill port 4096 0).inc (Reg.ENTRY_PORT.PORT_DROP.OVERFLOW port)).setB Reg.ENTRY_STATUS.OVF_STICKY true
      d.about (d.sourceTov (first / 10 * 10) (P.ENTRY.PORT_LAT port)) fun d =>
        (d.uncover 3).raiseSub 33 port [0x60000, 0x60110 + 0x20 * port]

/-! ## IEC 61162-450 (R145) -/

/-- One sentence of a datagram (R142, R145). -/
def Dev.netSentence (d : Dev) (port tArr : Nat) (l : List Byte) : Dev :=
  match parseSentence l with
  | .format => d
  | .check =>
    ((d.inc Reg.ENTRY_NET_ERR.CHK).setB Reg.ENTRY_STATUS.CHK_STICKY true).raiseSub 32 (12 + port)
      [0x60000, 0x60304]
  | .good x =>
    match d.image.entry.net.find? (fun e => e.takesText x) with
    | none => d.inc Reg.ENTRY_NET_ERR.UNMATCHED
    | some e =>
      match extract e.fields (textRaw x.fields) with
      | none => d
      | some p =>
        let tov := d.entryTov tArr (P.ENTRY.NET_LAT port) e.slot
        (d.about tov fun d => d.sealSlot e.slot 85 e.kind 0 (x.sum.setWidth 32) tov p).incWrap Reg.ENTRY_NET_OK.COUNT

/-- The lines of a datagram, each up to and with its LF; what follows the last LF is a line without one. -/
def linesOf (l : List Byte) : List (List Byte) :=
  let parts := cutAt 0x0A l
  (parts.dropLast.map (fun x => x ++ [0x0A]) ++ [parts.getLastD []]).filter (fun x => !x.isEmpty)

/-- A datagram of a group reaches the entry engine: the port has joined it, among the first 8 that the image lists (R145). -/
def Dev.joined (d : Dev) (port : Nat) (group : Word) : Bool := ((d.image.entry.groups.getD port []).take 8).contains group

/-- R145: a datagram to a multicast group arrives on Ethernet port `port`; `ingress` is the timestamp at the PCS in quarter-ns, to which the
port's correction is added (R209). DESIGN CHOICE (log 170): before the schedule runs it is dropped uncounted. -/
def execNetDatagramReceived (t port ingress : Nat) (m : Datagram) (s : State) : Host.Outcome State Fault Refusal :=
  s.run fun d => (d.advance t).whenUp fun d =>
    if 4 ≤ port || !d.running || !d.joined port m.group then d
    else
      let tArr := (((ingress : Int) + d.paramInt (P.NET.ING_CORR port)) / 4).toNat
      d.about (d.sourceTov tArr (P.ENTRY.NET_LAT port)) fun d =>
      let (ok, d) := d.countArrival (12 + port) tArr
      if !ok then (d.uncover 3).inc Reg.ENTRY_NET_ERR.RATE
      else if 1472 < m.payload.length then d.inc Reg.ENTRY_NET_ERR.SIZE
      else if m.payload.take 6 != [0x55, 0x64, 0x50, 0x62, 0x43, 0x00] then d.inc Reg.ENTRY_NET_ERR.UNMATCHED
      else (linesOf (m.payload.drop 6)).foldl (fun d l => d.netSentence port tArr l) d

/-! ## CAN frames (R128, R146, R351, R357) -/

/-- Judge the alive counter of a received bus frame (R128), an identifier's length being part of it: whether it is accepted, and the device
after. -/
def Dev.judgeBus (d : Dev) (c id : Nat) (xtd : Bool) (value sof : Nat) : Bool × Dev :=
  let same (r : AliveRef) : Bool := r.ctrl == c && r.id == id && r.xtd == xtd
  let keep (d : Dev) : Dev := { d with entry := { d.entry with
    refs := ⟨c, id, xtd, value, sof⟩ :: d.entry.refs.filter (fun r => !same r) } }
  match d.entry.refs.find? same with
  | none => (true, keep d)
  | some r =>
    if r.sof + 30000000 ≤ sof then (true, keep d)
    else
      let step := (value + 256 - r.value) % 256
      if step = 1 then (true, keep d)
      else if step = 0 then (false, d.aliveFault c (id % 256) 0)
      else if step ≤ 3 then (true, (keep d).aliveFault c (id % 256) 1)
      else (false, (keep d).aliveFault c (id % 256) 2)

/-- The form of a protocol frame (R342). -/
def RxFrame.protocol (f : RxFrame) : Bool := f.fd && f.brs && !f.xtd && !f.remote && f.dlc == 12 && f.data.length == 24

/-- The frame check of a received frame holds (R355). -/
def RxFrame.checkOk (f : RxFrame) : Bool := frameCheck (f.data.take 20) f.id == wordAt f.data 20

/-- What an arrest or release frame of unit `u` does (R396, R398, R404): the drill sees it; a release by the unit in command opens the claim
window. -/
def Dev.peerRelease (d : Dev) (c u : Nat) (f : RxFrame) : Dev :=
  let d : Dev := { d with red := { d.red with drill := d.red.drill.map (fun r => { r with seen := (c, f.id) :: r.seen }) } }
  let d : Dev := if d.echoedUnit == some u || d.get (Reg.RED_PEER.PR_STAT.ROLE u) = 3 then
      { d with red := { d.red with claimUntil := some (f.sof + 10000000) } }
    else d
  d.judgeRole

/-- An arrest or release frame of a peer (R351, R356): a release acts only with its alive counter accepted (R128), which the two kinds
share; an arrest frame concerns the drives alone. -/
def Dev.peerFrame (d : Dev) (c : Nat) (f : RxFrame) : Dev :=
  let u := f.id - 0x10
  if !f.protocol || !f.checkOk || u = d.unit || !(byteAt f.data 0 = 0x30 || byteAt f.data 0 = 0x40) then d
  else
    let (ok, d) := d.judgeBus c f.id f.xtd (byteAt f.data 2) f.sof
    if !ok then d.inc Reg.ENTRY_CAN_ERR.ALIVE
    else if byteAt f.data 0 = 0x40 then d.peerRelease c u f
    else d

/-- Whether a feedback frame that passes its check is well formed (R357). -/
def feedbackForm (i : Nat) (bs : List Byte) : Bool := byteAt bs 0 == i && !(F32.mk (wordAt bs 8)).bad

/-- A feedback frame of thruster `i` in a form that R342 or R357 does not allow: counted and recorded. -/
def Dev.feedbackMalformed (d : Dev) (i : Nat) : Dev :=
  let d : Dev := d.inc (Reg.OUT_THR.TH_ECHOERR.FORM i)
  d.note 0x01 0x0F i [d.word 0xF0000, d.word (0xF010C + 0x20 * i), d.word (0xF0110 + 0x20 * i)]

/-- Drive feedback (R357): form, frame check, alive counter, seal, and what follows from it. -/
def Dev.feedbackFrame (d : Dev) (c i : Nat) (e : ExtEntry) (f : RxFrame) : Dev :=
  if 24 ≤ f.data.length && !f.checkOk then
    ((d.inc (Reg.OUT_THR.TH_CNT.CHK i)).setB Reg.ENTRY_STATUS.CHK_STICKY true).raiseSub 32 (16 + c) [0x60000]
  else if !(f.protocol && feedbackForm i f.data) then d.feedbackMalformed i
  else
    let (ok, d) := d.judgeBus c f.id f.xtd (byteAt f.data 3) f.sof
    if !ok then d.inc Reg.ENTRY_CAN_ERR.ALIVE
    else
      let tov := d.entryTov f.sof (P.ENTRY.CAN_LAT c) e.slot
      let d : Dev := (d.sealSlot e.slot 85 e.kind 0 f.crc tov ((packWords (f.data.take 20)).take 5)).incWrap Reg.ENTRY_CAN_OK.COUNT
      d.takeFeedback i f.sof f.data

/-- Any other frame that an extraction entry takes (R146, R147). -/
def Dev.sensorFrame (d : Dev) (c : Nat) (e : ExtEntry) (f : RxFrame) : Dev :=
  match extract e.fields (binaryRaw f.data) with
  | none => d
  | some p =>
    let (ok, d) : Bool × Dev := match e.alive with
      | none => (true, d)
      | some k => d.judgeBus c f.id f.xtd (byteAt f.data k) f.sof
    if !ok then d.inc Reg.ENTRY_CAN_ERR.ALIVE
    else
      let tov := d.entryTov f.sof (P.ENTRY.CAN_LAT c) e.slot
      (d.sealSlot e.slot 85 e.kind 0 f.crc tov p).incWrap Reg.ENTRY_CAN_OK.COUNT

/-- A frame that a filter gives to entry (R146, R150, R351). -/
def Dev.canEntry (d : Dev) (c : Nat) (f : RxFrame) : Dev := d.about (d.sourceTov f.sof (P.ENTRY.CAN_LAT c)) fun d =>
  let (ok, d) := d.countArrival (16 + c) f.sof
  if !ok then (d.uncover 3).inc Reg.ENTRY_CAN_ERR.RATE
  else if !f.xtd && 0x10 ≤ f.id && f.id ≤ 0x12 then d.peerFrame c f
  else match d.image.entry.can.find? (fun e => e.takesCan c f) with
    | none => d
    | some e => d.about (d.entryTov f.sof (P.ENTRY.CAN_LAT c) e.slot) fun d =>
      if !f.xtd && 0x180 ≤ f.id && f.id < 0x190 && e.slot = f.id - 0x180 + 28 then d.feedbackFrame c (f.id - 0x180) e f
      else d.sensorFrame c e f

/-- A frame that a filter gives to the host (R351): its entry of the ring in BAR2. -/
def Dev.canHost (d : Dev) (c : Nat) (f : RxFrame) : Dev :=
  let at_ := (d.can c).ringAt % 1024
  let idw := f.id + 2 ^ 29 * bit f.xtd + 2 ^ 30 * bit f.fd + 2 ^ 31 * bit f.brs
  let data := (f.data ++ List.replicate 64 0).take 64
  let d : Dev := d.bar2Write (0x03E00000 + 0x20000 * c + 80 * at_)
    (leBytes 4 (ts32Of f.sof).toNat ++ leBytes 4 idw ++ leBytes 4 f.dlc ++ data ++ List.replicate 4 0)
  d.setCan c fun x => { x with ringAt := (at_ + 1) % 1024 }

/-- A filter element matches a frame (R351). -/
def RxFilter.takes (x : RxFilter) (f : RxFrame) : Bool := x.xtd == f.xtd && (f.id &&& x.mask) == (x.id &&& x.mask)

/-- Where a frame goes (R351): the destination of the first filter element that takes it, 2 discard where none does. -/
def Dev.canDest (d : Dev) (c : Nat) (f : RxFrame) : Nat :=
  match ((d.image.out.can.getD c default).filters.take 128).find? (fun x => x.takes f) with
  | some x => x.dest
  | none => 2

/-- The frames of a controller's FIFO are taken, oldest first (R351). -/
def Dev.drainFifo (d : Dev) (c : Nat) : Dev :=
  ((d.can c).fifo).foldl (fun d f => if d.canDest c f = 0 then d.canEntry c f else d.canHost c f)
    (d.setCan c fun x => { x with fifo := [] })

/-- A frame without error on controller `c` (R346, R351): a filtered one goes into the FIFO of 256 frames, stamped at CLK_IO resolution, or
is lost where the FIFO is full; the FIFO is taken at once, or `waits` tells that it is not taken before the next frame (log 165). -/
def Dev.canReceived (d : Dev) (c : Nat) (f : RxFrame) (waits : Bool) : Dev :=
  let f : RxFrame := { f with sof := f.sof / 10 * 10 }
  let d : Dev := d.rxGood c
  if f.remote then d
  else if 2 ≤ d.canDest c f then d.inc (Reg.CAN_CH.CH_RXERR.DISCARD c)
  else if 256 ≤ (d.can c).fifo.length then
    d.about (d.sourceTov f.sof (P.ENTRY.CAN_LAT c)) fun d => (d.inc (Reg.CAN_CH.CH_RXERR.OVF c)).raiseSub 33 (16 + c) [0x60000, 0x6030C]
  else
    let d : Dev := (d.incWrap (Reg.CAN_CH.CH_RXOK.COUNT c)).setCan c fun x => { x with fifo := x.fifo ++ [f] }
    if waits then d else d.drainFifo c

/-- R351: a controller receives a frame. -/
def execCanFrameReceived (t c : Nat) (f : RxFrame) (waits : Bool) (s : State) : Host.Outcome State Fault Refusal :=
  s.run fun d => (d.advance t).whenUp fun d => if d.canActive c then d.canReceived c f waits else d

/-! ## Slot timeouts (R151) -/

/-- R151: the timeout window of a slot closes without a seal. -/
def execSlotTimeout (t slot : Nat) (s : State) : Host.Outcome State Fault Refusal :=
  s.run fun d => (d.advance t).whenUp fun d =>
    if slot < 64 && d.windowOver slot then (d.closeWindow slot).refTimeout slot else d.hearTimeouts

/-- The windows of the configured slots open when the schedule starts (R151). -/
def Dev.openWindows (d : Dev) : Dev :=
  (List.range 64).foldl (fun d s =>
    if d.flag (Reg.ENTRY_SLOT.SLOT_STAT.CONFIGURED s) then
      { d with entry := { d.entry with
          closes := setAt d.entry.closes s (some (d.sched.st + nsOfMs (d.paramF (P.ENTRY.SLOT_TIMEOUT s)))) } }
    else d) d

end Sys2Proof.Machine
end

