-- ==== Sys2Proof/Machine/Afe.lean ====
section
/-! DEFINITION. The analogue chain and the pulse inputs (R152 to R159, R163 to R166). The modulator's values
come as operands of the minor-frame boundary; the stages after it are computed, the two halfbands with free coefficients. -/
namespace Sys2Proof.Machine
open Sys2Proof

/-- Channel `n` of the chain. -/
def Dev.chan (d : Dev) (n : Nat) : AfeChan := d.afe.chans.getD n default

/-- Change it. -/
def Dev.setChan (d : Dev) (n : Nat) (f : AfeChan → AfeChan) : Dev := { d with afe := { d.afe with chans := modAt d.afe.chans n f } }

/-- D4 in effect. -/
def AfeChan.d4 (x : AfeChan) : Nat := getBits x.cfg 14 6 + 1
/-- RS_DIV in effect. -/
def AfeChan.rsDiv (x : AfeChan) : Nat := getBits x.cfg 4 10
/-- The input period p_in of the resampler in ns (R155). -/
def AfeChan.period (x : AfeChan) : Nat := 10240 * x.d4
/-- Shift SHk in effect, k from 1 to 5. -/
def AfeChan.sh (x : AfeChan) (k : Nat) : Nat := getBits x.shift (5 * (k - 1)) 5

/-- num / den to the nearest integer, ties away from zero. -/
def roundRatioInt (num : Int) (den : Nat) : Int :=
  let q : Int := ((2 * num.natAbs + den) / (2 * den) : Nat)
  if num < 0 then -q else q

/-- Saturate to a signed 24-bit word (R154). -/
def sat24 (v : Int) : Int := satInt (-8388608) 8388607 v

/-- Stage coefficients in effect: signed 24-bit words of AFE_FIR, as many as FIR_TAPS (R153, R163). -/
def Dev.firTaps (d : Dev) (n : Nat) : List Int :=
  (List.range (d.get (Reg.AFE_CH.CH_CFG.FIR_TAPS n))).map fun k => d.getInt (Reg.AFE_FIR.COEF (256 * n + k))

/-- The group delay in quarter-ns (R156). -/
def groupDelay (taps : List Int) (d4 : Nat) : Int :=
  let l := taps.length
  let sum := taps.foldl (· + ·) 0
  let first := ((List.range l).zip taps).foldl (fun (a : Int) e => a + e.1 * e.2) 0
  let base : Int := 361920 + 30 * (10240 * d4)
  if sum = 0 then base + 20480 * ((l : Int) - 1)
  else
    let (num, den) : Int × Nat := if sum < 0 then (-first, sum.natAbs) else (first, sum.natAbs)
    roundRatioInt (base * den + 40960 * num) den

/-- A channel settles from now (R158): 2 × GD + 1 ms. -/
def Dev.afeSettle (d : Dev) (n : Nat) : Dev :=
  let gd := d.get (Reg.AFE_GD.GD n)
  (d.setChan n fun x => { x with settleEnd := d.sched.st + (gd + 1) / 2 + 1000000 }).setB (Reg.AFE_CH.CH_STAT.SETTLING n) true

/-- Align a channel's indices to schedule time (R155, R157). -/
def Dev.afeAlign (d : Dev) (n : Nat) : Dev :=
  let t := d.sched.st
  d.setChan n fun x => { x with n0 := t / 160 + 1, k4 := some (t / x.period) }

/-- The configuration written takes effect (R158): histories clear, AFE_GD and FIR_SYM are recomputed, the channel settles. -/
def Dev.afeConfigure (d : Dev) (n : Nat) : Dev :=
  let taps := d.firTaps n
  let d : Dev := d.setB (Reg.AFE_CH.CH_CFG.FIR_SYM n) (taps == taps.reverse)
  let d : Dev := d.setChan n fun x => { x with
    cfg := d.word (0x70100 + 0x40 * n), shift := d.word (0x70104 + 0x40 * n), taps := taps
    x0 := [], x1 := [], x2 := [], x3 := [], x4 := [], sat := 0, dirty := false }
  let d : Dev := d.set (Reg.AFE_GD.GD n) ((groupDelay taps (d.chan n).d4) % 2 ^ 32).toNat
  (d.afeAlign n).afeSettle n

/-- The configuration of a pulse input takes effect. -/
def Dev.pulseConfigure (d : Dev) (p : Nat) : Dev :=
  { d with afe := { d.afe with pulses := modAt d.afe.pulses p (fun x => { x with cfg := d.word (0x70600 + 0x10 * p) }) } }

/-- The chain starts once the image has been loaded (R155, R158). -/
def Dev.afeStart (d : Dev) : Dev :=
  let d : Dev := (List.range 16).foldl Dev.afeConfigure d
  (List.range 8).foldl Dev.pulseConfigure d

/-- Reconfigurations take effect at a major-frame boundary (R158). -/
def Dev.afeMajor (d : Dev) : Dev :=
  let d : Dev := (List.range 16).foldl (fun d n => if (d.chan n).dirty then d.afeConfigure n else d) d
  (List.range 8).foldl Dev.pulseConfigure d

/-- Settling ends when its time has passed (R158). -/
def Dev.afeSettled (d : Dev) (n : Nat) : Dev :=
  if (d.chan n).settleEnd ≤ d.sched.st then d.setB (Reg.AFE_CH.CH_STAT.SETTLING n) false else d

/-- R158: the settling time of a channel has passed. -/
def execAfeSettlingEnd (t n : Nat) (s : State) : Host.Outcome State Fault Refusal :=
  s.run fun d => (d.advance t).whenUp fun d => if n < 16 && d.running then d.afeSettled n else d

/-- The sum of products of a stage. -/
def dotInt (ws xs : List Int) : Int := (ws.zip xs).foldl (fun (a : Int) e => a + e.1 * e.2) 0

/-- The moving sum of 16 values, as weights. -/
def movingSum (l : List Int) : List Int :=
  (List.range (l.length + 15)).map fun i => (List.range 16).foldl (fun (a : Int) j => if j ≤ i then a + l.getD (i - j) 0 else a) 0

/-- The weights of stage 1: a CIC of order 5 with decimation 16 and differential delay 1 is the fivefold moving sum of 16 (R153). -/
def cicTaps : List Int := movingSum (movingSum (movingSum (movingSum (movingSum [1]))))

/-- The result of stage `k` narrowed to its word (R154): shifted, rounded, saturated, with the stage marked if it saturated. -/
def AfeChan.narrow (x : AfeChan) (k : Nat) (acc : Int) : Int × AfeChan :=
  let r := roundRatioInt acc (2 ^ x.sh k)
  (sat24 r, if sat24 r = r then x else { x with sat := x.sat ||| BitVec.ofNat 6 (2 ^ (k - 1)) })

/-- Stage-3 sample `m` enters stage 4 (R153, R155): every D4-th one yields a stage-4 sample. -/
def AfeChan.stage4 (x : AfeChan) (m : Nat) (v : Int) : AfeChan :=
  let x : AfeChan := { x with x3 := (v :: x.x3).take 256 }
  if m % x.d4 != 0 then x
  else
    let (r, x) := x.narrow 4 (dotInt x.taps x.x3)
    { x with x4 := (r :: x.x4).take 16, k4 := some (m / x.d4) }

/-- Stage-2 sample `m` enters the second halfband, which halves the rate (R153). -/
def AfeChan.stage3 (x : AfeChan) (m : Nat) (v : Int) : AfeChan :=
  let x : AfeChan := { x with x2 := (v :: x.x2).take 23 }
  if m % 2 != 0 then x
  else
    let (r, x) := x.narrow 3 (dotInt ((List.range 23).map (Config.halfband 3)) x.x2)
    x.stage4 (m / 2) r

/-- Stage-1 sample `m` enters the first halfband, which halves the rate (R153). -/
def AfeChan.stage2 (x : AfeChan) (m : Nat) (v : Int) : AfeChan :=
  let x : AfeChan := { x with x1 := (v :: x.x1).take 23 }
  if m % 2 != 0 then x
  else
    let (r, x) := x.narrow 2 (dotInt ((List.range 23).map (Config.halfband 2)) x.x1)
    x.stage3 (m / 2) r

/-- One value of the modulator enters stage 1, which decimates by 16 (R152, R153). DEDUCED (log 96): one bit, +1 or -1, since order 5 and
decimation 16 add 20 bits to the modulator's and give 21. -/
def AfeChan.push (x : AfeChan) (b : Bool) : AfeChan :=
  let m := x.n0
  let x : AfeChan := { x with x0 := (b :: x.x0).take 76, n0 := m + 1 }
  if m % 16 != 0 then x
  else
    let (r, x) := x.narrow 1 (dotInt cicTaps (x.x0.map fun b => if b then 1 else -1))
    x.stage2 (m / 16) r

/-- Stage 5 at the output instant `t` (R155): the output and whether it saturated. -/
def AfeChan.resample (x : AfeChan) (coeffs : List (List Int)) (t : Nat) : Int × Bool :=
  let p := x.period
  let r64 := 64 * (t - t / p * p)
  let j := r64 / p
  let a := r64 % p
  let c0 := coeffs.getD j []
  let c1 := coeffs.getD (j + 1) []
  let acc := (List.range 16).foldl (fun (s : Int) i =>
    s + (((p - a : Nat) : Int) * c0.getD i 0 + (a : Int) * c1.getD i 0) * x.x4.getD i 0) 0
  let r := roundRatioInt acc (p * 2 ^ x.sh 5)
  (sat24 r, sat24 r != r)

/-- Whether the output of a 4–20 mA channel is a wire fault (R152): full scale is 25 mA. -/
def Dev.wireFault (d : Dev) (x : AfeChan) (y : Int) : Bool :=
  let ma := F64.ofRatio (25 * y) 8388608
  x.cfg.getLsbD 1 && !((d.paramF P.AFE.MA_LOW).le ma && ma.lt (d.paramF P.AFE.MA_HIGH))

/-- The time of validity of a channel's output at the present instant (R139, R156): T − GD less the slot's latency. -/
def Dev.afeTov (d : Dev) (n : Nat) : Int :=
  (4 * (d.sched.st : Int) - d.get (Reg.AFE_GD.GD n)) / 4 -
    d.paramThen (P.ENTRY.SLOT_LAT (d.image.entry.afe.getD n default).slot) d.sched.st

/-- The output of a channel is sealed (R138, R139, R156), scaled into its slot. -/
def Dev.afeSeal (d : Dev) (n : Nat) (y : Int) : Dev :=
  let b := d.image.entry.afe.getD n default
  let tov := d.afeTov n
  let d : Dev := (d.set (Reg.AFE_CH.CH_LAST.VALUE n) (y % 16777216).toNat).set (Reg.AFE_CH.CH_LAST_TOV.TS n) (ts32Of tov).toNat
  d.sealSlot b.slot 87 b.kind 0 0 tov (b.format.words (scaled b.scale b.offset (F64.ofRatio y 8388608)))

/-- E35 with the channel's state. -/
def Dev.afeSat (d : Dev) (n : Nat) : Dev :=
  d.raiseSub 35 n [0x70000, 0x70110 + 0x40 * n, 0x70114 + 0x40 * n]

/-- An output instant of a channel (R154, R155, R157): a slip, a settling channel, a saturated stage and a wire fault withhold the output.
DESIGN CHOICE (log 171): a slip drops what saturated before it, uncounted. -/
def Dev.afeOutput (d : Dev) (n : Nat) : Dev := d.about (d.afeTov n) fun d =>
  let t := d.sched.st
  let x := d.chan n
  if x.k4 != some (t / x.period) then
    let d : Dev := (((d.afeAlign n).afeSettle n).inc (Reg.AFE_CH.CH_CNT.SLIP n)).setB Reg.AFE_STATUS.SLIP_STICKY true
    (d.setChan n fun x => { x with sat := 0 }).raiseSub 36 n [0x70000, 0x70110 + 0x40 * n]
  else
    let d : Dev := d.afeSettled n
    let (y, past) := x.resample (d.image.entry.afe.getD n default).coeffs t
    let sat := x.sat ||| (if past then 16 else 0)
    let d : Dev := (d.set (Reg.AFE_CH.CH_STAT.SAT_STAGE n) (sat.toNat % 32)).setChan n fun x => { x with sat := 0 }
    if d.flag (Reg.AFE_CH.CH_STAT.SETTLING n) then d
    else if sat != 0 then
      (((d.inc (Reg.AFE_CH.CH_CNT.SAT n)).setB Reg.AFE_STATUS.SAT_STICKY true)).afeSat n
    else if d.wireFault x y then
      (((d.inc (Reg.AFE_CH.CH_CNT.WIRE n)).setB Reg.AFE_STATUS.WIRE_STICKY true)).afeSat n
    else d.afeSeal n y

/-- The chain at a minor-frame boundary (R153 to R157, R164): the modulator's values since the last one, and the outputs that fall on it;
where none falls, CH_STAT shows the stages that have saturated since the last one. -/
def Dev.afeMinor (d : Dev) (ins : List AfeIn) : Dev :=
  (List.range 16).foldl (fun d n =>
    if !(d.chan n).cfg.getLsbD 0 then d
    else
      let i := ins.getD n default
      let d : Dev := d.setChan n fun x => i.bits.foldl AfeChan.push (if i.overload then { x with sat := x.sat ||| 32 } else x)
      if (d.chan n).rsDiv = 0 || d.sched.st / 1000000 % (d.chan n).rsDiv != 0 then
        d.set (Reg.AFE_CH.CH_STAT.SAT_STAGE n) ((d.chan n).sat.toNat % 32)
      else d.afeOutput n) d

/-! ## Pulse inputs (R159) -/

/-- An edge at a pulse input: `high` is the level after it, which then holds for `hold` ns. A level that holds less than the filter's length
does not pass it; while the input is disabled only the level is followed. -/
def Dev.pulseEdge (d : Dev) (p t : Nat) (high : Bool) (hold : Nat) : Dev :=
  let x := d.afe.pulses.getD p default
  if x.level == high || hold < 10 * getBits x.cfg 8 6 then d
  else if !x.cfg.getLsbD 0 || !d.running then { d with afe := { d.afe with pulses := setAt d.afe.pulses p { x with level := high } } }
  else
    let at_ := t / 10 * 10
    let counts := high || x.cfg.getLsbD 1
    let y : PulseChan := if counts then { x with
        level := high, edges := x.edges + 1, firstAt := if x.edges = 0 then at_ else x.firstAt, lastAt := at_ }
      else { x with level := high }
    let d : Dev := { d with afe := { d.afe with pulses := setAt d.afe.pulses p y } }
    if counts then (d.incWrap (Reg.AFE_PULSE.PCOUNT.COUNT p)).set (Reg.AFE_PULSE.PLAST.TS p) (ts32Of at_).toNat else d

/-- R159: an edge at pulse input `p` at `t`. -/
def execPulseEdge (t p : Nat) (high : Bool) (hold : Nat) (s : State) : Host.Outcome State Fault Refusal :=
  s.run fun d => (d.advance t).whenUp fun d => if p < 8 then d.pulseEdge p t high hold else d

/-- The pulse datum of every enabled input at the close of a minor frame (R159); a disabled one has counted no edge in it (R165).
DEDUCED (log 185). -/
def Dev.pulseMinor (d : Dev) : Dev :=
  (List.range 8).foldl (fun d p =>
    let x := d.afe.pulses.getD p default
    if !x.cfg.getLsbD 0 then d.set (Reg.AFE_PULSE.PWIN.EDGES p) 0
    else
      let tov := if x.edges = 0 then d.sched.st else x.lastAt
      let stamps := if x.edges = 0 then [0, 0] else [ts32Of x.firstAt, ts32Of x.lastAt]
      let d : Dev := d.set (Reg.AFE_PULSE.PWIN.EDGES p) (min 65535 x.edges)
      let d : Dev := { d with afe := { d.afe with pulses := setAt d.afe.pulses p { x with edges := 0 } } }
      match d.image.entry.pulseSlots[p]? with
      | none => d
      | some s => d.sealSlot s 87 0x09 0 0 ((tov : Int) - d.paramThen (P.ENTRY.SLOT_LAT s) tov) (BitVec.ofNat 32 x.edges :: stamps)) d

end Sys2Proof.Machine
end

