-- ==== Sys2Proof/Machine/Ed25519.lean ====
section
/-! DEFINITION. The signature check of the cellar (R95, R101): Ed25519 of RFC 8032. -/
namespace Sys2Proof.Machine

/-! ## The curve -/

/-- The prime of the field. -/
def edP : Nat := 2 ^ 255 - 19
/-- The order of the base point. -/
def edL : Nat := 2 ^ 252 + 27742317777372353535851937790883648493
/-- The constant d of the curve, -121665 / 121666. -/
def edD : Nat := 0x52036cee2b6ffe738cc740797779e89800700a4d4141d8ab75eb4dca135978a3

/-- `b ^ e` modulo the prime, for an exponent of at most `fuel` bits. -/
def edPow : Nat → Nat → Nat → Nat
  | 0, _, _ => 1
  | fuel + 1, b, e =>
    let r := edPow fuel (b * b % edP) (e / 2)
    if e % 2 = 1 then r * b % edP else r

/-- Difference modulo the prime of two field elements. -/
def edSub (a b : Nat) : Nat := (a + edP - b) % edP

/-- A point in extended coordinates: x = X / Z, y = Y / Z, x y = T / Z. -/
structure EdPoint where
  x : Nat
  y : Nat
  z : Nat
  t : Nat
deriving DecidableEq, Repr

/-- The neutral point. -/
def edZero : EdPoint := ⟨0, 1, 1, 0⟩

/-- Sum of two points. -/
def edAdd (p q : EdPoint) : EdPoint :=
  let a := edSub p.y p.x * edSub q.y q.x % edP
  let b := (p.y + p.x) * (q.y + q.x) % edP
  let c := 2 * p.t * q.t * edD % edP
  let d := 2 * p.z * q.z % edP
  let e := edSub b a
  let f := edSub d c
  let g := (d + c) % edP
  let h := (b + a) % edP
  ⟨e * f % edP, g * h % edP, f * g % edP, e * h % edP⟩

/-- A multiple of a point, for a factor of at most `fuel` bits. -/
def edMul : Nat → Nat → EdPoint → EdPoint
  | 0, _, _ => edZero
  | fuel + 1, n, p =>
    let r := edMul fuel (n / 2) (edAdd p p)
    if n % 2 = 1 then edAdd r p else r

/-- Two points are the same. -/
def edSame (p q : EdPoint) : Bool :=
  p.x * q.z % edP == q.x * p.z % edP && p.y * q.z % edP == q.y * p.z % edP

/-- The x of a point with this y, with the sign bit given (RFC 8032, 5.1.3). -/
def edRecover (y sign : Nat) : Option Nat :=
  let u := edSub (y * y % edP) 1
  let v := (edD * (y * y % edP) + 1) % edP
  let v3 := v * v % edP * v % edP
  let v7 := v3 * v3 % edP * v % edP
  let x := u * v3 % edP * edPow 255 (u * v7 % edP) ((edP - 5) / 8) % edP
  let w := v * (x * x % edP) % edP
  let root : Option Nat :=
    if w = u then some x
    else if w = edSub 0 u then some (x * edPow 255 2 ((edP - 1) / 4) % edP)
    else none
  match root with
  | none => none
  | some x => if x = 0 && sign = 1 then none else if x % 2 = sign then some x else some (edP - x)

/-- The point that 32 bytes spell, where they spell one. -/
def edDecode (b : List Byte) : Option EdPoint :=
  let n := ofLeBytes b
  let y := n % 2 ^ 255
  if edP ≤ y then none
  else match edRecover y (n / 2 ^ 255 % 2) with
    | none => none
    | some x => some ⟨x, y, 1, x * y % edP⟩

/-- The base point. -/
def edBase : EdPoint :=
  ⟨0x216936d3cd6e53fec0a4e231fdd6dc5c692cc7609525a7b2c9562d608f25d51a,
   0x6666666666666666666666666666666666666666666666666666666666666658, 1,
   0x67875f0fd78b766566ea4e8e64abe37d20f09f80775152f56dde8ab3a5b7dda3⟩

/-- Whether a signature verifies (RFC 8032, 5.1.7): key, message, signature. The group equation is the one with cofactor 8. -/
def ed25519 (key msg sig : List Byte) : Bool :=
  let s := ofLeBytes ((sig.drop 32).take 32)
  match edDecode (key.take 32), edDecode (sig.take 32) with
  | some a, some r =>
    let k := ofLeBytes (sha512 (sig.take 32 ++ key.take 32 ++ msg)) % edL
    decide (s < edL) && edSame (edMul 4 8 (edMul 256 s edBase)) (edMul 4 8 (edAdd r (edMul 256 k a)))
  | _, _ => false

end Sys2Proof.Machine
end

