-- ==== Sys2Proof/Machine/Safe.lean ====
section
/-! DEFINITION. The safety functions with their clamps, the stop path, the safety inputs and outputs, the sealed set and the load test
(R408 to R434). -/
namespace Sys2Proof.Machine
open Sys2Proof

/-- The SAFE domain is powered (R469). -/
def Dev.safeUp (d : Dev) : Bool :=
  match d.clk.phase with
  | .off | .dormant | .aonLost => false
  | _ => true

/-- Function `f`. -/
def Dev.safeFn (d : Dev) (f : Nat) : SafeFn := d.safe.fns.getD f default
/-- Change it. -/
def Dev.setFn (d : Dev) (f : Nat) (g : SafeFn → SafeFn) : Dev := { d with safe := { d.safe with fns := modAt d.safe.fns f g } }
/-- Input pair `n`. -/
def Dev.safeIn (d : Dev) (n : Nat) : SafeIn := d.safe.ins.getD n default
/-- Change it. -/
def Dev.setIn (d : Dev) (n : Nat) (g : SafeIn → SafeIn) : Dev := { d with safe := { d.safe with ins := modAt d.safe.ins n g } }
/-- Output pair `n`. -/
def Dev.safeOut (d : Dev) (n : Nat) : SafeOut := d.safe.outs.getD n default
/-- Change it. -/
def Dev.setOut (d : Dev) (n : Nat) (g : SafeOut → SafeOut) : Dev := { d with safe := { d.safe with outs := modAt d.safe.outs n g } }

/-- The eight functions, input pairs or output pairs. -/
def eight : List Nat := [0, 1, 2, 3, 4, 5, 6, 7]

/-- The body of a safety record after its common bytes (R436): SAFE_STATUS, SAFE_STOP, function or pair, judged value. -/
def Dev.safeWords (d : Dev) (n : Nat) (v : Word) : List Word := [d.word 0x110000, d.word 0x110008, BitVec.ofNat 32 n, v]

/-- Raise a safety event with its sticky bit (R432). -/
def Dev.safeEvent (d : Dev) (e n : Nat) (v : Word) : Dev :=
  let d : Dev := d.setBitAt Reg.SAFE_STATUS.STICKY (e - 83) true
  d.raiseWith e n (d.safeWords n v) none

/-- A safety record without an event. -/
def Dev.safeNote (d : Dev) (sub : Nat) : Dev := d.note 0x08 0x11 sub (d.safeWords 0 0)

/-! ## Output pairs (R425 to R428) -/

/-- The pairs that a latched inhibit holds open (R416). -/
def Dev.inhibitPairs (d : Dev) : Nat :=
  eight.foldl (fun m f => if d.flag (Reg.SAFE_FN.FN_STAT.LATCHED f) then m ||| d.get (Reg.SAFE_FN.FN_CFG.OUTMASK f) else m) 0

/-- The pair that a load test holds open now (R428). -/
def Dev.loadPair (d : Dev) : Option Nat :=
  match d.safe.load with
  | some l => l.pairs[(d.sched.st - l.start) / 100000000]?
  | none => none

/-- A demand holds a pair open: an inhibit, a stop or a watchdog demand (R425). -/
def Dev.demanded (d : Dev) (n : Nat) : Bool := d.inhibitPairs.testBit n || d.bitAt Reg.SAFE_STOP.PAIRS n

/-- A pair may be ON (R425, R428, R491). -/
def Dev.pairAllowed (d : Dev) (n : Nat) : Bool :=
  d.flag Reg.SAFE_STATUS.SEAL_OK && d.flag Reg.SYS_MODE.STARTED && d.mode != 0 && !d.demanded n
    && !d.flag (Reg.SAFE_OUT.OUT_STAT.FAULT n) && !d.flag (Reg.SAFE_OUT.OUT_STAT.DEFER_FAULT n)
    && d.loadPair != some n && !d.safe.scanOpen

/-- The deferral time of a pair's test so far, in ns (R427): it counts only while the pair is ON. -/
def Dev.deferNs (d : Dev) (n : Nat) : Nat :=
  let x := d.safeOut n
  match x.deferFrom, x.onSince with
  | some a, some b => x.deferred + (d.sched.st - max a b)
  | _, _ => x.deferred

/-- Open a pair. -/
def Dev.openPair (d : Dev) (n : Nat) : Dev :=
  let k := d.deferNs n
  (d.setB (Reg.SAFE_OUT.OUT_STAT.ON n) false).setOut n fun x => { x with onSince := none, deferred := k, bad := 0 }

/-- Open every pair that is ON and may not be; a real demand on a pair that is ON leaves its stamp (R425, R427). -/
def Dev.openPairs (d : Dev) : Dev :=
  eight.foldl (fun d n =>
    let on := d.flag (Reg.SAFE_OUT.OUT_STAT.ON n)
    let d : Dev := if !d.demanded n then d.setOut n (fun x => { x with demandAt := none })
      else if on then d.setOut n (fun x => { x with demandAt := some d.sched.st })
      else d
    if on && !d.pairAllowed n then d.openPair n else d) d

/-- Energise, at a minor-frame boundary, the pairs that may be ON again (R416, R425); a discarded test is rescheduled (R427). -/
def Dev.closePairs (d : Dev) : Dev :=
  eight.foldl (fun d n =>
    if !d.flag (Reg.SAFE_OUT.OUT_STAT.ON n) && d.pairAllowed n then
      (d.setB (Reg.SAFE_OUT.OUT_STAT.ON n) true).setOut n fun x => { x with
        onSince := some d.sched.st
        bad := 0
        retestAt := if !x.owed.isEmpty then some (d.sched.st + 100000000) else none }
    else d) d

/-- A pair has a fault (R425, R426): E85, FAULT, the pair opens. -/
def Dev.pairFault (d : Dev) (n : Nat) : Dev :=
  let d : Dev := (d.setB (Reg.SAFE_OUT.OUT_STAT.FAULT n) true).openPairs
  d.safeEvent 85 n (d.word (0x110300 + 0x10 * n))

/-- A channel of a pair has passed its test (R426, R427): the deferral ends once no channel's discarded test is owed. -/
def Dev.testPassed (d : Dev) (n : Nat) (chB : Bool) : Dev :=
  let d : Dev := (d.incWrap (Reg.SAFE_OUT.OUT_CNT.PASS n)).set (Reg.SAFE_OUT.OUT_TEST_TS.TS n) d.ts32.toNat
  let l := (d.safeOut n).owed.filter (· != chB)
  let d : Dev := d.setOut n fun x => { x with discarded := false, owed := l }
  if l.isEmpty then (d.set (Reg.SAFE_OUT.OUT_DEFER.TIME n) 0).setOut n fun x => { x with deferFrom := none, deferred := 0, retestAt := none }
  else d

/-- A test of one channel is due at `t0`: at its phase of schedule time, or rescheduled (R426, R427). -/
def Dev.testDue (d : Dev) (n t0 : Nat) (chB : Bool) : Bool :=
  t0 % 10000000000 == 625000000 * n + (if chB then 5000000000 else 0) 
    || ((d.safeOut n).retestAt == some t0 && (d.safeOut n).owed.contains chB)

/-- The window of a channel's test closes now (R426, R427): `low` is the readback at T + 250 µs, low as it must be, and `high` the one at
T + 450 µs. -/
def Dev.testPulse (d : Dev) (n : Nat) (chB low high : Bool) : Dev :=
  let t0 := d.sched.st - 500000
  let x := d.safeOut n
  let stamped := match x.demandAt with
    | some a => t0 ≤ a && a < d.sched.st
    | none => false
  let was := match x.onSince with
    | some a => a ≤ t0
    | none => x.demandAt == some d.sched.st || stamped
  if !d.testDue n t0 chB || !was then d
  else if stamped then
    let d : Dev := (d.inc (Reg.SAFE_OUT.OUT_CNT.DEFER n)).setOut n fun y => { y with
      discarded := true
      owed := chB :: y.owed.filter (· != chB)
      deferFrom := some (y.deferFrom.getD t0)
      deferred := if y.deferFrom.isNone then (y.demandAt.getD t0) - t0 else y.deferred }
    if x.discarded then d else d.safeEvent 86 n (d.word (0x110308 + 0x10 * n))
  else if low && high then d.testPassed n chB
  else (d.inc (Reg.SAFE_OUT.OUT_CNT.FAIL n)).pairFault n

/-- R426: the test window of channel A or B of a pair closes at `t`. -/
def execSafeOutTestPulse (t n : Nat) (chB low high : Bool) (s : State) : Host.Outcome State Fault Refusal :=
  s.run fun d => (d.advance t).whenUp fun d => if n < 8 then d.testPulse n chB low high else d

/-- The deferral time of a pair exceeds 60 s (R427). -/
def Dev.deferCheck (d : Dev) (n : Nat) : Dev :=
  if 60000000000 < d.deferNs n && !d.flag (Reg.SAFE_OUT.OUT_STAT.DEFER_FAULT n) then
    let d : Dev := (d.setB (Reg.SAFE_OUT.OUT_STAT.DEFER_FAULT n) true).openPairs
    d.safeEvent 85 n (d.word (0x110300 + 0x10 * n))
  else d

/-- R427: a deferral timer runs out. -/
def execTestDeferFault (t n : Nat) (s : State) : Host.Outcome State Fault Refusal :=
  s.run fun d => (d.advance t).whenUp fun d => if n < 8 then d.deferCheck n else d

/-- SAFE_CTRL.OUT_RESET (R426): an immediate test of the faulty pairs; `pass` are the pairs both of whose channels pass. -/
def Dev.outReset (d : Dev) (port pass : Nat) : Dev :=
  if d.mode != 1 && d.mode != 7 then d.reportWrite 8 port 0 0x110014 false
  else eight.foldl (fun d n =>
    if d.flag (Reg.SAFE_OUT.OUT_STAT.FAULT n) || d.flag (Reg.SAFE_OUT.OUT_STAT.DEFER_FAULT n) then
      if pass.testBit n then
        (((d.setB (Reg.SAFE_OUT.OUT_STAT.FAULT n) false).setB (Reg.SAFE_OUT.OUT_STAT.DEFER_FAULT n) false).testPassed n false).testPassed n true
      else (d.inc (Reg.SAFE_OUT.OUT_CNT.FAIL n)).pairFault n
    else d) d

/-- R426: host software resets the output faults. -/
def execOutReset (t port pass : Nat) (s : State) : Host.Outcome State Fault Refusal :=
  s.run fun d => (d.advance t).whenUp fun d => d.outReset port pass

/-- A channel of a pair is inside a test window now (R426). -/
def Dev.underTest (d : Dev) (n : Nat) (chB : Bool) : Bool := d.flag (Reg.SAFE_OUT.OUT_STAT.ON n) && d.testDue n d.sched.st chB

/-- One minor frame's readback of a pair (R425); a channel inside its test window is not judged. -/
def Dev.readback (d : Dev) (n : Nat) (a b : Bool) : Dev :=
  let on := d.flag (Reg.SAFE_OUT.OUT_STAT.ON n)
  let d : Dev := (d.setB (Reg.SAFE_OUT.OUT_STAT.RB_A n) a).setB (Reg.SAFE_OUT.OUT_STAT.RB_B n) b
  if d.underTest n false || d.underTest n true then d
  else if a == on && b == on then d.setOut n fun x => { x with bad := 0 }
  else
    let k := (d.safeOut n).bad + 1
    let d : Dev := d.setOut n fun x => { x with bad := k }
    if k = 2 && !d.flag (Reg.SAFE_OUT.OUT_STAT.FAULT n) then d.pairFault n else d

/-! ## The load test (R428) -/

/-- SAFE_CTRL.LOADTEST (R428): M7 only. -/
def Dev.loadStart (d : Dev) (port : Nat) : Dev :=
  if d.mode != 7 then d.reportWrite 8 port 0 0x110014 false
  else if d.safe.load.isSome then d.reportWrite 9 port 0 0x110014 false
  else
    let l := eight.filter fun n => d.sealedVal (P.SAFE.OUT_THRMASK n) != 0
    ({ d with safe := { d.safe with load := some ⟨d.sched.st, l, List.replicate l.length 0, List.replicate l.length 0⟩ } }).openPairs

/-- R428: host software starts the load test. -/
def execLoadtest (t port : Nat) (s : State) : Host.Outcome State Fault Refusal :=
  s.run fun d => (d.advance t).whenUp fun d => d.loadStart port

/-- The time at which a load test is over (R428): the last pair has had its second since it was ON again. -/
def Dev.loadEnd (d : Dev) (l : LoadTest) : Nat :=
  l.pairs.foldl (fun m n => max m (((d.safeOut n).onSince.getD 0) + 1000000000)) (l.start + 100000000 * l.pairs.length + 1000000000)

/-- The load test is over once the last pair has had its second to recover: LOAD_RESULT, a record, and doorbell 9 (R428, R517). -/
def Dev.loadDone (d : Dev) : Dev :=
  match d.safe.load with
  | none => d
  | some l =>
    if d.sched.st < d.loadEnd l then d
    else
      let d : Dev := ((List.range l.pairs.length).zip l.pairs).foldl (fun d (k, n) =>
        let m := d.sealedVal (P.SAFE.OUT_THRMASK n)
        let ok := l.trip.getD k 0 &&& m = m && l.back.getD k 0 &&& m = m
        d.set (Reg.SAFE_OUT.OUT_STAT.LOAD_RESULT n) (if ok then 1 else 2)) d
      let d : Dev := { d with safe := { d.safe with load := none } }
      (d.note 0x08 0x11 4 (eight.map fun n => d.word (0x110300 + 0x10 * n))).doorbell 9

/-- R428: the load test completes. -/
def execLoadTestComplete (t : Nat) (s : State) : Host.Outcome State Fault Refusal :=
  s.run fun d => (d.advance t).whenUp Dev.loadDone

/-! ## Stops and resets (R416, R421 to R423) -/

/-- A stop demand latches in the monitor die (R423): its pairs open at once, and SAFE_STOP shows the newest demand with the pairs that all
latched demands open. A demand that is latched already is not told again. -/
def Dev.stopLatch (d : Dev) (cause input pairs : Nat) : Dev :=
  let same (x : StopDemand) : Bool := x.cause = cause && x.input = input
  let l : List StopDemand :=
    if d.safe.stops.any same then
      d.safe.stops.map fun x => if same x then { x with pairs := x.pairs ||| pairs, onAt := none } else x
    else ⟨cause, input, pairs, none, false⟩ :: d.safe.stops
  let d : Dev := { d with safe := { d.safe with stops := l } }
  let d : Dev := (((d.set Reg.SAFE_STOP.CAUSE cause).set Reg.SAFE_STOP.INPUT input).set Reg.SAFE_STOP_TS.TS d.ts32.toNat).setB
    Reg.SAFE_STATUS.STOP true
  (d.set Reg.SAFE_STOP.PAIRS (d.get Reg.SAFE_STOP.PAIRS ||| pairs)).openPairs

/-- The main die learns of the stops latched, at the latest at the next minor-frame boundary (R423): E84 for each, oldest first. -/
def Dev.tellStop (d : Dev) : Dev :=
  let news := (d.safe.stops.filter (fun x => !x.told)).reverse
  let d : Dev := { d with safe := { d.safe with
    stops := d.safe.stops.map (fun x => { x with told := true })
    stopDue := d.safe.stopDue || !news.isEmpty } }
  news.foldl (fun d x => d.safeEvent 84 x.cause (d.word 0x11000C)) d

/-- The role of an input pair under the loaded set (R424). -/
def Dev.inRole (d : Dev) (n : Nat) : Nat :=
  if d.flag Reg.SAFE_STATUS.SEAL_OK then d.get (Reg.SAFE_IN.IN_STAT.ROLE n) else 0

/-- Every stop-role pair reads ON. -/
def Dev.stopInputsOn (d : Dev) : Bool :=
  eight.all fun n => d.inRole n != 1 || d.flag (Reg.SAFE_IN.IN_STAT.ON n)

/-- The evaluation fences since the island's last heartbeat, or since evaluation began (R417, R421). -/
def Dev.missedBeats (d : Dev) : Nat :=
  let fence := 1000 * d.get Reg.SAFE_TIMING.FENCE
  let count (t : Nat) : Nat := (t + 1000000 - fence) / 1000000
  match d.clk.standbyAt with
  | some t => count d.sched.st - count (max t d.safe.beat)
  | none => 0

/-- A hard-wired stop holds (R416): a stop pair does not read ON, the island's heartbeat has not resumed, or the channels still differ. -/
def Dev.stopHolds (d : Dev) : Bool :=
  !d.stopInputsOn || d.safe.stops.any fun x =>
    if x.cause = 2 then decide (2 ≤ d.missedBeats) else x.cause = 3 && d.safe.differ.any (· != 0)

/-- Only some latched stops stay (R423); with none left the stop is over. -/
def Dev.keepStops (d : Dev) (stays : StopDemand → Bool) : Dev :=
  let l := d.safe.stops.filter stays
  let d : Dev := { d with safe := { d.safe with stops := l } }
  let d : Dev := d.set Reg.SAFE_STOP.PAIRS (l.foldl (fun m x => m ||| x.pairs) 0)
  let d : Dev := d.setB Reg.SAFE_STATUS.DISCREP (d.flag Reg.SAFE_STATUS.DISCREP && l.any (fun x => x.cause = 3))
  if l.isEmpty then (d.setB Reg.SAFE_STATUS.STOP false).set Reg.SAFE_STOP.CAUSE 0 else d

/-- The reaction of a function is inhibit, by configuration or by escalation (R414, R415). -/
def Dev.inhibits (d : Dev) (f : Nat) : Bool :=
  d.get (Reg.SAFE_FN.FN_CFG.REACT f) = 3 || d.flag (Reg.SAFE_FN.FN_STAT.ESCALATED f)

/-- A reset (R416): accepted only while no inhibiting violation and no stop holds. -/
def Dev.safeReset (d : Dev) : Dev :=
  let bad := d.stopHolds || eight.any fun f => d.flag (Reg.SAFE_FN.FN_STAT.ACTIVE f) && d.inhibits f
  if bad then d.setB Reg.SAFE_STATUS.RESET_REFUSED true
  else
    let d : Dev := d.keepStops (fun _ => false)
    let d : Dev := eight.foldl (fun d f => (d.setB (Reg.SAFE_FN.FN_STAT.LATCHED f) false).setB (Reg.SAFE_FN.FN_STAT.ESCALATED f) false) d
    d.setB Reg.SAFE_STATUS.INHIBIT false

/-- SAFE_CTRL.INH_RESET (R416): a reset that is refused is reported too (R507). -/
def Dev.inhReset (d : Dev) (port : Nat) : Dev :=
  let e : Dev := d.safeReset
  if d.stopHolds || eight.any (fun f => d.flag (Reg.SAFE_FN.FN_STAT.ACTIVE f) && d.inhibits f) then e.reportWrite 8 port 0 0x110014 false else e

/-- R416: host software resets the inhibits. -/
def execInhReset (t port : Nat) (s : State) : Host.Outcome State Fault Refusal :=
  s.run fun d => (d.advance t).whenUp fun d => d.inhReset port

/-- The auto-reset time of a stop demand has passed (R423): its pair has read ON for 100 ms. -/
def Dev.autoresetDue (d : Dev) (x : StopDemand) : Bool := x.cause = 1 && heldFor d.sched.st 100000000 x.onAt

/-- R423: with auto-reset a latch clears 100 ms after its demanding pair reads ON again. -/
def Dev.autoreset (d : Dev) : Dev :=
  if d.sealedVal P.SAFE.STOP_AUTORESET = 1 && d.safe.stops.any d.autoresetDue then d.keepStops (fun x => !d.autoresetDue x) else d

/-- R423: the auto-reset time of a stop has passed. -/
def execStopAutoreset (t : Nat) (s : State) : Host.Outcome State Fault Refusal :=
  s.run fun d => (d.advance t).whenUp Dev.autoreset

/-- R421: the monitor die misses two consecutive heartbeats of the island. -/
def execSafetyWatchdog (t : Nat) (s : State) : Host.Outcome State Fault Refusal :=
  s.run fun d =>
    let d : Dev := d.advance t
    if d.safeUp && d.flag Reg.SAFE_STATUS.SEAL_OK && 2 ≤ d.missedBeats then d.stopLatch 2 0 (d.sealedVal P.SAFE.WD_MASK) else d

/-! ## Safety inputs (R424) -/

/-- What a pair's change of state does under its role (R416, R422, R424). -/
def Dev.inChanged (d : Dev) (n : Nat) (on : Bool) : Dev :=
  let r := d.inRole n
  if r = 1 then
    if on then
      let l : List StopDemand := d.safe.stops.map fun x =>
        if x.cause = 1 && x.input = n then { x with onAt := some d.sched.st } else x
      { d with safe := { d.safe with stops := l } }
    else d.stopLatch 1 n (d.sealedVal (P.SAFE.IN_MASK n))
  else if r = 2 && on then d.safeReset
  else if r = 4 then d.note 0x08 0x11 5 (d.safeWords n (d.word (0x110200 + 0x10 * n)))
  else d

/-- Form the state of a pair from its levels. -/
def Dev.judgeIn (d : Dev) (n : Nat) : Dev :=
  let a := d.flag (Reg.SAFE_IN.IN_STAT.LEVEL_A n)
  let b := d.flag (Reg.SAFE_IN.IN_STAT.LEVEL_B n)
  let x := d.safeIn n
  let d : Dev :=
    if d.flag (Reg.SAFE_IN.IN_STAT.DISC n) then
      if !a && !b then d.setIn n fun y => { y with bothLow := true }
      else if a && b && x.bothLow then d.setB (Reg.SAFE_IN.IN_STAT.DISC n) false
      else d
    else d
  let on := a && b && !d.flag (Reg.SAFE_IN.IN_STAT.DISC n)
  if on == d.flag (Reg.SAFE_IN.IN_STAT.ON n) then d else (d.setB (Reg.SAFE_IN.IN_STAT.ON n) on).inChanged n on

/-- A filtered channel of a pair changes. -/
def Dev.inLevel (d : Dev) (n : Nat) (chB level : Bool) : Dev :=
  let x := if chB then Reg.SAFE_IN.IN_STAT.LEVEL_B n else Reg.SAFE_IN.IN_STAT.LEVEL_A n
  if d.flag x == level then d
  else
    let d : Dev := (d.setB x level).set (Reg.SAFE_IN.IN_TS.TS n) d.ts32.toNat
    let differ := d.flag (Reg.SAFE_IN.IN_STAT.LEVEL_A n) != d.flag (Reg.SAFE_IN.IN_STAT.LEVEL_B n)
    (d.setIn n fun y => { y with diffSince := if differ then some d.sched.st else none }).judgeIn n

/-- R424: a channel of a safety input pair changes behind its filter. The monitor die needs the SAFE domain only (R15). -/
def execSafeInputChange (t n : Nat) (chB level : Bool) (s : State) : Host.Outcome State Fault Refusal :=
  s.run fun d =>
    let d : Dev := d.advance t
    if d.safeUp && n < 8 then d.inLevel n chB level else d

/-- The channels of a pair have differed for longer than SAFE.IN_DISC (R424). -/
def Dev.inDiscrepancy (d : Dev) (n : Nat) : Dev :=
  if heldFor d.sched.st (nsOfMs (d.sealedF P.SAFE.IN_DISC)) (d.safeIn n).diffSince && !d.flag (Reg.SAFE_IN.IN_STAT.DISC n) then
    let d : Dev := (d.setB (Reg.SAFE_IN.IN_STAT.DISC n) true).setIn n fun y => { y with bothLow := false }
    (d.note 0x08 0x11 6 (d.safeWords n (d.word (0x110200 + 0x10 * n)))).judgeIn n
  else d

/-- R424: the discrepancy time of a pair has passed. -/
def execSafeInputDiscrepancy (t n : Nat) (s : State) : Host.Outcome State Fault Refusal :=
  s.run fun d =>
    let d : Dev := d.advance t
    if d.safeUp && n < 8 then d.inDiscrepancy n else d

/-! ## The sealed set (R429 to R431) -/

/-- The indexes of the safety parameters in ascending order. -/
def safeIndexes : List Nat :=
  (paramRows.filter (fun r => 0x1100 ≤ r.base && r.base < 0x1200)).flatMap (fun r => (List.range r.count).map (r.base + ·))

/-- The value that the running image's safety table, or else the factory table, gives a safety parameter. -/
def Dev.safetyValue (d : Dev) (i : Nat) : Nat :=
  match (lookup d.image.safety i).filter (d.finiteParam i) with
  | some q => q.toNat
  | none => tableFactory i

/-- CRC-12 of R429. -/
def crc12Alg : CrcAlg := ⟨12, 0x80F, 0, false, false, 0⟩

/-- The code of the set (R429): every value as 8 bytes little-endian, then the strap byte. -/
def Dev.sealCode (d : Dev) : Nat :=
  crc crc12Alg (safeIndexes.flatMap (fun i => leBytes 8 (d.safetyValue i)) ++ leBytes 1 (d.red.strap.getD 0))

/-- The monitor die's copy of the set, which it verifies against the code in its own logic (R420); none where it fails. -/
def Dev.dieCopy (d : Dev) (vals : List (Nat × Quad)) (code : Nat) : Option (List (Nat × Quad)) :=
  if crc crc12Alg (vals.flatMap (fun e => leBytes 8 e.2.toNat) ++ leBytes 1 (d.red.strap.getD 0)) = code then some vals else none

/-- The sealed set is loaded by the island and the monitor die (R420, R431), and roles take effect: a stop pair that does not read ON
latches a stop. -/
def Dev.loadSealed (d : Dev) (code : Nat) : Dev :=
  let vals : List (Nat × Quad) := safeIndexes.map fun i => (i, BitVec.ofNat 64 (d.safetyValue i))
  let d : Dev := { d with params := { d.params with sealedVals := vals }, safe := { d.safe with dieVals := d.dieCopy vals code } }
  let d : Dev := (d.set Reg.SAFE_STATUS.ARCH (d.sealedVal P.SAFE.ARCH)).setB Reg.SAFE_STATUS.SEAL_OK true
  let d : Dev := eight.foldl (fun d n =>
    ((d.set (Reg.SAFE_FN.FN_CFG.REACT n) (d.sealedVal (P.SAFE.FN_REACT n))).set (Reg.SAFE_FN.FN_CFG.OUTMASK n)
      (d.sealedVal (P.SAFE.FN_OUTMASK n))).set (Reg.SAFE_IN.IN_STAT.ROLE n) (d.sealedVal (P.SAFE.IN_ROLE n))) d
  eight.foldl (fun d n =>
    if d.inRole n = 1 && !d.flag (Reg.SAFE_IN.IN_STAT.ON n) then d.stopLatch 1 n (d.sealedVal (P.SAFE.IN_MASK n)) else d) d

/-- A reading of the switch block (R430, R431): the first of a start is compared with the set; a later one is watched for a change. -/
def Dev.switchRead (d : Dev) (code : Nat) (fault : Bool) : Dev :=
  let code := code % 4096
  let d : Dev := (d.set Reg.SAFE_SEAL.SW_CODE code).setB Reg.SAFE_SEAL.SW_FAULT fault
  if !d.safe.judged then
    let c := d.sealCode
    let d : Dev := d.set Reg.SAFE_SEAL.CALC c
    let d : Dev := { d with safe := { d.safe with judged := true } }
    if code = c && !fault then ({ d with safe := { d.safe with matched := some code } }).loadSealed code
    else d.safeEvent 87 0 (d.word 0x110004)
  else match d.safe.matched with
    | none => d
    | some m =>
      if (code != m || fault) && !d.flag Reg.SAFE_STATUS.SW_CHANGED then
        (d.setB Reg.SAFE_STATUS.SW_CHANGED true).safeEvent 87 1 (d.word 0x110004)
      else d

/-- The switches that the levels of the pins in the four phases high, low, high, low spell, and a switch fault (R430): a pin that follows
the pattern reads 1, one that stays low reads 0. -/
def switchCode (p q : Nat × Nat) : Nat × Bool :=
  let pin (k : Nat) : List Bool := [p.1.testBit k, p.2.testBit k, q.1.testBit k, q.2.testBit k]
  let follows (k : Nat) : Bool := pin k == [true, false, true, false]
  let low (k : Nat) : Bool := pin k == [false, false, false, false]
  (maskOf ((List.range 12).filter follows), (List.range 12).any fun k => !follows k && !low k)

/-- R430: the switch block has been read: the levels of SAFE_SW0 to SAFE_SW11 in the phases high and low, twice. -/
def execSealSwitchRead (t : Nat) (p q : Nat × Nat) (s : State) : Host.Outcome State Fault Refusal :=
  s.run fun d => (d.advance t).whenUp fun d => d.switchRead (switchCode p q).1 (switchCode p q).2

/-- SAFE_CTRL.INST_SEL (R410): accepted in M1 and M7, in force from the next minor-frame boundary. -/
def Dev.instSelect (d : Dev) (sel port : Nat) : Dev :=
  if d.mode != 1 && d.mode != 7 then d.reportWrite 8 port 0 0x110014 false
  else { (d.set Reg.SAFE_CTRL.INST_SEL sel) with safe := { d.safe with instDue := true } }

/-- R410: host software selects an installation. -/
def execInstSel (t sel port : Nat) (s : State) : Host.Outcome State Fault Refusal :=
  s.run fun d => (d.advance t).whenUp fun d => d.instSelect (sel % 8) port

/-- A latitude or longitude of an installation entry. -/
def Dev.instCoord (d : Dev) (i : Nat) : F64 := F64.ofBits (d.sealedVal i)

/-- The selection takes effect at a minor-frame boundary (R410); an empty entry selects none. -/
def Dev.instMinor (d : Dev) : Dev :=
  if !d.safe.instDue then d
  else
    let k := d.get Reg.SAFE_CTRL.INST_SEL
    let z := F64.zero
    let empty := (d.instCoord (P.SAFE.INST_LAT k)).eq z && (d.instCoord (P.SAFE.INST_LON k)).eq z
    let d : Dev := { d with safe := { d.safe with instDue := false, inst := if k < 4 && !empty then some k else none } }
    d.note 0x08 0x11 7 (d.safeWords k 0)

/-! ## Inputs to the evaluation (R409 to R413) -/

/-- A position input: position and velocity in the earth frame at the evaluation release, and the time of validity of what it rests on. -/
structure Fix where
  n : F64
  e : F64
  vn : F64
  ve : F64
  tov : Int
deriving DecidableEq, Repr, Inhabited

/-- An age limit is not passed at the release (R413). -/
def within100 (rel : Nat) (tov : Int) : Bool := (rel : Int) < tov + 100000000

/-- Fusion's position input at the release, with the heading: its latest output propagated at its velocity, whatever its age (R412, R413).
-/
def Dev.fusionFix (d : Dev) (rel : Nat) : Option (Fix × F64) :=
  (d.output 0x10 0).map fun p =>
    let w := p.payload
    let psi := radOfBam (w.getD 4 0)
    let v := (rotZ psi).mulVec [f32At w 5, f32At w 6, F64.zero]
    let dt := secsBetween p.tovNs rel
    (⟨(f64At w 0).add ((v.at 0).mul dt), (f64At w 2).add ((v.at 1).mul dt), v.at 0, v.at 1, p.tovNs⟩, psi)

/-- The fusion output has not passed its age limit (R413). -/
def Dev.fusionFresh (d : Dev) (rel : Nat) : Bool := (d.output 0x10 0).any fun p => within100 rel p.tovNs

/-- The attitude of the latest admitted MRU datum with fusion's heading, for the lever of the island's own solution (R412). -/
def Dev.latestAttitude (d : Dev) (psi : F64) : Mat :=
  match d.attLists.foldl (fun (o : Option AttSample) l => match o, l.head? with
      | some a, some b => some (if a.t < b.t then b else a)
      | some a, none => some a
      | none, b => b) none with
  | some a => rotZYX a.roll a.pitch psi
  | none => rotZYX F64.zero F64.zero psi

/-- The island solves its own position from the latest raw measurements sealed before its release `rel` (R412, R417): at least 4 satellites.
`v` is the device as the evaluation sees it. -/
def Dev.solveOwn (d v : Dev) (rel : Nat) : Dev :=
  match d.gnss.raw.filter (fun p => p.sealedAt < rel), d.image.gnss.pvtSlot, v.output 0x10 0 with
  | some p, some g, some f =>
      if (match d.safe.own with
          | some o => o.tov == p.tovNs
          | none => false) then d
      else
        let x := Config.islandFix p.payload
        match v.xforms g p with
        | [] => d
        | t :: _ =>
          if (Vec.at x 0).lt (.ofInt 4) then { d with safe := { d.safe with own := none } }
          else
            let psi := radOfBam (f.payload.getD 4 0)
            let ant := nedFrom (v.fus.origin.getD (F64.zero, F64.zero, F64.zero)) (Vec.at x 1) (Vec.at x 2) (Vec.at x 3)
            let q := Vec.sub ant ((v.latestAttitude psi).mulVec (v.lever t))
            { d with safe := { d.safe with own := some ⟨p.tovNs, q.at 0, q.at 1, Vec.at x 4, Vec.at x 5⟩ } }
  | _, _, _ => d

/-- The island's own input at the release (R412, R413): native mode, no confirmed spoofing, inside its age limit. -/
def Dev.ownFix (d : Dev) (rel : Nat) : Option Fix :=
  match d.safe.own with
  | none => none
  | some o =>
    let limit : Int := 1000000000 / (max 1 (d.param P.GNSS.RATE)) + 100000000
    if d.get Reg.SAFE_STATUS.ARCH != 0 || d.get Reg.GNSS_STATUS.INTEG = 3 || o.tov + limit ≤ rel then none
    else
      let dt := secsBetween o.tov rel
      some ⟨o.n.add (o.vn.mul dt), o.e.add (o.ve.mul dt), o.vn, o.ve, o.tov⟩

/-- The selected installation in the local tangent plane (R410). -/
def Dev.instPoint (d : Dev) : Option Vec :=
  match d.safe.inst, d.fus.origin with
  | some k, some o => some (nedFrom o (d.instCoord (P.SAFE.INST_LAT k)) (d.instCoord (P.SAFE.INST_LON k)) o.2.2)
  | _, _ => none

/-- What the evaluation finds for a function: judged now, an input past its age limit or never received (R413), the judged quantity inside
its limit by the hysteresis, the quantities that its condition compares, the value that FN_VALUE shows, the direction of its clamp in the
earth frame where one is found, and the time of validity of the deciding datum. -/
structure Verdict where
  enabled : Bool
  aged : Bool
  inside : Bool
  q : List F64
  shown : Option F64
  dir : Option Vec
  tov : Option Int
deriving DecidableEq, Repr, Inhabited

/-- A function that is not judged now. -/
def Verdict.off : Verdict := ⟨false, false, true, [], none, none, none⟩

/-- A function that is judged and finds nothing to compare: functions 0 and 5 without an installation (R410). -/
def Verdict.idle : Verdict := ⟨true, false, true, [], none, none, none⟩

/-- An input of the function was never received (R413). -/
def Verdict.stale : Verdict := ⟨true, true, false, [], none, none, none⟩

/-- 1 − SAFE.HYST per cent. -/
def Dev.hystIn (d : Dev) : F64 := F64.one.sub ((d.sealedF P.SAFE.HYST).div (.ofInt 100))
/-- 1 + SAFE.HYST per cent. -/
def Dev.hystOut (d : Dev) : F64 := F64.one.add ((d.sealedF P.SAFE.HYST).div (.ofInt 100))

/-- Distance of a position input from a point. -/
def Fix.dist (x : Fix) (p : Vec) : F64 := Vec.norm [(p.at 0).sub x.n, (p.at 1).sub x.e]

/-- The greatest of some numbers; 0 of none. -/
def maxF (l : List F64) : F64 := l.foldl F64.max F64.zero

/-- The unit vector along a vector; 0 for 0. -/
def unitOf (v : Vec) : Vec := if (Vec.norm v).eq F64.zero then Vec.zeros 2 else Vec.scale (F64.one.div (Vec.norm v)) v

/-- The mode is one in which a function is judged (R408). -/
def Dev.modeIn (d : Dev) (lo hi : Nat) : Bool := lo ≤ d.mode && d.mode ≤ hi

/-- Function 0: speed over ground near the installation. -/
def Dev.judge0 (d : Dev) (fixes : List Fix) (fresh : Bool) : Verdict :=
  if !d.modeIn 2 6 then .off
  else match d.instPoint, fixes with
    | none, _ => .idle
    | some _, [] => .stale
    | some p, f0 :: rest =>
      let speed (f : Fix) : F64 := Vec.norm [f.vn, f.ve]
      let v := maxF (fixes.map speed)
      let near := rest.foldl (fun m f => if (f.dist p).lt m then f.dist p else m) (f0.dist p)
      let top := (fixes.find? (fun f => (speed f).eq v)).getD f0
      ⟨true, !fresh, v.le ((d.sealedF P.SAFE.SOG_MAX).mul d.hystIn), [v, near], some v, some (unitOf [top.vn, top.ve]), some top.tov⟩

/-- The azimuth thrusters that are configured. -/
def Dev.azimuths (d : Dev) : List Nat :=
  d.thrusters.filter fun i => match d.thruster i with
    | some r => r.type == .azimuth
    | none => false

/-- Function 1: measured azimuth rate. -/
def Dev.judge1 (d : Dev) (rel : Nat) : Verdict :=
  if !d.modeIn 2 7 then .off
  else
    let l := d.azimuths
    let fresh (i : Nat) : Bool := (d.feedback i).any fun p => within100 rel p.tovNs
    let rate (i : Nat) : F64 := match d.safe.azLast.getD i none with
      | some (_, _, v) => v
      | none => F64.zero
    let v := maxF (l.map rate)
    let top := (l.find? (fun i => (rate i).eq v)).getD (l.headD 0)
    ⟨true, !l.all fresh, l.all (fun i => (rate i).le ((d.sealedF (P.SAFE.AZ_RATE i)).mul d.hystIn)), v :: l.map rate, some v, none,
      (d.feedback top).map fun p => p.tovNs⟩

/-- A joint's latest datum is fresh at the release. -/
def Dev.jointFresh (d : Dev) (rel j : Nat) : Bool := match (d.jointAt j).head? with
  | some e => within100 rel e.1
  | none => false

/-- Function 2: joint speeds. -/
def Dev.judge2 (d : Dev) (rel : Nat) : Verdict :=
  let l := d.jointList
  if d.image.alloc.chain.isNone then .off
  else
    let v (j : Nat) : F64 := match (d.jointAt j).head? with
      | some e => e.2.2.abs
      | none => F64.zero
    let m := maxF (l.map v)
    let top := (l.find? (fun j => (v j).eq m)).getD (l.headD 0)
    ⟨true, !l.all (d.jointFresh rel), l.all (fun j => (v j).le ((d.sealedF (P.SAFE.JOINT_SPEED j)).mul d.hystIn)),
      m :: l.map v, some m, none, ((d.jointAt top).head?).map fun e => e.1⟩

/-- Function 3: distance from the position set-point of reference models 0 and 1. -/
def Dev.judge3 (d : Dev) (fixes : List Fix) (fresh : Bool) : Verdict :=
  if !d.modeIn 5 6 then .off
  else match fixes with
    | [] => .stale
    | f0 :: _ =>
      let p : Vec := [(d.loop.rm.getD 0 default).sp, (d.loop.rm.getD 1 default).sp]
      let v := maxF (fixes.map fun f => f.dist p)
      let far := (fixes.find? (fun f => (f.dist p).eq v)).getD f0
      ⟨true, !fresh, v.le ((d.sealedF P.SAFE.WATCH_RADIUS).mul d.hystIn), [v], some v,
        some (unitOf [far.n.sub (p.at 0), far.e.sub (p.at 1)]), some far.tov⟩

/-- Function 4: the gangway tip and its landing point (R274). -/
def Dev.judge4 (d : Dev) (rel : Nat) (fix : Option (Fix × F64)) (fresh : Bool) : Verdict :=
  match d.image.alloc.chain with
  | none => .off
  | some c =>
    match fix with
    | none => .stale
    | some (x, _) =>
      let tip := (d.chainIn c (rel - 5000000)).tip
      let e := Vec.sub tip c.landing
      let h := Vec.norm [e.at 0, e.at 1]
      let z := (e.at 2).abs
      ⟨true, !(fresh && d.jointList.all (d.jointFresh rel)),
        h.le ((d.sealedF P.SAFE.TIP_RADIUS).mul d.hystIn) && z.le ((d.sealedF P.SAFE.TIP_VBAND).mul d.hystIn), [h, z],
        some h, none, some x.tov⟩

/-- The commanded demand and azimuth of a thruster before frame build, with the time of validity of what they rest on (R27, R409). -/
def Dev.commanded (d : Dev) (i : Nat) (r : Thruster) : Option (F64 × Word × Option Int) :=
  if d.frameKind i = 1 then some (F64.zero, ninety, none)
  else
    let l := (d.image.out.thr.getD i none).bind (fun o => o.chan) |>.bind (fun c => d.output 0x30 c)
    let a := if 3 ≤ d.mode && d.mode ≤ 6 then d.output 0x21 0 else none
    (d.liveCommand d i 0 r l a).map fun c =>
      (c.dem.to64, c.az, match l, a with
        | some p, some q => some (min p.tovNs q.tovNs)
        | some p, none => some p.tovNs
        | none, some q => some q.tovNs
        | none, none => none)

/-- The commanded force of a thruster in the body frame (R250, R409); none when its command is missing or too old. -/
def Dev.commandedForce (d : Dev) (rel i : Nat) : Option Vec :=
  match d.thruster i with
  | none => some (Vec.zeros 2)
  | some r =>
    match d.commanded i r with
    | none => none
    | some (dem, az, tov) =>
      let fresh := match tov with
        | some t => within100 rel t
        | none => true
      if !fresh then none
      else some (Vec.scale ((r.k d.surge).mul (r.thrustAt dem)) (dirOf (match r.type with
        | .tunnel => ninety
        | .azimuth => az)))

/-- The commanded forces of all thrusters; none when one is missing. -/
def Dev.commandedForces (d : Dev) (rel : Nat) : List (Option Vec) := (List.range 16).map (d.commandedForce rel)

/-- A vector of the body frame in the earth frame. -/
def toEarth (psi : F64) (v : Vec) : Vec := ((rotZ psi).mulVec [v.at 0, v.at 1, F64.zero]).take 2

/-- The keep-out sector about its centre, half-open (R409). -/
def Dev.inSector (d : Dev) (off : F64) : Bool :=
  let half := d.sealedF P.SAFE.SDI_HALF
  half.neg.le off && off.lt half

/-- The offset that is nearer the sector's centre, one inside the sector before one outside it (R412). -/
def Dev.nearerCentre (d : Dev) (a b : F64) : F64 :=
  if d.inSector a != d.inSector b then (if d.inSector a then a else b) else if b.abs.lt a.abs then b else a

/-- Function 5: the bearing of the resultant and the keep-out sector (R409). -/
def Dev.judge5 (d : Dev) (fixes : List Fix) (fresh : Bool) (psi : F64) (forces : List (Option Vec)) : Verdict :=
  if !d.modeIn 2 6 then .off
  else match d.instPoint, fixes with
    | none, _ => .idle
    | some _, [] => .stale
    | some p, f0 :: rest =>
      let sum := toEarth psi (forces.foldl (fun t f => Vec.add t (f.getD (Vec.zeros 2))) (Vec.zeros 2))
      let mag := Vec.norm sum
      let bear := bamOfRad (Config.atan2 (sum.at 1) (sum.at 0))
      let toward (f : Fix) : Vec := [(p.at 0).sub f.n, (p.at 1).sub f.e]
      let beta (f : Fix) : Word := bamOfRad (Config.atan2 (Vec.at (toward f) 1) (Vec.at (toward f) 0))
      let off (f : Fix) : F64 := bamToDeg (bear - beta f)
      let near := rest.foldl (fun m f => if (f.dist p).lt m then f.dist p else m) (f0.dist p)
      let v := rest.foldl (fun m f => d.nearerCentre m (off f)) (off f0)
      let pick := (fixes.find? (fun f => (off f).eq v)).getD f0
      let clear := fixes.all fun f => ((d.sealedF P.SAFE.SDI_HALF).mul d.hystOut).le (off f).abs
      ⟨true, !fresh || forces.any (fun f => f.isNone), clear, [v, near, mag], some (bamToDeg bear), some (unitOf (toward pick)),
        some pick.tov⟩

/-- The judged quantities of a function are beyond its limits (R408): what the island and, on what it received, the monitor die ask. -/
def Dev.breaks (d : Dev) (f : Nat) (q : List F64) : Bool :=
  let x (k : Nat) : F64 := q.getD k F64.zero
  let near : Bool := (x 1).le (d.sealedF P.SAFE.PROX_RADIUS)
  match q.isEmpty, f with
  | true, _ => false
  | _, 0 => near && (d.sealedF P.SAFE.SOG_MAX).lt (x 0)
  | _, 1 => (d.azimuths.zip (q.drop 1)).any fun e => (d.sealedF (P.SAFE.AZ_RATE e.1)).lt e.2
  | _, 2 => (d.jointList.zip (q.drop 1)).any fun e => (d.sealedF (P.SAFE.JOINT_SPEED e.1)).lt e.2
  | _, 3 => (d.sealedF P.SAFE.WATCH_RADIUS).lt (x 0)
  | _, 4 => (d.sealedF P.SAFE.TIP_RADIUS).lt (x 0) || (d.sealedF P.SAFE.TIP_VBAND).lt (x 1)
  | _, 5 => near && (d.sealedF P.SAFE.SDI_MIN_F).lt (x 2) && d.inSector (x 0)
  | _, _ => false

/-- A function is violated: an input has passed its age limit, or its condition holds (R408, R413). -/
def Dev.violated (d : Dev) (f : Nat) (v : Verdict) : Bool := v.aged || d.breaks f v.q

/-- The device with the monitor die's own copy of the limits (R420) for the sealed set. -/
def Dev.dieView (d : Dev) : Dev := { d with params := { d.params with sealedVals := d.safe.dieVals.getD [] } }

/-- The monitor die's verdict on a function (R420) from the quantities it received and its own copy of the limits; none when a complement or
a sequence number fails, or when it has no verified copy. -/
def Dev.dieVerdict (d : Dev) (seq f : Nat) (v : Verdict) (bad : List Handover) : Option Bool :=
  let mine := bad.filter fun h => h.f = f && h.k < v.q.length
  if d.safe.dieVals.isNone || mine.any (fun h => h.complement != ~~~h.value || h.seq != seq) then none
  else some (d.dieView.violated f { v with q := mine.foldl (fun q h => setAt q h.k (F64.ofBits h.value.toNat)) v.q })

/-- A function's enable inputs all read ON (R411); function 4 needs one. -/
def Dev.fnEnabled (d : Dev) (f : Nat) : Bool :=
  let l := eight.filter fun n => d.inRole n = 3 && (d.sealedVal (P.SAFE.IN_MASK n)).testBit f
  (f != 4 || !l.isEmpty) && l.all fun n => d.flag (Reg.SAFE_IN.IN_STAT.ON n)

/-! ## Reactions (R413 to R416) -/

/-- An inhibit opens a function's pairs and latches them (R416). -/
def Dev.inhibit (d : Dev) (f : Nat) : Dev :=
  let d : Dev := (d.setB (Reg.SAFE_FN.FN_STAT.LATCHED f) true).setB Reg.SAFE_STATUS.INHIBIT true
  { d with safe := { d.safe with inhibitDue := d.safe.inhibitDue || d.inhibitPairs != 0 } }.openPairs

/-- A function that is off or not enabled is not judged (R411, R414). -/
def Dev.judged (d : Dev) (f : Nat) (v : Verdict) : Verdict :=
  if d.get (Reg.SAFE_FN.FN_CFG.REACT f) = 0 || !d.fnEnabled f then .off else v

/-- Apply a verdict to a function (R413, R414): start or end of its violation, with E83, recorded with the deciding datum's time of validity
(R29); `monitor` tells that the monitor die finds it violated (R420). A clamp keeps its direction while none is found. -/
def Dev.applyVerdict (d : Dev) (f : Nat) (v : Verdict) (monitor : Bool) : Dev := d.about (v.tov.getD d.sched.st) fun d =>
  let now := d.sched.st
  let violated := d.violated f v
  let d : Dev := d.setB (Reg.SAFE_FN.FN_STAT.ENABLED f) v.enabled
  if !v.enabled then
    (d.setB (Reg.SAFE_FN.FN_STAT.ACTIVE f) false).setFn f fun x => { x with since := none, okSince := none }
  else
    let d : Dev := match v.shown with
      | some x => d.setF (Reg.SAFE_FN.FN_VALUE.VALUE f) x.to32
      | none => d
    let d : Dev :=
      if d.flag (Reg.SAFE_FN.FN_STAT.ACTIVE f) then
        let x := d.safeFn f
        let ok := if v.inside && !violated then some (x.okSince.getD now) else none
        if heldFor now (nsOfSec (d.sealedF P.SAFE.CLEAR_TIME)) ok then
          (d.setB (Reg.SAFE_FN.FN_STAT.ACTIVE f) false).setFn f fun x => { x with since := none, okSince := none }
        else d.setFn f fun x => { x with okSince := ok, dir := v.dir.getD x.dir }
      else if violated then
        let d : Dev := ((d.setB (Reg.SAFE_FN.FN_STAT.ACTIVE f) true).inc (Reg.SAFE_FN.FN_STAT.COUNT f)).set
          (Reg.SAFE_FN.FN_TS.TS f) d.ts32.toNat
        let d : Dev := d.setFn f fun x => { x with since := some now, okSince := none, dir := v.dir.getD (Vec.zeros 2) }
        d.safeEvent 83 f (d.word (0x110108 + 0x10 * f))
      else d
    if d.inhibits f && (d.flag (Reg.SAFE_FN.FN_STAT.ACTIVE f) || monitor) then d.inhibit f else d

/-- A limit-reacting violation has lasted SAFE.FN_ESC (R415): it escalates to inhibit. -/
def Dev.escalate (d : Dev) (f : Nat) : Dev :=
  let esc := nsOfSec (d.sealedF (P.SAFE.FN_ESC f))
  if d.get (Reg.SAFE_FN.FN_CFG.REACT f) = 2 && esc != 0 && d.flag (Reg.SAFE_FN.FN_STAT.ACTIVE f)
      && heldFor d.sched.st esc (d.safeFn f).since && !d.flag (Reg.SAFE_FN.FN_STAT.ESCALATED f) then
    (d.setB (Reg.SAFE_FN.FN_STAT.ESCALATED f) true).inhibit f
  else d

/-- R415: the escalation time of a function has passed. -/
def execSafeEscalation (t f : Nat) (s : State) : Host.Outcome State Fault Refusal :=
  s.run fun d => (d.advance t).whenUp fun d => if f < 8 && d.flag Reg.SAFE_STATUS.SEAL_OK then d.escalate f else d

/-- The violation of a limit-reacting function clamps; function 4 only in coupled transfer (R415). -/
def Dev.clamping (d : Dev) (f : Nat) : Bool :=
  d.limits f && d.flag (Reg.SAFE_FN.FN_STAT.ACTIVE f) && (f != 4 || d.coupled)

/-- Show the clamps in force (R415) and SAFE_LIMIT (R50). -/
def Dev.showClamp (d : Dev) (psi : F64) (forces : List (Option Vec)) : Dev :=
  let hits (dir : Vec) : List Nat := (List.range 16).filter fun i => match forces.getD i none with
    | some f => F64.zero.lt (Vec.dot (toEarth psi f) dir)
    | none => true
  let mask := ([0, 3, 5].filter d.clamping).foldl (fun m f => m ||| maskOf (hits (d.safeFn f).dir)) 0
  let d : Dev := ((d.set Reg.SAFE_CLAMP.THR_ZERO mask).set Reg.SAFE_CLAMP.JOINT_HOLD
    (if d.clamping 4 then maskOf d.jointList else 0)).setB Reg.SAFE_CLAMP.AZ_RATE (d.limits 1)
  let any := eight.any d.clamping
  (d.setB Reg.SAFE_STATUS.LIMIT any).setBitAt Reg.SYS_MODE.STATES 7 any

/-- The cross-check of the two positions (R412). -/
def Dev.crossCheck (d : Dev) (a : Option (Fix × F64)) (b : Option Fix) : Dev :=
  let native := d.get Reg.SAFE_STATUS.ARCH = 0
  let d : Dev := d.setB Reg.SAFE_STATUS.DEGRADED (native && b.isNone)
  match a, b with
  | some (x, _), some y =>
    let far := (d.sealedF P.SAFE.XCHK_TOL).lt (Vec.norm [x.n.sub y.n, x.e.sub y.e])
    let from_ := if far then some (d.safe.xchkSince.getD d.sched.st) else none
    let d : Dev := { d with safe := { d.safe with xchkSince := from_ } }
    let fail := heldFor d.sched.st 1000000000 from_
    if fail && !d.flag Reg.SAFE_STATUS.XCHK_FAIL then (d.setB Reg.SAFE_STATUS.XCHK_FAIL true).safeNote 8
    else if !far then d.setB Reg.SAFE_STATUS.XCHK_FAIL false else d
  | _, _ => { (d.setB Reg.SAFE_STATUS.XCHK_FAIL false) with safe := { d.safe with xchkSince := none } }

/-- The channels' verdicts are compared in compatibility mode (R420): three evaluations in a row with a difference stop the pairs. -/
def Dev.compareChannels (d : Dev) (differs : List Bool) : Dev :=
  let l := (d.safe.differ.zip differs).map fun (k, x) => if x then k + 1 else 0
  let d : Dev := { d with safe := { d.safe with differ := l } }
  if l.any (fun k => 3 ≤ k) && !d.flag Reg.SAFE_STATUS.DISCREP then
    (d.setB Reg.SAFE_STATUS.DISCREP true).stopLatch 3 0 (d.sealedVal P.SAFE.WD_MASK)
  else d

/-- The verdicts of one evaluation on what it saw at its release (R408 to R413, R417). -/
def Dev.verdicts (v : Dev) (rel : Nat) (fixes : List Fix) (psi : F64) (forces : List (Option Vec)) : List Verdict :=
  let fresh := v.fusionFresh rel
  let l : List Verdict := [v.judge0 fixes fresh, v.judge1 rel, v.judge2 rel, v.judge3 fixes fresh, v.judge4 rel (v.fusionFix rel) fresh,
    v.judge5 fixes fresh psi forces, .off, .off]
  (eight.zip l).map fun e => v.judged e.1 e.2

/-- One evaluation on what it saw at its release `rel` (R417): `bad` are the quantities that the monitor die received otherwise than they
were handed over (R420). -/
def Dev.evaluate (d v : Dev) (rel : Nat) (bad : List Handover) : Dev :=
  let d : Dev := (d.setB Reg.SAFE_STATUS.EVAL true).solveOwn v rel
  let v : Dev := { v with safe := { v.safe with own := d.safe.own } }
  let a := v.fusionFix rel
  let b := v.ownFix rel
  let fixes : List Fix := match a with
    | some (x, _) => x :: b.toList
    | none => []
  let psi := (a.map (fun e => e.2)).getD F64.zero
  let forces := v.commandedForces rel
  let l := v.verdicts rel fixes psi forces
  let d : Dev := d.about ((a.map (fun e => e.1.tov)).getD rel) fun d => d.crossCheck (if v.fusionFresh rel then a else none) b
  let two := d.get Reg.SAFE_STATUS.ARCH != 0
  let seq := (d.safe.handSeq + bit two) % 256
  let d : Dev := { d with safe := { d.safe with handSeq := seq } }
  let die : List (Option Bool) := (eight.zip l).map fun e => if two then d.dieVerdict seq e.1 e.2 bad else none
  let differs : List Bool := (eight.zip (l.zip die)).map fun e => two && e.2.2 != some (d.violated e.1 e.2.1)
  let d : Dev := (eight.zip (l.zip die)).foldl (fun d e => d.applyVerdict e.1 e.2.1 (e.2.2 == some true)) d
  let d : Dev := eight.foldl Dev.escalate d
  (d.compareChannels differs).showClamp psi forces

/-- The island evaluates (R417, R431). -/
def Dev.islandRuns (d : Dev) : Bool := d.flag Reg.SAFE_STATUS.SEAL_OK && d.flag Reg.SYS_MODE.STARTED && !d.safe.halted

/-- R417: the safety island evaluates its functions, once between its release in a minor frame and its fence. -/
def execSafetyEvaluation (t : Nat) (bad : List Handover) (s : State) : Host.Outcome State Fault Refusal :=
  s.run fun d => (d.advance t).whenUp fun d =>
    if !d.islandRuns then d.setB Reg.SAFE_STATUS.EVAL false
    else match lookup d.shots islandTask with
      | some x =>
        if d.sched.st ≤ x.rel + d.islandSlot then
          let d : Dev := { d with shots := d.shots.filter (fun e => e.1 != islandTask), safe := { d.safe with beat := x.rel + d.islandSlot } }
          d.evaluate (d.view x) x.rel bad
        else d
      | none => d

/-- The safety functions at a minor-frame boundary: a stop is told, readbacks are judged, a selection takes effect, pairs are energised
(R410, R416, R423, R425, R427). `back` are the readback levels of the pairs. -/
def Dev.safeMinor (d : Dev) (back : List (Bool × Bool)) : Dev :=
  let d : Dev := d.tellStop
  let d : Dev := ((List.range 8).zip back).foldl (fun d (n, a, b) => d.readback n a b) d
  let d : Dev := d.instMinor.autoreset.openPairs.closePairs
  eight.foldl (fun d n => d.set (Reg.SAFE_OUT.OUT_DEFER.TIME n) (d.deferNs n / 1000000)) d

end Sys2Proof.Machine
end

