-- ==== Sys2Proof/Machine/Mode.lean ====
section
/-! DEFINITION. Operating modes: requests, protective changes, following, start-up and the vintage restriction (R33 to R58). -/
namespace Sys2Proof.Machine
open Sys2Proof

/-! ## Requests (R36) -/

/-- SYS_MODEREQ is written with GO (R36): ignored while a request waits. -/
def Dev.requestWrite (d : Dev) (target : Nat) (coupled trackTarget follow : Bool) (seq port : Nat) : Dev :=
  if d.mode = 0 then d
  else if d.flag Reg.SYS_MODEREQ.GO then d.reportWrite 9 port 0 0x14 false
  else d.setWord 0x14 (BitVec.ofNat 32 (target + 16 * bit coupled + 32 * bit trackTarget + 64 * bit follow + 256 * seq + 2147483648))

/-- R36: host software writes SYS_MODEREQ with GO at 1. While a request is pending, the write is ignored. -/
def execModeRequestSubmit (t target : Nat) (coupled trackTarget follow : Bool) (seq port : Nat) (s : State) :
    Host.Outcome State Fault Refusal :=
  s.run fun d => (d.advance t).whenUp fun d => d.requestWrite (target % 8) coupled trackTarget follow (seq % 256) port

/-! ## A change of mode (R37, R45 to R48, R55, R56) -/

/-- The mode and the options that a change brings (R56). -/
structure ModeChoice where
  mode : Nat
  coupled : Bool
  track : Bool
deriving DecidableEq, Repr

/-- The tasks released before this boundary that have not yet reached their fence (R56). -/
def Dev.tasksInSlot (d : Dev) : List Nat :=
  (d.shots.filter fun e => match d.image.tasks[e.1]? with
    | some row => decide (e.2.rel < d.sched.st) && decide (d.sched.st < e.2.rel + row.slot)
    | none => false).map (fun e => e.1)

/-- Coupled transfer ends (R55, R276): the gangway is handed back, and the hull shift goes into the set-points. -/
def Dev.handBack (d : Dev) : Dev :=
  let s := d.alloc.shift
  let d : Dev := (d.setSp 0 ((d.rm 0).sp.add (s.at 0))).setSp 1 ((d.rm 1).sp.add (s.at 1))
  let n := d.param P.ALLOC.COUPLE_HANDBACK
  let d : Dev := { d with alloc := { d.alloc with shift := Vec.zeros 2, handback := n } }
  ((d.showShift.setB Reg.ALLOC_STATUS.HANDBACK (n != 0)).setB Reg.ALLOC_STATUS.COUPLE_HELD false).setBitAt Reg.SYS_MODE.STATES 9 false

/-- TARGET_LOST (R49, R50, R240): set only while the unit follows the target in M6, and there from the start where the object is LOST. -/
def Dev.showTargetLost (d : Dev) : Dev :=
  d.setBitAt Reg.SYS_MODE.STATES 8 (d.mode = 6 && d.flag Reg.SYS_MODE.TRACK_TARGET
    && (d.bitAt Reg.SYS_MODE.STATES 8 || d.get (Reg.FUS_OBJ.OBJ.STATE (d.param P.FUS.TARGET_OBJ)) = 4))

/-- Take the selections of coupled transfer and of the tracked target (R39, R55). -/
def Dev.takeOptions (d : Dev) (c : ModeChoice) : Dev :=
  let coupled := c.coupled && (c.mode = 5 || c.mode = 6)
  let track := c.track && c.mode = 6
  let d : Dev := if d.flag Reg.SYS_MODE.COUPLED && !coupled then d.handBack else d
  let d : Dev := if d.mode = 6 && c.mode = 6 && d.flag Reg.SYS_MODE.TRACK_TARGET && !track then
      { d with loop := { d.loop with place := true, restHeld := false } } else d
  (d.setB Reg.SYS_MODE.COUPLED coupled).setB Reg.SYS_MODE.TRACK_TARGET track

/-- What the schedule's expert controls do on leaving M7 (R79, R80): the override's cap stands for a solve that runs, until the task's next
release. -/
def Dev.schedLeaveM7 (d : Dev) : Dev :=
  let d : Dev := if !d.flag Reg.SCHED_XOVR.EN then d else match d.solverOf (d.get Reg.SCHED_XOVR.TASK) with
    | some k =>
      let cap := d.get Reg.SCHED_XOVR.ITER_CAP
      d.setSlot k (fun u => { u with run := u.run.map fun r => { r with xcap := some cap } })
    | none => d
  (((d.setB Reg.SCHED_XOVR.EN false).setB Reg.SCHED_XINJ.GO false)).recoverCondition 2

/-- What ends on leaving M7. -/
def Dev.leaveM7 (d : Dev) : Dev :=
  let d : Dev := d.schedLeaveM7.gnssLeaveM7.fusLeaveM7
  d.allocLeaveM7.loopLeaveM7.busLeaveM7.outLeaveM7.drillLeaveM7

/-- The states of R50 that end with a mode (R49): FALLBACK stands in M3 to M6, TARGET_LOST in M6 that follows the target. -/
def Dev.endStates (d : Dev) : Dev :=
  (if 3 ≤ d.mode && d.mode ≤ 6 then d else d.setBitAt Reg.SYS_MODE.STATES 3 false).showTargetLost

/-- The mode changes at this boundary (R37, R45 to R48, R55, R56): E0 and its record follow. `mirrored` tells that the loops take their
state from the mirror (R53). -/
def Dev.changeMode (d : Dev) (c : ModeChoice) (cause : Nat) (mirrored : Bool) : Dev :=
  let before := d.word 0x10
  let old := d.mode
  let force := d.leverForce
  let running := d.tasksInSlot
  let d : Dev := d.takeOptions c
  let d : Dev := if old = 7 then d.leaveM7 else d
  let d : Dev := d.loopModeChange old c.mode force mirrored
  let d : Dev := ((d.set Reg.SYS_MODE.MODE c.mode).set Reg.SYS_MODE.PREV old).set Reg.SYS_MODE.CAUSE cause
  let d : Dev := { (d.setB Reg.SYS_MODE.CHANGING (!running.isEmpty)) with sched := { d.sched with oldTasks := running } }
  let d : Dev := (if c.mode = 2 then d.leverFromLast else d).endStates
  d.raiseWith 0 0 [before, d.word 0x10, d.word 0x14] none

/-- Into M0 (R349, R369, R474 step 1): the schedule stops, the unit falls silent, the controllers sleep, the analogue outputs lose power,
and the entry goes on with the lamp check. -/
def Dev.enterDormant (d : Dev) (c : ModeChoice) : Dev :=
  let d : Dev := (d.changeMode c 0 false).stopSchedule
  let d : Dev := (d.setB Reg.SYS_MODE.CHANGING false).judgeRole
  let d : Dev := d.openPairs.canSleep.aoOff
  { d with
    sched := { d.sched with oldTasks := [] }
    clk := { d.clk with phase := .enteringDormant, shutdown := some (2, d.sched.st) } }

/-- A change of the selections within a mode (R39): recorded, without E0. -/
def Dev.changeOptions (d : Dev) (c : ModeChoice) : Dev :=
  let before := d.word 0x10
  let d : Dev := (d.takeOptions c).showTargetLost
  if d.word 0x10 = before then d else d.note 0x02 0x00 1 [before, d.word 0x10, d.word 0x14]

/-! ## Judging a request (R40 to R42) -/

/-- The transition matrix of R40: whether a request can be accepted. -/
def reachable (old new : Nat) : Bool :=
  if old = new then old != 0
  else match old with
    | 0 => false
    | 1 => true
    | 7 => new = 1
    | _ => 1 ≤ new && new ≤ 6

/-- At least one enabled wake source can fire (R475). -/
def Dev.canWake (d : Dev) : Bool :=
  let on := d.bitAt Reg.CLK_WAKE_EN.EN
  (on 0 && [0, 1, 2, 3, 4, 5].any (fun c => d.get (Reg.CAN_CH.CH_CFG.WAKE c) != 0))
    || (on 1 && F64.zero.lt (d.paramF P.GNSS.ANCHOR_RADIUS)) || on 2 || on 3
    || (on 4 && d.get Reg.CLK_WAKE_TIMER.SECONDS != 0)

/-- A safety inhibit, a hard-wired stop or a seal mismatch is active (R42, R52, R431). -/
def Dev.safetyBars (d : Dev) : Bool :=
  d.flag Reg.SAFE_STATUS.INHIBIT || d.flag Reg.SAFE_STATUS.STOP || !d.flag Reg.SAFE_STATUS.SEAL_OK

/-- The unit may command (R41, R42). -/
def Dev.commandable (d : Dev) : Bool :=
  (d.flag Reg.SYS_MODE.IN_COMMAND || (!d.flag Reg.RED_STATUS.LINK0_UP && !d.flag Reg.RED_STATUS.LINK1_UP))
    && d.get Reg.RED_STATUS.VERDICT != 2 && d.unit != 3 && !d.flag Reg.RED_STATUS.STRAP_ERR

/-- The admitted heading references. -/
def Dev.headingRefs (d : Dev) : Nat := (d.admitted (refGroup 16)).length

/-- The admitted position references. -/
def Dev.positionRefs (d : Dev) : Nat := (d.admitted (refGroup 0)).length

/-- The tracked object is in IN_TRACK (R41). -/
def Dev.targetInTrack (d : Dev) : Bool := d.get (Reg.FUS_OBJ.OBJ.STATE (d.param P.FUS.TARGET_OBJ)) = 2

/-- The REASON of a request without FOLLOW that no earlier check stops, 0 when it is accepted (R42). -/
def Dev.requestReason (d : Dev) (c : ModeChoice) : Nat :=
  let same := c.mode = d.mode
  let commands := 2 ≤ c.mode && c.mode ≤ 6
  let unready := if c.track then !d.targetInTrack else !d.flag Reg.LOOP_PATH_STAT.VALID
  let uncoupled := c.coupled && !((c.mode = 5 || c.mode = 6) && d.coupleAvailable)
  if same then
    if c.mode = 6 && c.track != d.flag Reg.SYS_MODE.TRACK_TARGET && unready then 0x08
    else if uncoupled && !d.flag Reg.SYS_MODE.COUPLED then 0x0A
    else 0
  else if !reachable d.mode c.mode then 0x01
  else if commands && d.flag Reg.SYS_MODE.RESTRICT then 0x03
  else if commands && d.safetyBars then 0x09
  else if (commands && !d.commandable) || (c.mode = 0 && d.get Reg.RED_STATUS.VERDICT = 2) then 0x04
  else if c.mode = 0 && !d.canWake then 0x0B
  else if commands && 3 ≤ c.mode && d.availNow.isEmpty then 0x0C
  else if commands && 4 ≤ c.mode && d.headingRefs = 0 then 0x05
  else if commands && 5 ≤ c.mode && d.positionRefs < d.param P.SYS.M5_MIN_REFS then 0x06
  else if commands && 5 ≤ c.mode && !d.flag Reg.FUS_STATUS.CONVERGED then 0x07
  else if c.mode = 6 && unready then 0x08
  else if uncoupled then 0x0A
  else 0

/-- The request as it stands in SYS_MODEREQ. -/
def Dev.requested (d : Dev) : ModeChoice :=
  ⟨d.get Reg.SYS_MODEREQ.TARGET, d.flag Reg.SYS_MODEREQ.COUPLED, d.flag Reg.SYS_MODEREQ.TRACK_TARGET⟩

/-- The request's outcome in SYS_MODEREQ (R36, R57). -/
def Dev.answer (d : Dev) (reason : Nat) : Dev :=
  (((d.setB Reg.SYS_MODEREQ.GO false).set Reg.SYS_MODEREQ.REASON reason).setB Reg.SYS_MODEREQ.ACCEPTED (reason = 0)).setB
    Reg.SYS_MODEREQ.REFUSED (reason != 0)

/-- A request is refused (R37): the mode stays, E1 and a refusal record. -/
def Dev.refuseMode (d : Dev) (reason : Nat) : Dev :=
  let d : Dev := d.answer reason
  d.raiseSub 1 reason [0x10, 0x14]

/-- Following ends by request (R54). -/
def Dev.stopFollowing (d : Dev) : Dev :=
  { (d.setB Reg.SYS_MODE.FOLLOW false) with red := { d.red with followOff := true } }

/-- Decide the pending request (R37, R39, R42, R54); `beaten` tells that a protective change has acted at this boundary. -/
def Dev.decideMode (d : Dev) (beaten : Bool) : Dev :=
  let starting := !d.flag Reg.SYS_MODE.STARTED || d.clk.standbyAt = some d.sched.st || d.clk.shutdown.isSome || d.safe.scanOpen
  if !d.flag Reg.SYS_MODEREQ.GO then d
  else if starting then d.refuseMode 0x02
  else if beaten then d.refuseMode 0x0D
  else if d.flag Reg.SYS_MODEREQ.FOLLOW then
    if !d.flag Reg.RED_STATUS.SYNC then d.refuseMode 0x0E
    else if d.get Reg.RED_STATUS.VERDICT = 2 then d.refuseMode 0x04
    else { (d.answer 0) with red := { d.red with followOff := false } }
  else
    let c := d.requested
    let r := d.requestReason c
    if r != 0 then d.refuseMode r
    else
      let d : Dev := d.answer 0
      let d : Dev := if c.mode = 6 && c.track then { d with loop := { d.loop with restHeld := false } } else d
      let d : Dev := if d.flag Reg.SYS_MODE.FOLLOW && (c.mode ≤ 1 || c.mode = 7) then d.stopFollowing else d
      if c.mode = d.mode then d.changeOptions c
      else if c.mode = 0 then d.enterDormant c
      else d.changeMode c 0 false

/-! ## Changes that the device makes (R38, R44, R51 to R53, R484) -/

/-- The choice of plain M1. -/
def ModeChoice.standby : ModeChoice := ⟨1, false, false⟩

/-- Into M1 for a cause of the device's own, from any other mode. -/
def Dev.toStandby (d : Dev) (cause : Nat) : Dev := if d.mode = 1 then d else d.changeMode .standby cause false

/-- The inhibit and the hard-wired stop (R52): whether they changed the mode, and the device after. What has opened pairs since the last
boundary counts, even if a reset has been accepted since. -/
def Dev.modeForSafety (d : Dev) : Bool × Dev :=
  let inhibit := d.safe.inhibitDue
  let stop := d.safe.stopDue
  let d : Dev := { d with safe := { d.safe with inhibitDue := false, stopDue := false } }
  if d.mode < 2 || 7 ≤ d.mode then (false, d)
  else if inhibit then (true, d.toStandby 3)
  else if stop then (true, d.toStandby 4)
  else (false, d)

/-- The mode after a give-up (R51, R399 step 4). -/
def Dev.modeForGiveUp (d : Dev) : Bool × Dev :=
  if !d.red.gaveUp then (false, d)
  else
    let moved := d.mode != 1
    let d : Dev := { (d.setB Reg.SYS_MODE.FOLLOW false) with red := { d.red with gaveUp := false, followWait := true } }
    (moved, d.toStandby 2)

/-- Whether the unit follows now (R51, R53, R54). -/
def Dev.shouldFollow (d : Dev) : Bool :=
  d.paramB P.SYS.FOLLOW_ENABLE && d.flag Reg.RED_STATUS.SYNC && !d.flag Reg.SYS_MODE.IN_COMMAND && d.flag Reg.SYS_MODE.STARTED
    && d.get Reg.RED_STATUS.VERDICT != 2 && !d.red.followOff && !d.red.followWait && d.clk.shutdown.isNone && !d.safe.scanOpen
    && d.mode != 0

/-- The mode and options that a mirror carries (R53, R386). -/
def Mirror.choice (m : Mirror) : Option ModeChoice :=
  (m.part 0x41).map fun p =>
    let w := p.payload.getD 0 0
    ⟨getBits w 0 3, w.getLsbD 10, w.getLsbD 11⟩

/-- Adopt the mode of the unit in command from a mirror received since following began (R53). -/
def Dev.adopt (d : Dev) : Dev :=
  match d.red.mirror with
  | none => d
  | some m =>
    if d.red.followFrom = some m.seq then d
    else match m.choice with
      | none => d
      | some c =>
        let barred := 2 ≤ c.mode && c.mode ≤ 6 && (d.safetyBars || d.flag Reg.SYS_MODE.RESTRICT)
        if barred || c.mode = 0 then d
        else if c.mode = d.mode then d.changeOptions c
        else d.changeMode c 5 true

/-- Following at a major-frame boundary (R51, R53, R54). -/
def Dev.followMajor (d : Dev) : Dev :=
  let d : Dev := { d with red := { d.red with followWait := d.red.followWait && d.get Reg.RED_STATUS.VERDICT != 0 } }
  if d.shouldFollow then
    if d.flag Reg.SYS_MODE.FOLLOW then d.adopt
    else { (d.setB Reg.SYS_MODE.FOLLOW true) with red := { d.red with followFrom := d.red.mirror.map (fun m => m.seq) } }
  else d.setB Reg.SYS_MODE.FOLLOW false

/-- The vintage restriction (R44): M7 at the boundary after M1 has been reached. -/
def Dev.modeForRestriction (d : Dev) : Dev :=
  if d.clk.restrictDue && d.flag Reg.SYS_MODE.STARTED && d.clk.standbyAt != some d.sched.st then
    let d : Dev := { d with clk := { d.clk with restrictDue := false } }
    if d.mode = 1 then d.changeMode ⟨7, false, false⟩ 7 false else d
  else d

/-- The mode at a major-frame boundary, the causes in their order of precedence (R38). -/
def Dev.modeMajor (d : Dev) : Dev :=
  if d.mode = 0 then d
  else
    let (a, d) : Bool × Dev := d.modeForSafety
    let (b, d) : Bool × Dev := d.modeForGiveUp
    let d : Dev := if d.clk.shutdown.isSome && d.flag Reg.SYS_MODE.STARTED then d.toStandby 8 else d
    let d : Dev := if d.clk.shutdown.isSome then d else d.modeForRestriction
    let d : Dev := d.decideMode (a || b)
    if d.mode = 0 then d else d.followMajor

/-! ## Standby reached (R43) -/

/-- Standby is reached (R43, R475, R495). -/
def Dev.standbyReached (d : Dev) : Dev :=
  let wake := d.clk.startCause = 6
  let before := d.word 0x10
  let d : Dev := (d.setB Reg.SYS_MODE.STARTED true).set Reg.SYS_MODE.CAUSE (if wake then 6 else 1)
  let d : Dev := if wake then d.set Reg.SYS_MODE.PREV 0 else d
  let d : Dev := { d with
    clk := { d.clk with standbyAt := some d.sched.st, restrictDue := d.flag Reg.SYS_MODE.RESTRICT }
    red := { d.red with quietSince := some d.sched.st } }
  let d : Dev := d.raiseWith 0 0 [before, d.word 0x10, d.word 0x14] none
  let d : Dev := if wake then d.raise 29 [0x10024] else d
  let d : Dev := if wake && d.clk.wakeCtrl < 6 then
      ((d.set Reg.CAN_STATUS.WAKE_CTRL d.clk.wakeCtrl).setB Reg.CAN_STATUS.WAKE_STICKY true).raise 73 [0xE0000] else d
  let d : Dev := (d.setB Reg.SYS_RECOVER.CYCLE_FAIL d.bist.cycleFail).set Reg.CLK_START.TIME
    (min 16383 (d.clk.lead + d.sched.st / 1000000))
  let d : Dev := if d.bist.levelEvent then d.raise 18 [0x18] else d
  ({ d with bist := { d.bist with levelEvent := false } }).judgeEcho.closePairs

/-- R43: the device reaches Standby at a major-frame boundary, one hyperframe after the schedule has started (R473). -/
def execStandbyReached (t : Nat) (s : State) : Host.Outcome State Fault Refusal :=
  s.run fun d => (d.advance t).whenUp fun d =>
    if d.running && !d.flag Reg.SYS_MODE.STARTED && d.sched.startAt + 100000000 ≤ d.sched.st && d.sched.st % 10000000 = 0 then
      d.standbyReached
    else d

end Sys2Proof.Machine
end

