-- ==== Sys2Proof/Machine/Scan.lean ====
section
/-! DEFINITION. The scan engine, the background table scan and the lineage log (R129 to R136), and the guard of expert writes. -/
namespace Sys2Proof.Machine
open Sys2Proof

/-- An access to an expert page while UNLOCKED restarts the idle time (R506). -/
def Dev.opened (d : Dev) : Dev := { d with host := { d.host with expertAt := d.sched.st } }

/-- A write to an expert page (R11, R506, R507): it acts only while UNLOCKED, and then restarts the idle time. -/
def Dev.expert (d : Dev) (port addr : Nat) (f : Dev → Dev) : Dev :=
  if d.flag Reg.SYS_EXPERT.UNLOCKED then f d.opened
  else d.reportWrite 2 port 0 addr false

/-- The algorithm of a check unit (R129, R134). -/
def Dev.scanUnit (d : Dev) (u : Nat) : CrcAlg :=
  if u = 0 then crc32cAlg else if u = 1 then crc32Alg else if u = 2 then crc16Alg
  else ⟨d.get Reg.CHK_PROG_CFG.WIDTH, d.get Reg.CHK_PROG_POLY.POLY, d.get Reg.CHK_PROG_INIT.INIT, d.flag Reg.CHK_PROG_CFG.REFIN,
    d.flag Reg.CHK_PROG_CFG.REFOUT, d.get Reg.CHK_PROG_XOR.XOROUT⟩

/-- The limits of R130 on a job's fields. -/
def ScanJob.legal (j : ScanJob) : Bool :=
  j.space < 3 && j.start % 8 = 0 && j.stride % 8 = 0 && 8 ≤ j.stride && j.len % 8 = 0 && 8 ≤ j.len && j.len ≤ 268435456

/-- CHK_SCAN_CTRL.GO (R130, R132): a job starts, or is refused, or finds one busy. -/
def Dev.scanGo (d : Dev) (unit space port : Nat) : Dev :=
  let d : Dev := (d.set Reg.CHK_SCAN_CTRL.UNIT unit).set Reg.CHK_SCAN_CTRL.SPACE space
  if d.chk.job.isSome then (d.set Reg.CHK_SCAN_RES.RESULT 1).reportWrite 9 port 0 0x50040 false
  else
    let j : ScanJob := ⟨unit % 4, space % 4, d.get Reg.CHK_SCAN_START.ADDR, d.get Reg.CHK_SCAN_LEN.LEN, d.get Reg.CHK_SCAN_STRIDE.STRIDE,
      d.word 0x50050⟩
    if j.legal then
      ({ d with chk := { d.chk with job := some j } }.setB Reg.CHK_STATUS.SCAN_BUSY true).set Reg.CHK_SCAN_RES.RESULT 1
    else ((d.set Reg.CHK_SCAN_RES.RESULT 3).reportWrite 8 port 0 0x50040 false).doorbell 7

/-- R130: host software starts a scan job. -/
def execScanJobStart (t unit space port : Nat) (s : State) : Host.Outcome State Fault Refusal :=
  s.run fun d => (d.advance t).whenUp fun d => d.scanGo unit space port

/-- The background slot is open now, so a host job is suspended (R132). -/
def Dev.scanSlotOpen (d : Dev) : Bool :=
  match d.taskOf .scan with
  | some e =>
    let off := d.sched.st - periodStart d.sched.st e.2.period
    d.running && decide (e.2.release ≤ off) && decide (off < e.2.fence)
  | none => false

/-- The bytes that a job feeds out of its space (R130): 8-byte elements at START, START + STRIDE and so on, until LEN bytes have been fed.
-/
def ScanJob.feed (j : ScanJob) (mem : Memory) : List Byte :=
  (List.range (j.len / 8)).flatMap fun i => mem.readAll (j.start + i * j.stride) 8

/-- The job has read its elements out of `mem`, what its space holds (R130): the value, the comparison, E5. -/
def Dev.scanDone (d : Dev) (mem : Memory) : Dev :=
  match d.chk.job with
  | none => d
  | some j =>
    if d.scanSlotOpen then d
    else
      let v := BitVec.ofNat 32 (crc (d.scanUnit j.unit) (j.feed mem))
      let bad := v != j.expect
      let d : Dev := { (d.setB Reg.CHK_STATUS.SCAN_BUSY false) with chk := { d.chk with job := none } }
      let d : Dev := (d.set Reg.CHK_SCAN_VALUE.VALUE v.toNat).set Reg.CHK_SCAN_RES.RESULT (2 * bit bad)
      let d : Dev := if bad then (d.setB Reg.CHK_STATUS.SCAN_MISMATCH true).raise 5 [0x50000, 0x50054, 0x50058] else d
      d.doorbell 7

/-- R130: the scan job ends; `mem` is what its space holds (R134), by byte address. -/
def execScanJobComplete (t : Nat) (mem : Memory) (s : State) : Host.Outcome State Fault Refusal :=
  s.run fun d => (d.advance t).whenUp fun d => d.scanDone mem

/-! ## Background scan (R131) -/

/-- The bytes of the parameter table in force: every value as 8 bytes, in ascending index order (R109, R131). -/
def Dev.paramTable (d : Dev) : List Byte :=
  paramRows.flatMap fun r => (List.range r.count).flatMap fun k => leBytes 8 (d.param (r.base + k))

/-- The value that a table must have: 0 the parameter table, else what the image carries (R131). -/
def Dev.tableWant (d : Dev) (n : Nat) : Option Word :=
  if n = 0 then some (crc32c d.paramTable) else lookup d.image.tables n

/-- One table as the scan read it, with its CRC-32C (R131). -/
def Dev.tableScanned (d : Dev) (n : Nat) (got : Word) : Dev :=
  match d.tableWant n with
  | none => d
  | some w =>
    if w = got then d
    else
      let d : Dev := (d.setB Reg.CHK_STATUS.BG_MISMATCH true).set Reg.CHK_BG_FAIL.TABLE n
      let d : Dev := d.raise 5 [0x50000, 0x5002C]
      { d with red := { d.red with latched := d.red.latched ||| 16 } }.judgeVerdict

/-- One scan (R131): the parameter table and then every table in the order of the image's list, each once. `wrong` gives the tables whose
bytes in RAM have been corrupted, with the CRC-32C of what was read; every other table reads as it should. -/
def Dev.tableScan (d : Dev) (wrong : List (Nat × Word)) : Dev :=
  (0 :: d.image.tables.map (fun e => e.1)).foldl (fun d n => match lookup wrong n with
    | some got => d.tableScanned n got
    | none => d) d

/-- R131: the background scan has read every table once; the parameters are those in force at its slot's release. -/
def execBackgroundTableScan (t : Nat) (wrong : List (Nat × Word)) (s : State) : Host.Outcome State Fault Refusal :=
  s.run fun d => (d.advance t).whenUp fun d =>
    d.runOf .scan 0 fun _ d => if d.paramB P.CHK.BG_ENABLE then d.tableScan wrong else d

/-! ## Lineage log (R135) -/

/-- Look an entry up (R135). -/
def Dev.lineageLookup (d : Dev) (resource op nth : Nat) : Dev :=
  let d : Dev := ((d.set Reg.CHK_LIN_SEL.RESOURCE resource).set Reg.CHK_LIN_SEL.OPID op).set Reg.CHK_LIN_SEL.NTH nth
  let found := (d.chk.logs.filter fun e => e.resource == resource % 256 && e.opId == op % 256)[nth % 256]?
  match found with
  | none => d.setB Reg.CHK_LIN_RES.FOUND false
  | some e => (((d.setB Reg.CHK_LIN_RES.FOUND true).set Reg.CHK_LIN_OUT.CHECK e.check.toNat).set Reg.CHK_LIN_WORD.LINEAGE
      e.lineage.toNat).set Reg.CHK_LIN_TS.TS e.ts.toNat

/-- R135: host software looks up the lineage log. -/
def execLineageLookup (t resource op nth port : Nat) (s : State) : Host.Outcome State Fault Refusal :=
  s.run fun d => (d.advance t).whenUp fun d => d.expert port 0x58000 fun d => d.lineageLookup resource op nth

end Sys2Proof.Machine
end

