-- ==== Sys2Proof/Machine/Param.lean ====
section
/-! DEFINITION. Parameters: runtime writes, their taking effect, the overlay and its commits, and the bulk area (R107 to R111, R117,
R539). -/
namespace Sys2Proof.Machine
open Sys2Proof

/-! ## Checks (R117, R539) -/

/-- The code of a type in PARAM_INFO (R117). -/
def ParamType.code : ParamType → Nat
  | .bool => 0 | .u8 => 1 | .u16 => 2 | .u32 => 3 | .s32 => 4 | .fp32 => 5 | .fp64 => 6 | .bam32 => 7 | .q => 8

/-- A value of the type lies in a closed range of raw words. -/
def ParamType.inside (t : ParamType) (q : Quad) (r : Nat × Nat) : Bool :=
  match t with
  | .fp32 => (F32.ofBits r.1).le ⟨q.extractLsb' 0 32⟩ && (F32.mk (q.extractLsb' 0 32)).le (F32.ofBits r.2)
  | .fp64 => (F64.ofBits r.1).le ⟨q⟩ && (F64.mk q).le (F64.ofBits r.2)
  | .s32 => (BitVec.ofNat 32 r.1).toInt ≤ (q.extractLsb' 0 32).toInt && (q.extractLsb' 0 32).toInt ≤ (BitVec.ofNat 32 r.2).toInt
  | _ => r.1 ≤ q.toNat && q.toNat ≤ r.2

/-- A value lies in the parameter's range. -/
def ParamRow.allows (r : ParamRow) (q : Quad) : Bool := r.ranges.any (r.type.inside q)

/-- A safe value lies in the range of its analogue output's mode (R377): ±10 V, or 0 to 20 mA. -/
def Dev.aoSafeIn (d : Dev) (n : Nat) (x : F64) : Bool :=
  if ((d.image.out.ao.getD n none).map fun a => a.mode).getD 0 = 0 then x.le (.ofInt 10) else F64.zero.le x

/-- A value lies in the range of parameter `i`, and within what the certificate covers: ALLOC.PLAN_N may not exceed ALLOC_PLAN.N_MAX nor
FUS.LAG_WINDOW, in s, FUS_CAP.LAG_MAX, in units of 10 ms (R236, R260, R302). -/
def Dev.allows (d : Dev) (i : Nat) (r : ParamRow) (q : Quad) : Bool :=
  r.allows q && (i != P.ALLOC.PLAN_N || q.toNat ≤ d.image.alloc.nMax)
    && (i < 0x0F10 || 0x0F18 ≤ i || d.aoSafeIn (i - 0x0F10) (F32.mk (q.extractLsb' 0 32)).to64)
    && (i < 0x1138 || 0x1140 ≤ i || d.param (P.SAFE.IN_ROLE (i - 0x1138)) != 1 || q.toNat ≤ 540)
    && (i != P.FUS.LAG_WINDOW
      || ((F32.mk (q.extractLsb' 0 32)).to64.mul (.ofInt 100)).le (.ofInt (d.get Reg.FUS_CAP.LAG_MAX)))

/-- Why a runtime write is refused, by the order of R539; 0 when it is not. -/
def Dev.paramError (d : Dev) (i : Nat) (q : Quad) : Nat :=
  match d.paramRow i with
  | none => 1
  | some r =>
    if isSafeParam i then 5
    else if r.expert && !d.flag Reg.SYS_EXPERT.UNLOCKED then 3
    else if r.type.bad q then 4
    else if !d.allows i r q then 2
    else 0

/-! ## Runtime writes (R108) -/

/-- Register a runtime value; a later write of the same index replaces an earlier one that still waits. -/
def Dev.paramWait (d : Dev) (i : Nat) (q : Quad) : Dev :=
  { d with params := { d.params with waiting := d.params.waiting ++ [(d.sched.st, i, q)] } }

/-- A write to PARAM_DATA_LO (R108, R117, R539). -/
def Dev.paramDataWrite (d : Dev) (lo : Word) (port : Nat) : Dev :=
  let i := d.get Reg.PARAM_INDEX.INDEX
  let wide : Bool := match d.paramRow i with
    | some r => r.type == .fp64
    | none => false
  let q : Quad := if wide then d.params.dataHi ++ lo else lo.setWidth 64
  let e := d.paramError i q
  if e = 0 then d.paramWait i q
  else (d.set Reg.PARAM_STATUS.ERR e).reportWrite 8 port 0 0x170004 false

/-- R108: host software writes the selected parameter. -/
def execParamDataWrite (t : Nat) (lo : Word) (port : Nat) (s : State) : Host.Outcome State Fault Refusal :=
  s.run fun d => (d.advance t).whenHost fun d => d.paramDataWrite lo port

/-- The registers that show an effective parameter value (source U of R12). -/
def Dev.showParam (d : Dev) (i : Nat) : Dev :=
  let v := d.param i
  if i = P.SCHED.POOL_LOW then (d.set Reg.SCHED_POOL.THRESH v).showPool
  else if P.ENTRY.PORT_LAT 0 ≤ i && i < P.ENTRY.PORT_LAT 12 then d.set (Reg.ENTRY_PORT.PORT_LAT.LAT (i - P.ENTRY.PORT_LAT 0)) v
  else if P.ENTRY.SLOT_LAT 0 ≤ i && i < P.ENTRY.SLOT_LAT 64 then d.set (Reg.ENTRY_SLOT.SLOT_LAT.LAT (i - P.ENTRY.SLOT_LAT 0)) v
  else if i = P.GNSS.ANT_BIAS_A then d.set (Reg.GNSS_ANT.BIAS 0) v
  else if i = P.GNSS.ANT_BIAS_B then d.set (Reg.GNSS_ANT.BIAS 1) v
  else if i = P.TIME.LEAP_INIT then
    (if d.flag Reg.TIME_LEAP.VALID then d else d.setInt Reg.TIME_LEAP.OFFSET (d.paramInt P.TIME.LEAP_INIT))
  else if i = P.NET.DOMAIN_P then d.set (Reg.TIME_DOM.DOM_STAT.DOMAIN 0) v
  else if i = P.NET.DOMAIN_S then d.set (Reg.TIME_DOM.DOM_STAT.DOMAIN 1) v
  else if P.NET.ING_CORR 0 ≤ i && i < P.NET.ING_CORR 4 then d.set (Reg.NET_PTP.PTP_ING.CORR (i - P.NET.ING_CORR 0)) v
  else if P.NET.EGR_CORR 0 ≤ i && i < P.NET.EGR_CORR 4 then d.set (Reg.NET_PTP.PTP_EGR.CORR (i - P.NET.EGR_CORR 0)) v
  else if P.CAN.AUTO_REC 0 ≤ i && i < P.CAN.AUTO_REC 6 then d.setB (Reg.CAN_CH.CH_CFG.AUTO_REC (i - P.CAN.AUTO_REC 0)) (v != 0)
  else d

/-- The indices whose effective value a register shows. -/
def shownParams : List Nat :=
  [P.SCHED.POOL_LOW, P.GNSS.ANT_BIAS_A, P.GNSS.ANT_BIAS_B, P.TIME.LEAP_INIT, P.NET.DOMAIN_P, P.NET.DOMAIN_S]
    ++ (List.range 12).map P.ENTRY.PORT_LAT ++ (List.range 64).map P.ENTRY.SLOT_LAT ++ (List.range 4).map P.NET.ING_CORR
    ++ (List.range 4).map P.NET.EGR_CORR ++ (List.range 6).map P.CAN.AUTO_REC

/-- One runtime value takes effect, with its record of source layer 3 (R108, R436). -/
def Dev.paramEffect (d : Dev) (i : Nat) (q : Quad) : Dev :=
  let old := d.param i
  let d : Dev := { d with params := { d.params with runtime := update d.params.runtime i q } }
  (d.showParam i).note 0x07 0x17 0 ([BitVec.ofNat 32 i] ++ quadWords (BitVec.ofNat 64 old) ++ quadWords q ++ [3])

/-- The values of the last write of each index, in the order in which they were first written. -/
def lastWrites : List (Nat × Nat × Quad) → List (Nat × Quad)
  | [] => []
  | (_, i, q) :: l => if l.any (fun e => e.2.1 == i) then lastWrites l else (i, q) :: lastWrites l

/-! ## Overlay (R109 to R111) -/

/-- One sequence number is later than another (R90, R437). -/
def laterThan (a b : Word) : Bool := 0 < (a - b).toNat && (a - b).toNat < 2147483648

/-- The bytes of a copy before its CRC-32C (R109). -/
def Overlay.body (o : Overlay) : List Byte :=
  let set (i : Nat) : Bool := o.values.any fun e => e.1 == i
  leBytes 4 0x4F564C31 ++ leBytes 4 o.seq.toNat ++ leBytes 4 (788 + 8 * o.values.length) ++ leBytes 4 o.layout.toNat
    ++ (List.range 768).map (fun b => BitVec.ofNat 8 (maskOf ((List.range 8).filter fun k => set (8 * b + k))))
    ++ o.values.flatMap (fun e => leBytes 8 e.2.toNat)

/-- A copy as the NOR holds it (R109). -/
def Overlay.bytes (o : Overlay) : OverlayCopy := o.body ++ leBytes 4 (crc32c o.body).toNat

/-- The values that a copy's mask and value fields spell (R109). -/
def overlayFields (b : OverlayCopy) : List (Nat × Quad) :=
  let set := (List.range 6144).filter fun i => (b.getD (16 + i / 8) 0).getLsbD (i % 8)
  ((List.range set.length).zip set).map fun e => (e.2, BitVec.ofNat 64 (ofLeBytes ((b.drop (784 + 8 * e.1)).take 8)))

/-- What a copy says, where its marker, its length and its CRC-32C hold (R109). -/
def readOverlay (b : OverlayCopy) : Option Overlay :=
  let word (o : Nat) : Nat := ofLeBytes ((b.drop o).take 4)
  if b.length < 788 || word 0 != 0x4F564C31 then none
  else
    let l := overlayFields b
    let n := 784 + 8 * l.length
    if word 8 = n + 4 && b.length = n + 4 && word n = (crc32c (b.take n)).toNat then
      some ⟨BitVec.ofNat 32 (word 4), BitVec.ofNat 32 (word 12), l⟩
    else none

/-- What a write that was cut or failed leaves in a copy's area: bytes that the manual leaves open and that are no valid copy (R110). -/
def tornCopy (seq : Word) : OverlayCopy :=
  let b := Config.torn seq
  if (readOverlay b).isSome then [0] else b

/-- The copy in use: true for A; none when neither is valid (R90, R110). -/
def Dev.overlayInUse (d : Dev) : Option (Bool × Overlay) :=
  match readOverlay d.params.copyA, readOverlay d.params.copyB with
  | some a, some b => if laterThan b.seq a.seq then some (false, b) else some (true, a)
  | some a, none => some (true, a)
  | none, some b => some (false, b)
  | none, none => none

/-- The values of the copy in use. -/
def Dev.overlayValues (d : Dev) : List (Nat × Quad) :=
  match d.overlayInUse with
  | some e => e.2.values
  | none => []

/-- Put values in ascending order of their indices. -/
def ascending : List (Nat × Quad) → List (Nat × Quad)
  | [] => []
  | e :: l => (ascending l).takeWhile (fun x => x.1 < e.1) ++ e :: (ascending l).dropWhile (fun x => x.1 < e.1)

/-- The values that a commit writes, as of now (R110, R117). -/
def Dev.commitValues (d : Dev) (op index : Nat) : List (Nat × Quad) :=
  let base := d.overlayValues
  if op = 0 then d.params.runtime.foldr (fun e l => update l e.1 e.2) base
  else if op = 1 then update base index (BitVec.ofNat 64 (d.param index))
  else if op = 2 then base.filter (fun e => e.1 != index)
  else []

/-- PARAM_COMMIT.GO (R110, R117). -/
def Dev.commitGo (d : Dev) (op index port : Nat) : Dev :=
  let op := op % 4
  let index := index % 65536
  if d.params.commit.isSome then (d.set Reg.PARAM_COMMIT_RES.RESULT 1).reportWrite 9 port 0 0x170014 false
  else
    let d : Dev := (d.set Reg.PARAM_COMMIT.OP op).set Reg.PARAM_COMMIT.INDEX index
    if (op = 1 || op = 2) && (isSafeParam index || (d.paramRow index).isNone) then
      ((d.set Reg.PARAM_COMMIT_RES.RESULT 4).reportWrite 8 port 0 0x170014 false).doorbell 0
    else { (d.setB Reg.PARAM_COMMIT_RES.BUSY true) with params := { d.params with commit := some ⟨d.sched.st, op, index, none⟩ } }

/-- R117: host software commits every value written at runtime. -/
def execParamCommitAll (t port : Nat) (s : State) : Host.Outcome State Fault Refusal :=
  s.run fun d => (d.advance t).whenHost fun d => d.commitGo 0 (d.get Reg.PARAM_COMMIT.INDEX) port

/-- R117: host software commits the value of one index. -/
def execParamCommitIndex (t index port : Nat) (s : State) : Host.Outcome State Fault Refusal :=
  s.run fun d => (d.advance t).whenHost fun d => d.commitGo 1 index port

/-- R117: host software clears the overlay's mask bit of one index. -/
def execParamClearMaskBit (t index port : Nat) (s : State) : Host.Outcome State Fault Refusal :=
  s.run fun d => (d.advance t).whenHost fun d => d.commitGo 2 index port

/-- R117: host software clears every mask bit. -/
def execParamClearAllMask (t port : Nat) (s : State) : Host.Outcome State Fault Refusal :=
  s.run fun d => (d.advance t).whenHost fun d => d.commitGo 3 (d.get Reg.PARAM_COMMIT.INDEX) port

/-- Where the next commit goes, true for A, and its sequence number (R110). -/
def Dev.nextCopy (d : Dev) : Bool × Word :=
  match d.overlayInUse with
  | some e => (!e.1, e.2.seq + 1)
  | none => (true, 1)

/-- Write the copy not in use. -/
def Dev.writeCopy (d : Dev) (b : OverlayCopy) : Dev :=
  if d.nextCopy.1 then { d with params := { d.params with copyA := b } } else { d with params := { d.params with copyB := b } }

/-- A commit is cut short by a reset (R110): the copy it was writing is none that counts; a commit that has not captured its values has
written nothing. -/
def Dev.cutCommit (d : Dev) : Dev :=
  let d : Dev := match d.params.commit with
    | some ⟨_, _, _, some _⟩ => d.writeCopy (tornCopy d.nextCopy.2)
    | _ => d
  { d with params := { d.params with commit := none } }

/-- A commit ends (R110): the copy not in use takes the captured values, or the medium failed. -/
def Dev.commitDone (d : Dev) (fail : Bool) : Dev :=
  match d.params.commit with
  | some ⟨_, _, _, some vals⟩ =>
    let d : Dev := { (d.setB Reg.PARAM_COMMIT_RES.BUSY false) with params := { d.params with commit := none } }
    let d : Dev := d.writeCopy (if fail then tornCopy d.nextCopy.2
      else (Overlay.mk d.nextCopy.2 d.params.layout (ascending vals)).bytes)
    let d : Dev := if fail then d.set Reg.PARAM_COMMIT_RES.RESULT 2
      else (d.set Reg.PARAM_COMMIT_RES.RESULT 0).set Reg.PARAM_COMMIT_RES.COUNT vals.length
    d.doorbell 0
  | _ => d

/-- R110: the copy has been written and read back; `fail` tells that the medium failed. -/
def execParamCommitComplete (t : Nat) (fail : Bool) (s : State) : Host.Outcome State Fault Refusal :=
  s.run fun d => (d.advance t).whenHost fun d => d.commitDone fail

/-- What a major-frame boundary does to the parameters (R108, R110): the writes registered before it take effect together, and a
commit captures its values. -/
def Dev.paramApply (d : Dev) : Dev :=
  let now := d.sched.st
  let due := d.params.waiting.filter (fun e => e.1 < now)
  let l := lastWrites due
  let replaced := l.map fun e => (e.1, (BitVec.ofNat 64 (d.param e.1) : Quad))
  let d : Dev := { d with params := { d.params with
    waiting := d.params.waiting.filter (fun e => now ≤ e.1)
    history := (if l.isEmpty then d.params.history else (now, replaced) :: d.params.history).filter
      (fun e => now < e.1 + 5000000000) } }
  let d : Dev := l.foldl (fun d e => d.paramEffect e.1 e.2) d
  match d.params.commit with
  | some ⟨go, op, i, none⟩ =>
    if go < now then { d with params := { d.params with commit := some ⟨go, op, i, some (d.commitValues op i)⟩ } } else d
  | _ => d

/-- The values of an overlay copy that a start applies, and the number it skips (R107, R111). -/
def Dev.overlayApplied (d : Dev) (layout own : Word) (l : List (Nat × Quad)) : List (Nat × Quad) × Nat :=
  let good := l.filter fun e => own == layout && !isSafeParam e.1 && (match d.paramRow e.1 with
    | some r => !r.type.bad e.2 && d.allows e.1 r e.2
    | none => false)
  (good, l.length - good.length)

/-- What a start finds of the copies (R111): 0 both valid, 1 A only, 2 B only, 3 both erased, 4 none valid otherwise. -/
def Dev.overlayState (d : Dev) : Nat :=
  match (readOverlay d.params.copyA).isSome, (readOverlay d.params.copyB).isSome with
  | true, true => 0
  | true, false => 1
  | false, true => 2
  | false, false => if d.params.copyA.isEmpty && d.params.copyB.isEmpty then 3 else 4

/-- Judge the overlay at a start (R111): OVL_STATE, the counts, E9. `loaded` tells that a set has started, whose table the values are held
to; without one no value is applied and none is skipped. -/
def Dev.overlayStart (d : Dev) (loaded : Bool) : Dev :=
  let state := d.overlayState
  let (vals, skipped) : List (Nat × Quad) × Nat := match loaded, d.overlayInUse with
    | true, some e => d.overlayApplied e.2.layout d.params.layout e.2.values
    | _, _ => ([], 0)
  let d : Dev := { d with params := { d.params with
    overlay := vals, runtime := [], waiting := [], snapping := false, history := [], dataHi := 0 } }
  let d : Dev := (d.set Reg.IMG_STATUS.OVL_STATE state).set Reg.PARAM_OVL.APPLIED vals.length
  let d : Dev := (d.set Reg.PARAM_OVL.SKIPPED skipped).set Reg.PARAM_COMMIT_RES.COUNT d.overlayValues.length
  let d : Dev := shownParams.foldl Dev.showParam d
  if state = 1 || state = 2 || state = 4 || skipped != 0 then d.raise 9 [0x40000, 0x170020] else d

/-! ## The bulk area (R117, R501) -/

/-- The bytes that a snapshot puts at BAR2 offset 0x03A0_0000: every value in force, then the mask of existing indices. -/
def Dev.snapBytes (d : Dev) : List Byte :=
  (List.range 6144).flatMap (fun i => leBytes 8 (if (d.paramRow i).isSome then d.param i else 0))
    ++ (List.range 768).map (fun b => BitVec.ofNat 8 (maskOf ((List.range 8).filter fun k => (d.paramRow (8 * b + k)).isSome)))

/-- PARAM_BULK.SNAP. -/
def Dev.snapGo (d : Dev) (port : Nat) : Dev :=
  if d.params.snapping then d.reportWrite 9 port 0 0x170024 false
  else { d with params := { d.params with snapping := true } }

/-- R117: host software asks for a snapshot of every value in force. -/
def execParamBulkSnap (t port : Nat) (s : State) : Host.Outcome State Fault Refusal :=
  s.run fun d => (d.advance t).whenHost fun d => d.snapGo port

/-- R517: the snapshot has been copied. -/
def execParamBulkSnapComplete (t : Nat) (s : State) : Host.Outcome State Fault Refusal :=
  s.run fun d => (d.advance t).whenHost fun d =>
    if d.params.snapping then
      ({ d with params := { d.params with snapping := false } }.bar2Write 0x03A00000 d.snapBytes).doorbell 5
    else d

/-- The entries of the bulk area whose mask bit is set, in ascending index order (R117). -/
def Dev.bulkEntries (d : Dev) : List (Nat × Quad) :=
  (List.range 6144).filterMap fun i =>
    if (d.host.bar2.read (0x03A0C000 + i / 8)).getLsbD (i % 8) then
      some (i, BitVec.ofNat 64 (ofLeBytes (d.host.bar2.readAll (0x03A00000 + 8 * i) 8))) else none

/-- An entry of the area that cannot be a value of a type of 32 bits or less: its upper bytes are not 0 (R109). -/
def malformed (e : Nat × Quad) : Bool :=
  match paramRow e.1 with
  | some r => r.type != .fp64 && e.2.extractLsb' 32 32 != 0
  | none => false

/-- PARAM_BULK.APPLY (R117, R539): all the entries, or none. -/
def Dev.bulkApply (d : Dev) (port : Nat) : Dev :=
  let l := d.bulkEntries
  let e := if l.any malformed then 6 else ((l.map fun e => d.paramError e.1 e.2).find? (· != 0)).getD 0
  let d : Dev := if e = 0 then l.foldl (fun d e => d.paramWait e.1 e.2) d
    else (d.set Reg.PARAM_STATUS.ERR e).reportWrite 8 port 0 0x170024 false
  d.doorbell 6

/-- R117: host software submits the masked values of the bulk area. -/
def execParamBulkApply (t port : Nat) (s : State) : Host.Outcome State Fault Refusal :=
  s.run fun d => (d.advance t).whenHost fun d => d.bulkApply port

end Sys2Proof.Machine
end

