-- ==== Sys2Proof/Machine/Record.lean ====
section
/-! DEFINITION. The event recorder and its media: draining, reading, freezing and clearing (R441 to R453), with the NAND medium's
wear, scrub and retirements (R455 to R462). -/
namespace Sys2Proof.Machine
open Sys2Proof

/-! ## The NAND medium (R455 to R459) -/

/-- A block that can be written: good, outside the format area and the spare pool, holding nothing. -/
def NandBlock.free (b : NandBlock) : Bool := !b.factoryBad && !b.grownBad && !b.spare && !b.holds

/-- Change block `i`. -/
def Dev.setBlock (d : Dev) (i : Nat) (f : NandBlock → NandBlock) : Dev :=
  { d with nand := { d.nand with blocks := modAt d.nand.blocks i f } }

/-- The blocks of the format area (R455): the first 8 good blocks. -/
def Dev.formatArea (d : Dev) : List Nat :=
  ((List.range d.nand.blocks.length).filter fun i => match d.nand.blocks[i]? with
    | some b => !b.factoryBad
    | none => false).take 8

/-- Block numbers outside the format area that satisfy a condition. -/
def Dev.blocksWhere (d : Dev) (p : NandBlock → Bool) : List Nat :=
  let area := d.formatArea
  (List.range d.nand.blocks.length).filter fun i => !area.contains i && (match d.nand.blocks[i]? with
    | some b => p b
    | none => false)

/-- A block's erase count. -/
def Dev.erasesOf (d : Dev) (i : Nat) : Nat := (d.nand.blocks.getD i default).erases

/-- The least number of a list. -/
def leastOf (l : List Nat) : Nat := l.foldl min (l.headD 0)

/-- The block of a list with the lowest, or highest, erase count; which of several is not given (R457). -/
def Dev.pickByWear (d : Dev) (lowest : Bool) (l : List Nat) : Option Nat :=
  let counts := l.map d.erasesOf
  let want := if lowest then leastOf counts else counts.foldl max 0
  let best := l.filter fun i => d.erasesOf i = want
  best[Config.pickBlock d.nand.picks % best.length]?

/-- One choice among blocks has been made. -/
def Dev.picked (d : Dev) : Dev := { d with nand := { d.nand with picks := d.nand.picks + 1 } }

/-- Show the counts of blocks and the erase counts (R462). -/
def Dev.showNand (d : Dev) : Dev :=
  let l := d.nand.blocks
  let ec := (l.filter fun b => !b.factoryBad).map (fun b => b.erases)
  let d : Dev := ((d.set Reg.NAND_TOTAL.BLOCKS l.length).set Reg.NAND_FBAD.BLOCKS (l.filter (·.factoryBad)).length).set
    Reg.NAND_GBAD.BLOCKS (l.filter (·.grownBad)).length
  ((d.set Reg.NAND_SPARE.BLOCKS (l.filter (fun b => b.spare && !b.grownBad)).length).set Reg.NAND_EC_MAX.EC (ec.foldl max 0)).set
    Reg.NAND_EC_MIN.EC (leastOf ec)

/-- Erase a block. -/
def NandBlock.erase (b : NandBlock) : NandBlock := { b with erases := b.erases + 1, reads := 0, corrected := 0, holds := false }

/-- The oldest batch gives its blocks up, with every batch that lies in one of them; their records are gone (R455). -/
def Dev.dropOldest (d : Dev) : Dev :=
  match d.recorder.nand with
  | [] => d
  | b :: _ =>
    let gone := b.blocks.take 1
    let kept := d.recorder.nand.filter fun x => !x.blocks.any gone.contains
    let kept := if kept.length = d.recorder.nand.length then kept.drop 1 else kept
    gone.foldl (fun d i => d.setBlock i (fun x => { x with holds := false })) { d with recorder := { d.recorder with nand := kept } }

/-- A page in a fresh block (R457): the free block with the lowest erase count, erased first; the oldest records make room. -/
def Dev.freshPage (d : Dev) : Nat × Dev :=
  let d : Dev := if (d.blocksWhere NandBlock.free).isEmpty then d.dropOldest else d
  match d.pickByWear true (d.blocksWhere NandBlock.free) with
  | some b =>
    let d : Dev := d.picked.setBlock b (fun x => { x.erase with holds := true })
    (b, { d with nand := { d.nand with cur := some (b, 1) } })
  | none => (0, d)

/-- The next page is written (R445): in the block that is being written, else in a fresh one. -/
def Dev.writePage (d : Dev) : Nat × Dev :=
  match d.nand.cur with
  | some (b, n) => if n < d.nand.ppb then (b, { d with nand := { d.nand with cur := some (b, n + 1) } }) else d.freshPage
  | none => d.freshPage

/-- Write a number of pages: the blocks they lie in. -/
def Dev.writePages : Nat → List Nat → Dev → List Nat × Dev
  | 0, l, d => (l, d)
  | n + 1, l, d =>
    let (b, d) := d.writePage
    Dev.writePages n (if l.contains b then l else l ++ [b]) d

/-- The data bytes of a page, less its header (R455, R456). -/
def Dev.pageData (d : Dev) : Nat := 4096 * 2 ^ d.nand.page - 32

/-! ## Committing records (R437, R441 to R445) -/

/-- The bytes of a record as they stand on a medium (R435). -/
def Rec.bytes (r : Rec) : List Byte :=
  let b := leBytes 2 r.size ++ leBytes 1 r.type ++ leBytes 1 r.flags ++ leBytes 4 r.seq.toNat ++ leBytes 6 r.oph ++ leBytes 3 r.pcc
    ++ leBytes 1 r.unit ++ leBytes 6 r.utcSec ++ leBytes 4 r.utcNs ++ leBytes 4 r.tov.toNat ++ r.body
  b ++ leBytes 4 (crc32c b).toNat

/-- The recorder works in the full profile on a NAND medium that has not failed (R442, R459). -/
def Dev.onNand (d : Dev) : Bool := d.flag Reg.REC_STATUS.PROFILE && !d.flag Reg.NAND_STATUS.FAILED && d.flag Reg.NAND_STATUS.FORMATTED

/-- Append a record to the NOR ring (R443). -/
def Dev.norAppend (d : Dev) (epoch : Nat) (r : Rec) : Dev :=
  { d with recorder := { d.recorder with nor := norWith d.recorder.nor epoch d.oph (d.get Reg.REC_PCC.PCC) r } }

/-- The records that the medium of the profile holds, in SEQ order (R442, R452). -/
def Dev.heldRecs (d : Dev) : List Rec :=
  if d.onNand then (d.recorder.nand.filter (fun b => b.epoch == d.recorder.epoch)).flatMap (fun b => b.recs)
  else (d.recorder.nor.filter (fun s => s.epoch == d.recorder.epoch)).flatMap (fun s => s.recs)

/-- Show the oldest and the last SEQ held (R460). -/
def Dev.showSeqs (d : Dev) : Dev :=
  match d.heldRecs with
  | [] => d
  | r :: l => (d.set Reg.REC_FIRST_SEQ.FIRST r.seq.toNat).set Reg.REC_SEQ.LAST ((l.getLastD r).seq.toNat)

/-- When staging has room again, a record tells of those it dropped (R441). -/
def Dev.reportDropped (d : Dev) : Dev :=
  match d.recorder.dropped with
  | none => d
  | some (a, b) => ({ d with recorder := { d.recorder with dropped := none } }).note 0x0C 0x12 5 [a, b]

/-- A record as a sealed datum (R121, R123, R436): source 90, kind 0x50, its SEQ the counter of the stream. -/
def Rec.packet (r : Rec) : Packet :=
  let words := packWords r.bytes
  let alive := BitVec.ofNat 16 r.seq.toNat
  ⟨⟨crc32c (checkBytes words r.tov r.frame alive 90 0x50), r.tov, r.frame, alive, 0, 90, 0x50, 0⟩, words, 0, 0⟩

/-- Relocations that wait are given up: the blocks meant to take the copies hold nothing (R458). -/
def Dev.dropMoves (d : Dev) : Dev :=
  let d : Dev := d.nand.moving.foldl (fun d m => d.setBlock m.2.1 fun b => { b with holds := false }) d
  { d with nand := { d.nand with moving := [] } }

/-- The open batch goes to the NOR ring, where the recorder continues when the NAND has failed (R459). -/
def Dev.batchToNor (d : Dev) : Dev :=
  let l := d.recorder.openBatch.filter fun r => !onNorToo r.type
  l.foldl (fun d r => d.norAppend d.recorder.epoch r) { d with recorder := { d.recorder with openBatch := [] } }

/-- Drain the oldest staged records to the medium (R441, R442), each verified at the recorder's exit (R123): `broken` names those that fail,
by SEQ, with the check recomputed; they are withheld (R126). -/
def Dev.drain (d : Dev) (n : Nat) (broken : List (Word × Word)) : Dev :=
  let all := d.recorder.staging.take n
  let fails (r : Rec) : Option Word := (broken.find? fun e => e.1 == r.seq && e.2 != r.packet.tag.check).map fun e => e.2
  let out := all.filter fun r => (fails r).isNone
  let d : Dev := { d with recorder := { d.recorder with staging := d.recorder.staging.drop n } }
  let d : Dev :=
    if d.onNand then
      let at_ := if d.recorder.openBatch.isEmpty then d.sched.st else d.recorder.batchAt
      let d : Dev := { d with recorder := { d.recorder with openBatch := d.recorder.openBatch ++ out, batchAt := at_ } }
      (out.filter (fun r => onNorToo r.type)).foldl (fun d r => d.norAppend d.recorder.epoch r) d
    else out.foldl (fun d r => d.norAppend d.recorder.epoch r) d.batchToNor
  let d : Dev := if all.isEmpty then d else d.showStaging.showSeqs.reportDropped
  all.foldl (fun d r => match fails r with
    | some w => d.chainBreak 2 90 0x3FF r.packet r.packet.tag.check w
    | none => d) d

/-- What a commit page lists of the data pages of a batch (R445): page sequence numbers from `seq`, and the CRC-32C of each page. DESIGN
CHOICE (log 180): over the page's records, filled with erased bytes. -/
def Dev.pageList (d : Dev) (seq : Word) (recs : List Rec) : List (Word × Word) :=
  let bs := recs.flatMap Rec.bytes
  let n := (bs.length + d.pageData - 1) / d.pageData
  (List.range n).map fun k =>
    let page := (bs.drop (k * d.pageData)).take d.pageData
    (seq + BitVec.ofNat 32 k, crc32c (page ++ List.replicate (d.pageData - page.length) 255))

/-- A batch is committed (R445): its data pages, then its commit page. -/
def Dev.commitBatch (d : Dev) (epoch : Nat) (recs : List Rec) : Dev :=
  let pages := d.pageList d.nand.pageSeq recs
  let (blocks, d) := Dev.writePages (pages.length + 1) [] d
  { d with
    nand := { d.nand with pageSeq := d.nand.pageSeq + BitVec.ofNat 32 (pages.length + 1) }
    recorder := { d.recorder with nand := d.recorder.nand ++ [⟨epoch, blocks, recs, pages⟩] } }

/-- The open batch closes with its commit page (R445). -/
def Dev.closeBatch (d : Dev) : Dev :=
  let recs := d.recorder.openBatch
  if recs.isEmpty || !d.onNand then d
  else
    (({ d with recorder := { d.recorder with openBatch := [] } }).commitBatch d.recorder.epoch recs).showNand.showSeqs

/-- The open batch is to close: 1 MB has gathered, or 100 ms have passed since its first record (R445). -/
def Dev.batchDue (d : Dev) : Bool :=
  1048576 ≤ stagingBytes d.recorder.openBatch || d.recorder.batchAt + 100000000 ≤ d.sched.st

/-- R445: a batch closes. -/
def execNandBatchClose (t : Nat) (s : State) : Host.Outcome State Fault Refusal :=
  s.run fun d => (d.advance t).whenUp fun d => if d.batchDue then d.closeBatch else d

/-- R438: an operating-hours checkpoint. -/
def execHoursCheckpoint (t : Nat) (s : State) : Host.Outcome State Fault Refusal :=
  s.run fun d => (d.advance t).whenUp fun d =>
    if d.oph < d.recorder.hoursAt + 600000 then d
    else ({ d with recorder := { d.recorder with hoursAt := d.oph } }).note 0x0F 0x12 0 [BitVec.ofNat 32 d.oph, BitVec.ofNat 32 (d.oph / 4294967296), d.word 0x120014]

/-! ## Reading (R446, R447) -/

/-- REC_READ_CTRL.GO: a copy starts, during a freeze of the NAND as it stands (R449); one that runs is not disturbed. -/
def Dev.readGo (d : Dev) (port : Nat) : Dev :=
  if d.recorder.copying then d.reportWrite 9 port 0 0x120030 false
  else
    let src := if d.flag Reg.REC_STATUS.FROZEN then some d.heldRecs else none
    { (d.setB Reg.REC_READ_RES.BUSY true) with recorder := { d.recorder with copying := true, copySrc := src } }

/-- R446: host software asks for records. -/
def execRecordReadGo (t port : Nat) (s : State) : Host.Outcome State Fault Refusal :=
  s.run fun d => (d.advance t).whenUp fun d => d.readGo port

/-- The records that fit a number of bytes, whole, from the front. -/
def fitting : Nat → List Rec → List Rec
  | _, [] => []
  | room, r :: l => if r.size ≤ room then r :: fitting (room - r.size) l else []

/-! ## Wear, scrub and retirement (R456 to R459) -/

/-- What a read of a block has met (R456): the block, the most corrected bits of a codeword, above 72 when one was uncorrectable, and the
SEQs that such a codeword lost. -/
def Dev.blockRead (d : Dev) (r : BlockRead) : Dev :=
  let d : Dev := d.setBlock r.block (fun b => { b with reads := b.reads + 1, corrected := max b.corrected r.corrected })
  if 72 < r.corrected then
    let keep (l : List Rec) : List Rec := l.filter (fun x => !r.lost.contains x.seq)
    { (d.inc Reg.NAND_ECC.UNCORR) with recorder := { d.recorder with
        nand := d.recorder.nand.map (fun b => { b with recs := keep b.recs }) } }
  else if d.get Reg.NAND_ECC.CORR_MAX < r.corrected then d.set Reg.NAND_ECC.CORR_MAX r.corrected
  else d

/-- A block is retired (R459): E91 and its record; a spare takes its place, or the ring shrinks. -/
def Dev.retireBlock (d : Dev) (b cause : Nat) : Dev :=
  let bits := (d.nand.blocks.getD b default).corrected
  let d : Dev := d.setBlock b (fun x => { x with grownBad := true, holds := false, spare := false })
  let spares := d.blocksWhere (fun x => x.spare && !x.grownBad)
  let d : Dev := match d.pickByWear true spares with
    | some s => d.picked.setBlock s (fun x => { x with spare := false })
    | none => { d with nand := { d.nand with ring := d.nand.ring - 1 } }
  let d : Dev := ((d.showNand.set Reg.NAND_RETIRE_LAST.BLOCK b).set Reg.NAND_RETIRE_LAST.CAUSE cause).setBitAt Reg.NAND_STATUS.STICKY 0 true
  let left := d.get Reg.NAND_SPARE.BLOCKS
  let d : Dev := d.raiseWith 91 0 [BitVec.ofNat 32 b, BitVec.ofNat 32 cause, BitVec.ofNat 32 bits, BitVec.ofNat 32 left] none
  let low := (F64.ofInt (100 * left)).lt ((d.paramF P.NAND.SPARE_LOW).mul (.ofInt d.nand.goodBlocks))
  let d : Dev := if low && !d.flag Reg.NAND_STATUS.SPARE_LOW then
      ((d.setB Reg.NAND_STATUS.SPARE_LOW true).setBitAt Reg.NAND_STATUS.STICKY 2 true).raise 93 [0x130000, 0x130014] else d
  if d.nand.ring < 64 then ((d.setB Reg.NAND_STATUS.FAILED true).setB Reg.REC_STATUS.MEDIUM_OK false).batchToNor else d

/-- A block's contents are to be moved into another (R457, R458). -/
def Dev.moveBlock (d : Dev) (b cause : Nat) (lowest : Bool) : Dev :=
  if d.nand.moving.any (fun m => m.1 == b) then d
  else match d.pickByWear lowest (d.blocksWhere NandBlock.free) with
    | some n =>
      let d : Dev := d.picked.setBlock n (fun x => { x.erase with holds := true })
      { d with nand := { d.nand with moving := d.nand.moving ++ [(b, n, cause)] } }
    | none => d

/-- Whether a block that has been read is to be relocated, and its retirement after it (R456 to R458); the count of reads is judged by a
scrub pass. -/
def Dev.judgeBlock (pass : Bool) (d : Dev) (r : BlockRead) : Dev :=
  let b := d.nand.blocks.getD r.block default
  if 72 < r.corrected then d.retireBlock r.block 3
  else if d.param P.NAND.SCRUB_BITS ≤ r.corrected || (pass && d.param P.NAND.RD_LIMIT < b.reads) then
    d.moveBlock r.block (if d.param P.NAND.RETIRE_BITS < r.corrected then 4 else 0) true
  else d

/-- A program (1) or an erase (2) of a block has reported failure (R457): of the block being written, whose pages so far move to a fresh
one, or of one that holds nothing. -/
def Dev.blockFails (d : Dev) (b cause : Nat) : Dev :=
  if cause = 1 && (d.nand.cur.any fun c => c.1 = b) then
    let (new, d) := ({ d with nand := { d.nand with cur := none } }).freshPage
    let d : Dev := { d with recorder := { d.recorder with
      nand := d.recorder.nand.map (fun x => { x with blocks := x.blocks.map (fun k => if k = b then new else k) }) } }
    d.retireBlock b 1
  else if cause = 2 && (d.blocksWhere NandBlock.free).contains b then d.retireBlock b 2
  else d

/-- R441: the recorder drains staged records, in SEQ order; a freeze stops the drain (R448). -/
def execRecordDrain (t : Nat) (n : DrainIn) (s : State) : Host.Outcome State Fault Refusal :=
  s.run fun d => (d.advance t).whenUp fun d =>
    if d.flag Reg.REC_STATUS.FROZEN then d
    else (if d.onNand then n.fails.foldl (fun d e => d.blockFails e.1 e.2) d else d).drain n.count n.broken

/-- R446: the copy ends. Records of the current epoch from the SEQ wanted go into the window while they fit; `reads` is what reading the
NAND met. -/
def Dev.readDone (d : Dev) (reads : List BlockRead) : Dev :=
  if !d.recorder.copying then d
  else
    let d : Dev := reads.foldl Dev.blockRead d
    let all := d.recorder.copySrc.getD d.heldRecs
    let want := d.word 0x120034
    let first := (all.map (fun r => r.seq)).headD 0
    let gap := !all.isEmpty && laterThan first want
    let start := if gap then first else want
    let out := fitting 1048576 (all.filter (fun r => r.seq = start || laterThan r.seq start))
    let d : Dev := d.bar2Write 0x03F00000 (out.flatMap Rec.bytes)
    let d : Dev := { (d.setB Reg.REC_READ_RES.BUSY false) with recorder := { d.recorder with copying := false, copySrc := none, window := out } }
    let d : Dev := (d.setB Reg.REC_READ_RES.GAP gap).set Reg.REC_READ_RES.COUNT out.length
    let d : Dev := match out.getLast? with
      | some r => (d.set Reg.REC_READ_LAST.SEQ r.seq.toNat).set Reg.REC_READ_NEXT.SEQ (r.seq + 1).toNat
      | none => d.set Reg.REC_READ_NEXT.SEQ start.toNat
    (reads.foldl (Dev.judgeBlock false) d).doorbell 3

/-- R446: the copy of records ends. -/
def execRecordReadComplete (t : Nat) (reads : List BlockRead) (s : State) : Host.Outcome State Fault Refusal :=
  s.run fun d => (d.advance t).whenUp fun d => d.readDone reads

/-! ## Freezing (R448, R449) -/

/-- REC_FREEZE.FREEZE. -/
def Dev.freeze (d : Dev) (port : Nat) : Dev :=
  if !d.flag Reg.REC_STATUS.PROFILE then (d.set Reg.REC_FREEZE_STAT.RESULT 2).reportWrite 8 port 0 0x120020 false
  else if d.flag Reg.REC_STATUS.FROZEN then (d.set Reg.REC_FREEZE_STAT.RESULT 2).reportWrite 9 port 0 0x120020 false
  else
    let d : Dev := ((d.set Reg.REC_FREEZE_STAT.RESULT 0).set Reg.REC_FREEZE_STAT.END 0).setB Reg.REC_STATUS.FROZEN true
    ({ d with recorder := { d.recorder with freezeAt := d.sched.st } }).note 0x0C 0x12 2 []

/-- R448: host software stops the drain to NAND. -/
def execFreeze (t port : Nat) (s : State) : Host.Outcome State Fault Refusal :=
  s.run fun d => (d.advance t).whenUp fun d => d.freeze port

/-- A freeze ends with a code of REC_FREEZE_STAT.END, and the record of subtype 3 (R448, R449). -/
def Dev.endFreeze (d : Dev) (code : Nat) : Dev :=
  if d.flag Reg.REC_STATUS.FROZEN then
    (((d.set Reg.REC_FREEZE_STAT.ELAPSED d.frozenFor).set Reg.REC_FREEZE_STAT.END code).setB Reg.REC_STATUS.FROZEN false).note
      0x0C 0x12 3 []
  else d

/-- R448: host software ends the freeze. -/
def execThaw (t : Nat) (s : State) : Host.Outcome State Fault Refusal :=
  s.run fun d => (d.advance t).whenUp fun d => d.endFreeze 1

/-- R448: a freeze has lasted REC.FREEZE_MAX. -/
def execFreezeTimeout (t : Nat) (s : State) : Host.Outcome State Fault Refusal :=
  s.run fun d => (d.advance t).whenUp fun d =>
    if d.recorder.freezeAt + d.paramNs P.REC.FREEZE_MAX ≤ d.sched.st then d.endFreeze 2 else d

/-! ## Clearing (R450 to R452) -/

/-- 32 bytes from eight words. -/
def bytesOf (l : List Word) : List Byte := l.flatMap fun w => leBytes 4 w.toNat

/-- REC_CLR_CTRL.CHAL (R451): a fresh nonce. -/
def Dev.challenge (d : Dev) : Dev :=
  let n := Config.nonce d.recorder.nonces
  let d : Dev := { d with recorder := { d.recorder with nonce := some (n, d.sched.st), nonces := d.recorder.nonces + 1 } }
  (List.range 8).foldl (fun d k => d.set (Reg.REC_CLR_CHAL.NONCE k) (ofLeBytes ((n.drop (4 * k)).take 4))) d

/-- R451: host software asks for a nonce, which is held for 60 s. -/
def execClearChallenge (t : Nat) (s : State) : Host.Outcome State Fault Refusal :=
  s.run fun d => (d.advance t).whenUp Dev.challenge

/-- The message that the owner's tool authenticates (R451). -/
def Dev.clearMessage (d : Dev) (nonce : List Byte) : List Byte := nonce ++ leBytes 1 d.unit ++ leBytes 4 (d.get Reg.REC_SEQ.LAST)

/-- The result of a submission, 0 when the clear starts (R451, R461). -/
def Dev.clearResult (d : Dev) : Nat :=
  if (d.mode != 1 && d.mode != 7) || d.flag Reg.REC_STATUS.FROZEN then 4
  else match d.recorder.key, d.recorder.nonce with
    | none, _ => 5
    | some _, none => 3
    | some k, some (n, at_) =>
      if at_ + 60000000000 ≤ d.sched.st then 3
      else if hmacSha256 k (d.clearMessage n) = bytesOf ((List.range 8).map fun i => d.word (0x120080 + 4 * i)) then 0 else 2

/-- REC_CLR_CTRL.SUBMIT (R451, R452): the clear starts, or is refused with its record. -/
def Dev.clearSubmit (d : Dev) (replace : Bool) (port : Nat) : Dev :=
  let d : Dev := d.setB Reg.REC_CLR_CTRL.REPLACE replace
  if d.recorder.clearing.isSome then (d.set Reg.REC_CLR_RES.RESULT 1).reportWrite 9 port 0 0x120050 false
  else
    let r := d.clearResult
    let d : Dev := { d with recorder := { d.recorder with nonce := none } }
    if r != 0 then ((d.set Reg.REC_CLR_RES.RESULT r).note 0x0C 0x12 6 [BitVec.ofNat 32 r]).doorbell 4
    else
      let first := (d.heldRecs.map (fun x => x.seq)).headD 0
      { (d.set Reg.REC_CLR_RES.RESULT 1) with recorder := { d.recorder with
          clearing := some (first, d.word 0x120004, replace) } }

/-- R451: host software submits the response to a nonce. -/
def execClearSubmit (t : Nat) (replace : Bool) (port : Nat) (s : State) : Host.Outcome State Fault Refusal :=
  s.run fun d => (d.advance t).whenUp fun d => d.clearSubmit replace port

/-- The clear record is committed in a new epoch (R452): staging drained first, the record alone in the new log, E90. -/
def Dev.clearCommit (d : Dev) : Dev :=
  match d.recorder.clearing with
  | none => d
  | some (first, _, replace) =>
    let d : Dev := d.drain d.recorder.staging.length []
    let d : Dev := (d.drain d.recorder.staging.length []).closeBatch
    let first := (d.heldRecs.map (fun x => x.seq)).headD first
    let epoch := (d.recorder.epoch + 1) % 65536
    let seq := d.recorder.lastSeq + 1
    let r := d.makeRec seq 0x0C (recordBody 90 0x12 1 [first, d.word 0x120004, bit replace]) none
    let key := if replace then some (bytesOf ((List.range 8).map fun i => d.word (0x128000 + 4 * i))) else d.recorder.key
    let nand := d.onNand
    let old := d.recorder.nand.flatMap (fun b => b.blocks)
    let d : Dev := old.foldl (fun d b => d.setBlock b (fun x => { x with holds := false })) d
    let d : Dev := { d with recorder := { d.recorder with
      epoch := epoch, lastSeq := seq, first := false, nand := [], clearing := none, key := key } }
    let d : Dev := d.dropMoves
    let d : Dev := d.norAppend epoch r
    let d : Dev := { d with recorder := { d.recorder with nor := d.recorder.nor.filter fun x => x.epoch == epoch } }
    let d : Dev := if nand then
        (({ d with nand := { d.nand with cur := none } }).commitBatch epoch [r]).showNand
      else d
    let d : Dev := ((d.set Reg.REC_FIRST_SEQ.FIRST seq.toNat).set Reg.REC_SEQ.LAST seq.toNat).set Reg.REC_CLR_RES.RESULT 0
    (Dev.flushTrace 24 ((d.setBitAt Reg.REC_STATUS.STICKY 2 true).signal 90)).doorbell 4

/-- R452: the clear record is committed. -/
def execClearCommit (t : Nat) (s : State) : Host.Outcome State Fault Refusal :=
  s.run fun d => (d.advance t).whenUp fun d => d.clearCommit

/-- REC_KEY_CTRL.ENROL (R450): in M7, unlocked, with no key enrolled. -/
def Dev.keyEnrol (d : Dev) (port : Nat) : Dev :=
  if d.mode = 7 && d.recorder.key.isNone then
    let key := bytesOf ((List.range 8).map fun i => d.word (0x128000 + 4 * i))
    { (d.setB Reg.REC_STATUS.KEY true) with recorder := { d.recorder with key := some key } }
  else d.reportWrite 8 port 0 0x128020 false

/-- R450: host software enrols the clearing key. -/
def execClearKeyEnrol (t port : Nat) (s : State) : Host.Outcome State Fault Refusal :=
  s.run fun d => (d.advance t).whenUp fun d => d.expert port 0x128020 fun d => d.keyEnrol port

/-! ## NAND commands (R457, R458, R462) -/

/-- NAND_CTRL.FORMAT (R455, R457, R459, R462): blocks marked bad by the factory are noted before any erase, at least 2 % of the good blocks
become spares, and the log is empty. -/
def Dev.formatNand (d : Dev) (marks : List Nat) : Dev :=
  let firstTime := !d.flag Reg.NAND_STATUS.FORMATTED
  let mark (i : Nat) (b : NandBlock) : NandBlock := if firstTime && marks.contains i then { b with factoryBad := true } else b
  let l : List NandBlock := ((List.range d.nand.blocks.length).zip d.nand.blocks).map fun e =>
    let b := mark e.1 e.2
    if b.factoryBad || b.grownBad then { b with holds := false } else b.erase
  let d : Dev := { d with nand := { d.nand with blocks := l.map (fun b => { b with spare := false }), cur := none, moving := [] } }
  let good := (l.filter (fun b => !b.factoryBad && !b.grownBad)).length
  let pool := (d.blocksWhere NandBlock.free).reverse.take ((good + 49) / 50)
  let d : Dev := pool.foldl (fun d i => d.setBlock i (fun b => { b with spare := true })) d
  let d : Dev := { d with
    nand := { d.nand with goodBlocks := good, ring := (d.blocksWhere NandBlock.free).length, passDt := none, passOph := d.oph }
    recorder := { d.recorder with nand := [], openBatch := [] } }
  let d : Dev := (((d.setB Reg.NAND_STATUS.FORMATTED true).setB Reg.NAND_STATUS.FAILED false).setB Reg.NAND_STATUS.SPARE_LOW false).setB
    Reg.REC_STATUS.MEDIUM_OK true
  (((d.setB Reg.NAND_STATUS.SCRUBBING false).set Reg.NAND_SCRUB.PASSES 0).showNand).showSeqs

/-- NAND_CTRL.FORMAT is written (R462): in M7 and unlocked. -/
def Dev.formatWrite (d : Dev) (marks : List Nat) (port : Nat) : Dev :=
  if d.mode = 7 && d.flag Reg.SYS_EXPERT.UNLOCKED && d.flag Reg.NAND_STATUS.PRESENT then d.formatNand marks
  else d.reportWrite 8 port 0 0x13002C false

/-- R462: host software formats the medium, in M7 and unlocked; `marks` are the blocks with a factory-bad marker. -/
def execNandFormat (t port : Nat) (marks : List Nat) (s : State) : Host.Outcome State Fault Refusal :=
  s.run fun d => (d.advance t).whenUp fun d => d.formatWrite marks port

/-- Days since the last complete pass (R458, R462): of DT while it is valid, of operating hours otherwise. -/
def Dev.scrubAge (d : Dev) : F64 :=
  match d.flag Reg.TIME_STATUS.DT_VALID, d.nand.passDt with
  | true, some p => F64.ofRatio (d.dtSec - p) 86400
  | _, _ => F64.ofRatio ((d.oph : Int) - d.nand.passOph) 86400000

/-- A scrub pass starts (R458): not during a freeze. -/
def Dev.scrubStart (d : Dev) : Dev :=
  if d.onNand && !d.flag Reg.REC_STATUS.FROZEN then d.setB Reg.NAND_STATUS.SCRUBBING true else d

/-- NAND_CTRL.SCRUB_NOW (R458): not while a pass runs, and not without a medium that can be scrubbed. -/
def Dev.scrubNow (d : Dev) (port : Nat) : Dev :=
  if d.flag Reg.NAND_STATUS.SCRUBBING then d.reportWrite 9 port 0 0x13002C false
  else if d.onNand && !d.flag Reg.REC_STATUS.FROZEN then d.scrubStart
  else d.reportWrite 8 port 0 0x13002C false

/-- R458: host software starts a scrub pass. -/
def execScrubNow (t port : Nat) (s : State) : Host.Outcome State Fault Refusal :=
  s.run fun d => (d.advance t).whenUp fun d => d.scrubNow port

/-- R458: NAND.SCRUB_DAYS have passed. -/
def execScrubPassStart (t : Nat) (s : State) : Host.Outcome State Fault Refusal :=
  s.run fun d => (d.advance t).whenUp fun d => if (d.paramF P.NAND.SCRUB_DAYS).le d.scrubAge then d.scrubStart else d

/-- A pass is complete (R458): it has read every block that holds records, `reads` telling what it met; relocations, E92. -/
def Dev.scrubDone (d : Dev) (reads : List BlockRead) : Dev :=
  if !d.flag Reg.NAND_STATUS.SCRUBBING || d.flag Reg.REC_STATUS.FROZEN then d
  else
    let quiet : List BlockRead := ((d.blocksWhere fun b => b.holds && !b.grownBad).filter fun i => !reads.any fun r => r.block = i).map (⟨·, 0, []⟩)
    let d : Dev := (reads ++ quiet).foldl (fun d r => Dev.judgeBlock true (d.blockRead r) r) d
    let d : Dev := ((d.setB Reg.NAND_STATUS.SCRUBBING false).incWrap Reg.NAND_SCRUB.PASSES).setBitAt Reg.NAND_STATUS.STICKY 1 true
    let dt := if d.flag Reg.TIME_STATUS.DT_VALID then some d.dtSec.toNat else none
    ({ d with nand := { d.nand with passDt := dt, passOph := d.oph } }).raise 92 [0x130000, 0x13001C]

/-- R458: a scrub pass is complete; `reads` is what it met in each block that holds records. -/
def execScrubPassComplete (t : Nat) (reads : List BlockRead) (s : State) : Host.Outcome State Fault Refusal :=
  s.run fun d => (d.advance t).whenUp fun d => d.scrubDone reads

/-- The first relocation ends (R458, R459): the copy is committed and the old block erased; `fail` is 1 when programming the new block
failed, 2 when erasing the old one did. -/
def Dev.relocated (d : Dev) (fail : Nat) : Dev :=
  match d.nand.moving with
  | [] => d
  | (old, new, cause) :: rest =>
    if d.flag Reg.REC_STATUS.FROZEN then d
    else
      let d : Dev := { d with nand := { d.nand with moving := rest } }
      if fail = 1 then (d.retireBlock new 1).moveBlock old cause true
      else
        let d : Dev := { d with recorder := { d.recorder with
          nand := d.recorder.nand.map (fun b => { b with blocks := b.blocks.map (fun x => if x = old then new else x) }) } }
        let d : Dev := d.setBlock new fun b => { b with holds := d.recorder.nand.any fun x => x.blocks.contains new }
        let d : Dev := if fail = 2 then d.retireBlock old 2
          else if cause != 0 then d.retireBlock old cause
          else d.setBlock old NandBlock.erase
        d.showNand

/-- R458: the relocation of a block is complete. -/
def execBlockRelocationComplete (t fail : Nat) (s : State) : Host.Outcome State Fault Refusal :=
  s.run fun d => (d.advance t).whenUp fun d => d.relocated fail

/-- Static wear levelling (R457): the lowest-count block that holds records moves into a high-count free block. -/
def Dev.levelWear (d : Dev) : Dev :=
  let spread := d.get Reg.NAND_EC_MAX.EC - d.get Reg.NAND_EC_MIN.EC
  if d.onNand && !d.flag Reg.REC_STATUS.FROZEN && d.param P.NAND.WL_SPREAD < spread then
    match d.pickByWear true (d.blocksWhere (fun b => b.holds && !b.grownBad)) with
    | some b => d.picked.moveBlock b 0 false
    | none => d
  else d

/-- R457: the erase counts have come to differ by more than NAND.WL_SPREAD. -/
def execStaticWearLevelling (t : Nat) (s : State) : Host.Outcome State Fault Refusal :=
  s.run fun d => (d.advance t).whenUp fun d => d.levelWear

end Sys2Proof.Machine
end

