-- ==== Sys2Proof/Machine/Cellar.lean ====
section
/-! DEFINITION. The cellar (chapter 4): the slot directory, the checks of a vintage set, the choice of the set at a start, racking, and
acceptance records (R88 to R106, R112 to R116). -/
namespace Sys2Proof.Config
open Sys2Proof Sys2Proof.Machine

/-- The set that bytes laid out as a slot spell (R91, R104): the manual does not give a set's byte format. -/
opaque parseSet : Memory → VintageSet
/-- The bytes of a set as it lies in its slot (R88, R91). -/
opaque setBytes : VintageSet → List Byte
/-- The bytes of the tested-pair list as Bascel signs it (R94): the manual does not give their format. -/
opaque listBytes : List (Nat × Word × Nat × Word) → List Byte
/-- The words that slot F's set gives to registers whose reset value comes from it (R12), by address. -/
opaque factoryWords : VintageSet → List (Nat × Word)
/-- The structure image in a set's component SI (R91). -/
opaque imageOf : VintageSet → Image
/-- The words that a set's image gives to the registers whose reset value comes from it (R12), by address. -/
opaque imageWords : VintageSet → List (Nat × Word)
/-- The factory values of parameters that a set gives (R107). -/
opaque factoryOf : VintageSet → List (Nat × Quad)
/-- The parameter-table layout id of a set's image (R109). -/
opaque layoutOf : VintageSet → Word

end Sys2Proof.Config

namespace Sys2Proof.Machine
open Sys2Proof

/-! ## The slot directory (R90) -/

/-- A slot that holds nothing, as the directory states it. -/
def DirSlot.empty : DirSlot := ⟨.empty, List.replicate 4 0, 0, 0⟩

/-- The directory that stands while neither copy is valid: slot F only, which is active and known-good. -/
def Directory.bare : Directory := ⟨0, 0, 0, { DirSlot.empty with state := .factory } :: List.replicate 5 DirSlot.empty, 0⟩

/-- The bytes that the CRC-32C of a directory copy covers (R90). The order of the fields is the model's: nothing outside the device sees
it. -/
def Directory.bytes (x : Directory) : List Byte :=
  leBytes 4 x.seq.toNat ++ leBytes 2 x.active ++ leBytes 2 x.knownGood ++ x.slots.flatMap fun s =>
    leBytes 4 s.state.code ++ s.vin.flatMap (fun v => leBytes 4 v.toNat) ++ leBytes 4 s.digestLo.toNat ++ leBytes 4 s.rackDt.toNat

/-- A copy is valid while its CRC-32C holds (R90). -/
def Directory.valid (x : Directory) : Bool := x.check = crc32c x.bytes

/-- A copy with its CRC-32C. -/
def Directory.checked (x : Directory) : Directory := { x with check := crc32c x.bytes }

/-- A copy that is there and valid. -/
def goodCopy (x : Option Directory) : Option Directory := x.filter Directory.valid

/-- The copy in use, true for A, with its contents (R90). -/
def Dev.directory (d : Dev) : Option (Bool × Directory) :=
  match goodCopy d.img.dirA, goodCopy d.img.dirB with
  | some a, some b => if laterThan b.seq a.seq then some (false, b) else some (true, a)
  | some a, none => some (true, a)
  | none, some b => some (false, b)
  | none, none => none

/-- The directory in force. -/
def Dev.dir (d : Dev) : Directory :=
  match d.directory with
  | some e => e.2
  | none => Directory.bare

/-- What the directory says of a slot: 0 F, 1 to 4, 5 S. -/
def Dev.slotEntry (d : Dev) (n : Nat) : DirSlot := d.dir.slots.getD n DirSlot.empty

/-- The set that a slot holds. -/
def Dev.slotSet (d : Dev) (n : Nat) : Option VintageSet := d.img.sets.getD n none

/-- A set's four vintages. -/
def VintageSet.vintages (v : VintageSet) : List Word := (List.range 4).map fun i => (v.components.getD i default).vintage

/-- The low word of a set digest (R115). -/
def VintageSet.digestLo (v : VintageSet) : Word := BitVec.ofNat 32 (ofLeBytes (v.digest.take 4))

/-- A stored record counts for a set (R97, R103): its digest, and a key slot that is enrolled and not revoked. -/
def Dev.accepts (d : Dev) (v : VintageSet) : Bool :=
  d.img.records.any fun r => r.digest == v.digest && (d.img.keys.getD r.keySlot none).isSome && !d.img.revoked.testBit r.keySlot

/-- Show the directory and the records (R113, R115, R116). -/
def Dev.showDir (d : Dev) : Dev :=
  let x := d.dir
  let d : Dev := ((d.set Reg.IMG_ACTIVE.ACTIVE x.active).set Reg.IMG_ACTIVE.KG x.knownGood).set Reg.IMG_DIR_SEQ.SEQ x.seq.toNat
  let d : Dev := d.set Reg.IMG_ACC_RES.COUNT d.img.records.length
  (List.range 6).foldl (fun d n =>
    let s := x.slots.getD n DirSlot.empty
    let acc := match d.slotSet n with
      | some v => s.state != .empty && d.accepts v
      | none => false
    let d : Dev := ((d.set (Reg.IMG_SLOT.SLOT.STATE n) s.state.code).setB (Reg.IMG_SLOT.SLOT.ACC n) acc).set
      (Reg.IMG_SLOT.SI.VIN_SI n) (s.vin.getD 0 0).toNat
    let d : Dev := ((d.set (Reg.IMG_SLOT.AF.VIN_AF n) (s.vin.getD 1 0).toNat).set (Reg.IMG_SLOT.SF.VIN_SF n) (s.vin.getD 2 0).toNat).set
      (Reg.IMG_SLOT.GF.VIN_GF n) (s.vin.getD 3 0).toNat
    (d.set (Reg.IMG_SLOT.DIGEST.DIGEST_LO n) s.digestLo.toNat).set (Reg.IMG_SLOT.RACK_DT.RACK_DT n) s.rackDt.toNat) d

/-- Write the directory copy not in use. -/
def Dev.putDir (d : Dev) (x : Option Directory) : Dev :=
  let toB : Bool := match d.directory with
    | some e => e.1
    | none => false
  if toB then { d with img := { d.img with dirB := x } } else { d with img := { d.img with dirA := x } }

/-- A change of the directory (R90): into the copy not in use, with the next sequence number, then read back; where the medium failed, that
copy is not valid and the directory in force stays. -/
def Dev.dirWrite (d : Dev) (fail : Bool) (f : Directory → Directory) : Dev :=
  if fail then d.putDir none else (d.putDir (some ({ f d.dir with seq := d.dir.seq + 1 } : Directory).checked)).showDir

/-- A change of the directory that the medium takes. -/
def Dev.dirChange (d : Dev) (f : Directory → Directory) : Dev := d.dirWrite false f

/-- Change what the directory says of one slot. -/
def Directory.slot (x : Directory) (n : Nat) (s : DirSlot) : Directory := { x with slots := setAt x.slots n s }

/-- Change the state that it gives of one slot. -/
def Directory.mark (x : Directory) (n : Nat) (st : SlotState) : Directory :=
  { x with slots := modAt x.slots n (fun s => { s with state := st }) }

/-! ## The lamp-check results (R490) -/

/-- The bytes that the CRC-32C of a copy covers (R490); the order of the fields is the model's: nothing outside the device sees it. -/
def LampCopy.bytes (x : LampCopy) : List Byte :=
  let r := x.results
  leBytes 4 x.seq.toNat ++ leBytes 1 (bit r.passed + 2 * bit r.unrepairable) ++ leBytes 4 r.duration ++ leBytes 1 r.trigger
    ++ leBytes 4 r.failures ++ r.mem.flatMap (fun m => leBytes 1 m.mem ++ leBytes 1 m.bit ++ leBytes 1 m.step ++ leBytes 1 m.repair
      ++ leBytes 4 m.addr.toNat)
    ++ r.an.flatMap fun a => leBytes 1 a.result ++ leBytes 4 a.measured.toNat ++ leBytes 4 a.limit.toNat ++ leBytes 2 a.margin

/-- A copy that is there and whose CRC-32C holds. -/
def goodResults (x : Option LampCopy) : Option LampCopy := x.filter fun c => c.check = crc32c c.bytes

/-- The copy of the results that wins, chosen as R90 lays down (R490). -/
def Dev.lampCopy (d : Dev) : Option LampCopy :=
  match goodResults d.bist.resultsA, goodResults d.bist.resultsB with
  | some a, some b => if laterThan b.seq a.seq then some b else some a
  | some a, none => some a
  | none, b => b

/-- The results that the cellar holds; none where no copy is valid. -/
def Dev.lampHeld (d : Dev) : Option LampResults := d.lampCopy.map fun c => c.results

/-- Write results into both copies (R490). -/
def Dev.holdResults (d : Dev) (r : LampResults) : Dev :=
  let seq : Word := match d.lampCopy with
    | some c => c.seq + 1
    | none => 1
  let c : LampCopy := { LampCopy.mk seq r 0 with check := crc32c (LampCopy.mk seq r 0).bytes }
  { d with bist := { d.bist with resultsA := some c, resultsB := some c } }

/-! ## The checks of a set (R93 to R97) -/

/-- The six pairs in the order of IMG_STATUS.UNTESTED_PAIRS: 0 SI, 1 AF, 2 SF, 3 GF (R93, R112). -/
def setPairs : List (Nat × Nat) := [(0, 1), (0, 2), (0, 3), (1, 2), (1, 3), (2, 3)]

/-- A pair is in range (R93): each vintage within what the other declares for its kind. -/
def VintageSet.inRange (v : VintageSet) (p : Nat × Nat) : Bool :=
  let a := v.components.getD p.1 default
  let b := v.components.getD p.2 default
  let ra := a.partners.getD p.2 (0, 0)
  let rb := b.partners.getD p.1 (0, 0)
  ra.1 ≤ b.vintage && b.vintage ≤ ra.2 && rb.1 ≤ a.vintage && a.vintage ≤ rb.2

/-- A pair is tested (R94): the list names both vintages together. -/
def VintageSet.isTested (v : VintageSet) (p : Nat × Nat) : Bool :=
  let a := (v.components.getD p.1 default).vintage
  let b := (v.components.getD p.2 default).vintage
  v.tested.contains (p.1, a, p.2, b) || v.tested.contains (p.2, b, p.1, a)

/-- The untested pairs, one bit each (R112). -/
def VintageSet.untested (v : VintageSet) : Nat :=
  maskOf ((List.range 6).filter fun i => !v.isTested (setPairs.getD i (0, 0)))

/-- The largest sizes of SI, AF, SF and GF in bytes (R91). -/
def largest : List Nat := [4194304, 3145728, 524288, 1048576]

/-- The bytes of component `i` (R91): of SI the image and the timing certificate in it (PRESUMED, log 173: at its end). -/
def VintageSet.bytesOf (v : VintageSet) (i : Nat) : List Byte :=
  let l := (v.components.getD i default).content
  if i = 0 then l ++ v.cert else l

/-- A component against its own length and digest (R91, R96). -/
def VintageSet.whole (v : VintageSet) (i : Nat) : Bool :=
  let c := v.components.getD i default
  (v.bytesOf i).length = c.length && c.length ≤ largest.getD i 0 && c.sha = sha256 (v.bytesOf i)

/-- The set header, with the tested-pair list and its signature and the set digest, is no larger than 512 KB (R91). -/
def VintageSet.headerFits (v : VintageSet) : Bool :=
  (Config.listBytes v.tested).length + v.listSig.length + v.digest.length ≤ 524288

/-- The set digest: SHA-256 over the digests of SI, AF, SF and GF, in that order (R95). -/
def VintageSet.setDigest (v : VintageSet) : List Byte :=
  sha256 ((List.range 4).flatMap fun i => sha256 (v.bytesOf i))

/-- Every component is whole, the header fits, and its set digest is the set's (R91, R95, R96). -/
def VintageSet.digestOk (v : VintageSet) : Bool :=
  (List.range 4).all v.whole && v.headerFits && v.digest = v.setDigest

/-- The signatures (R91, R95): AF, SF, GF and the tested-pair list under the root key; the licence of SI under the root key, and then SI
under the key that the licence endorses. -/
def VintageSet.signed (v : VintageSet) : Bool :=
  let sig (i : Nat) : List Byte := (v.components.getD i default).sig
  [1, 2, 3].all (fun i => ed25519 Config.rootKey (v.bytesOf i) (sig i))
    && ed25519 Config.rootKey (Config.listBytes v.tested) v.listSig
    && ed25519 Config.rootKey (v.licence.key ++ v.licence.licensee) v.licence.sig
    && ed25519 v.licence.key (v.bytesOf 0) (sig 0)

/-- The certificate binding (R66): the CRC-32C of the certificate's bytes is the value that the image carries. -/
def VintageSet.certOk (v : VintageSet) : Bool := crc32c v.cert = v.certCrc

/-- What the checks that exclude a set find (R97): 3 a signature, a digest or the certificate, 2 a pair out of range, 0 nothing. -/
def VintageSet.fault (v : VintageSet) : Nat :=
  if !v.signed || !v.digestOk || !v.certOk then 3
  else if setPairs.all v.inRange then 0
  else 2

/-- The body of a start record (R97, R436): the slot, the four vintages, the untested pairs, the outcome. -/
def startWords (n : Nat) (v : VintageSet) (outcome : Nat) : List Word :=
  [BitVec.ofNat 32 n] ++ v.vintages ++ [BitVec.ofNat 32 v.untested, BitVec.ofNat 32 outcome]

/-- The candidates of a start, in their order, without the slots that are skipped (R96). -/
def Dev.candidates (d : Dev) : List Nat :=
  ([d.dir.active, d.dir.knownGood, 0].eraseDups).filter fun n =>
    let st := (d.slotEntry n).state
    n < 5 && (n = 0 || (st != .empty && st != .rejected))

/-- Try candidates until one starts (R96 to R98): the slot and the set that starts, and the device after. `bad` names the slots of which a
component could not be read on a second attempt either. -/
def Dev.trySets (bad : List Nat) : List Nat → Dev → Option (Nat × VintageSet) × Dev
  | [], d => (none, d)
  | n :: l, d =>
    let d : Dev := d.incWrap Reg.CLK_START.CANDIDATES
    let v := (d.slotSet n).getD default
    let e := if bad.contains n || (d.slotSet n).isNone then 3 else v.fault
    if e = 0 then
      let u := v.untested
      let acc := u != 0 && d.accepts v
      let d : Dev := ((d.set Reg.IMG_STATUS.BOOTED n).setB Reg.IMG_STATUS.FALLBACK (n != d.dir.active)).setB
        Reg.IMG_STATUS.UNTESTED (u != 0)
      let d : Dev := { d with img := { d.img with running := some v.digest } }
      let d : Dev := (d.setB Reg.IMG_STATUS.ACC_USED acc).set Reg.IMG_STATUS.UNTESTED_PAIRS u
      if u != 0 && !acc then
        let d : Dev := (d.set Reg.IMG_STATUS.E7_KIND 1).setB Reg.SYS_MODE.RESTRICT true
        (some (n, v), d.raiseWith 7 0 (startWords n v 1) none)
      else (some (n, v), d.note 0x05 0x04 0 (startWords n v 0))
    else
      let d : Dev := if n = 0 then d else d.dirChange fun x => x.mark n .rejected
      let d : Dev := (d.set Reg.IMG_STATUS.E7_KIND e).raiseWith 7 0 (startWords n v e) none
      Dev.trySets bad l d

/-- No candidate starts (R97, R99): the boot loader holds the main die and writes its record straight to the compact recorder. -/
def Dev.haltStart (d : Dev) : Dev :=
  let d : Dev := ((d.setB Reg.IMG_STATUS.HALT true).set Reg.IMG_STATUS.BOOTED 7).set Reg.IMG_STATUS.E7_KIND 4
  let d : Dev := d.signal 7
  let seq := d.recorder.lastSeq + 1
  let r := d.makeRec seq 0x0D (recordBody 7 0x04 0 [d.word 0x40000]) none
  let d : Dev := { d with recorder := { d.recorder with lastSeq := seq, first := false } }
  let d : Dev := (d.norAppend d.recorder.epoch r).overlayStart false
  { d.showSeqs with clk := { d.showSeqs.clk with phase := .halted } }

/-! ## Racking (R104 to R106) -/

/-- The staging area of BAR2 (R501). -/
def Dev.stagingArea (d : Dev) : Memory := d.host.bar2.filter fun c => 0x03000000 ≤ c.1 && c.1 < 0x03900000

/-- The set at a source: a slot, or the staging area (R104); none where nothing is there. -/
def Dev.sourceSet (d : Dev) (src : Nat) : Option VintageSet :=
  if src = 6 then (if d.stagingArea.isEmpty then none else some (Config.parseSet d.stagingArea))
  else if src < 5 && (src = 0 || (d.slotEntry src).state != .empty) then d.slotSet src
  else none

/-- A racking ends with a result (R105, R106, R114): E8 with its record, and the doorbell. -/
def Dev.rackEnd (d : Dev) (target result : Nat) (vins : List Word) : Dev :=
  let d : Dev := { d with img := { d.img with racking := none } }
  let d : Dev := (d.setB Reg.IMG_RACK_RES.BUSY false).set Reg.IMG_RACK_RES.RESULT result
  (d.raiseWith 8 0 ([d.word 0x40014, BitVec.ofNat 32 target] ++ vins) none).doorbell 1

/-- IMG_RACK.GO (R104, R114); in M0 it is refused, but not under the boot loader, which has no mode. -/
def Dev.rackGo (d : Dev) (target src : Nat) (activate : Bool) (port : Nat) : Dev :=
  let target := target % 8
  let src := src % 8
  let d : Dev := (d.set Reg.IMG_RACK.TARGET target).setB Reg.IMG_RACK.ACTIVATE activate
  if (d.coreUp && d.mode = 0) || src = 5 || src = 7 then d.reportWrite 8 port 0 0x40010 false
  else
    let d : Dev := d.set Reg.IMG_RACK.SRC src
    if d.img.racking.isSome then (d.set Reg.IMG_RACK_RES.RESULT 1).reportWrite 9 port 0 0x40010 false
    else if target = 0 || 4 < target || target = d.dir.active then
      ((d.set Reg.IMG_RACK_RES.RESULT 2).reportWrite 8 port 0 0x40010 false).doorbell 1
    else if (d.sourceSet src).isNone then ((d.set Reg.IMG_RACK_RES.RESULT 7).reportWrite 8 port 0 0x40010 false).doorbell 1
    else
      let d : Dev := { d with img := { d.img with racking := some ⟨src, target, activate, 1, false, none⟩ } }
      (d.setB Reg.IMG_RACK_RES.BUSY true).set Reg.IMG_RACK_RES.STEP 0

/-- R104: host software starts a racking. -/
def execRackingGo (t target src : Nat) (activate : Bool) (port : Nat) (s : State) : Host.Outcome State Fault Refusal :=
  s.run fun d => (d.advance t).whenHost fun d => d.rackGo target src activate port

/-- The target's old set goes (R105 step 5): the acceptance records of it that no other slot's set needs are erased (R102), the directory
shows the target EMPTY, and a known-good pointer that named it moves to slot F (R106). -/
def Dev.emptyTarget (d : Dev) (target : Nat) (fail : Bool) : Dev :=
  let old := match d.slotSet target with
    | some v => if (d.slotEntry target).state == SlotState.empty then [] else [v.digest]
    | none => []
  let elsewhere (g : List Byte) : Bool := (List.range 6).any fun n => n != target && (match d.slotSet n with
    | some v => v.digest == g && (d.slotEntry n).state != .empty
    | none => false)
  let d : Dev := if fail then d else { d with img := { d.img with
    records := d.img.records.filter fun a => !(old.contains a.digest && !elsewhere a.digest) } }
  d.dirWrite fail fun x => { x.slot target DirSlot.empty with knownGood := if x.knownGood = target then 0 else x.knownGood }

/-- The racking with its next step. -/
def Racking.next (r : Racking) : Option Racking := some { r with step := r.step + 1 }

/-- What step 1 finds of the source (R105): 0 good, 3 a signature or digest, 4 a pair out of range. -/
def rackVerdict (v : VintageSet) : Nat := if !v.signed || !v.digestOk then 3 else if setPairs.all v.inRange then 0 else 4

/-- What a step of R105 leaves behind when it completes: the result that ends the racking there, 0 when it goes on, and the device. Step 4
holds what it programmed to the digests of the set that step 1 checked. -/
def Dev.rackStep (d : Dev) (r : Racking) (fail : Bool) : Nat × Dev :=
  let set (n : Nat) (v : Option VintageSet) (d : Dev) : Dev := { d with img := { d.img with sets := setAt d.img.sets n v } }
  let e := if fail then 5 else 0
  match r.step with
  | 1 => match d.sourceSet r.src with
    | none => (3, d)
    | some v => (if fail then 3 else rackVerdict v, { d with img := { d.img with racking := some { r with checked := some v } } })
  | 2 => (e, d.dirWrite fail fun x => x.slot 5 DirSlot.empty)
  | 3 => (e, set 5 none d)
  | 4 => match d.sourceSet r.src with
    | none => (5, d)
    | some v =>
      let d : Dev := set 5 (some v) d
      if some v != r.checked || !v.digestOk then (5, d)
      else (e, d.dirWrite fail fun x => x.slot 5 ⟨.staged, v.vintages, v.digestLo, 0⟩)
  | 5 => (e, d.emptyTarget r.target fail)
  | 6 => (e, set r.target none d)
  | 7 => (e, set r.target (if fail then none else d.slotSet 5) d)
  | _ =>
    let v := (d.slotSet r.target).getD default
    (e, d.dirWrite fail fun x => { x.slot r.target ⟨.racked, v.vintages, v.digestLo, BitVec.ofInt 32 d.dtSec⟩ with
      active := if r.activate then r.target else x.active })

/-- A step of the racking is done (R105, R106); `fail` tells that reading, programming or reading back failed. -/
def Dev.rackAdvance (d : Dev) (fail : Bool) : Dev :=
  match d.img.racking with
  | none => d
  | some r =>
    let (e, d) : Nat × Dev := d.rackStep r fail
    let vins := (d.slotEntry r.target).vin
    if e != 0 then d.rackEnd r.target e vins
    else if 8 ≤ r.step then d.rackEnd r.target 0 vins
    else if r.stop then d.rackEnd r.target 6 vins
    else { (d.set Reg.IMG_RACK_RES.STEP r.step) with img := { d.img with racking := (d.img.racking.getD r).next } }

/-- R105: a racking step completes. -/
def execRackingStepComplete (t : Nat) (fail : Bool) (s : State) : Host.Outcome State Fault Refusal :=
  s.run fun d => (d.advance t).whenHost fun d => d.rackAdvance fail

/-- A racking that a reset cut short is reported at the next start (R106). -/
def Dev.rackCutStart (d : Dev) : Dev :=
  if d.img.rackCut then
    let d : Dev := { d with img := { d.img with rackCut := false } }
    let d : Dev := d.set Reg.IMG_RACK_RES.RESULT 6
    d.raiseSub 8 0 [0x40014]
  else d

/-! ## Acceptance records and their keys (R101 to R103) -/

/-- IMG_ACC_CTRL.SUBMIT (R102). -/
def Dev.acceptGo (d : Dev) (port : Nat) : Dev :=
  if d.img.submitted.isSome then d.reportWrite 9 port 0 0x40020 false
  else { d with img := { d.img with submitted := some (d.host.bar2.readAll 0x03900000 128) } }

/-- R102: host software submits an acceptance record. -/
def execAcceptanceSubmit (t port : Nat) (s : State) : Host.Outcome State Fault Refusal :=
  s.run fun d => (d.advance t).whenHost fun d => d.acceptGo port

/-- The form of a record (R101). -/
def acceptForm (b : List Byte) : Bool :=
  b.take 4 = [0x41, 0x43, 0x43, 0x31] && ofLeBytes ((b.drop 4).take 2) = 1 && 1 ≤ (b.getD 6 0).toNat && (b.getD 6 0).toNat ≤ 3
    && (b.drop 46).take 2 = [0, 0]

/-- The result of verifying a record (R102, R116). -/
def Dev.acceptResult (d : Dev) (b : List Byte) : Nat :=
  let slot := (b.getD 7 0).toNat
  let held := [1, 2, 3, 4].any fun n => match d.slotSet n with
    | some v => v.digest == (b.drop 8).take 32 && (d.slotEntry n).state != .empty
    | none => false
  if !acceptForm b then 1
  else match d.img.keys.getD slot none with
    | none => 3
    | some k =>
      if d.img.revoked.testBit slot then 3
      else if !ed25519 k (b.take 64) ((b.drop 64).take 64) then 2
      else if !held then 4
      else if 64 ≤ d.img.records.length then 5
      else 0

/-- Verification ends (R102, R116, R517). -/
def Dev.acceptDone (d : Dev) : Dev :=
  match d.img.submitted with
  | none => d
  | some b =>
    let e := d.acceptResult b
    let d : Dev := { (d.set Reg.IMG_ACC_RES.RESULT e) with img := { d.img with submitted := none } }
    let d : Dev :=
      if e = 0 then
        let r : AcceptRec := ⟨(b.getD 7 0).toNat, (b.getD 6 0).toNat, (b.drop 8).take 32, b⟩
        ({ d with img := { d.img with records := d.img.records ++ [r] } }.showDir).note 0x06 0x04 1 (packWords b)
      else d
    d.doorbell 2

/-- R102: the record has been verified. -/
def execAcceptanceVerifyComplete (t : Nat) (s : State) : Host.Outcome State Fault Refusal :=
  s.run fun d => (d.advance t).whenHost fun d => d.acceptDone

/-- Show the key slots (R116). -/
def Dev.showKeys (d : Dev) : Dev :=
  (d.set Reg.IMG_ACCKEY_CTRL.ENROLLED (maskOf ((List.range 4).filter fun i => (d.img.keys.getD i none).isSome))).set
    Reg.IMG_ACCKEY_CTRL.REVOKED d.img.revoked

/-- IMG_ACCKEY_CTRL.ENROL (R103, R116): a slot is written once, in M7. -/
def Dev.acckeyEnrol (d : Dev) (slot port : Nat) : Dev :=
  let slot := slot % 4
  let d : Dev := d.set Reg.IMG_ACCKEY_CTRL.SLOT slot
  if d.mode != 7 || (d.img.keys.getD slot none).isSome then d.reportWrite 8 port 0 0x48020 false
  else
    let key := bytesOf ((List.range 8).map fun i => d.word (0x48000 + 4 * i))
    ({ d with img := { d.img with keys := setAt d.img.keys slot (some key) } }).showKeys.showDir

/-- R103: host software enrols an integrator key. -/
def execAcckeyEnrol (t slot port : Nat) (s : State) : Host.Outcome State Fault Refusal :=
  s.run fun d => (d.advance t).whenHost fun d => d.expert port 0x48020 fun d => d.acckeyEnrol slot port

/-- IMG_ACCKEY_CTRL.REVOKE (R103, R116): in M7; the records stay stored and count no longer. -/
def Dev.acckeyRevoke (d : Dev) (slot port : Nat) : Dev :=
  let slot := slot % 4
  let d : Dev := d.set Reg.IMG_ACCKEY_CTRL.SLOT slot
  if d.mode != 7 then d.reportWrite 8 port 0 0x48020 false
  else ({ d with img := { d.img with revoked := d.img.revoked ||| 2 ^ slot } }).showKeys.showDir

/-- R103: host software revokes a key slot. -/
def execAcckeyRevoke (t slot port : Nat) (s : State) : Host.Outcome State Fault Refusal :=
  s.run fun d => (d.advance t).whenHost fun d => d.expert port 0x48020 fun d => d.acckeyRevoke slot port

/-! ## Known-good (R100) -/

/-- The running set has met the conditions for IMG.KG_DWELL. -/
def Dev.kgDue (d : Dev) : Bool := d.kgHolds && heldFor d.sched.st (1000000000 * d.param P.IMG.KG_DWELL) d.img.kgSince

/-- The slot that the running set was started from still holds it: not emptied or overwritten by a racking since (R104, R106). -/
def Dev.bootedHolds (d : Dev) : Bool :=
  let n := d.get Reg.IMG_STATUS.BOOTED
  let s := (d.slotEntry n).state
  n = 0 || (d.img.running.isSome && (d.slotSet n).map (fun v => v.digest) = d.img.running
    && (s = .racked || s = .knownGood))

/-- The set becomes known-good: the pointer moves, and the slot it leaves becomes RACKED. -/
def Dev.knownGood (d : Dev) : Dev :=
  let n := d.get Reg.IMG_STATUS.BOOTED
  if !d.kgDue || d.dir.knownGood = n || !d.bootedHolds then d
  else d.dirChange fun x =>
    let old : SlotState := (x.slots.getD x.knownGood DirSlot.empty).state
    let y : Directory := if old == SlotState.knownGood then x.mark x.knownGood .racked else x
    { (if n = 0 then y else y.mark n .knownGood) with knownGood := n }

/-- R100: the dwell towards known-good has passed. -/
def execKnownGoodDwell (t : Nat) (s : State) : Host.Outcome State Fault Refusal :=
  s.run fun d => (d.advance t).whenUp fun d => d.knownGood

end Sys2Proof.Machine
end

