-- ==== Sys2Proof/Machine/Block.lean ====
section
/-! DEFINITION. The reset of one block, the ladder's second rung (R493). -/
namespace Sys2Proof.Machine
open Sys2Proof

/-- A register word back at its reset value but for the fields that the image or the parameters in force supply (R12, R492, R493). -/
def RegRow.blockReset (r : RegRow) (w : Word) : Word :=
  r.fields.foldl (fun v f => if f.source = .i || f.source = .u then v else setBits v f.lo f.width f.reset) w

/-- The registers of block `b` after its reset. -/
def RegFile.resetBlock (f : RegFile) (b : Nat) : RegFile :=
  f.filterMap fun e =>
    if e.1 / 0x10000 != b then some e
    else match regRow e.1 with
      | none => some e
      | some r =>
        let w := r.blockReset e.2
        if w = regReset e.1 then none else some (e.1, w)

/-- What the block holds beside its registers, its counters cleared and its pending commands dropped (R493); the stores of the cellar,
the media, the overlay and the parameters in force stay. -/
def Dev.resetHidden (d : Dev) (b : Nat) : Dev :=
  match b with
  | 0x04 => { d with img := { d.img with racking := none, submitted := none, kgSince := none } }
  | 0x05 => { d with chk := Dev.reset.chk }
  | 0x06 => { d with entry := Dev.reset.entry }
  | 0x07 => { d with afe := Dev.reset.afe }
  | 0x08 => { d with gnss := GnssState.reset }
  | 0x09 => { d with time := Dev.reset.time, clk := { d.clk with aonDt := d.keptDt.map fun s => (s, d.sched.st) } }
  | 0x0A => { d with fus := FusState.reset }
  | 0x0B => { d with alloc := AllocState.reset }
  | 0x0C => { d with solv := Dev.reset.solv }
  | 0x0D => { d with loop := LoopState.reset }
  | 0x0E => { d with out := { d.out with can := OutState.reset.can } }
  | 0x0F => { d with out := { OutState.reset with can := d.out.can } }
  | 0x10 => { d with red := { RedState.reset with latched := d.red.latched, drillMs := d.red.drillMs } }
  | 0x12 => { d with recorder := { d.recorder with copying := false, copySrc := none, nonce := none, clearing := none } }
  | 0x13 => d.dropMoves
  | 0x15 => { d with host := { d.host with sent := [0, 0, 0, 0], raised := [], latched := [], spiOk := false, spiCrc := false } }
  | 0x16 => { d with net := Dev.reset.net }
  | 0x17 => { d.cutCommit with params := { d.cutCommit.params with waiting := [], snapping := false, dataHi := 0 } }
  | _ => d

/-- Show what the media and the stores of the recorder hold (R441, R450, R459, R460, R462). -/
def Dev.showMedia (d : Dev) : Dev :=
  let present := !d.nand.blocks.isEmpty
  let formatted := d.nand.goodBlocks != 0
  let failed := formatted && d.nand.ring < 64
  let d : Dev := ((d.setB Reg.NAND_STATUS.PRESENT present).setB Reg.NAND_STATUS.FORMATTED formatted).setB Reg.NAND_STATUS.FAILED failed
  let d : Dev := ((d.set Reg.NAND_GEOM.CE d.nand.ce).set Reg.NAND_GEOM.PAGE d.nand.page).set Reg.NAND_GEOM.PPB d.nand.ppb
  let d : Dev := d.showNand
  let low := formatted && (F64.ofInt (100 * d.get Reg.NAND_SPARE.BLOCKS)).lt ((d.paramF P.NAND.SPARE_LOW).mul (.ofInt d.nand.goodBlocks))
  let d : Dev := (d.setB Reg.NAND_STATUS.SPARE_LOW low).setB Reg.REC_STATUS.MEDIUM_OK
    (!d.flag Reg.REC_STATUS.PROFILE || (formatted && !failed))
  (d.setB Reg.REC_STATUS.KEY d.recorder.key.isSome).showStaging.showSeqs

/-- The block comes up again from the image in RAM and the parameters in force, and shows what it holds (R492, R493). -/
def Dev.restartBlock (d : Dev) (b : Nat) : Dev :=
  match b with
  | 0x04 => d.showDir.showKeys
  | 0x06 => d.openWindows
  | 0x07 => d.afeStart
  | 0x08 => d.setB Reg.GNSS_STATUS.RUNNING true
  | 0x0A => d.countRefs
  | 0x0B => d.loadAlloc
  | 0x0C => d.loadAlloc
  | 0x0D => d.loadLoop.loopStart
  | 0x0E => d.loadOut
  | 0x0F => d.loadOut
  | 0x10 => d.loadOut.setB Reg.RED_STATUS.DRILL_DUE (d.flag Reg.RED_DRILL_AGE.DUE)
  | 0x12 => d.showMedia
  | 0x13 => d.showMedia
  | 0x17 => d.set Reg.PARAM_COMMIT_RES.COUNT d.overlayValues.length
  | _ => d

/-- Registers that tell what stands outside the block and goes on over its reset: the running set, the power-cycle count, the overlay as
the start applied it, the PCIe and Ethernet links, the drill's age (R403). -/
def standing : List Nat := [0x40000, 0x120014, 0x170020, 0x150000, 0x160000, 0x100038]

/-- The states of SYS_MODE that a block reports, by bit number less 20 (R50). -/
def blockStates (b : Nat) : List Nat :=
  match b with
  | 0x09 => [10]
  | 0x0A => [0, 1, 2, 8, 11]
  | 0x0B => [4, 5, 9]
  | 0x0C => [3]
  | 0x0D => [6]
  | _ => []

/-- Reset block `b` (R493). -/
def Dev.resetBlock (d : Dev) (b : Nat) : Dev :=
  let kept := (standing.filter fun a => a / 0x10000 = b).map fun a => (a, d.word a)
  let d : Dev := { (d.resetHidden b) with regs := d.regs.resetBlock b }
  let d : Dev := (kept.foldl (fun d e => d.setWord e.1 e.2) d).restartBlock b
  (blockStates b).foldl (fun d i => d.setBitAt Reg.SYS_MODE.STATES i false) d

/-- Rung 2 is accepted for this block in this mode (R493). -/
def Dev.blockResettable (d : Dev) (b : Nat) : Bool :=
  if [0x08, 0x12, 0x13, 0x04, 0x17, 0x05, 0x15].contains b then 1 ≤ d.mode
  else if [0x06, 0x07, 0x0A, 0x0B, 0x0C, 0x0D, 0x0E, 0x0F, 0x10, 0x16, 0x09].contains b then d.mode = 1 || d.mode = 7
  else false

/-- The reset that was asked for takes place at a major-frame boundary (R493). -/
def Dev.blockMajor (d : Dev) : Dev :=
  match d.bist.blockReset with
  | none => d
  | some b => ({ d with bist := { d.bist with blockReset := none } }).resetBlock b

end Sys2Proof.Machine
end

