-- ==== Sys2Proof/Machine/Sched.lean ====
section
/-! DEFINITION. The schedule: boundaries, its start, fences, force-retirement and its expert controls (R22, R59 to R87), with what
takes place at each boundary. -/
namespace Sys2Proof.Machine
open Sys2Proof

/-! ## Start and expert controls (R62, R67, R80, R83) -/

/-- The schedule starts (R62): COVERED when every condition of R65 holds (R67). -/
def Dev.scheduleStart (d : Dev) : Dev :=
  let d : Dev := { (d.setB Reg.SCHED_STATUS.RUNNING true).setB Reg.SCHED_STATUS.COVERED (d.get Reg.SCHED_STATUS.UNCOVER = 0) with
    sched := { d.sched with startAt := d.sched.st, oldTasks := [], inflight := [] } }
  let d : Dev := d.showPool.loopStart.afeStart.openWindows
  let now := (d.image.numbered.filter fun e => e.2.release = 0).map fun e => (e.1, d.sched.st)
  ({ d with shots := [] }).openShots d.sched.st now

/-- R62: the first hyperframe boundary after the structure image has been loaded and verified. -/
def execScheduleStart (t : Nat) (s : State) : Host.Outcome State Fault Refusal :=
  s.run fun d => (d.advance t).whenUp fun d =>
    if d.flag Reg.SCHED_STATUS.CERT_OK && !d.running && d.mode != 0 && d.sched.st % 100000000 = 0 then d.scheduleStart else d

/-- R83: host software sets the high-water mark to the present count. -/
def execSchedHwmClr (t : Nat) (s : State) : Host.Outcome State Fault Refusal :=
  s.run fun d => (d.advance t).whenUp fun d => d.set Reg.SCHED_INFLIGHT.HWM (d.get Reg.SCHED_INFLIGHT.COUNT)

/-- R80: host software arms a forced fence hit, in M7 only. -/
def execSchedXinjGo (t task port : Nat) (s : State) : Host.Outcome State Fault Refusal :=
  s.run fun d => (d.advance t).whenUp fun d => d.expert port 0x38004 fun d =>
    let d : Dev := d.set Reg.SCHED_XINJ.TASK task
    if d.mode = 7 then d.setB Reg.SCHED_XINJ.GO true else d.reportWrite 8 port 0 0x38004 false

/-! ## Fences (R68 to R71, R56, R79, R80) -/

/-- Show the largest delays of a release and a fence (R60, R84). -/
def Dev.showJitter (d : Dev) (rel fence : Nat) : Dev :=
  let d : Dev := if d.get Reg.SCHED_JITTER.MAX_REL < rel then d.set Reg.SCHED_JITTER.MAX_REL rel else d
  if d.get Reg.SCHED_JITTER.MAX_FENCE < fence then d.set Reg.SCHED_JITTER.MAX_FENCE fence else d

/-- A task that ran under the previous mode has reached its fence (R56). -/
def Dev.oldTaskDone (d : Dev) (task : Nat) : Dev :=
  let l := d.sched.oldTasks.filter (· != task)
  let d : Dev := { d with sched := { d.sched with oldTasks := l } }
  if l.isEmpty then d.setB Reg.SYS_MODE.CHANGING false else d

/-- An alarm of a customer's task (R510): its word, and E24 to E27. -/
def Dev.alarm (d : Dev) (k : Nat) (w : Word) : Dev :=
  if k < 4 then (d.set (Reg.SYS_ALARM.WORD k) w.toNat).raise (24 + k) [0x40 + 4 * k] else d

/-- The channels whose outputs a complete task owes in its slot: those that the mode needs and whose inputs exist at the release (R62). `v`
is the device as the task sees it. -/
def Dev.owes (d v : Dev) (row : TaskRow) : List Nat :=
  let whole (b : Bool) : List Nat := if b then [0] else []
  match row.role with
  | .excursion => whole (v.judgesDriveOff && (v.output 0x10 0).isSome)
  | .arrestAllocation => whole v.alloc.detected.isSome
  | .arrestBuild => whole (v.alloc.detected.isSome && v.sendsFrames)
  | .biquads => (List.range 96).filter fun c => v.bqDue v.sched.st c && (match v.image.loop.bq[c]? with
    | some b => (d.bq c).last.isSome || (d.fetch v .biquads 81 .none 0 b.angle b.bind).1.isSome
    | none => false)
  | .analogue => whole (v.flag Reg.SYS_MODE.STARTED)
  | .heartbeat => whole v.beats
  | .fusion => whole (!v.fus.hist.isEmpty || d.entry.fresh.any fun e => e.2.sealedAt < v.sched.st)
  | .pid => (List.range 16).filter fun c => v.pidSlot c row && (if c < 3 then (v.output 0x10 0).isSome else match v.image.loop.pid[c]? with
    | some im => (im.meas.any fun b => (d.fetch v .pid 80 .none 0 im.angle b).1.isSome) && (im.rm.isSome || im.ref.all fun b =>
        (d.fetch v .pid 80 .none 1 im.angle b).1.isSome)
    | none => false)
  | .fallback => whole (v.allocates && v.hasDemand)
  | .select => whole (v.allocates && (d.selection (d.qpRelease.bind fun o => o.pkt) (v.output 0x21 1)).isSome)
  | .commandBuild => whole v.sendsFrames
  | .jointBuild => whole v.sendsJoints
  | .mirror => whole (v.get Reg.RED_STATUS.ROLE = 3)
  | .margins => whole (match (d.solverKind 1).bind fun t => (d.slot t).out with
    | some r => r.pkt.isSome
    | none => false)
  | .scan => whole (v.paramB P.CHK.BG_ENABLE)
  | .customer => [0]
  | .qp | .plan => []

/-- Seal one output of a customer's task (R121, R124) from its inputs, numbered from 0 and verified before use (R123), and hand it on; where
the datapaths disagree nothing is sealed, and the output's substitute applies (R125, R126). -/
def Dev.customerOut (d v : Dev) (row : TaskRow) (o : CustomerOut) : Dev :=
  let base := periodStart v.sched.st row.period
  let op := (row.ops.find? fun x => x.kind == o.kind && x.index == o.index).map fun x => (x.id, base + x.retireBy)
  let id := (op.map fun x => x.1).getD 0
  let (ins, d) := d.takeInputs v .customer row.resource o.fault (((List.range o.ins.length).zip o.ins).map fun e => (e.1, e.2.1, e.2.2))
  match o.fault with
  | .datapath _ d0 d1 =>
    let (q, _) := d.seal row.resource o.kind id 0 0 o.tov o.payload
    (d.chainBreak 1 row.resource (d.taskNumber .customer) q d0 d1).substituteFor row.subst fun k i => k == o.kind && i == o.index
  | _ =>
    let d : Dev := match op with
      | some x => d.opStart x.1 x.2
      | none => d
    let (p, d) := d.transform row.resource o.kind id 0 o.tov (ins.filterMap fun p => p) o.payload
    d.putOutput o.kind o.index p

/-- What a customer's task did in its slot (R121, R436). -/
def Dev.customerDone (d v : Dev) (task : Nat) (row : TaskRow) (e : CustomerEnd) : Dev :=
  let d : Dev := { d with sched := { d.sched with task := some task } }
  let d : Dev := e.outs.foldl (fun d o => d.customerOut v row o) d
  let d : Dev := { d with sched := { d.sched with task := none } }
  e.recs.foldl (fun d r => d.record r.1 r.2 none) d

/-- A customer's task lacks a free operation id for its outputs (R74). -/
def Dev.customerWaits (d : Dev) (row : TaskRow) : Bool :=
  row.role == .customer && (row.ops.map fun o => o.chan).any fun c => d.mustWait row c

/-- The ns of its slot that an anytime task or a customer's task has used at its fence, where it ran (R85). -/
def Dev.usedAtFence (d : Dev) (task : Nat) (row : TaskRow) (s : Shot) (done : Option CustomerEnd) : Option Nat :=
  if row.anytime then ((d.solverOf task).bind fun k => (d.slot k).run).map fun r => match r.latest with
    | some c => if c.converged then c.at_ - s.rel else row.slot
    | none => row.slot
  else if row.role == .customer then done.map fun e => e.used
  else none

/-- A task reaches its fence (R68 to R71, R80): what it owes and has not sealed is discarded, its ids retire, and its substitute applies; an
armed injection makes it one hit of kind 4, and a wait for an operation id one of kind 1 (R74). `inFact` tells that the fence falls inside a
factorisation, `waited` that a customer's task waits for an operation id, `done` what a customer's task that finished has done. -/
def Dev.taskFence (d : Dev) (task : Nat) (row : TaskRow) (s : Shot) (inFact waited : Bool) (done : Option CustomerEnd) : Dev :=
  let v := d.view s
  let forced := d.armed task
  let waited := waited || s.waited || d.customerWaits row
  let done := if forced || d.customerWaits row then none else done
  let d : Dev := match d.usedAtFence task row s done with
    | some n => d.observe task row n
    | none => d
  let d : Dev := match row.role, done with
    | .customer, some e => d.customerDone v task row e
    | _, _ => d
  let d : Dev := if row.anytime then (match d.solverOf task with
      | some k => d.solverFence v k inFact
      | none => d) else d
  let owed := if row.anytime || done.isSome then [] else (d.owes v row).filter fun c => row.serves c && !s.done.contains c
  let d : Dev := { d with shots := d.shots.filter fun e => !(e.1 == task && e.2.rel == s.rel) }
  let ids := (row.ops.filter fun o => owed.contains o.chan).map fun o => o.id
  let d : Dev := d.opRetire (row.retires ++ ids)
  let d : Dev := if forced then d.substitute row ((row.ops.map fun o => o.chan) ++ List.range 96)
    else if owed.isEmpty then d else (d.substitute row owed).observe task row row.slot
  let d : Dev :=
    if forced then (d.setB Reg.SCHED_XINJ.GO false).fenceHit task 4 row.resource d.ts32
    else if row.anytime && inFact then d.fenceHit task 2 row.resource d.ts32
    else if row.anytime && s.waited then d.fenceHit task 1 row.resource d.ts32
    else if owed.isEmpty then d
    else d.fenceHit task (bit waited) row.resource d.ts32
  ((d.oldTaskDone task).finishCut).resample

/-- Task `n` in a slot whose fence has come. -/
def Dev.fencedShot (d : Dev) (n : Nat) (row : TaskRow) : Option Shot :=
  (d.shots.find? fun e => e.1 == n && decide (e.2.rel + row.slot ≤ d.sched.st)).map fun e => e.2

/-- R68: a task reaches its fence; `rel` and `fence` are the delays of its release and fence in CLK_FAB cycles, `alarms` what a customer's
task has raised in its slot. -/
def execTaskFence (t task : Nat) (inFact waited : Bool) (done : Option CustomerEnd) (rel fence : Nat) (alarms : List (Nat × Word)) (s : State) :
    Host.Outcome State Fault Refusal :=
  s.run fun d => (d.advance t).whenUp fun d =>
    match d.image.tasks[task]? with
    | none => d
    | some row =>
      match d.fencedShot task row with
      | none => d
      | some x =>
        let d : Dev := alarms.foldl (fun d e => d.alarm e.1 e.2) (d.showJitter rel fence)
        d.taskFence task row x inFact waited done

/-- The task that holds an operation id, and its resource (R25, R73); 0 and 0 where the image names none. -/
def Dev.holderOf (d : Dev) (op : Nat) : Nat × Nat :=
  match d.image.numbered.find? fun e => e.2.ops.any (fun o => o.id == op) with
  | some e => (e.1, e.2.resource)
  | none => (0, 0)

/-- Discard what is held under an operation id (R73): sealed outputs, sensor data of an id of the sensor entry, the buffers and results of
the solver, and what the allocation keeps of plans and joints. -/
def Dev.discardOp (d : Dev) (op : Nat) : Dev :=
  let mine (p : Packet) : Bool := p.tag.opId.toNat = op
  let entry := (d.image.entry.ops.flatMap fun o => o.1).contains op
  let plan (o : Option PlanSet) : Option PlanSet := o.filter fun p => !(mine p.bounds || mine p.arrests || mine p.margins)
  let kept (c : Option Checkpoint) : Option Checkpoint := c.filter fun c => !mine c.pkt
  { d with
    sched := { d.sched with
      held := d.sched.held.filter (fun e => !mine e.2)
      prior := d.sched.prior.filter (fun e => !mine e.2) }
    entry := if entry then { d.entry with
        slots := d.entry.slots.map (fun o => o.filter fun p => !mine p), fresh := d.entry.fresh.filter (fun e => !mine e.2) }
      else d.entry
    solv := { d.solv with slots := d.solv.slots.map fun u => { u with
      run := u.run.map (fun r => { r with latest := kept r.latest, feasible := kept r.feasible })
      out := u.out.map (fun o => { o with pkt := o.pkt.filter fun p => !mine p }) } }
    alloc := { d.alloc with
      sealed := plan d.alloc.sealed, plan := plan d.alloc.plan, before := plan d.alloc.before
      jointData := if entry then d.alloc.jointData.map (fun l => l.filter fun p => !mine p) else d.alloc.jointData } }

/-- An operation id is force-retired at its retire-by time (R73): the data held under it are discarded. -/
def Dev.forceRetire (d : Dev) (op : Nat) : Dev :=
  if !d.sched.inflight.any (fun e => e.1 = op && e.2 ≤ d.sched.st) then d
  else
    let d : Dev := (((d.discardOp op).opRetire [op]).inc Reg.SCHED_FORCERET_CNT.COUNT).setB Reg.SCHED_STATUS.FORCE_RET true
    d.fenceHit (d.holderOf op).1 1 (d.holderOf op).2 d.ts32 |>.resample

/-- R73: an operation id has not retired by its time. -/
def execOperationIdForceRetire (t op : Nat) (s : State) : Host.Outcome State Fault Refusal :=
  s.run fun d => (d.advance t).whenUp fun d => d.forceRetire op

/-! ## Minor frames (R22) -/

/-- What a minor-frame boundary brings: analogue samples and pulse data, device time, discrete lines, safety outputs. -/
def Dev.minorFrame (d : Dev) (ins : List AfeIn) (levels : Nat) (back : List (Bool × Bool)) (stall : Bool) : Dev :=
  let d : Dev := if stall then d.uncover 1 else d
  if d.mode = 0 then d.timeMinor
  else (((((d.afeMinor ins).pulseMinor).timeMinor).gpioMinor levels).safeMinor back).dropAged

/-- R22: schedule time reaches a whole millisecond. `ins` are the values of the channels' modulators in the frame that ends, `levels` the
discrete input lines, `back` the readbacks of the safety outputs; `stall` tells that a memory retry stalled in that frame (R65). -/
def execMinorFrameBoundary (t : Nat) (ins : List AfeIn) (levels : Nat) (back : List (Bool × Bool)) (stall : Bool) (s : State) :
    Host.Outcome State Fault Refusal :=
  s.run fun d => (d.advance t).whenUp fun d => if d.sched.st % 1000000 = 0 then (d.minorFrame ins levels back stall).resample else d

/-! ## Major frames (R22) -/

/-- How far the origin is about to move, for what moves with it (R221, R325). -/
def Dev.originShift (d : Dev) : Vec :=
  match d.fus.origin with
  | some o => nedFrom (F64.mk ((d.word 0xA0044) ++ (d.word 0xA0040)), F64.mk ((d.word 0xA004C) ++ (d.word 0xA0048)),
      (F32.mk (d.word 0xA0050)).to64) o.1 o.2.1 o.2.2
  | none => Vec.zeros 3

/-- What host software asked of fusion takes effect, the path moving with the origin and a filter reset ending warm starts. -/
def Dev.fusionAtMajor (d : Dev) : Dev :=
  let d : Dev := if d.fus.originDue then d.movePath d.originShift else d
  let d : Dev := if d.fus.resetDue then d.discardWarm else d
  d.fusMajor

/-- The periodic state snapshot (R29, R436), at the major-frame boundaries that the image's interval divides: own-vessel state, allocation
summary, margins. -/
def Dev.stateSnapshot (d : Dev) : Dev :=
  if !d.running || d.image.snapshot = 0 || d.sched.st % d.image.snapshot != 0 then d
  else
    let own := d.output 0x10 0
    let words := (match own with
      | some p => p.payload
      | none => []) ++ (List.range 12).map (fun i => d.word (0xB0000 + 4 * i))
      ++ (List.range 24).flatMap fun f => [d.word (0xB0400 + 0x10 * f), d.word (0xB0408 + 0x10 * f)]
    d.record 0x0A (recordBody 0xFF 0x12 0 words) (own.map fun p => p.tovNs)

/-- Whether a reference is qualified: 0 TCXO, 1 REFCLK_IN. -/
def Dev.refOk (d : Dev) (r : Nat) : Bool := d.bitAt ⟨0x10000, 3, 2⟩ r

/-- The PLL goes over to reference `r` (R465): E12, and the holdover model and T4 follow (R185, R202). The fractional-N word takes the
measured offset between the two, REFCLK_IN minus TCXO, so that the rate of schedule time stays (R466). -/
def Dev.refSwitch (d : Dev) (r : Nat) : Dev :=
  let ofs := d.getInt Reg.CLK_REF.EXT_OFS
  let d : Dev := { d with clk := { d.clk with carry := d.clk.carry + (if r = 1 then -ofs else ofs) } }
  let d : Dev := ((d.set Reg.CLK_STATUS.REF r).inc Reg.CLK_REF.SWITCHES).setB Reg.CLK_STATUS.SWITCH_STICKY true
  (d.raise 12 [0x10000, 0x10008]).holdoverReference.blockT4

/-- The runtime writes of parameters take effect (R108); the selected reference follows a change of CLK.REF_PRIO to a qualified one (R465).
-/
def Dev.paramMajor (d : Dev) : Dev :=
  let old := d.param P.CLK.REF_PRIO
  let d : Dev := d.paramApply
  let r := d.param P.CLK.REF_PRIO
  if r != old && d.refOk r && d.get Reg.CLK_STATUS.REF != r then d.refSwitch r else d

/-- What a major-frame boundary brings, in the model's order: parameters and block resets, what host software has asked of each block,
the mode, redundancy. -/
def Dev.majorFrame (d : Dev) (strap : Nat) : Dev :=
  if d.mode = 0 then d.paramApply
  else
    let d : Dev := d.paramMajor.blockMajor
    let d : Dev := (d.afeMajor.readStraps strap).loopMajor
    let d : Dev := d.fusionAtMajor.leverMajor
    let d : Dev := d.judgeCouple.modeMajor
    if d.mode = 0 then d else d.redMajor.stateSnapshot

/-- R22: schedule time reaches a whole multiple of 10 ms; `strap` is the identity pattern, `sofs` the starts of frames up to now. -/
def execMajorFrameBoundary (t strap : Nat) (sofs : List TxSof) (s : State) : Host.Outcome State Fault Refusal :=
  s.run fun d => (d.advance t).whenUp fun d =>
    let d : Dev := d.noteSofs sofs
    if d.sched.st % 10000000 = 0 then (d.majorFrame strap).resample else d

/-! ## Hyperframes (R22) -/

/-- The conditions of R65 at a hyperframe boundary (R67): those bound to a slot or a hyperframe hold again, and COVERED returns. -/
def Dev.coverHyper (d : Dev) : Dev :=
  let d : Dev := (d.recoverCondition 1).recoverCondition 3
  if d.running && d.get Reg.SCHED_STATUS.UNCOVER = 0 then d.setB Reg.SCHED_STATUS.COVERED true else d

/-- The counts of a hyperframe are judged for the canary and start anew (R71, R126, R394). -/
def Dev.countsHyper (d : Dev) : Dev :=
  { d with sched := { d.sched with
      hitsFault := d.sched.hitsFault && d.param P.SCHED.FENCE_PERSIST ≤ d.sched.hyperHits
      breaksFault := d.sched.breaksFault && d.param P.CHK.BREAK_PERSIST ≤ d.sched.hyperBreaks
      hyperHits := 0
      hyperBreaks := 0 } }.redHyper

/-- Corrected memory errors of the hyperframe that ends (R510): counted, E20 and E22 at most once each. -/
def Dev.correctedHyper (d : Dev) (ddr sram : Nat) : Dev :=
  let d : Dev := (d.incBy Reg.SYS_MEMERR.CORR_DDR ddr).incBy Reg.SYS_MEMERR.CORR_SRAM sram
  let d : Dev := if ddr = 0 then d else d.raise 20 [0x30]
  if sram = 0 then d else d.raise 22 [0x30]

/-- The clock forcing condition ends when the PLL is locked and COVERED is 1 again (R394). -/
def Dev.clocksHyper (d : Dev) : Dev :=
  if d.red.clockFault && d.flag Reg.CLK_STATUS.LOCKED && d.flag Reg.SCHED_STATUS.COVERED then
    { d with red := { d.red with clockFault := false } }.judgeVerdict
  else d

/-- What a hyperframe boundary brings. -/
def Dev.hyperFrame (d : Dev) (ddr sram : Nat) : Dev :=
  let d : Dev := ((d.correctedHyper ddr sram).coverHyper).countsHyper.clocksHyper
  if d.mode = 0 then d.steerHyper
  else
    let d : Dev := if d.running then d.planIntoForce.steerHyper else d.steerHyper
    ({ d with red := { d.red with drillMs := d.red.drillMs + 100 } }).judgeDrillAge

/-- R22: schedule time reaches a whole multiple of 100 ms; `ddr` and `sram` are the memory errors corrected since the last boundary. -/
def execHyperframeBoundary (t ddr sram : Nat) (s : State) : Host.Outcome State Fault Refusal :=
  s.run fun d => (d.advance t).whenUp fun d => if d.sched.st % 100000000 = 0 then (d.hyperFrame ddr sram).resample else d

end Sys2Proof.Machine
end

