-- ==== Sys2Proof/Machine/Power.lean ====
section
/-! DEFINITION. Clocks, power and reset (chapter 17): the root reference and the PLL, the start that follows every reset and wake, the wakes
out of M0, and the expert tests of a crossing and of a reference switch (R464 to R480), with the receiver in M0 (R186). -/
namespace Sys2Proof.Machine
open Sys2Proof

/-! ## The root reference (R464 to R467) -/

/-- Whether a reference is present. -/
def Dev.refPresent (d : Dev) (r : Nat) : Bool := if r = 0 then d.clk.tcxoPresent else d.clk.extPresent

/-- A reference appears or goes; what goes is disqualified. -/
def Dev.refHere (d : Dev) (r : Nat) (b : Bool) : Dev :=
  let d : Dev := if b then d else { d with clk := { d.clk with goneAt := setAt d.clk.goneAt r (some d.sched.st) } }
  let d : Dev := if r = 0 then { d with clk := { d.clk with tcxoPresent := b } } else { d with clk := { d.clk with extPresent := b } }
  if b then d else d.setBitAt ⟨0x10000, 3, 2⟩ r false

/-- The PLL is out of lock (R467): E11, condition 1 of R65, the canary's forcing condition. -/
def Dev.pllUnlock (d : Dev) : Dev :=
  if !d.flag Reg.CLK_STATUS.LOCKED then d
  else
    let d : Dev := { d with clk := { d.clk with unlockAt := d.sched.st } }
    let d : Dev := ((d.setB Reg.CLK_STATUS.LOCKED false).setB Reg.CLK_STATUS.HOLD true).setB Reg.CLK_STATUS.UNLOCK_STICKY true
    let d : Dev := (d.raise 11 [0x10000, 0x10008]).uncover 0
    { d with red := { d.red with clockFault := true } }.judgeVerdict

/-- A reference is lost (R464, R465, R467). -/
def Dev.refLost (d : Dev) (r : Nat) : Dev :=
  let d : Dev := d.refHere r false
  if d.get Reg.CLK_STATUS.REF != r then d
  else if d.refPresent (1 - r) then d.refSwitch (1 - r)
  else d.pllUnlock

/-- R465: a root reference shows no edge for 500 ns. -/
def execRefLoss (t ref : Nat) (s : State) : Host.Outcome State Fault Refusal :=
  s.run fun d => (d.advance t).whenUp fun d => d.refLost (ref % 2)

/-- A reference can have been present for CLK.REF_QUAL (R464): since it was last lost, or since the start began. -/
def Dev.refMayQualify (d : Dev) (r : Nat) : Bool :=
  let q := d.paramNs P.CLK.REF_QUAL
  match d.clk.goneAt.getD r none with
  | some a => a + q ≤ d.sched.st
  | none => q ≤ d.sched.st + 1000000 * d.clk.lead

/-- A reference has qualified (R464, R465): the preferred one is selected, after a loss only with CLK.REF_REVERT; so is the only one
present. -/
def Dev.refQualified (d : Dev) (r : Nat) (ofs : Int) : Dev :=
  let back : Bool := (d.clk.goneAt.getD r none).isSome
  let d : Dev := (d.refHere r true).setBitAt ⟨0x10000, 3, 2⟩ r true
  let d : Dev := d.setInt Reg.CLK_REF.EXT_OFS ofs
  let sel := d.get Reg.CLK_STATUS.REF
  if sel = r then d
  else if !d.refPresent sel || (d.param P.CLK.REF_PRIO = r && (!back || d.paramB P.CLK.REF_REVERT)) then d.refSwitch r
  else d

/-- R464: a reference has been present and within tolerance for CLK.REF_QUAL; `ofs` is the measured offset of REFCLK_IN in 0.01 ppm. -/
def execRefQualified (t ref : Nat) (ofs : Int) (s : State) : Host.Outcome State Fault Refusal :=
  s.run fun d => (d.advance t).whenUp fun d => if d.refMayQualify (ref % 2) then d.refQualified (ref % 2) ofs else d

/-- Two qualified references differ by more than CLK.REF_TOL: the one not selected is disqualified (R464). -/
def Dev.refDisqualify (d : Dev) (ofs : Int) : Dev :=
  let d : Dev := d.setInt Reg.CLK_REF.EXT_OFS ofs
  let far := (d.paramF P.CLK.REF_TOL).lt ((F64.ofRatio ofs 100).abs)
  if d.refOk 0 && d.refOk 1 && far then d.setBitAt ⟨0x10000, 3, 2⟩ (1 - d.get Reg.CLK_STATUS.REF) false else d

/-- R464: the two references come to differ. -/
def execRefDisqualify (t : Nat) (ofs : Int) (s : State) : Host.Outcome State Fault Refusal :=
  s.run fun d => (d.advance t).whenUp fun d => d.refDisqualify ofs

/-- R467: the phase error has exceeded 2 ns for 10 reference cycles. -/
def execPllUnlock (t : Nat) (s : State) : Host.Outcome State Fault Refusal :=
  s.run fun d => (d.advance t).whenUp Dev.pllUnlock

/-- An attempt to relock (R467), every 10 ms: it succeeds only on a reference that is present. -/
def Dev.pllRelock (d : Dev) (ok : Bool) : Dev :=
  if d.flag Reg.CLK_STATUS.LOCKED || (d.sched.st - d.clk.unlockAt) % 10000000 != 0 || d.sched.st = d.clk.unlockAt || !ok || !d.refPresent (d.get Reg.CLK_STATUS.REF) then d
  else ((d.setB Reg.CLK_STATUS.LOCKED true).setB Reg.CLK_STATUS.HOLD false).recoverCondition 0

/-- R467: the PLL attempts to relock, 10 ms after it unlocked or last attempted. -/
def execPllRelockAttempt (t : Nat) (ok : Bool) (s : State) : Host.Outcome State Fault Refusal :=
  s.run fun d => (d.advance t).whenUp fun d => d.pllRelock ok

/-! ## The expert unlock falls (R506) -/

/-- UNLOCKED clears, with its record: 0 by a write, 1 by idle time, 2 with the secrets, 3 by a reset. -/
def Dev.lockExpert (d : Dev) (why : Nat) : Dev :=
  if d.flag Reg.SYS_EXPERT.UNLOCKED then (d.setB Reg.SYS_EXPERT.UNLOCKED false).note 0x01 0x00 (0x100 + why) [d.word 0x1C] else d

/-! ## What a reset leaves (R471) -/

/-- The highest SEQ on the media, the largest OPH and the largest PCC (R437 to R439). -/
def Dev.mediaMax (d : Dev) : Word × Nat × Nat :=
  let recs := d.recorder.nor.flatMap (fun s => s.recs) ++ d.recorder.nand.flatMap (fun b => b.recs)
  let seq := recs.foldl (fun w r => if laterThan r.seq w then r.seq else w) ((recs.map (fun r => r.seq)).headD 0)
  (seq, (recs.map (fun r => r.oph) ++ d.recorder.nor.map (fun s => s.oph)).foldl max 0,
    (recs.map (fun r => r.pcc) ++ d.recorder.nor.map (fun s => s.pcc)).foldl max 0)

/-- The device with its clock moved on to `seconds` of the always-on count after the CORE domain stopped (R186, R198, R438).
DESIGN CHOICE (log 183). -/
def Dev.caughtUp (d : Dev) (seconds : Nat) : Dev :=
  { d with sched := { d.sched with st := max d.sched.st (d.clk.stopAt.getD d.sched.st + 1000000000 * seconds) } }

/-- VIN leaves its range, or returns to it: the operating hours stand while it is out (R438). -/
def Dev.setVin (d : Dev) (here : Bool) : Dev :=
  if d.clk.vinHere = here then d
  else { d with recorder := { d.recorder with ophBase := d.oph, ophFrom := d.sched.st }, clk := { d.clk with vinHere := here } }

/-- The device with everything gone that a reset clears: `ram` tells that staging stays in self-refresh, `aon` that the always-on domain
kept its contents, `lead` the ms until schedule time 0. -/
def Dev.reborn (d : Dev) (ram aon : Bool) (lead : Nat) : Dev :=
  let m := d.mediaMax
  let n := Dev.reset
  let cut := d.cutCommit
  { n with
    params := { n.params with factory := none, copyA := cut.params.copyA, copyB := cut.params.copyB }
    img := { d.img with
      racking := none
      rackCut := d.img.racking.isSome || d.img.rackCut
      submitted := none
      running := none
      kgSince := none }
    recorder := { n.recorder with
      lastSeq := if aon then d.recorder.lastSeq else m.1
      epoch := d.recorder.epoch
      staging := if ram then d.recorder.staging else []
      dropped := if ram then d.recorder.dropped else none
      nor := d.recorder.nor
      nand := d.recorder.nand
      key := d.recorder.key
      nonces := d.recorder.nonces
      ophBase := (if aon then d.oph else m.2.1 + 1) + lead }
    nand := d.dropMoves.nand
    red := { n.red with drillMs := d.red.drillMs }
    bist := { d.bist with
      level := if aon then d.bist.level else 0, levelEvent := aon && d.bist.levelEvent, blockReset := none, cycleFail := false }
    clk := { n.clk with lead := lead } }

/-- First and last SEQ of the records that a reset loses (R441, R445): those of the open batch, those staged unless staging stays, and then
those that full staging had dropped; none lost without trace when the highest SEQ is known from the medium only (R437). -/
def Dev.lostBy (d : Dev) (ram aon : Bool) : Option (Word × Word) :=
  if !aon then none
  else
    let l := (d.recorder.openBatch ++ (if ram then [] else d.recorder.staging)).map (fun r => r.seq)
    let tail := if ram then none else d.recorder.dropped
    match l, tail with
    | [], none => none
    | [], some p => some p
    | a :: l, none => some (a, l.getLastD a)
    | a :: _, some p => some (a, p.2)

/-! ## The start (R472, R473) -/

/-- The kind of the next start: 0 quick, 1 warm, 2 full (R471, R472). -/
def Dev.startKind (d : Dev) (cause : Nat) (coreKept : Bool) : Nat :=
  if d.flag Reg.CLK_CTRL.FULL_NEXT then 2
  else if cause = 0 || cause = 6 then (if d.clk.clean then 0 else 2)
  else if cause = 3 || cause = 4 || (cause = 5 && coreKept) then 1
  else 2

/-- The words that the image or slot F gives to registers, in their fields of that source alone (R12, R107); a NaN or an infinity is never
written (R6). -/
def Dev.loadWords (d : Dev) (src : ResetSource) (l : List (Nat × Word)) : Dev :=
  l.foldl (fun d e => match regRow e.1 with
    | some r => r.fields.foldl (fun d f => if f.source = src && !f.notFinite e.2 then d.set ⟨e.1, f.lo, f.width⟩ (getBits e.2 f.lo f.width) else d) d
    | none => d) d

/-- The task rows of the certificate in their registers, with the number of path rows (R64, R84). -/
def Dev.loadTasks (d : Dev) : Dev :=
  let rows := d.image.tasks.take 1023
  let d : Dev := (d.set Reg.SCHED_CERT_SIZE.TASKS rows.length).set Reg.SCHED_CERT_SIZE.PATHS d.image.paths.length
  ((List.range rows.length).zip rows).foldl (fun d (n, r) =>
    let d : Dev := ((d.set (Reg.SCHED_TASK.TASK_CFG.RESOURCE n) r.resource).set (Reg.SCHED_TASK.TASK_CFG.PERIOD n) r.period).setB
      (Reg.SCHED_TASK.TASK_CFG.ANYTIME n) r.anytime
    ((d.set (Reg.SCHED_TASK.TASK_CFG.SUBST n) r.subst).set (Reg.SCHED_TASK.TASK_RELEASE.OFFSET n) r.release).set
      (Reg.SCHED_TASK.TASK_FENCE.OFFSET n) r.fence) d

/-- The number of parameters that exist (R504). -/
def paramCount : Nat := paramRows.foldl (fun n r => n + r.count) 0

/-- How many of them the loaded image's table lacks (R111). -/
def Dev.absentCount (d : Dev) : Nat := (d.image.params.filter fun e => e.2.isNone && (Sys2Proof.Machine.paramRow e.1).isSome).length

/-- The chosen set's image is loaded and the parameters are resolved (steps 6 to 8 of R473; R66, R107, R111). -/
def Dev.loadSet (d : Dev) (v : VintageSet) : Dev :=
  let d : Dev := { d with
    image := Config.imageOf v
    params := { d.params with factory := some ((Config.factoryOf ((d.slotSet 0).getD default)).filter fun e => d.finiteParam e.1 e.2), layout := Config.layoutOf v } }
  let d : Dev := ((d.loadWords .i (Config.imageWords v)).loadTasks).setB Reg.SCHED_STATUS.CERT_OK true
  let d : Dev := (d.set Reg.SCHED_CERT_ID.CRC (crc32c v.cert).toNat).set Reg.HOST_INFO.NPARAM (paramCount - d.absentCount)
  let d : Dev := d.overlayStart true
  (d.loadAlloc.loadLoop.loadOut.linkPeers.showMedia.countRefs).setB Reg.GNSS_STATUS.RUNNING true

/-- The memory failures that a start's own March tests can find (R473): none at a quick start, those of an SRAM at a warm one. -/
def marchFinds (kind : Nat) (mem : List MemFail) : List MemFail :=
  if kind = 0 then [] else if kind = 1 then mem.filter fun m => 2 ≤ m.mem else mem

/-- What a record of the NOR ring that was cut short in the second phase of its commit left (R444): the ring goes on at the next word. -/
def Dev.skipTorn (d : Dev) (bs : List Byte) : Dev :=
  let nor := d.recorder.nor
  if bs.isEmpty || nor.isEmpty then d
  else
    let bs := bs ++ List.replicate ((4 - bs.length % 4) % 4) 255
    { d with recorder := { d.recorder with
      nor := modAt nor (nor.length - 1) fun s => { s with torn := s.torn ++ [(s.recs.length, bs)] } } }

/-- The gap that a start reports (R441, R444): the records lost, or the one cut short, whose SEQ its bytes still give. -/
def gapOf (lost : Option (Word × Word)) (torn : List Byte) : Option (Word × Word) :=
  match lost with
  | some g => some g
  | none => if torn.isEmpty then none else some (wordAt torn 4, wordAt torn 4)

/-- Repairs that a start applies (R487): those the last lamp check assigned, and those its own March tests found. -/
def Dev.repairStart (d : Dev) (mem : List MemFail) : Dev :=
  let now := d.bist.repairDue || mem.any (fun m => m.repair == 1)
  let bad := mem.any (fun m => m.repair == 2) || (match d.lampHeld with
    | some r => r.unrepairable
    | none => false)
  let d : Dev := { (d.setB Reg.BIST_STATUS.UNREPAIRABLE bad) with bist := { d.bist with repairDue := false } }
  if now then ((d.setB Reg.BIST_STATUS.REPAIRED true).setB Reg.BIST_STATUS.REPAIR_STICKY true).raise 16 [0x140000] else d

/-- The results of the last lamp check come into the BIST registers (R489, R490). -/
def Dev.resultsStart (d : Dev) : Dev :=
  let d : Dev := (List.range 8).foldl (fun d n =>
    if d.bist.aoutFail.getLsbD n then d.setB (Reg.OUT_AO.AO_STAT.READBACK_ERR n) true else d) d
  match d.lampHeld with
  | none => d
  | some r =>
    let d : Dev := ((d.setB Reg.BIST_STATUS.RESULTS_VALID true).setB Reg.BIST_STATUS.PASSED r.passed).set Reg.BIST_LAST.DURATION
      (min 8191 r.duration)
    let d : Dev := (d.set Reg.BIST_LAST.TRIGGER r.trigger).set Reg.BIST_LAST.MEMFAIL (min 255 r.failures)
    let d : Dev := ((List.range 32).zip r.mem).foldl (fun d (n, m) =>
      let d : Dev := ((d.set (Reg.BIST_MEMFAIL.MF.MEM n) m.mem).set (Reg.BIST_MEMFAIL.MF.BIT n) m.bit).set (Reg.BIST_MEMFAIL.MF.STEP n) m.step
      (d.set (Reg.BIST_MEMFAIL.MF.REPAIR n) m.repair).set (Reg.BIST_MEMFAIL.ADDR.ADDR n) m.addr.toNat) d
    let d : Dev := ((List.range 27).zip r.an).foldl (fun d (k, a) =>
      let d : Dev := (d.set (Reg.BIST_AN.AN.RESULT k) a.result).setF (Reg.BIST_AN.MEASURED.MEASURED k) ⟨a.measured⟩
      (d.setF (Reg.BIST_AN.LIMIT.LIMIT k) ⟨a.limit⟩).set (Reg.BIST_AN.MARGIN.MARGIN k) a.margin) d
    let warn := r.an.any fun a => a.result != 0 && (F64.ofRatio (BitVec.ofNat 16 a.margin).toInt 10).lt (d.paramF P.BIST.MARGIN_WARN)
    let d : Dev := d.setB Reg.BIST_STATUS.MARGIN_WARN warn
    (d.setB Reg.BIST_STATUS.RESULTS_STICKY true).raise 15 [0x140000, 0x140004]

/-- The NAND parts fitted (R455, R462): found once, then known with their blocks. -/
def Dev.findNand (d : Dev) (x : Option (Nat × Nat × Nat × Nat)) : Dev :=
  match x with
  | some (ce, page, ppb, n) =>
    if d.nand.blocks.isEmpty then
      { d with nand := { d.nand with ce := ce, page := page, ppb := ppb, blocks := List.replicate n default } }
    else d
  | none => d

/-- The levels of the safety inputs as the monitor die finds them (R424, R473). -/
def Dev.findInputs (d : Dev) (levels : Nat) : Dev :=
  (List.range 8).foldl (fun d n => (d.inLevel n false (levels.testBit (2 * n))).inLevel n true (levels.testBit (2 * n + 1))) d

/-- What the receiver keeps over a wake out of M0 (R186): ephemerides, their ages going on, almanac, predictions and the last burst's
position; a renewal goes on as ordinary tracking. A spoofing state ends with the start (R184). `d` is the device before, its clock moved on
to the start. -/
def Dev.gnssWake (d : Dev) (old : GnssState) : GnssState :=
  let d : Dev := d.dropTainted
  let passed : Int := d.sched.st
  { old with
    ephemerides := d.gnss.ephemerides.map fun e => { e with age0 := e.age0 - passed }
    almanac := d.gnss.almanac, almanacTainted := d.gnss.almanacTainted, predicted := d.gnss.predicted
    position := d.gnss.coarse.or d.gnss.position }

/-- A start for a cause (R471 to R473). Staging is kept as R471 says of the cause, of whatever kind the start is (R441); a lamp check that
had begun has overwritten the LPDDR4X (R484, R485). Up to the point from which the schedule can start: what the reset leaves, the
sequencer's registers, identity, repairs, what became of the recorder, the choice of the set, DT, the image with its parameters, and the
results. -/
def Dev.start (d : Dev) (cause dom : Nat) (coreKept : Bool) (i : StartIn) : Dev :=
  let kind := d.startKind cause coreKept
  let aon := cause != 1
  let lampRan : Bool := d.clk.shutdown.any fun x => x.2 + 500000000 ≤ d.sched.st
  let ram : Bool := (cause = 3 || cause = 4 || (cause = 5 && coreKept)) && !lampRan
  let clean := d.clk.clean && aon
  let now := d.caughtUp i.dt
  let lost := gapOf (d.lostBy ram aon) i.torn
  let kept := if aon then now.keptDt else none
  let frozen := d.flag Reg.REC_STATUS.FROZEN && ram
  let wasOpen := d.flag Reg.SYS_EXPERT.UNLOCKED
  let pcc := min 0xFFFFFF ((if aon then d.get Reg.REC_PCC.PCC else d.mediaMax.2.2) + bit (cause = 0 || d.clk.vinLost))
  let wakes := if cause = 6 then d.clk.wakes.toNat ||| (i.wakes &&& d.get Reg.CLK_WAKE_EN.EN) else 0
  let wakeCtrl := if cause = 6 then d.clk.wakeCtrl else 7
  let heard (g : GnssState) := now.gnssWake g
  let passes := d.get Reg.NAND_SCRUB.PASSES
  let cut := d.params.commit.isSome
  let drill := (d.word 0x100038, d.flag Reg.RED_STATUS.DRILL_DUE)
  let d : Dev := now.reborn ram aon i.lead
  let d : Dev := d.loadWords .f (Config.factoryWords ((d.slotSet 0).getD default))
  let d : Dev := if cut then d.set Reg.PARAM_COMMIT_RES.RESULT 3 else d
  let d : Dev := { d with clk := { d.clk with startCause := cause, wakeCtrl := wakeCtrl, extPresent := i.ext, aonDt := kept.map fun s => (s, d.sched.st) } }
  let d : Dev := if cause = 6 then { (d.setB Reg.GNSS_STATUS.BURST true) with gnss := heard d.gnss } else d
  let d : Dev := ((d.set Reg.CLK_STATUS.START_KIND kind).setB Reg.CLK_STATUS.CLEAN clean).setB Reg.CLK_STATUS.LOCKED true
  let d : Dev := (d.setB Reg.CLK_STATUS.TCXO_OK true).set Reg.CLK_DOMAIN.PGOOD 127
  let d : Dev := ((d.set Reg.CLK_RST_CAUSE.CAUSE cause).set Reg.CLK_RST_CAUSE.DOMAIN dom).set Reg.CLK_WAKE_CAUSE.CAUSE wakes
  let d : Dev := ((d.set Reg.REC_PCC.PCC pcc).set Reg.NAND_SCRUB.PASSES passes).set Reg.SYS_RECOVER.LEVEL d.bist.level
  let d : Dev := (d.setWord 0x100038 drill.1).setB Reg.RED_STATUS.DRILL_DUE drill.2
  let d : Dev := (((d.readStraps i.strap).findInputs i.safeIn).findNand i.nand).showDir.showKeys
  let d : Dev := (d.skipTorn i.torn).repairStart (marchFinds kind i.mem)
  let d : Dev := match lost with
    | some (a, b) => d.note 0x0C 0x12 5 [a, b]
    | none => d
  let d : Dev := if frozen then d.note 0x0C 0x12 3 [] else d
  let d : Dev := if wasOpen then d.note 0x01 0x00 0x103 [d.word 0x1C] else d
  let d : Dev := d.rackCutStart
  match Dev.trySets i.bad d.candidates d with
  | (none, d) => d.haltStart
  | (some (_, v), d) =>
    let d : Dev := match kept with
      | some sec => d.restoreDt sec i.dark
      | none => d
    (d.loadSet v).resultsStart

/-- Power leaves the domains that a phase has off: nothing is sent, every pair opens, the links go. -/
def Dev.down (d : Dev) (p : PowerPhase) : Dev :=
  let dt := d.keptDt
  let d : Dev := (List.range 8).foldl (fun d n => if d.flag (Reg.SAFE_OUT.OUT_STAT.ON n) then d.openPair n else d) d
  let d : Dev := (d.stopSchedule.setB Reg.HOST_STATUS.LINK_UP false).aoOff
  { d with clk := { d.clk with phase := p, stopAt := some (d.clk.stopAt.getD d.sched.st), shutdown := none, dormantAbandon := false, pwrHold := false, cycleReq := false, aonDt := dt.map fun s => (s, d.sched.st) } }

/-! ## Resets (R471) -/

/-- R471: VIN enters its range after having been out of it; a start follows unless VAON is absent or RESET_N is held low. -/
def execPowerOn (inp : StartIn) (s : State) : Host.Outcome State Fault Refusal :=
  s.run fun d => match d.clk.phase with
    | .aonLost | .resetHeld => (d.caughtUp inp.dt).setVin true
    | _ => d.start (if d.clk.aonGone then 1 else 0) 0 false inp

/-- R471: VAON falls below its range: every domain is reset, the always-on contents are gone. -/
def execVaonLoss (t : Nat) (s : State) : Host.Outcome State Fault Refusal :=
  s.run fun d =>
    let d : Dev := (d.advance t).down .aonLost
    { d with clk := { d.clk with clean := false, wakes := 0, wakeCtrl := 7, aonDt := none, aonGone := true } }

/-- R471: VAON returns to its range, and a full start follows with cause 1, as soon as VIN is in its range as well. -/
def execVaonRestore (inp : StartIn) (s : State) : Host.Outcome State Fault Refusal :=
  s.run fun d =>
    if d.clk.phase != .aonLost then d
    else if d.clk.vinHere then d.start 1 0 false inp
    else { d with clk := { d.clk with phase := .off } }

/-- R471: RESET_N has been held low for 10 µs. -/
def execResetNAssert (t : Nat) (s : State) : Host.Outcome State Fault Refusal :=
  s.run fun d => match d.clk.phase with
    | .aonLost => d
    | _ => (d.advance t).down .resetHeld

/-- R471: RESET_N rises, and the full start begins; without VIN the device stays off. -/
def execResetNRelease (inp : StartIn) (s : State) : Host.Outcome State Fault Refusal :=
  s.run fun d =>
    if d.clk.phase != .resetHeld then d
    else if !d.clk.vinHere then d.down .off
    else d.start 2 0 false inp

/-- CLK_RESET is written (R471): the key with GO resets the device; a reset asked for while a shutdown runs is ignored (R495). -/
def Dev.resetWrite (d : Dev) (w : Word) (port : Nat) (inp : StartIn) : Dev :=
  if w != 0x8000005A then d.reportWrite 8 port 0 0x10014 false
  else if d.clk.shutdown.isSome then d.reportWrite 9 port 0 0x10014 false
  else d.start 3 0 true inp

/-- R471: host software writes CLK_RESET. -/
def execDeviceReset (t : Nat) (w : Word) (port : Nat) (inp : StartIn) (s : State) : Host.Outcome State Fault Refusal :=
  s.run fun d => (d.advance t).whenUp fun d => d.resetWrite w port inp

/-- R471: the monitor die misses the firmware's heartbeat for 50 ms. -/
def execWatchdogPrewarn (t : Nat) (s : State) : Host.Outcome State Fault Refusal :=
  s.run fun d => (d.advance t).whenUp fun d => d.raise 19 [0x10000, 0x1000C]

/-- The recovery level rises to `r` at the latest (R495); E18 follows once the restart has reached STARTED. -/
def Dev.levelAtRestart (d : Dev) (r : Nat) : Dev :=
  if d.bist.level < r then { d with bist := { d.bist with level := r, levelEvent := true } } else d

/-- R471, R495: the heartbeat is missing for 100 ms. -/
def execWatchdogReset (t : Nat) (inp : StartIn) (s : State) : Host.Outcome State Fault Refusal :=
  s.run fun d => (d.advance t).whenUp fun d => (d.levelAtRestart 3).start 4 0 true inp

/-- R470: power-good of a domain is lost; `coreKept` tells whether CORE kept its own. -/
def execDomainPowerFail (t domain : Nat) (coreKept : Bool) (inp : StartIn) (s : State) : Host.Outcome State Fault Refusal :=
  s.run fun d => (d.advance t).whenUp fun d =>
    if 1 ≤ domain && domain ≤ 6 then d.start 5 domain (coreKept && domain != 2) inp else d

/-! ## Wakes (R186, R349, R475) -/

/-- A wake source fires: out of M0 a start follows; while Dormant is being entered it is latched. -/
def Dev.wake (d : Dev) (src : Nat) (ctrl : Nat) (inp : StartIn) : Dev :=
  if !d.bitAt Reg.CLK_WAKE_EN.EN src then d
  else match d.clk.phase with
    | .dormant =>
      ({ d with clk := { d.clk with wakes := d.clk.wakes ||| BitVec.ofNat 5 (2 ^ src), wakeCtrl := ctrl } }).start 6 0 false inp
    | .enteringDormant =>
      { d with clk := { d.clk with wakes := d.clk.wakes ||| BitVec.ofNat 5 (2 ^ src)
                                   wakeCtrl := if d.clk.wakeCtrl < 6 then d.clk.wakeCtrl else ctrl } }
    | _ => d

/-- Whether what controller `c` sees wakes it (R349): a dominant phase in ns, or a frame with its identifier and first four bytes. -/
def Dev.canWakes (d : Dev) (c dominant : Nat) (frame : Option (Nat × Word)) : Bool :=
  let w := d.get (Reg.CAN_CH.CH_CFG.WAKE c)
  if w = 1 then 1000 * d.param P.CAN.WAKE_FILT < dominant
  else if w = 2 then match frame with
    | some (id, data) =>
      let m : Word := BitVec.ofNat 32 (d.param (P.CAN.WAKE_MASK c))
      id = d.param (P.CAN.WAKE_ID c) && data &&& m == BitVec.ofNat 32 (d.param (P.CAN.WAKE_DATA c)) &&& m
    | none => false
  else false

/-- R349: a controller that sleeps sees a dominant phase, or a valid classic frame of at most 500 kbit/s. -/
def execCanWake (t c dominant : Nat) (frame : Option (Nat × Word)) (inp : StartIn) (s : State) : Host.Outcome State Fault Refusal :=
  s.run fun d =>
    let d : Dev := d.advance t
    if c < 6 && d.canWakes c dominant frame then d.wake 0 (if d.get (Reg.CAN_CH.CH_CFG.WAKE c) = 2 then c else 7) inp else d

/-- R475: WAKE_N has been low for 1 ms. -/
def execWakeNAssert (t : Nat) (inp : StartIn) (s : State) : Host.Outcome State Fault Refusal :=
  s.run fun d => (d.advance t).wake 2 7 inp

/-- R475: SPI_CS_N has been low for 1 ms. -/
def execSpiWake (t : Nat) (inp : StartIn) (s : State) : Host.Outcome State Fault Refusal :=
  s.run fun d => (d.advance t).wake 3 7 inp

/-- R475: CLK_WAKE_TIMER seconds have passed since M0 was reached. -/
def execWakeTimerExpiry (t : Nat) (inp : StartIn) (s : State) : Host.Outcome State Fault Refusal :=
  s.run fun d =>
    let d : Dev := d.advance t
    let s := d.get Reg.CLK_WAKE_TIMER.SECONDS
    if d.clk.phase = .dormant && s != 0 && d.clk.stopAt.getD 0 + 1000000000 * s ≤ d.sched.st then d.wake 4 7 inp else d

/-- The age of an ephemeris in ns (R186). -/
def Dev.ephAge (d : Dev) (e : Ephemeris) : Int := d.sched.st - e.age0

/-- The ephemerides need renewing (R186): the oldest of a satellite in use is too old, or fewer than 4 satellites hold a valid one. -/
def Dev.renewalDue (d : Dev) (used expired : List (Nat × Nat)) : Bool :=
  let limit := nsOfSec ((d.paramF P.GNSS.DORMANT_EPH).mul (.ofInt 60))
  let valid := (d.gnss.ephemerides.map fun e => (e.system, e.sv)).filter fun s => !expired.contains s
  d.gnss.ephemerides.any (fun e => used.contains (e.system, e.sv) && (limit : Int) < d.ephAge e)
    || valid.eraseDups.length < 4

/-- A position lies farther from the one held on entry to M0 than the anchor radius (R186), in the horizontal plane. -/
def Dev.beyondAnchor (d : Dev) (p : Quad × Quad × Quad) : Bool :=
  let radius := d.paramF P.GNSS.ANCHOR_RADIUS
  match d.gnss.anchor with
  | some a =>
    let v := nedFrom (⟨a.1⟩, ⟨a.2.1⟩, ⟨a.2.2⟩) ⟨p.1⟩ ⟨p.2.1⟩ ⟨p.2.2⟩
    F64.zero.lt radius && radius.lt (Vec.norm [v.at 0, v.at 1])
  | none => false

/-- The Doppler that the ephemerides predict on each satellite's first signal (R186). -/
def Dev.predict (d : Dev) : List (Nat × Nat × F64) :=
  match d.gnss.coarse with
  | none => d.gnss.predicted
  | some p => d.gnss.ephemerides.map fun e =>
    let signal := ((gnssSignals.find? (fun g => g.1 == e.system)).getD (0, 0)).2
    (e.system, e.sv, Config.predictedDoppler e.system e.sv signal e.age0 p d.sched.st)

/-- Ephemerides of satellites decoded from the signal in M0 (R186). -/
def Dev.renewed (d : Dev) (l : List (Nat × Nat)) : Dev :=
  let age0 : Int := d.sched.st
  let other (e : Ephemeris) : Bool := e.rtcm || !l.contains (e.system, e.sv)
  { d with gnss := { d.gnss with
      ephemerides := (l.map fun s => ⟨s.1, s.2, age0, false, false⟩) ++ d.gnss.ephemerides.filter other } }

/-- A renewal of ephemerides has run for 60 s (R186). -/
def Dev.renewalOver (d : Dev) (seconds : Nat) : Bool :=
  match d.gnss.renewing with
  | some began => began + 60 ≤ seconds
  | none => false

/-- One burst of the receiver in M0 (R186): coarse position, predictions, anchor watch, and whether the ephemerides need renewing. DESIGN
CHOICE (log 177): a renewal that 60 s have cut off starts anew while one is due. -/
def Dev.burst (d : Dev) (seconds : Nat) (position : Option (Quad × Quad × Quad)) (used decoded expired : List (Nat × Nat))
    (inp : StartIn) : Dev :=
  let d : Dev := d.caughtUp seconds
  let out := match position with
    | none => d.gnss.outside
    | some p => if d.beyondAnchor p then d.gnss.outside + 1 else 0
  let d : Dev := if d.renewalOver seconds then { d with gnss := { d.gnss with renewing := none } } else d
  let d : Dev := d.renewed decoded
  let d : Dev := { d with gnss := { d.gnss with coarse := position.or d.gnss.coarse, outside := out } }
  let d : Dev := { d with gnss := { d.gnss with
    predicted := d.predict
    renewing := if d.gnss.renewing.isNone && d.renewalDue used expired then some seconds else d.gnss.renewing } }
  if 5 ≤ out then d.wake 1 7 inp else d

/-- R186: a burst of 80 ms in M0, `seconds` after M0 was reached, or a second of the tracking that a renewal makes continuous: its position,
the satellites in use, those whose ephemeris was completed, and those whose ephemeris is no longer valid. -/
def execGnssDormantBurst (seconds : Nat) (position : Option (Quad × Quad × Quad)) (used decoded expired : List (Nat × Nat))
    (inp : StartIn) (s : State) : Host.Outcome State Fault Refusal :=
  s.run fun d => if d.clk.phase = .dormant then d.burst seconds position used decoded expired inp else d

/-- R186: a renewal of ephemerides ends in M0, complete or after 60 s; `renewed` are the satellites that it completed last, which count
within the 60 s. -/
def execEphemerisRenewalComplete (seconds : Nat) (renewed : List (Nat × Nat)) (s : State) : Host.Outcome State Fault Refusal :=
  s.run fun d =>
    match d.clk.phase, d.gnss.renewing with
    | .dormant, some began =>
      if began ≤ seconds then
        let d : Dev := if seconds ≤ began + 60 then (d.caughtUp seconds).renewed renewed else d
        { d with gnss := { d.gnss with renewing := none } }
      else d
    | _, _ => d

/-! ## Expert tests (R477, R480) -/

/-- A pulse crossing while a burst runs (R476, R477): accumulator, source cycle in which the handshake under way ends, lengths of the
handshakes still to come in source cycles, pulses delivered, and whether one was lost. -/
structure Crossing where
  acc : Nat
  busyTo : Nat
  lens : List Nat
  got : Nat
  lost : Bool
deriving DecidableEq, Repr, Inhabited

/-- A handshake that starts at cycle `k` carries the accumulator; between CLK_FAB and CLK_IO it takes 34 to 51 source cycles. -/
def Crossing.go (x : Crossing) (k : Nat) : Crossing :=
  { x with acc := 0, got := x.got + x.acc, busyTo := k + min 51 (max 34 (x.lens.headD 34)), lens := x.lens.drop 1 }

/-- Handshakes that end before cycle `k`, each followed by the next while the accumulator is not 0. -/
def Crossing.until (x : Crossing) (k : Nat) : Crossing := if x.acc != 0 && x.busyTo < k then x.go x.busyTo else x

/-- A pulse at cycle `k`: one in the cycle in which the handshake ends is carried by the next. -/
def Crossing.pulse (x : Crossing) (k : Nat) : Crossing :=
  let x : Crossing := x.until k
  let x : Crossing := if 15 ≤ x.acc then { x with lost := true } else { x with acc := x.acc + 1 }
  if x.busyTo ≤ k then x.go k else x

/-- A whole burst: `count` pulses, `spacing` cycles apart, and what is left delivered behind them. -/
def crossBurst (count spacing : Nat) (lens : List Nat) : Crossing :=
  let x : Crossing := (List.range count).foldl (fun x k => x.pulse (k * spacing)) ⟨0, 0, lens, 0, false⟩
  if x.acc = 0 then x else x.go x.busyTo

/-- CLK_XPULSE.GO (R477, R480). -/
def Dev.pulseGo (d : Dev) (count spacing : Nat) (lens : List Nat) (port : Nat) : Dev :=
  let count := count % 64
  let spacing := spacing % 256
  let d : Dev := (d.set Reg.CLK_XPULSE.COUNT count).set Reg.CLK_XPULSE.SPACING spacing
  if d.mode != 7 || count = 0 || spacing = 0 then d.reportWrite 8 port 0 0x18000 false
  else
    let x := crossBurst count spacing lens
    let d : Dev := (d.set Reg.CLK_XPULSE_RES.RECEIVED x.got).setB Reg.CLK_XPULSE_RES.DONE true
    let d : Dev := d.note 0x01 0x01 1 [d.word 0x18000, d.word 0x18004]
    if x.lost && !d.bitAt Reg.CLK_XOVF_HI.OVF 31 then
      ((d.setBitAt Reg.CLK_XOVF_HI.OVF 31 true).setB Reg.CLK_STATUS.XOVF_STICKY true).raise 28 [0x10040, 0x10044]
    else d

/-- R480: host software injects a burst of pulses; `lens` are the lengths of its handshakes in source cycles. -/
def execXpulseBurst (t count spacing : Nat) (lens : List Nat) (port : Nat) (s : State) : Host.Outcome State Fault Refusal :=
  s.run fun d => (d.advance t).whenUp fun d => d.expert port 0x18000 fun d => d.pulseGo count spacing lens port

/-- CLK_XREF.FORCE_SWITCH (R480): to the other reference, if it is qualified. -/
def Dev.forceSwitch (d : Dev) (port : Nat) : Dev :=
  let r := 1 - d.get Reg.CLK_STATUS.REF
  if d.mode != 7 || !d.refOk r then d.reportWrite 8 port 0 0x18008 false
  else (d.refSwitch r).note 0x01 0x01 2 [d.word 0x10000]

/-- R480: host software forces a switch of the root reference. -/
def execForceRefSwitch (t port : Nat) (s : State) : Host.Outcome State Fault Refusal :=
  s.run fun d => (d.advance t).whenUp fun d => d.expert port 0x18008 fun d => d.forceSwitch port

end Sys2Proof.Machine
end

