-- ==== Sys2Proof/Machine/Lamp.lean ====
section
/-! DEFINITION. Shutdown, the lamp check, the secrets with scan access, and the recovery ladder (chapter 18: R482 to R495). -/
namespace Sys2Proof.Machine
open Sys2Proof

/-! ## Shutdown (R482 to R485) -/

/-- PWR_HOLD rises (R483): E30. -/
def Dev.holdPower (d : Dev) : Dev :=
  if d.clk.pwrHold then d
  else (({ d with clk := { d.clk with pwrHold := true } }).setB Reg.BIST_STATUS.HOLD_STICKY true).raise 30 [0x140000]

/-- A unit that holds its tally gives it up for a shutdown (R484 step 2), as in step 2 of R399. -/
def Dev.withdraw (d : Dev) : Dev :=
  let before := d.tallyNow
  if before = 0 then d
  else d.withdrawTally before

/-- A shutdown begins (R484): trigger 0 host, 1 pin. -/
def Dev.shutDown (d : Dev) (trigger : Nat) : Dev :=
  let d : Dev := d.holdPower
  let d : Dev := { d with
    img := { d.img with racking := d.img.racking.map (fun r => { r with stop := true }) }
    bist := { d.bist with blockReset := none } }
  let d : Dev := (d.endFreeze 0).withdraw
  let d : Dev := { d with clk := { d.clk with phase := .shuttingDown, shutdown := some (trigger, d.sched.st) } }
  (d.note 0x0F 0x12 1 [BitVec.ofNat 32 d.oph, BitVec.ofNat 32 (d.oph / 4294967296), d.word 0x120014]).judgeRole

/-- BIST_CTRL is written (R482). -/
def Dev.shutdownWrite (d : Dev) (w : Word) (port : Nat) : Dev :=
  if w != 0x800000A5 || (d.mode != 1 && d.mode != 7) then d.reportWrite 8 port 0 0x140010 false
  else if d.clk.shutdown.isSome then d.reportWrite 9 port 0 0x140010 false
  else d.shutDown 0

/-- R482: host software writes BIST_CTRL; `sofs` are the starts of frames up to now. -/
def execShutdownRequest (t : Nat) (w : Word) (port : Nat) (sofs : List TxSof) (s : State) : Host.Outcome State Fault Refusal :=
  s.run fun d => (d.advance t).whenUp fun d => (d.noteSofs sofs).shutdownWrite w port

/-- SHDN_REQ_N has been low for 10 ms (R482); while Dormant is being entered, the entry is abandoned for a power-down (R485). -/
def Dev.shutdownPin (d : Dev) : Dev :=
  match d.clk.phase with
  | .enteringDormant => { d.holdPower with clk := { d.holdPower.clk with dormantAbandon := true } }
  | _ => if d.mode = 0 || d.clk.shutdown.isSome then d else d.shutDown 1

/-- R482: the shutdown pin; `sofs` are the starts of frames up to now. -/
def execShutdownPin (t : Nat) (sofs : List TxSof) (s : State) : Host.Outcome State Fault Refusal :=
  s.run fun d => (d.advance t).whenUp fun d => (d.noteSofs sofs).shutdownPin

/-! ## Secrets (R491) -/

/-- The secrets are cleared: the key copy outside its store, the unlock. -/
def Dev.clearSecrets (d : Dev) : Dev :=
  ((List.range 8).foldl (fun d i => d.set (Reg.REC_KEY_DATA.KEY i) 0) d).lockExpert 2

/-- BIST_XSCAN.SCAN_EN (R491): in M7; the secrets go, then the port opens. -/
def Dev.scanEnable (d : Dev) (port : Nat) : Dev :=
  if d.mode != 7 then d.reportWrite 8 port 0 0x148000 false
  else
    let d : Dev := d.clearSecrets
    let d : Dev := ((d.setB Reg.BIST_XSCAN.SCAN_EN true).setB Reg.BIST_STATUS.SCAN_OPEN true).setB Reg.CLK_CTRL.FULL_NEXT true
    let d : Dev := { d with
      safe := { d.safe with scanOpen := true }
      out := { d.out with can := d.out.can.map (fun c => { c with bufs := [] }) } }
    d.openPairs

/-- R491: host software opens the test access port. -/
def execScanEnable (t port : Nat) (s : State) : Host.Outcome State Fault Refusal :=
  s.run fun d => (d.advance t).whenUp fun d => d.expert port 0x148000 fun d => d.scanEnable port

/-! ## The lamp check (R486 to R490) -/

/-- The margin of a check in 0.1 % (R488). -/
def checkMargin (error limit : F32) : Int :=
  (((F64.ofInt 1).sub (error.to64.abs.div limit.to64)).mul (.ofInt 1000)).toQ 16 0

/-- A check passes with a margin of 0 or more (R486, R488). -/
def checkPasses (error limit : F32) : Bool := error.to64.abs.le limit.to64

/-- An analogue output works in a current mode (R368). -/
def Dev.aoCurrent (d : Dev) (k : Nat) : Bool := match d.image.out.ao.getD k none with
  | some im => im.mode != 0
  | none => false

/-- The limit of check `k` (R488): 0.1 % of full scale, 3 dB-Hz, one frame, one bit, 0.05 %, 60 ppm, CLK.REF_TOL. -/
def Dev.checkLimit (d : Dev) (k : Nat) : F32 :=
  if k < 8 then (if d.aoCurrent k then F64.ofRatio 2 100 else F64.ofRatio 1 100).to32
  else if k < 12 then (F64.ofInt 3).to32
  else if k < 24 then F64.one.to32
  else if k = 24 then (F64.ofRatio 5 100).to32
  else if k = 25 then (F64.ofInt 60).to32
  else (d.paramF P.CLK.REF_TOL).to32

/-- The error of check `k` from what it measured (R488): against the value set, the factory's value, or 0. -/
def Dev.checkError (d : Dev) (k : Nat) (m : F32) : F32 :=
  let x := m.to64
  let f := (Config.factoryCheck k).to64
  if k < 8 then (x.sub (.ofInt (if d.aoCurrent k then 16 else 8))).to32
  else if k < 12 then (f.sub x).to32
  else if k = 24 then (((x.sub f).div f).mul (.ofInt 100)).to32
  else m

/-- One check as the results hold it; a check that is not run reads 0 (R488), as the one against REFCLK_IN does without it. -/
def Dev.checkResult (d : Dev) (k : Nat) (m : Option F32) : AnCheck :=
  match m.filter (fun _ => k != 26 || d.clk.extPresent) with
  | none => ⟨0, 0, 0, 0⟩
  | some m =>
    let e := d.checkError k m
    let l := d.checkLimit k
    ⟨if checkPasses e l then 1 else 2, m.bits, l.bits, (checkMargin e l % 65536).toNat⟩

/-- The results of a lamp check (R486 to R490). -/
def Dev.lampResults (d : Dev) (trigger : Nat) (x : LampIn) : LampResults :=
  let an := ((List.range 27).zip x.an).map fun e => d.checkResult e.1 e.2
  { passed := x.spared && an.all (fun a => a.result != 2)
    duration := x.duration
    trigger := trigger
    failures := x.failures
    mem := x.mem.take 32
    an := an
    unrepairable := !x.spared }

/-- The outputs whose lamp check failed since one last passed (R489). -/
def aoutFails (old : BitVec 8) (r : LampResults) : BitVec 8 :=
  if r.passed then 0
  else old ||| BitVec.ofNat 8 (maskOf ((List.range 8).filter fun k => match r.an[k]? with
    | some a => a.result == 2
    | none => false))

/-- The lamp check ends (steps 4 to 6 of R484, steps 3 to 5 of R474): results into the cellar, the clean-shutdown flag on a pass, PWR_HOLD
low, power down or M0; a wake that was latched then follows at once (R475). While a racking still has to stop, the check has not run (R106).
-/
def Dev.lampDone (d : Dev) (x : LampIn) (inp : StartIn) : Dev :=
  match d.clk.shutdown, d.img.racking with
  | none, _ => d
  | some _, some _ => d
  | some (trigger, _), none =>
    let dormant : Bool := trigger = 2 && !d.clk.dormantAbandon
    let r := d.lampResults trigger x
    let d : Dev := d.clearSecrets
    let d : Dev := d.holdResults r
    let d : Dev := { d with
      bist := { d.bist with
        repairDue := d.bist.repairDue || x.mem.any (fun m => m.repair == 1)
        aoutFail := aoutFails d.bist.aoutFail r }
      clk := { d.clk with clean := r.passed } }
    let d : Dev := d.setB Reg.BIST_STATUS.REPAIR_PENDING d.bist.repairDue
    if !dormant then d.down .off
    else
      let d : Dev := { d with gnss := { d.gnss with anchor := d.gnss.position, outside := 0, renewing := none, coarse := none } }
      let d : Dev := ((d.down .dormant).setB Reg.GNSS_STATUS.BURST true).set Reg.CLK_DOMAIN.PGOOD 1
      if d.clk.wakes = 0 then d else d.start 6 0 false inp

/-- R486: the lamp check ends. -/
def execLampCheckComplete (t : Nat) (x : LampIn) (inp : StartIn) (s : State) : Host.Outcome State Fault Refusal :=
  s.run fun d => (d.advance t).whenUp fun d => d.lampDone x inp

/-! ## The recovery ladder (R492 to R495) -/

/-- Refuse a rung (R492, R493). -/
def Dev.rungRefused (d : Dev) (port : Nat) : Dev := (d.setB Reg.SYS_RECOVER.REFUSED true).reportWrite 8 port 0 0x18 false

/-- LEVEL becomes `r`, with E18 when it changes (R495). -/
def Dev.setLevel (d : Dev) (r : Nat) : Dev :=
  if d.bist.level = r then d
  else (({ d with bist := { d.bist with level := r } }).set Reg.SYS_RECOVER.LEVEL r).raise 18 [0x18]

/-- A rung is asked for: refused below the level reached, and without its key (R492). -/
def Dev.rung (d : Dev) (r : Nat) (keyed : Bool) (port : Nat) (f : Dev → Dev) : Dev :=
  let d : Dev := d.set Reg.SYS_RECOVER.RUNG r
  if r < d.bist.level || !keyed || d.mode = 0 then d.rungRefused port else f (d.setB Reg.SYS_RECOVER.REFUSED false)

/-- Rung 1 (R492): the repeated command is recorded. -/
def Dev.rungOne (d : Dev) (port : Nat) : Dev :=
  d.rung 1 true port fun d => if d.bist.level = 1 then d.note 0x01 0x00 0x110 [d.word 0x18] else d.setLevel 1

/-- R492: rung 1 of the ladder. -/
def execRecoverRung1 (t port : Nat) (s : State) : Host.Outcome State Fault Refusal :=
  s.run fun d => (d.advance t).whenUp fun d => d.rungOne port

/-- Rung 2 (R493): a block reset at the next major-frame boundary; none is taken while a shutdown runs (R495). -/
def Dev.rungTwo (d : Dev) (block port : Nat) : Dev :=
  let block := block % 256
  let d : Dev := d.set Reg.SYS_RECOVER.BLOCK block
  d.rung 2 true port fun d =>
    if !d.blockResettable block then d.rungRefused port
    else if d.clk.shutdown.isSome then d.reportWrite 9 port 0 0x18 false
    else
      let d : Dev := { d with bist := { d.bist with blockReset := some block } }
      if d.bist.level = 2 then d.note 0x01 0x00 0x120 [d.word 0x18] else d.setLevel 2

/-- R493: rung 2 of the ladder. -/
def execRecoverBlockReset (t block port : Nat) (s : State) : Host.Outcome State Fault Refusal :=
  s.run fun d => (d.advance t).whenUp fun d => d.rungTwo block port

/-- Rung 3 (R492): a device reset with cause 3; ignored while a shutdown runs (R495). -/
def Dev.rungThree (d : Dev) (key port : Nat) (inp : StartIn) : Dev :=
  d.rung 3 (key = 0x5A) port fun d =>
    if d.clk.shutdown.isSome then d.reportWrite 9 port 0 0x18 false else (d.levelAtRestart 3).start 3 0 true inp

/-- R492: rung 3 of the ladder. -/
def execRecoverDeviceReset (t key port : Nat) (inp : StartIn) (s : State) : Host.Outcome State Fault Refusal :=
  s.run fun d => (d.advance t).whenUp fun d => d.rungThree key port inp

/-- Rung 4 (R494): PWR_HOLD rises, `n` records reach the medium, and PWR_CYCLE_REQ is driven low. -/
def Dev.rungFour (d : Dev) (key n port : Nat) : Dev :=
  d.rung 4 (key = 0x5A) port fun d =>
    if d.clk.shutdown.isSome || d.clk.cycleReq then d.reportWrite 9 port 0 0x18 false
    else
      let d : Dev := (d.levelAtRestart 4).set Reg.SYS_RECOVER.LEVEL 4
      let d : Dev := ((d.holdPower.endFreeze 0).drain n []).closeBatch
      { d.stopSchedule with clk := { d.clk with phase := .cycling, cycleReq := true, cycleAt := d.sched.st } }

/-- R494: rung 4 of the ladder. -/
def execRecoverPowerCycle (t key n port : Nat) (s : State) : Host.Outcome State Fault Refusal :=
  s.run fun d => (d.advance t).whenUp fun d => d.rungFour key n port

/-- VIN is still present SYS.CYCLE_WAIT after PWR_CYCLE_REQ fell (R494): the device resets itself, and CYCLE_FAIL follows. -/
def Dev.cycleFailed (d : Dev) (inp : StartIn) : Dev :=
  if d.clk.phase = .cycling && d.clk.cycleAt + d.paramNs P.SYS.CYCLE_WAIT ≤ d.sched.st then
    let d : Dev := d.start 3 0 true inp
    { d with bist := { d.bist with cycleFail := true } }
  else d

/-- R494: SYS.CYCLE_WAIT expires. -/
def execCycleWaitExpiry (t : Nat) (inp : StartIn) (s : State) : Host.Outcome State Fault Refusal :=
  s.run fun d => (d.advance t).whenUp fun d => d.cycleFailed inp

/-- R495: host software writes SYS_RECOVER.ACK. -/
def execRecoverAck (t : Nat) (s : State) : Host.Outcome State Fault Refusal :=
  s.run fun d => (d.advance t).whenUp fun d => d.setLevel 0

end Sys2Proof.Machine
end

