-- ==== Sys2Proof/Machine/Write.lean ====
section
/-! DEFINITION. A host write to a register (R6, R9, R11, R504 to R507): the access codes, the reports, and what each register does when it
is written. -/
namespace Sys2Proof.Machine
open Sys2Proof

/-! ## Expert unlock (R505, R506) -/

/-- A write to SYS_EXPERT is a key word (R505). -/
def Dev.keyWrite (d : Dev) (w : Word) (port : Nat) : Dev :=
  let now := d.sched.st
  let first := lookup d.host.keyAt port
  let keys (l : List (Nat × Nat)) : Dev := { d with host := { d.host with keyAt := l } }
  let others := d.host.keyAt.filter (fun e => e.1 != port)
  if w = 0 then (keys others).lockExpert 0
  else if w = 0xB45C then keys ((port, now) :: others)
  else
    let d : Dev := keys others
    match first with
    | some t1 =>
      if w = 0xC31E && now < t1 + 1000000 then
        let d : Dev := (d.setB Reg.SYS_EXPERT.UNLOCKED true).set Reg.SYS_EXPERT.PORT port
        ({ d with host := { d.host with expertAt := now } }).raiseSub 10 port [0x1C]
      else d
    | none => d

/-- R505, R506: host software writes SYS_EXPERT on a port. -/
def execExpertKeyWrite (t : Nat) (w : Word) (port : Nat) (s : State) : Host.Outcome State Fault Refusal :=
  s.run fun d => (d.advance t).whenUp fun d => d.keyWrite w (port % 2)

/-- R506: 30 minutes have passed without a write to an expert page. -/
def execExpertIdleLapse (t : Nat) (s : State) : Host.Outcome State Fault Refusal :=
  s.run fun d => (d.advance t).whenUp fun d => if d.host.expertAt + 1800000000000 ≤ d.sched.st then d.lockExpert 1 else d

/-! ## Fields (R6, R9, R11, R507) -/

/-- A field that a write can change. -/
def FieldRow.writable (f : FieldRow) : Bool := f.access != .ro && f.access != .rc

/-- The bits of a register that belong to some field (R9). -/
def RegRow.known (r : RegRow) : Word := r.fields.foldl (fun m f => m ||| fieldMask f.lo f.width) 0

/-- The causes of R507 that the access codes and formats of a register's fields give to a write. In a register whose fields have several
codes, causes 2 and 3 need a bit that differs from the one held. -/
def Dev.writeCauses (d : Dev) (r : RegRow) (a : Nat) (w : Word) : List Nat :=
  let was := d.word a
  let fs := r.fields.filter FieldRow.writable
  let mixed := fs.any fun f => fs.any fun g => f.access != g.access
  let meant (f : FieldRow) : Bool := !mixed || getBits w f.lo f.width != getBits was f.lo f.width
  let has (p : FieldRow → Bool) (n : Nat) : List Nat := if fs.any p then [n] else []
  has (fun f => f.access == .rwx && !d.flag Reg.SYS_EXPERT.UNLOCKED && meant f) 2
    ++ has (fun f => f.access == .rws && d.mode != 7 && meant f) 3
    ++ (if w &&& ~~~r.known != 0 || (a = 0x20010 && w.getLsbD 31) then [5] else [])
    ++ has (fun f => f.notFinite w) 6

/-- Store the fields of a write by their access codes (R11). Write-only fields go to the action of their register. -/
def Dev.storeFields (d : Dev) (r : RegRow) (a : Nat) (w : Word) : Dev :=
  r.fields.foldl (fun d f =>
    let x : Field := ⟨a, f.lo, f.width⟩
    let v := getBits w f.lo f.width
    match f.access with
    | .rw => if f.notFinite w then d else d.set x v
    | .rwx => if d.flag Reg.SYS_EXPERT.UNLOCKED && !f.notFinite w then d.set x v else d
    | .rws => if d.mode = 7 && !f.notFinite w then d.set x v else d
    | .w1c => d.setWord a (d.word a &&& ~~~(w &&& fieldMask f.lo f.width))
    | _ => d) d

/-- One report for a register write, with the lowest cause (R507). -/
def Dev.closeReport (d : Dev) (port a : Nat) : Dev :=
  match d.host.causes with
  | none => d
  | some l =>
    let d : Dev := { d with host := { d.host with causes := none } }
    match l with
    | [] => d
    | c :: l => d.reportWrite (l.foldl min c) port 0 a (l.any (· != c))

/-- The place of an address in an array of registers. -/
def arrayAt (a base stride count : Nat) : Option Nat :=
  if base ≤ a && (a - base) % stride = 0 && (a - base) / stride < count then some ((a - base) / stride) else none

/-- Do `f` where a bit of the word is 1. -/
def Dev.onBit (d : Dev) (w : Word) (i : Nat) (f : Dev → Dev) : Dev := if w.getLsbD i then f d else d

/-- Do `f` where the register's word has changed. -/
def Dev.onChange (d : Dev) (a : Nat) (was : Word) (f : Dev → Dev) : Dev := if d.word a = was then d else f d

/-! ## Delivery of events (R511) -/

/-- Every vector that holds its pending bit and can send again: its message, where its set is not empty (R511). -/
def Dev.resend (d : Dev) : Dev :=
  [0, 1, 2, 3].foldl (fun d v =>
    if d.bitAt Reg.HOST_MSIX_PBA.PEND v && d.canSend v then
      if d.vecPending v then d.sendVector v else d.setBitAt Reg.HOST_MSIX_PBA.PEND v false
    else d) d

/-- The sources of a bank raised in the present CLK_IO cycle: a clearing write of that cycle leaves them set (R511). -/
def Dev.raisedNow (d : Dev) (b : Nat) : Word :=
  BitVec.ofNat 32 (maskOf ((d.host.raised.filter fun e => e.1 / 32 == b && e.2 == d.ioCycle).map fun e => e.1 % 32))

/-- A W1C write to EVT_STATUS (R508, R511): the vectors whose sets stay non-empty send again. -/
def Dev.evtClear (d : Dev) (b : Nat) (w : Word) : Dev :=
  let a := 0x20000 + 4 * b
  let d : Dev := d.setWord a (d.word a &&& ~~~(w &&& ~~~(d.raisedNow b)))
  [0, 1, 2, 3].foldl (fun d v => if d.vecPending v then d.sendVector v else d) d

/-- R511: host software writes EVT_STATUS[b]. -/
def execEvtStatusClear (t b : Nat) (w : Word) (s : State) : Host.Outcome State Fault Refusal :=
  s.run fun d => (d.advance t).whenUp fun d => if b < 3 then d.evtClear b w else d

/-- EVT_FORCE.GO (R512): status, delivery and a record marked forced by bit 15 of its subtype; nothing of the owning block. -/
def Dev.forceEvent (d : Dev) (n port : Nat) : Dev :=
  if d.mode != 7 || 95 < n || n = 31 then d.reportWrite 8 port 0 0x28000 false
  else Dev.flushTrace 24 ((d.signal n).record (evtType n) (recordBody n (evtBlock n) 0x8000 []) none)

/-- R512: host software forces an event. -/
def execEvtForce (t n port : Nat) (s : State) : Host.Outcome State Fault Refusal :=
  s.run fun d => (d.advance t).whenUp fun d => d.expert port 0x28000 fun d =>
    (d.set Reg.EVT_FORCE.EVENT n).forceEvent (n % 128) port

/-! ## What a register does when it is written -/

/-- SYS_RECOVER (R492, R495, R496). -/
def Dev.recoverWrite (d : Dev) (w : Word) (port : Nat) (x : WriteIn) : Dev :=
  let d : Dev := d.onBit w 30 fun d => d.setLevel 0
  d.onBit w 31 fun d =>
    let key := getBits w 16 8
    match getBits w 3 3 with
    | 1 => d.rungOne port
    | 2 => d.rungTwo (getBits w 8 8) port
    | 3 => d.rungThree key port x.inp
    | 4 => d.rungFour key x.drained port
    | _ => d.rungRefused port

/-- Blocks SYS and CLK. -/
def Dev.writeSys (d : Dev) (a : Nat) (w : Word) (port : Nat) (x : WriteIn) : Dev :=
  if a = 0x14 then
    if w.getLsbD 31 || d.flag Reg.SYS_MODEREQ.GO then
      d.requestWrite (getBits w 0 3) (w.getLsbD 4) (w.getLsbD 5) (w.getLsbD 6) (getBits w 8 8) port
    else d
  else if a = 0x18 then d.recoverWrite w port x
  else if a = 0x10014 then d.resetWrite w port x.inp
  else if a = 0x18000 then
    (d.set ⟨a, 31, 1⟩ 0).onBit w 31 fun d => d.expert port a fun d => d.pulseGo (getBits w 8 6) (getBits w 16 8) x.lens port
  else if a = 0x18008 then (d.set ⟨a, 0, 1⟩ 0).onBit w 0 fun d => d.expert port a fun d => d.forceSwitch port
  else d

/-- Blocks EVT and HOST, from the device `old` before the write. -/
def Dev.writeEvt (d old : Dev) (a : Nat) (w : Word) (port : Nat) : Dev :=
  if a = 0x28000 then
    (d.set ⟨a, 31, 1⟩ 0).onBit w 31 fun d => d.expert port a fun d => d.forceEvent (getBits w 0 7) port
  else if 0x20000 ≤ a && a < 0x2000C then old.evtClear ((a - 0x20000) / 4) w
  else if 0x20010 ≤ a && a < 0x20160 then
    Dev.deliverFrom old (if a = 0x20010 then d.set ⟨a, 31, 1⟩ 0 else d)
  else if 0x151000 ≤ a && a < 0x151040 then d.resend
  else d

/-- Blocks SCHED, IMG and CHK. -/
def Dev.writeSched (d : Dev) (a : Nat) (w was : Word) (port : Nat) : Dev :=
  if a = 0x3000C then d.onBit w 0 fun d => d.set Reg.SCHED_INFLIGHT.HWM (d.get Reg.SCHED_INFLIGHT.COUNT)
  else if a = 0x38000 then
    if !d.flag Reg.SYS_EXPERT.UNLOCKED then d
    else if d.mode != 7 then (d.setWord a was).reportWrite 8 port 0 a false
    else if d.flag Reg.SCHED_XOVR.EN then d.uncover 2 else d.recoverCondition 2
  else if a = 0x38004 then
    if !w.getLsbD 31 then d.setB Reg.SCHED_XINJ.GO (was.getLsbD 31)
    else if d.flag Reg.SYS_EXPERT.UNLOCKED && d.mode != 7 then (d.setB Reg.SCHED_XINJ.GO false).reportWrite 8 port 0 a false
    else d
  else if a = 0x40010 then
    let src := getBits w 4 3
    if w.getLsbD 31 then d.rackGo (getBits w 0 3) src (w.getLsbD 8) port
    else if src = 5 || src = 7 then (d.set ⟨a, 4, 3⟩ (getBits was 4 3)).reportWrite 8 port 0 a false
    else d
  else if a = 0x40020 then d.onBit w 0 fun d => d.acceptGo port
  else if a = 0x48020 then
    let d : Dev := d.onBit w 2 fun d => d.expert port a fun d => d.acckeyEnrol (getBits w 0 2) port
    d.onBit w 3 fun d => d.expert port a fun d => d.acckeyRevoke (getBits w 0 2) port
  else if a = 0x50040 then d.onBit w 31 fun d => d.scanGo (getBits w 0 2) (getBits w 2 2) port
  else if a = 0x58000 then
    (d.set ⟨a, 31, 1⟩ 0).onBit w 31 fun d => d.expert port a fun d =>
      d.lineageLookup (getBits w 0 8) (getBits w 8 8) (getBits w 16 8)
  else d

/-- CH_CFG of an analogue channel (R164): a divisor or a number of taps that is not allowed leaves its field. -/
def Dev.afeWrite (d : Dev) (a n : Nat) (w was : Word) (port : Nat) : Dev :=
  if d.mode != 7 then d
  else
    let div := getBits w 4 10
    let taps := getBits w 20 9
    let badDiv := div = 0 || 1000 % div != 0
    let badTaps := taps = 0 || 256 < taps
    let d : Dev := if badDiv then d.set ⟨a, 4, 10⟩ (getBits was 4 10) else d
    let d : Dev := if badTaps then d.set ⟨a, 20, 9⟩ (getBits was 20 9) else d
    let d : Dev := d.setChan n fun c => { c with dirty := true }
    if badDiv || badTaps then d.reportWrite 8 port 0 a false else d

/-- Blocks AFE, GNSS and TIME. -/
def Dev.writeSensor (d : Dev) (a : Nat) (w was : Word) (port : Nat) : Dev :=
  if 0x70100 ≤ a && a < 0x70500 then
    let n := (a - 0x70100) / 0x40
    if a % 0x40 = 0 then d.afeWrite a n w was port
    else if d.mode = 7 then d.setChan n fun c => { c with dirty := true } else d
  else if 0x71000 ≤ a && a < 0x75000 then
    if d.mode = 7 then d.setChan ((a - 0x71000) / 0x400) fun c => { c with dirty := true } else d
  else if a = 0x80048 then d.corrFifo w port
  else if a = 0x80050 then
    let d : Dev := d.onBit w 0 fun d => d.spoofAck port
    let d : Dev := d.onBit w 1 fun d => (d.retryAnt 0).retryAnt 1
    d.onBit w 2 fun d => d.coldRestart port
  else if a = 0x88000 || a = 0x88004 then d.onChange a was fun d => d.stopSignals.gnssNote 6 [0x88000, 0x88004]
  else if a = 0x90030 then d.onBit w 0 fun d => d.timeSet port
  else d

/-- Blocks FUS, ALLOC and SOLV. -/
def Dev.writeFusion (d : Dev) (a : Nat) (w was : Word) (port : Nat) : Dev :=
  if a = 0xA0054 then
    let d : Dev := d.onBit w 0 fun d => d.originSet port
    d.onBit w 1 fun d => d.filterReset port
  else if 0xA0C00 ≤ a && a < 0xA0C80 then
    let n := (a - 0xA0C00) / 16
    if d.host.causes.getD [] = [] then { d with fus := { d.fus with anchorDue := n :: d.fus.anchorDue.filter (· != n) } } else d
  else if a = 0xA8000 then d.onChange a was fun d => d.note 0x01 0x0A 5 [d.word a]
  else if a = 0xB0040 then d.onBit w 0 Dev.arrestClr
  else if a = 0xB8000 then d.onChange a was fun d => (d.note 0x01 0x0B 3 [d.word a]).showStale
  else if a = 0xC0060 then d.onBit w 0 fun d => d.wsDiscard port
  else match arrayAt a 0xA0118 32 28 with
    | some n => d.onBit w 1 fun d => d.anchorSetWrite n
    | none => d

/-- A write of RM_SP (R321): ignored while the axis is open and, for the position models, in M6. -/
def Dev.spWrite (d : Dev) (a n : Nat) (w was : Word) (port : Nat) : Dev :=
  let isOpen := if n < 3 then d.chanOpen true n else d.flag (Reg.LOOP_RM.STAT.FOLLOWING n)
  if isOpen || (n < 3 && d.mode = 6) then (d.setWord a was).reportWrite 8 port 0 a false
  else if !d.flag (Reg.LOOP_RM.CFG.ANGLE n) && (F32.mk w).bad then (d.setWord a was).reportWrite 6 port 0 a false
  else d.setRm n fun m => { m with wrote := true }

/-- CTRL of a loop channel (R315, R319, R331): OPEN where it differs, and a bank request. -/
def Dev.chanWrite (d : Dev) (pid : Bool) (a c : Nat) (w was : Word) (port : Nat) : Dev :=
  let d : Dev := d.set ⟨a, 0, 1⟩ (getBits was 0 1)
  let d : Dev := if w.getLsbD 0 = was.getLsbD 0 then d else if pid then d.pidOpen c (w.getLsbD 0) port else d.bqOpen c (w.getLsbD 0) port
  d.onBit w 1 fun d => d.bankRequest pid c (getBits w 2 1) (getBits w 3 12 + 1)

/-- Block LOOP. -/
def Dev.writeLoop (d : Dev) (a : Nat) (w was : Word) (port : Nat) : Dev :=
  if a = 0xD0014 then d.cwWrite w port
  else if a = 0xD0018 then d.onBit w 0 Dev.validateBank
  else if a = 0xD3800 then
    if w.getLsbD 30 || w.getLsbD 31 then d.pathWrite (w.getLsbD 30) (w.getLsbD 31) (getBits w 0 6) (w.getLsbD 6) else d
  else if a = 0xD8000 || a = 0xD8004 || a = 0xD8008 then
    d.onChange a was fun d => d.note 0x01 0x0D 0x300 [d.word 0xD8000, d.word 0xD8004, d.word 0xD8008]
  else match arrayAt a 0xD1004 32 96, arrayAt a 0xD2004 64 16, arrayAt a 0xD2808 64 8, arrayAt a 0xD3010 64 8 with
    | some c, _, _, _ => d.chanWrite false a c w was port
    | _, some c, _, _ => d.chanWrite true a c w was port
    | _, _, some n, _ => d.spWrite a n w was port
    | _, _, _, some u =>
      ((d.onBit w 0 fun d => d.traceArm u).onBit w 1 fun d => d.traceForce u).onBit w 2 fun d => d.traceStop u
    | _, _, _, _ => d

/-- Blocks CAN, OUT and RED. -/
def Dev.writeBus (d : Dev) (a : Nat) (w was : Word) (port : Nat) (x : WriteIn) : Dev :=
  if a = 0xF0504 then
    let bound := BitVec.ofNat 32 d.image.out.gpioBound
    let d : Dev := d.setWord a ((d.word a &&& ~~~bound) ||| (was &&& bound))
    if (w ^^^ was) &&& bound &&& 0xFFFFFF = 0 then d else d.reportWrite 8 port 0 a false
  else if a = 0x100030 then
    let d : Dev := d.onBit w 0 fun d => d.drillGo port
    (d.onBit w 1 Dev.drillEnd).onBit w 2 Dev.drillAbort
  else if a = 0x108000 then d.onChange a was fun d => d.note 0x01 0x10 0x40 [d.word a]
  else match arrayAt a 0xE0104 64 6, arrayAt a 0xE0804 256 6 with
    | some c, _ =>
      let d : Dev := (d.set ⟨a, 1, 1⟩ (getBits was 1 1)).onBit w 0 fun d => d.canRecover c
      if w.getLsbD 1 = was.getLsbD 1 || d.mode != 7 && w.getLsbD 1 then d else d.listenWrite c (w.getLsbD 1) port
    | _, some c =>
      let d : Dev := d.showHtx c
      let d : Dev := d.onBit w 31 fun d => (d.noteSofs x.sofs).htxCancel c
      d.onBit w 30 fun d => d.htxGoWrite c port
    | _, _ => d

/-- Blocks SAFE and BIST. -/
def Dev.writeSafe (d : Dev) (a : Nat) (w was : Word) (port : Nat) (x : WriteIn) : Dev :=
  if a = 0x110014 then
    let d : Dev := d.set ⟨a, 4, 3⟩ (getBits was 4 3)
    let d : Dev := if getBits w 4 3 = getBits was 4 3 then d else d.instSelect (getBits w 4 3) port
    let d : Dev := d.onBit w 0 fun d => d.inhReset port
    let d : Dev := d.onBit w 1 fun d => d.outReset port x.pass
    d.onBit w 2 fun d => d.loadStart port
  else if a = 0x140010 then (d.noteSofs x.sofs).shutdownWrite w port
  else if a = 0x148000 then
    (d.set ⟨a, 0, 1⟩ (getBits was 0 1)).onBit w 0 fun d => d.expert port a fun d => d.scanEnable port
  else d

/-- Blocks REC, NAND and PARAM. -/
def Dev.writeStore (d : Dev) (a : Nat) (w : Word) (port : Nat) (x : WriteIn) : Dev :=
  if a = 0x120020 then (d.onBit w 0 fun d => d.freeze port).onBit w 1 fun d => d.endFreeze 1
  else if a = 0x120030 then d.onBit w 0 fun d => d.readGo port
  else if a = 0x120050 then (d.onBit w 0 Dev.challenge).onBit w 1 fun d => d.clearSubmit (w.getLsbD 2) port
  else if 0x120080 ≤ a && a < 0x1200A0 then d.setWord a w
  else if a = 0x128020 then d.onBit w 0 fun d => d.expert port a fun d => d.keyEnrol port
  else if a = 0x13002C then
    let d : Dev := d.onBit w 0 fun d => d.formatWrite x.marks port
    d.onBit w 1 fun d => d.scrubNow port
  else if a = 0x170004 then d.paramDataWrite w port
  else if a = 0x170008 then { d with params := { d.params with dataHi := w } }
  else if a = 0x170014 then d.onBit w 31 fun d => d.commitGo (getBits w 16 2) (getBits w 0 16) port
  else if a = 0x170024 then (d.onBit w 0 fun d => d.snapGo port).onBit w 1 fun d => d.bulkApply port
  else d

/-- Registers whose fields their own operation stores: a mode request, a racking or a commit that is started, and the words that are no
stored fields. -/
def ownsFields (a : Nat) (w : Word) (pending : Bool) : Bool :=
  (a = 0x14 && (w.getLsbD 31 || pending)) || (a = 0x40010 && w.getLsbD 31)
    || (a = 0x170014 && w.getLsbD 31) || a = 0x170004 || a = 0x170008 || a = 0xD0014 || (0x20000 ≤ a && a < 0x2000C)

/-- While the device is held under the boot loader, only these registers answer (R99, R501). -/
def haltServes (a : Nat) : Bool :=
  a = 0 || a = 0x10 || a = 0x10000 || a = 0x1000C || a / 0x10000 = 0x04 || a / 0x10000 = 0x15 || a / 0x10000 = 0x17

/-- A register answers now. -/
def Dev.serves (d : Dev) (a : Nat) : Bool := d.clk.phase != .halted || haltServes a

/-- A write of one register word (R11, R504 to R507). -/
def Dev.writeReg (d : Dev) (r : RegRow) (a : Nat) (w : Word) (port : Nat) (x : WriteIn) : Dev :=
  let was := d.word a
  let old : Dev := { d with host := { d.host with
    causes := some (d.writeCauses r a w)
    latched := d.host.latched.filter (fun e => e.1 != a && !(a = 0x170000 && e.1 = 0x170008))
    expertAt := if 0x8000 ≤ a % 0x10000 && d.flag Reg.SYS_EXPERT.UNLOCKED then d.sched.st else d.host.expertAt } }
  let n : Dev := if ownsFields a w (d.flag Reg.SYS_MODEREQ.GO) then old else old.storeFields r a w
  let n : Dev := match a / 0x10000 with
    | 0x00 | 0x01 => n.writeSys a w port x
    | 0x02 | 0x15 => n.writeEvt old a w port
    | 0x03 | 0x04 | 0x05 => n.writeSched a w was port
    | 0x07 | 0x08 | 0x09 => n.writeSensor a w was port
    | 0x0A | 0x0B | 0x0C => n.writeFusion a w was port
    | 0x0D => n.writeLoop a w was port
    | 0x0E | 0x0F | 0x10 => n.writeBus a w was port x
    | 0x11 | 0x14 => n.writeSafe a w was port x
    | 0x12 | 0x13 | 0x17 => n.writeStore a w port x
    | _ => n
  n.closeReport port a

/-- A host write to an address of BAR0 (R504, R505, R507). -/
def Dev.hostWrite (d : Dev) (a : Nat) (w : Word) (port : Nat) (x : WriteIn) : Dev :=
  if !d.serves a then d.reportWrite 7 port 0 a false
  else if a = 0x1C then d.keyWrite w port
  else match regRow a with
    | none => d.reportWrite 7 port 0 a false
    | some r => if r.fields.any FieldRow.writable then d.writeReg r a w port x else d.reportWrite 1 port 0 a false

/-- A malformed request to BAR0 (R500): dropped, counted, E95. -/
def Dev.malformedBar0 (d : Dev) : Dev := (d.inc Reg.HOST_PCIE_ERR.BAR0_FORM).raise 95 [0x150000, 0x150004]

/-- R500: a PCIe request to BAR0 of another length than one word, or with byte enables not all set. -/
def execBar0Malformed (t : Nat) (s : State) : Host.Outcome State Fault Refusal :=
  s.run fun d => (d.advance t).whenHost Dev.malformedBar0

/-- R11: a host write of an aligned word of BAR0 on port 0 (PCIe) or 1 (SPI); a misaligned one is refused by its port (R500, R502). -/
def execRegisterWrite (t port addr : Nat) (w : Word) (x : WriteIn) (s : State) : Host.Outcome State Fault Refusal :=
  s.run fun d => (d.advance t).whenHost fun d =>
    if addr % 4 = 0 then d.hostWrite addr w (port % 2) x
    else if port % 2 = 0 then d.malformedBar0
    else d.reportWrite 10 1 0 addr false

end Sys2Proof.Machine
end

