-- ==== Sys2Proof/Machine/Host.lean ====
section
/-! DEFINITION. The host ports beside register writes: register reads, BAR2, the SPI port, and the links (R8, R11, R499 to R503, R510, R511). -/
namespace Sys2Proof.Machine
open Sys2Proof

/-! ## What a register reads as -/

/-- The word with a field replaced. -/
def Dev.shown (d : Dev) (x : Field) (v : Nat) : Word := setBits (d.word x.addr) x.lo x.width v

/-- Days since the last complete scrub pass (R462): of DT while it is valid, of operating hours otherwise. -/
def Dev.scrubDays (d : Dev) : Nat :=
  let byHours := (d.oph - d.nand.passOph) / 86400000
  min 65535 (match d.flag Reg.TIME_STATUS.DT_VALID, d.nand.passDt with
    | true, some p => ((d.dtSec - p) / 86400).toNat
    | _, _ => byHours)

/-- PARAM_INFO of the selected index (R117). -/
def Dev.paramInfo (d : Dev) : Word :=
  let i := d.get Reg.PARAM_INDEX.INDEX
  match d.paramRow i with
  | none => 0
  | some r =>
    let source :=
      if isSafeParam i then bit d.params.factory.isSome
      else if (lookup d.params.runtime i).isSome then 3
      else if (lookup d.params.overlay i).isSome then 2
      else bit d.params.factory.isSome
    BitVec.ofNat 32 (r.type.code + 16 * bit r.expert + 32 * bit (isSafeParam i) + 64
      + 128 * bit (d.params.waiting.any fun e => e.2.1 == i) + 256 * source)

/-- The value in force of the selected index (R117); 0 where there is none. -/
def Dev.paramShown (d : Dev) : Quad :=
  let i := d.get Reg.PARAM_INDEX.INDEX
  if (d.paramRow i).isSome then BitVec.ofNat 64 (d.param i) else 0

/-- The registers whose value is that of the moment of the read. -/
def Dev.liveWord (d : Dev) (a : Nat) : Option Word :=
  let ms := d.sched.st / 1000000
  let st : Quad := BitVec.ofNat 64 d.sched.st
  if a = 0xC || a = 0x9000C then some (st.extractLsb' 32 32)
  else if a = 0x90008 then some (st.extractLsb' 0 32)
  else if a = 0x90010 then some (BitVec.ofNat 32 (d.dtNs + 1073741824 * (d.dtQ % 4).toNat))
  else if a = 0x90014 then some (BitVec.ofInt 32 d.dtSec)
  else if a = 0x90018 then some (BitVec.ofNat 32 (d.dtSec / 4294967296 % 65536).toNat)
  else if a = 0x1C then
    some (d.shown Reg.SYS_EXPERT.IDLE_LEFT
      (if d.flag Reg.SYS_EXPERT.UNLOCKED then (1800000000000 - (d.sched.st - d.host.expertAt)) / 1000000000 else 0))
  else if a = 0x20020 then
    some (BitVec.ofNat 32 (maskOf ([0, 1, 2, 3].filter d.vecPending) + 16 * bit (d.pinAsserted 0) + 32 * bit (d.pinAsserted 1)))
  else if a = 0x30004 then some (BitVec.ofNat 32 (ms % 65536 + 65536 * (ms % 10) + 1048576 * (ms / 10 % 10)))
  else if a = 0xD0014 then some d.cwData
  else if a = 0x12000C then some (BitVec.ofNat 32 d.oph)
  else if a = 0x120010 then some (BitVec.ofNat 32 (d.oph / 4294967296))
  else if a = 0x120024 then
    if d.flag Reg.REC_STATUS.FROZEN then some (d.shown Reg.REC_FREEZE_STAT.ELAPSED d.frozenFor) else none
  else if a = 0x13001C then some (d.shown Reg.NAND_SCRUB.AGE d.scrubDays)
  else if a = 0x170004 then some (d.paramShown.extractLsb' 0 32)
  else if a = 0x170008 then some (d.paramShown.extractLsb' 32 32)
  else if a = 0x17000C then some d.paramInfo
  else none

/-- What a read of BAR0 returns at an address (R9, R11, R504): write-only fields, reserved bits and addresses without a
register read 0. -/
def Dev.hostWord (d : Dev) (a : Nat) : Word :=
  if !d.serves a then 0
  else match regRow a with
    | none => 0
    | some r =>
      let w := (d.liveWord a).getD (d.word a)
      r.fields.foldl (fun w f => if f.access == .wo then setBits w f.lo f.width 0 else w) w &&& r.known

/-- The registers that a read of a low word latches (R8, R211, R243). -/
def latchedBy (a : Nat) : List Nat :=
  if a = 0x90010 then [0x90014, 0x90018]
  else if a = 0xA0020 then [0xA0024, 0xA0028, 0xA002C, 0xA0030, 0xA0034, 0xA0038, 0xA003C]
  else if [0x4, 0x90008, 0x90014, 0xA0024, 0xA002C, 0xA0040, 0xA0048, 0x12000C, 0x170004].contains a then [a + 4]
  else if (arrayAt a 0x151000 16 4).isSome then [a + 4]
  else []

/-- A host read of a word of BAR0: a latched word is returned once; a low word latches its high word; fields of code RC clear (R8, R11). -/
def Dev.hostRead (d : Dev) (a : Nat) : Dev :=
  match lookup d.host.latched a with
  | some w => { d with host := { d.host with readOut := w, latched := d.host.latched.filter (fun e => e.1 != a) } }
  | none =>
    let w := d.hostWord a
    let l := latchedBy a
    let keep := d.host.latched.filter (fun e => !l.contains e.1)
    let d : Dev := { d with host := { d.host with readOut := w, latched := l.map (fun b => (b, d.hostWord b)) ++ keep } }
    if !d.serves a then d
    else if a = 0xD0014 then d.cwAdvance
    else match regRow a with
      | none => d
      | some r => r.fields.foldl (fun d f => if f.access == .rc then d.set ⟨a, f.lo, f.width⟩ 0 else d) d

/-- R8: host software reads the low word of a 64-bit value. -/
def execLatchedLowWordRead (t addr : Nat) (s : State) : Host.Outcome State Fault Refusal :=
  s.run fun d => (d.advance t).whenHost fun d => d.hostRead addr

/-- R11: host software reads a register with fields that a read clears. -/
def execReadClearRegisterRead (t addr : Nat) (s : State) : Host.Outcome State Fault Refusal :=
  s.run fun d => (d.advance t).whenHost fun d => d.hostRead addr

/-! ## BAR2 (R501) -/

/-- A region of BAR2. -/
inductive Region where
  | none | staging | acceptance | params | readOnly
deriving DecidableEq, Repr

/-- The region of an offset (R501). -/
def bar2Region (a : Nat) : Region :=
  if 0x03000000 ≤ a && a < 0x03900000 then .staging
  else if 0x03900000 ≤ a && a < 0x03900080 then .acceptance
  else if 0x03A00000 ≤ a && a < 0x03A0C300 then .params
  else if 0x03B00000 ≤ a && a < 0x03B40000 || 0x03C00000 ≤ a && a < 0x03E00000 || 0x03E00000 ≤ a && a < 0x03EC0000
    || 0x03F00000 ≤ a && a < 0x04000000 then .readOnly
  else .none

/-- The cause that keeps a byte from being written there, 0 when nothing does (R99, R501, R507). -/
def Dev.bar2Cause (d : Dev) (a : Nat) : Nat :=
  let fromHost : Bool := match d.img.racking with
    | some r => r.src == 6
    | none => false
  match bar2Region a with
  | .none => 7
  | .readOnly => if d.clk.phase = .halted then 7 else 1
  | .staging => if fromHost then 9 else 0
  | .acceptance => if d.img.submitted.isSome then 9 else 0
  | .params => if d.params.snapping then 9 else 0

/-- A host write into BAR2: the bytes that no region refuses are stored; at most one report (R501, R507). -/
def Dev.bar2HostWrite (d : Dev) (a : Nat) (bs : List Byte) (port : Nat) : Dev :=
  let l := (List.range bs.length).zip bs
  let causes := (l.map fun e => d.bar2Cause (a + e.1)).filter (· != 0)
  let n : Dev := l.foldl (fun n e => if d.bar2Cause (a + e.1) = 0 then n.bar2Write (a + e.1) [e.2] else n) d
  match causes with
  | [] => n
  | c :: l => n.reportWrite (l.foldl min c) port 1 a (l.any (· != c))

/-- R501: a write of bytes into BAR2 on port 0 (PCIe) or 1 (SPI). -/
def execBar2Write (t port addr : Nat) (bytes : List Byte) (s : State) : Host.Outcome State Fault Refusal :=
  s.run fun d => (d.advance t).whenHost fun d => d.bar2HostWrite addr bytes (port % 2)

/-- The areas of the 64 MB NOR (R88): directory copies, overlay copies, acceptance records, lamp-check results, the slots F, 1 to 4 and S,
and the ring of the compact recorder. -/
inductive NorArea where
  | dirA | dirB | overlayA | overlayB | records | results
  | slot (n : Nat)
  | ring
deriving DecidableEq, Repr

/-- The area that holds a NOR byte address, with the offset in it (R88); none outside the NOR. -/
def norArea (a : Nat) : Option (NorArea × Nat) :=
  if a < 0x00040000 then some (.dirA, a)
  else if a < 0x00080000 then some (.dirB, a - 0x00040000)
  else if a < 0x000C0000 then some (.overlayA, a - 0x00080000)
  else if a < 0x00100000 then some (.overlayB, a - 0x000C0000)
  else if a < 0x00180000 then some (.records, a - 0x00100000)
  else if a < 0x00200000 then some (.results, a - 0x00180000)
  else if a < 0x03800000 then some (.slot ((a - 0x00200000) / 0x00900000), (a - 0x00200000) % 0x00900000)
  else if a < 0x04000000 then some (.ring, a - 0x03800000)
  else none

/-- The 32 bytes of a sector's header, the CRC-32C over the header last (R443). -/
def NorSector.header (s : NorSector) : List Byte :=
  let h := (List.range 28).map fun i => (Config.norHeader s.epoch s.seq s.oph s.pcc).getD i 255
  h ++ leBytes 4 (crc32c h).toNat

/-- The bytes behind a sector's header: its records in order, and what cut ones left between them (R444). -/
def NorSector.body (s : NorSector) : List Byte :=
  (List.range (s.recs.length + 1)).flatMap fun i =>
    (s.torn.filter fun e => e.1 == i).flatMap (fun e => e.2) ++ ((s.recs[i]?).map Rec.bytes).getD []

/-- A byte of the NOR ring (R443, R447): header, records, and erased bytes behind them. -/
def Dev.norByte (d : Dev) (o : Nat) : Byte :=
  match d.recorder.nor.find? (fun s => s.seq % 128 == o / 65536) with
  | none => 255
  | some s =>
    let i := o % 65536
    if i < 32 then s.header.getD i 255 else s.body.getD (i - 32) 255

/-- A byte of the NOR (R88): what the area's contents spell, and erased bytes behind them. -/
def Dev.norRead (d : Dev) (a : Nat) : Byte :=
  let dirBytes (x : Option Directory) : List Byte := match x with
    | some c => c.bytes ++ leBytes 4 c.check.toNat
    | none => []
  let lampBytes (x : Option LampCopy) : List Byte := match x with
    | some c => c.bytes ++ leBytes 4 c.check.toNat
    | none => []
  match norArea a with
  | none => 255
  | some (.dirA, o) => (dirBytes d.img.dirA).getD o 255
  | some (.dirB, o) => (dirBytes d.img.dirB).getD o 255
  | some (.overlayA, o) => d.params.copyA.getD o 255
  | some (.overlayB, o) => d.params.copyB.getD o 255
  | some (.records, o) => (d.img.records.flatMap fun r => r.raw).getD o 255
  | some (.results, o) => if o < 262144 then (lampBytes d.bist.resultsA).getD o 255 else (lampBytes d.bist.resultsB).getD (o - 262144) 255
  | some (.slot n, o) => match d.slotSet n with
    | some v => (Config.setBytes v).getD o 255
    | none => 255
  | some (.ring, o) => d.norByte o

/-- The recorder's window shows the NOR ring in place of copies (R447). -/
def Dev.ringMapped (d : Dev) : Bool := d.flag Reg.REC_WIN.EN && !d.flag Reg.REC_STATUS.PROFILE

/-- A byte that the host reads from BAR2 (R447, R501); outside the regions 0. -/
def Dev.bar2Read (d : Dev) (a : Nat) : Byte :=
  match bar2Region a with
  | .none => 0
  | .readOnly =>
    if d.clk.phase = .halted then 0
    else if 0x03F00000 ≤ a && d.ringMapped then d.norRead (0x03800000 + 1048576 * d.get Reg.REC_WIN.EIGHTH + (a - 0x03F00000))
    else d.host.bar2.read a
  | _ => d.host.bar2.read a

/-! ## The SPI port (R502) -/

/-- The bytes of an SPI write before its CRC. -/
def spiHead (command addr : Nat) (words : List Word) : List Byte :=
  leBytes 1 command ++ leBytes 4 addr ++ leBytes 1 (words.length - 1) ++ words.flatMap (fun w => leBytes 4 w.toNat)

/-- A transfer that the port can carry: 1 to 64 words. -/
def spiCount (n : Nat) : Bool := 1 ≤ n && n ≤ 64

/-- An SPI write whose CRC is `check` (R502): a wrong CRC drops it, with a count and no event. -/
def Dev.spiWrite (d : Dev) (command addr : Nat) (words : List Word) (check : Nat) (f : Dev → Dev) : Dev :=
  if !spiCount words.length then d
  else if (crc16 (spiHead command addr words)).toNat = check then f { d with host := { d.host with spiOk := true } }
  else ({ d with host := { d.host with spiOk := false, spiCrc := true } }).inc Reg.HOST_SPI.CRC_ERR

/-- The words of a BAR0 burst, one access each; a write that resets the device ends it (R502). -/
def Dev.spiBurst (d : Dev) (addr : Nat) (words : List Word) (x : WriteIn) : Dev :=
  ((List.range words.length).zip words).foldl (fun d e =>
    if d.host.spiOk then d.hostWrite (addr + 4 * e.1) e.2 1 x else d) d

/-- R502: SPI command 0x02; `check` is the CRC that came with it. -/
def execSpiWriteBar0 (t addr : Nat) (words : List Word) (check : Nat) (x : WriteIn) (s : State) : Host.Outcome State Fault Refusal :=
  s.run fun d => (d.advance t).whenHost fun d => d.spiWrite 0x02 addr words check fun d =>
    if addr % 4 = 0 then d.spiBurst addr words x
    else ({ d with host := { d.host with spiOk := false } }).reportWrite 10 1 0 addr false

/-- R502: SPI command 0x12. -/
def execSpiWriteBar2 (t addr : Nat) (words : List Word) (check : Nat) (s : State) : Host.Outcome State Fault Refusal :=
  s.run fun d => (d.advance t).whenHost fun d => d.spiWrite 0x12 addr words check fun d =>
    d.bar2HostWrite addr (words.flatMap fun w => leBytes 4 w.toNat) 1

/-- What the port returns: data, then their CRC (R502). -/
def Dev.spiReturn (d : Dev) (bs : List Byte) : Dev :=
  { d with host := { d.host with spiOut := bs ++ leBytes 2 (crc16 bs).toNat } }

/-- SPI command 0x03 (R502): each word is an access of its own; a misaligned address returns zeros. -/
def Dev.spiRead0 (d : Dev) (addr n : Nat) : Dev :=
  if addr % 4 != 0 then d.spiReturn (List.replicate (4 * n) 0)
  else
    let r : Dev × List Byte := (List.range n).foldl (fun r k =>
      let d : Dev := r.1.hostRead (addr + 4 * k)
      (d, r.2 ++ leBytes 4 d.host.readOut.toNat)) (d, [])
    r.1.spiReturn r.2

/-- R502: SPI command 0x03 for `n` words. -/
def execSpiReadBar0 (t addr n : Nat) (s : State) : Host.Outcome State Fault Refusal :=
  s.run fun d => (d.advance t).whenHost fun d => if spiCount n then d.spiRead0 addr n else d

/-- R502: SPI command 0x13 for `n` words. -/
def execSpiReadBar2 (t addr n : Nat) (s : State) : Host.Outcome State Fault Refusal :=
  s.run fun d => (d.advance t).whenHost fun d =>
    if spiCount n then d.spiReturn ((List.range (4 * n)).map fun k => d.bar2Read (addr + k)) else d

/-- The status byte of the port (R502). -/
def Dev.spiByte (d : Dev) : Nat :=
  bit d.host.spiOk + 2 * bit d.host.spiCrc + 4 * bit (d.clk.phase = .halted) + 8 * bit (d.flag Reg.SYS_MODE.STARTED)
    + 16 * bit (d.flag Reg.SYS_EXPERT.UNLOCKED)

/-- R502: SPI command 0x05; reading the status clears its bit 1. -/
def execSpiStatus (t : Nat) (s : State) : Host.Outcome State Fault Refusal :=
  s.run fun d => (d.advance t).whenHost fun d =>
    { d with host := { d.host with spiOut := leBytes 1 d.spiByte, spiCrc := false } }

/-! ## Links (R499, R500, R510, R511) -/

/-- What the one PCIe function says of itself in its configuration space (R499). -/
structure PciIdentity where
  vendor : Nat
  device : Nat
  classCode : Nat
  revision : Nat
  subVendor : Nat
  subId : Nat
deriving DecidableEq, Repr

/-- The identity of the function (R499): its revision is the silicon stepping. -/
def Dev.pciIdentity (d : Dev) : PciIdentity := ⟨0x1F6A, 0x9600, 0x0880, d.get Reg.SYS_ID.STEPPING, 0x1F6A, 0x9600⟩

/-- The link, bus mastering or a mask changes so that vectors may send (R511): width and speed codes of HOST_STATUS, Bus Master Enable, and
the mask bit of each vector. -/
def Dev.sendEnable (d : Dev) (width speed : Nat) (master : Bool) (masks : Nat) : Dev :=
  let d : Dev := ((d.setB Reg.HOST_STATUS.LINK_UP true).set Reg.HOST_STATUS.WIDTH width).set Reg.HOST_STATUS.SPEED speed
  let d : Dev := d.setB Reg.HOST_STATUS.MASTER master
  ([0, 1, 2, 3].foldl (fun d v => d.setB (Reg.HOST_MSIX.CTRL.MASK v) (masks.testBit v)) d).resend

/-- R511: the link is in L0, and bus mastering and masks are as given. -/
def execMsixSendEnable (t width speed : Nat) (master : Bool) (masks : Nat) (s : State) : Host.Outcome State Fault Refusal :=
  s.run fun d => (d.advance t).whenHost fun d => d.sendEnable width speed master masks

/-- R511: the PCIe link leaves L0. -/
def execPcieLinkLoss (t : Nat) (s : State) : Host.Outcome State Fault Refusal :=
  s.run fun d => (d.advance t).whenHost fun d =>
    ((d.setB Reg.HOST_STATUS.LINK_UP false).set Reg.HOST_STATUS.WIDTH 0).set Reg.HOST_STATUS.SPEED 0

/-- R500: advanced error reporting logs an error. -/
def execPcieError (t : Nat) (uncorrectable : Bool) (s : State) : Host.Outcome State Fault Refusal :=
  s.run fun d => (d.advance t).whenHost fun d =>
    (d.inc (if uncorrectable then Reg.HOST_PCIE_ERR.UNCORR else Reg.HOST_PCIE_ERR.CORR)).raise 95 [0x150000, 0x150004]

/-- R510: the link state of an Ethernet port changes. -/
def execEthLinkChange (t port : Nat) (up : Bool) (s : State) : Host.Outcome State Fault Refusal :=
  s.run fun d => (d.advance t).whenUp fun d =>
    if port < 4 && d.bitAt Reg.NET_LINK.UP port != up then (d.setBitAt Reg.NET_LINK.UP port up).raise 94 [0x160000] else d

end Sys2Proof.Machine
end

