-- ==== Sys2Proof/Machine/Env.lean ====
section
/-! DEFINITION. Temperature and supplies: what is measured, warnings and operating conditions (R519, R520, R523, R537, R538), and what a thermal
trip and a loss of VIN do (R520, R524). -/
namespace Sys2Proof.Machine
open Sys2Proof

/-- Limits of a quantity: it is outside below `lo` or above `hi`, and inside again from `loBack` to `hiBack`. -/
structure Limits where
  lo : F64
  hi : F64
  loBack : F64
  hiBack : F64
deriving DecidableEq, Repr

/-- Limits with the 1 % of R523 inside them. -/
def withPercent (lo hi : F64) : Limits := ⟨lo, hi, lo.mul (.ofRatio 101 100), hi.mul (.ofRatio 99 100)⟩

/-- The range of R519 in mV, narrowed by 3 % for a warning (R523). -/
def warnRange (lo hi : Int) : Limits := withPercent (.ofRatio (103 * lo) 100000) (.ofRatio (97 * hi) 100000)

/-- The range of R519 in mV. -/
def fullRange (lo hi : Int) : Limits := withPercent (.ofRatio lo 1000) (.ofRatio hi 1000)

/-- Whether a condition holds, from whether it held before (R523). -/
def Limits.judge (l : Limits) (was : Bool) (x : F64) : Bool :=
  if was then !(l.loBack.le x && x.le l.hiBack) else x.lt l.lo || l.hi.lt x

/-- The temperature's warning: at or above SYS.TEMP_WARN, until 2 °C below it (R523). -/
def Dev.hot (d : Dev) (was : Bool) (x : F64) : Bool :=
  let w := d.paramF P.SYS.TEMP_WARN
  if was then !(x.le (w.sub (.ofInt 2))) else w.le x

/-- The range of a VIO bank in mV: a bank supplied at 3.3 V or at 1.8 V (R519). -/
def vioRange (high : Bool) : Int × Int := if high then (3135, 3465) else (1710, 1890)

/-- The conditions of R523 after a measurement, in the order of `ClkState.env`. -/
def Dev.envConditions (d : Dev) (x : EnvIn) : List (Bool × Bool) :=
  let was (i : Nat) : Bool × Bool := d.clk.env.getD i (false, false)
  let lid := F64.ofRatio x.lid 10
  let volts (n : Nat) : F64 := F64.ofRatio n 1000
  let vin := volts x.vin
  let vaon := volts x.vaon
  let bank (i : Nat) : Bool × Bool :=
    let r := vioRange (i = 2 || x.high.getD i false)
    let v := volts (x.vio.getD i 0)
    ((warnRange r.1 r.2).judge (was (3 + i)).1 v, (fullRange r.1 r.2).judge (was (3 + i)).2 v)
  [ (d.hot (was 0).1 lid, (Limits.mk (.ofInt (-40)) (.ofInt 100) (.ofInt (-38)) (.ofInt 98)).judge (was 0).2 lid),
    ((withPercent (d.paramF P.SYS.VIN_WARN_LO) (d.paramF P.SYS.VIN_WARN_HI)).judge (was 1).1 vin, (fullRange 9000 36000).judge (was 1).2 vin),
    ((warnRange 2700 3600).judge (was 2).1 vaon, (fullRange 2700 3600).judge (was 2).2 vaon),
    bank 0, bank 1, bank 2 ]

/-- The measured values in their registers (R537). -/
def Dev.showEnv (d : Dev) (x : EnvIn) : Dev :=
  let d : Dev := (d.setInt Reg.SYS_ENV_TEMP.CASE x.lid).setInt Reg.SYS_ENV_TEMP.DIE x.die
  let d : Dev := (d.set Reg.SYS_ENV_VIN.VIN (min 65535 x.vin)).set Reg.SYS_ENV_VIN.VAON (min 65535 x.vaon)
  let v (i : Nat) : Nat := min 1023 ((x.vio.getD i 0 + 5) / 10)
  ((d.set Reg.SYS_ENV_VIO.VIO_A (v 0)).set Reg.SYS_ENV_VIO.VIO_B (v 1)).set Reg.SYS_ENV_VIO.VIO_C (v 2)

/-- The conditions in SYS_ENV_STAT (R537); the bits of the VIO banks tell of any of them. -/
def Dev.showConditions (d : Dev) : Dev :=
  let c (i : Nat) : Bool × Bool := d.clk.env.getD i (false, false)
  let d : Dev := (d.setB Reg.SYS_ENV_STAT.TEMP_WARN (c 0).1).setB Reg.SYS_ENV_STAT.TEMP_OOR (c 0).2
  let d : Dev := (d.setB Reg.SYS_ENV_STAT.VIN_WARN (c 1).1).setB Reg.SYS_ENV_STAT.VIN_OOR (c 1).2
  let d : Dev := d.setB Reg.SYS_ENV_STAT.VAON_WARN (c 2).1
  (d.setB Reg.SYS_ENV_STAT.VIO_WARN ((c 3).1 || (c 4).1 || (c 5).1)).setB Reg.SYS_ENV_STAT.VIO_OOR ((c 3).2 || (c 4).2 || (c 5).2)

/-- The canary's Environment input (R394): it ends when everything has been back inside for 10 s. -/
def Dev.envCanary (d : Dev) (out : Bool) : Dev :=
  let now := d.sched.st
  if out then { d with red := { d.red with envFault := true, envOk := none } }
  else if !d.red.envFault then d
  else match d.red.envOk with
    | none => { d with red := { d.red with envOk := some now } }
    | some t => if t + 10000000000 ≤ now then { d with red := { d.red with envFault := false, envOk := none } } else d

/-- One measurement (R523): values, conditions, E13 or E14 for each quantity that enters one, condition 5 of R65, and the canary. -/
def Dev.measureEnv (d : Dev) (x : EnvIn) : Dev :=
  let was := d.clk.env
  let now := d.envConditions x
  let entered (i : Nat) : Bool :=
    let a := was.getD i (false, false)
    let b := now.getD i (false, false)
    (b.1 && !a.1) || (b.2 && !a.2)
  let out := now.any (fun c => c.2)
  let d : Dev := (({ d with clk := { d.clk with env := now } }).showEnv x).showConditions
  let d : Dev := (List.range 6).foldl (fun d i =>
    if !entered i then d
    else if i = 0 then (d.setB Reg.SYS_ENV_STAT.TEMP_STICKY true).raiseSub 13 0 [0x50, 0x5C]
    else (d.setB Reg.SYS_ENV_STAT.SUPPLY_STICKY true).raiseSub 14 i [0x54, 0x58, 0x5C]) d
  let d : Dev := if out then d.uncover 4 else d.recoverCondition 4
  (d.envCanary out).judgeVerdict

/-- R523: the measurement of every 10 ms. -/
def execEnvMeasure (t : Nat) (x : EnvIn) (s : State) : Host.Outcome State Fault Refusal :=
  s.run fun d => (d.advance t).whenUp fun d => d.measureEnv x

/-- R524: a die sensor reaches 125 °C: SOLV, FAB and CORE lose power; a lamp check that runs is abandoned. -/
def execThermalTrip (t : Nat) (s : State) : Host.Outcome State Fault Refusal :=
  s.run fun d => (d.advance t).whenHost fun d => d.down .tripped

/-- R524: every die sensor has fallen below 115 °C: the start of cause 5. -/
def execThermalTripRelease (inp : StartIn) (s : State) : Host.Outcome State Fault Refusal :=
  s.run fun d =>
    if d.clk.phase = .tripped then (d.start 5 2 false inp).setB Reg.SYS_ENV_STAT.TRIP_LAST true else d

/-- R520: VIN has been below 8.5 V for 10 µs. -/
def execVinBrownout (t : Nat) (s : State) : Host.Outcome State Fault Refusal :=
  s.run fun d =>
    let d : Dev := (d.advance t).setVin false
    let d : Dev := { d with clk := { d.clk with vinLost := true } }
    match d.clk.phase with
    | .aonLost | .resetHeld => d
    | _ => d.down .off

end Sys2Proof.Machine
end

