-- ==== Sys2Proof/Machine/Dispatch.lean ====
section
/-! DEFINITION. The dispatch: one arm for each command, each a direct call of that command's meaning. -/
namespace Sys2Proof.Machine
open Sys2Proof

/-- The effect of a command on everything but the queue. -/
def exec (i : Instr) (s : State) : Host.Outcome State Fault Refusal :=
  match i with
  | .minorFrameBoundary t ins levels back stall => Sys2Proof.Machine.execMinorFrameBoundary t ins levels back stall s
  | .majorFrameBoundary t strap sofs => Sys2Proof.Machine.execMajorFrameBoundary t strap sofs s
  | .hyperframeBoundary t ddr sram => Sys2Proof.Machine.execHyperframeBoundary t ddr sram s
  | .taskFence t task inFact waited done rel fence alarms => Sys2Proof.Machine.execTaskFence t task inFact waited done rel fence alarms s
  | .operationIdForceRetire t op => Sys2Proof.Machine.execOperationIdForceRetire t op s
  | .scheduleStart t => Sys2Proof.Machine.execScheduleStart t s
  | .modeRequestSubmit t target coupled trackTarget follow seq port => Sys2Proof.Machine.execModeRequestSubmit t target coupled trackTarget follow seq port s
  | .standbyReached t => Sys2Proof.Machine.execStandbyReached t s
  | .excursionMonitor t fault => Sys2Proof.Machine.execExcursionMonitor t fault s
  | .arrestAllocation t fault => Sys2Proof.Machine.execArrestAllocation t fault s
  | .arrestFrameBuild t fault sofs => Sys2Proof.Machine.execArrestFrameBuild t fault sofs s
  | .thrusterLoopRun t channel fault => Sys2Proof.Machine.execThrusterLoopRun t channel fault s
  | .analogueOutputWrite t n fault back => Sys2Proof.Machine.execAnalogueOutputWrite t n fault back s
  | .coruzHeartbeatSend t fault => Sys2Proof.Machine.execCoruzHeartbeatSend t fault s
  | .fusionUpdate t rel fault => Sys2Proof.Machine.execFusionUpdate t rel fault s
  | .positionPidRun t channel fault => Sys2Proof.Machine.execPositionPidRun t channel fault s
  | .fallbackAllocation t fault => Sys2Proof.Machine.execFallbackAllocation t fault s
  | .solverPress t task fault => Sys2Proof.Machine.execSolverPress t task fault s
  | .solverIteration t task sram fault => Sys2Proof.Machine.execSolverIteration t task sram fault s
  | .allocationSelectAndSeal t fault => Sys2Proof.Machine.execAllocationSelectAndSeal t fault s
  | .thrustCommandBuild t thr fault sofs => Sys2Proof.Machine.execThrustCommandBuild t thr fault sofs s
  | .jointCommandSend t fault sofs => Sys2Proof.Machine.execJointCommandSend t fault sofs s
  | .stateMirrorCapture t fault => Sys2Proof.Machine.execStateMirrorCapture t fault s
  | .capabilityMargins t fault => Sys2Proof.Machine.execCapabilityMargins t fault s
  | .backgroundTableScan t wrong => Sys2Proof.Machine.execBackgroundTableScan t wrong s
  | .safetyEvaluation t bad => Sys2Proof.Machine.execSafetyEvaluation t bad s
  | .schedHwmClr t => Sys2Proof.Machine.execSchedHwmClr t s
  | .schedXinjGo t task port => Sys2Proof.Machine.execSchedXinjGo t task port s
  | .scanJobStart t unit space port => Sys2Proof.Machine.execScanJobStart t unit space port s
  | .scanJobComplete t mem => Sys2Proof.Machine.execScanJobComplete t mem s
  | .lineageLookup t resource op nth port => Sys2Proof.Machine.execLineageLookup t resource op nth port s
  | .serialSentenceReceived t port tArr chars bad fill => Sys2Proof.Machine.execSerialSentenceReceived t port tArr chars bad fill s
  | .serialBinaryFrameReceived t port tArr bytes bad fill => Sys2Proof.Machine.execSerialBinaryFrameReceived t port tArr bytes bad fill s
  | .serialFifoOverflow t b => Sys2Proof.Machine.execSerialFifoOverflow t b s
  | .netDatagramReceived t port ingress m => Sys2Proof.Machine.execNetDatagramReceived t port ingress m s
  | .canFrameReceived t c f full => Sys2Proof.Machine.execCanFrameReceived t c f full s
  | .slotTimeout t slot => Sys2Proof.Machine.execSlotTimeout t slot s
  | .afeSettlingEnd t n => Sys2Proof.Machine.execAfeSettlingEnd t n s
  | .pulseEdge t p high hold => Sys2Proof.Machine.execPulseEdge t p high hold s
  | .gnssEpoch o => Sys2Proof.Machine.execGnssEpoch o s
  | .gnssEpochDrop t output => Sys2Proof.Machine.execGnssEpochDrop t output s
  | .antBiasMeasure t a b => Sys2Proof.Machine.execAntBiasMeasure t a b s
  | .antBiasRetry t ant => Sys2Proof.Machine.execAntBiasRetry t ant s
  | .antRetry t => Sys2Proof.Machine.execAntRetry t s
  | .acquisitionComplete t first second => Sys2Proof.Machine.execAcquisitionComplete t first second s
  | .rtcmFrameReceived t source udpPort frame => Sys2Proof.Machine.execRtcmFrameReceived t source udpPort frame s
  | .gnssCorrFifoWrite t w port => Sys2Proof.Machine.execGnssCorrFifoWrite t w port s
  | .correctionAgeExpiry t rest => Sys2Proof.Machine.execCorrectionAgeExpiry t rest s
  | .interferenceTimer t jamL1 jamL5 => Sys2Proof.Machine.execInterferenceTimer t jamL1 jamL5 s
  | .spoofAck t port => Sys2Proof.Machine.execSpoofAck t port s
  | .coldRestart t port => Sys2Proof.Machine.execColdRestart t port s
  | .gnssDormantBurst seconds position distance oldest valid inp => Sys2Proof.Machine.execGnssDormantBurst seconds position distance oldest valid inp s
  | .ephemerisRenewalComplete seconds renewed => Sys2Proof.Machine.execEphemerisRenewalComplete seconds renewed s
  | .timeSourceQualified t source m => Sys2Proof.Machine.execTimeSourceQualified t source m s
  | .timeSourceLost t source => Sys2Proof.Machine.execTimeSourceLost t source s
  | .timeStepApply t => Sys2Proof.Machine.execTimeStepApply t s
  | .ppsEdge t => Sys2Proof.Machine.execPpsEdge t s
  | .leapSecondApply t => Sys2Proof.Machine.execLeapSecondApply t s
  | .timeSet t port => Sys2Proof.Machine.execTimeSet t port s
  | .ptpMessageReceived t m => Sys2Proof.Machine.execPtpMessageReceived t m s
  | .ptpSyncTransmit t port dom announce stamp => Sys2Proof.Machine.execPtpSyncTransmit t port dom announce stamp s
  | .launchFrameAtHead t port queue launch busy => Sys2Proof.Machine.execLaunchFrameAtHead t port queue launch busy s
  | .launchTimeReached t port queue busy => Sys2Proof.Machine.execLaunchTimeReached t port queue busy s
  | .filterReset t port => Sys2Proof.Machine.execFilterReset t port s
  | .originSet t port => Sys2Proof.Machine.execOriginSet t port s
  | .anchorSet t slot => Sys2Proof.Machine.execAnchorSet t slot s
  | .drLimitExpired t => Sys2Proof.Machine.execDrLimitExpired t s
  | .convergenceTimer t => Sys2Proof.Machine.execConvergenceTimer t s
  | .readmitTimeExpiry t slot => Sys2Proof.Machine.execReadmitTimeExpiry t slot s
  | .suspectMaxExpiry t slot => Sys2Proof.Machine.execSuspectMaxExpiry t slot s
  | .attitudeDisagreeTimer t => Sys2Proof.Machine.execAttitudeDisagreeTimer t s
  | .trackCoastTimer t object => Sys2Proof.Machine.execTrackCoastTimer t object s
  | .arrestClr t => Sys2Proof.Machine.execArrestClr t s
  | .coupleResumeTimer t => Sys2Proof.Machine.execCoupleResumeTimer t s
  | .wsDiscard t port => Sys2Proof.Machine.execWsDiscard t port s
  | .biquadOpen t channel on port => Sys2Proof.Machine.execBiquadOpen t channel on port s
  | .pidOpen t channel on port => Sys2Proof.Machine.execPidOpen t channel on port s
  | .coefficientWrite t w port => Sys2Proof.Machine.execCoefficientWrite t w port s
  | .coefficientRead t => Sys2Proof.Machine.execCoefficientRead t s
  | .bankValidate t => Sys2Proof.Machine.execBankValidate t s
  | .bankRequest t pid channel bank lenM1 => Sys2Proof.Machine.execBankRequest t pid channel bank lenM1 s
  | .pathCommit t count hdgMode clear => Sys2Proof.Machine.execPathCommit t count hdgMode clear s
  | .pathClear t => Sys2Proof.Machine.execPathClear t s
  | .traceArm t u => Sys2Proof.Machine.execTraceArm t u s
  | .traceForce t u => Sys2Proof.Machine.execTraceForce t u s
  | .traceStop t u => Sys2Proof.Machine.execTraceStop t u s
  | .canTxComplete t f => Sys2Proof.Machine.execCanTxComplete t f s
  | .canTxError t f code inc dataPhase => Sys2Proof.Machine.execCanTxError t f code inc dataPhase s
  | .canRecover t c => Sys2Proof.Machine.execCanRecover t c s
  | .canBusoffRecoveryComplete t c => Sys2Proof.Machine.execCanBusoffRecoveryComplete t c s
  | .canListen t c on port => Sys2Proof.Machine.execCanListen t c on port s
  | .hostTxGo t port c buf dlc => Sys2Proof.Machine.execHostTxGo t port c buf dlc s
  | .hostTxCancel t c buf sofs => Sys2Proof.Machine.execHostTxCancel t c buf sofs s
  | .canWake t c dominant frame inp => Sys2Proof.Machine.execCanWake t c dominant frame inp s
  | .feedbackTimeout t thr => Sys2Proof.Machine.execFeedbackTimeout t thr s
  | .coruzFrameReceived t l bs => Sys2Proof.Machine.execCoruzFrameReceived t l bs s
  | .coruzLinkTimeout t l => Sys2Proof.Machine.execCoruzLinkTimeout t l s
  | .coruzBlockLockLoss t l => Sys2Proof.Machine.execCoruzBlockLockLoss t l s
  | .shadowRepeatComplete t done => Sys2Proof.Machine.execShadowRepeatComplete t done s
  | .canaryForcingReport t cond sram addr sofs => Sys2Proof.Machine.execCanaryForcingReport t cond sram addr sofs s
  | .claimWaitExpiry t => Sys2Proof.Machine.execClaimWaitExpiry t s
  | .echoWindowExpiry t => Sys2Proof.Machine.execEchoWindowExpiry t s
  | .revertDwellComplete t => Sys2Proof.Machine.execRevertDwellComplete t s
  | .revertEchoTimeout t => Sys2Proof.Machine.execRevertEchoTimeout t s
  | .drillGo t port => Sys2Proof.Machine.execDrillGo t port s
  | .drillEnd t => Sys2Proof.Machine.execDrillEnd t s
  | .drillAbort t => Sys2Proof.Machine.execDrillAbort t s
  | .drillDue t => Sys2Proof.Machine.execDrillDue t s
  | .safeInputChange t n chB level => Sys2Proof.Machine.execSafeInputChange t n chB level s
  | .safeInputDiscrepancy t n => Sys2Proof.Machine.execSafeInputDiscrepancy t n s
  | .stopAutoreset t => Sys2Proof.Machine.execStopAutoreset t s
  | .inhReset t port => Sys2Proof.Machine.execInhReset t port s
  | .outReset t port pass => Sys2Proof.Machine.execOutReset t port pass s
  | .loadtest t port => Sys2Proof.Machine.execLoadtest t port s
  | .instSel t sel port => Sys2Proof.Machine.execInstSel t sel port s
  | .safeOutTestPulse t n chB low high => Sys2Proof.Machine.execSafeOutTestPulse t n chB low high s
  | .safetyWatchdog t => Sys2Proof.Machine.execSafetyWatchdog t s
  | .sealSwitchRead t p q => Sys2Proof.Machine.execSealSwitchRead t p q s
  | .safeEscalation t f => Sys2Proof.Machine.execSafeEscalation t f s
  | .testDeferFault t n => Sys2Proof.Machine.execTestDeferFault t n s
  | .recordDrain t n => Sys2Proof.Machine.execRecordDrain t n s
  | .nandBatchClose t => Sys2Proof.Machine.execNandBatchClose t s
  | .hoursCheckpoint t => Sys2Proof.Machine.execHoursCheckpoint t s
  | .recordReadGo t port => Sys2Proof.Machine.execRecordReadGo t port s
  | .recordReadComplete t reads => Sys2Proof.Machine.execRecordReadComplete t reads s
  | .freeze t port => Sys2Proof.Machine.execFreeze t port s
  | .thaw t => Sys2Proof.Machine.execThaw t s
  | .freezeTimeout t => Sys2Proof.Machine.execFreezeTimeout t s
  | .clearChallenge t => Sys2Proof.Machine.execClearChallenge t s
  | .clearSubmit t replace port => Sys2Proof.Machine.execClearSubmit t replace port s
  | .clearCommit t => Sys2Proof.Machine.execClearCommit t s
  | .clearKeyEnrol t port => Sys2Proof.Machine.execClearKeyEnrol t port s
  | .nandFormat t port marks => Sys2Proof.Machine.execNandFormat t port marks s
  | .scrubNow t port => Sys2Proof.Machine.execScrubNow t port s
  | .scrubPassStart t => Sys2Proof.Machine.execScrubPassStart t s
  | .scrubPassComplete t reads => Sys2Proof.Machine.execScrubPassComplete t reads s
  | .blockRelocationComplete t fail => Sys2Proof.Machine.execBlockRelocationComplete t fail s
  | .staticWearLevelling t => Sys2Proof.Machine.execStaticWearLevelling t s
  | .rackingGo t target src activate port => Sys2Proof.Machine.execRackingGo t target src activate port s
  | .rackingStepComplete t fail => Sys2Proof.Machine.execRackingStepComplete t fail s
  | .acceptanceSubmit t port => Sys2Proof.Machine.execAcceptanceSubmit t port s
  | .acckeyEnrol t slot port => Sys2Proof.Machine.execAcckeyEnrol t slot port s
  | .acckeyRevoke t slot port => Sys2Proof.Machine.execAcckeyRevoke t slot port s
  | .knownGoodDwell t => Sys2Proof.Machine.execKnownGoodDwell t s
  | .paramDataWrite t lo port => Sys2Proof.Machine.execParamDataWrite t lo port s
  | .paramCommitAll t port => Sys2Proof.Machine.execParamCommitAll t port s
  | .paramCommitIndex t index port => Sys2Proof.Machine.execParamCommitIndex t index port s
  | .paramClearMaskBit t index port => Sys2Proof.Machine.execParamClearMaskBit t index port s
  | .paramClearAllMask t port => Sys2Proof.Machine.execParamClearAllMask t port s
  | .paramCommitComplete t fail => Sys2Proof.Machine.execParamCommitComplete t fail s
  | .paramBulkSnap t port => Sys2Proof.Machine.execParamBulkSnap t port s
  | .paramBulkSnapComplete t => Sys2Proof.Machine.execParamBulkSnapComplete t s
  | .paramBulkApply t port => Sys2Proof.Machine.execParamBulkApply t port s
  | .refLoss t ref => Sys2Proof.Machine.execRefLoss t ref s
  | .refQualified t ref ofs => Sys2Proof.Machine.execRefQualified t ref ofs s
  | .pllUnlock t => Sys2Proof.Machine.execPllUnlock t s
  | .pllRelockAttempt t ok => Sys2Proof.Machine.execPllRelockAttempt t ok s
  | .domainPowerFail t domain coreKept inp => Sys2Proof.Machine.execDomainPowerFail t domain coreKept inp s
  | .powerOn inp => Sys2Proof.Machine.execPowerOn inp s
  | .vaonLoss t => Sys2Proof.Machine.execVaonLoss t s
  | .resetNAssert t => Sys2Proof.Machine.execResetNAssert t s
  | .deviceReset t w port inp => Sys2Proof.Machine.execDeviceReset t w port inp s
  | .watchdogPrewarn t => Sys2Proof.Machine.execWatchdogPrewarn t s
  | .watchdogReset t inp => Sys2Proof.Machine.execWatchdogReset t inp s
  | .wakeNAssert t inp => Sys2Proof.Machine.execWakeNAssert t inp s
  | .spiWake t inp => Sys2Proof.Machine.execSpiWake t inp s
  | .wakeTimerExpiry t inp => Sys2Proof.Machine.execWakeTimerExpiry t inp s
  | .xpulseBurst t count spacing lens port => Sys2Proof.Machine.execXpulseBurst t count spacing lens port s
  | .forceRefSwitch t port => Sys2Proof.Machine.execForceRefSwitch t port s
  | .shutdownRequest t w port sofs => Sys2Proof.Machine.execShutdownRequest t w port sofs s
  | .shutdownPin t sofs => Sys2Proof.Machine.execShutdownPin t sofs s
  | .lampCheckComplete t x inp => Sys2Proof.Machine.execLampCheckComplete t x inp s
  | .recoverRung1 t port => Sys2Proof.Machine.execRecoverRung1 t port s
  | .recoverBlockReset t block port => Sys2Proof.Machine.execRecoverBlockReset t block port s
  | .recoverDeviceReset t key port inp => Sys2Proof.Machine.execRecoverDeviceReset t key port inp s
  | .recoverPowerCycle t key n port => Sys2Proof.Machine.execRecoverPowerCycle t key n port s
  | .cycleWaitExpiry t inp => Sys2Proof.Machine.execCycleWaitExpiry t inp s
  | .recoverAck t => Sys2Proof.Machine.execRecoverAck t s
  | .scanEnable t port => Sys2Proof.Machine.execScanEnable t port s
  | .expertKeyWrite t w port => Sys2Proof.Machine.execExpertKeyWrite t w port s
  | .expertIdleLapse t => Sys2Proof.Machine.execExpertIdleLapse t s
  | .bar0Malformed t => Sys2Proof.Machine.execBar0Malformed t s
  | .bar2Write t port addr bytes => Sys2Proof.Machine.execBar2Write t port addr bytes s
  | .spiWriteBar0 t addr words check x => Sys2Proof.Machine.execSpiWriteBar0 t addr words check x s
  | .spiReadBar0 t addr n => Sys2Proof.Machine.execSpiReadBar0 t addr n s
  | .spiWriteBar2 t addr words check => Sys2Proof.Machine.execSpiWriteBar2 t addr words check s
  | .spiReadBar2 t addr n => Sys2Proof.Machine.execSpiReadBar2 t addr n s
  | .spiStatus t => Sys2Proof.Machine.execSpiStatus t s
  | .evtStatusClear t b w => Sys2Proof.Machine.execEvtStatusClear t b w s
  | .evtForce t n port => Sys2Proof.Machine.execEvtForce t n port s
  | .msixSendEnable t width speed master masks => Sys2Proof.Machine.execMsixSendEnable t width speed master masks s
  | .pcieError t uncorrectable => Sys2Proof.Machine.execPcieError t uncorrectable s
  | .ethLinkChange t port up => Sys2Proof.Machine.execEthLinkChange t port up s
  | .envMeasure t x => Sys2Proof.Machine.execEnvMeasure t x s
  | .thermalTrip t => Sys2Proof.Machine.execThermalTrip t s
  | .vinBrownout t => Sys2Proof.Machine.execVinBrownout t s
  | .registerWrite t port addr w x => Sys2Proof.Machine.execRegisterWrite t port addr w x s
  | .latchedLowWordRead t addr => Sys2Proof.Machine.execLatchedLowWordRead t addr s
  | .readClearRegisterRead t addr => Sys2Proof.Machine.execReadClearRegisterRead t addr s
  | .canRxError t c code inc dataPhase => Sys2Proof.Machine.execCanRxError t c code inc dataPhase s
  | .loadTestComplete t => Sys2Proof.Machine.execLoadTestComplete t s
  | .acceptanceVerifyComplete t => Sys2Proof.Machine.execAcceptanceVerifyComplete t s
  | .thermalTripRelease inp => Sys2Proof.Machine.execThermalTripRelease inp s
  | .vaonRestore inp => Sys2Proof.Machine.execVaonRestore inp s
  | .resetNRelease inp => Sys2Proof.Machine.execResetNRelease inp s
  | .refDisqualify t ofs => Sys2Proof.Machine.execRefDisqualify t ofs s
  | .pcieLinkLoss t => Sys2Proof.Machine.execPcieLinkLoss t s

end Sys2Proof.Machine
end

