-- ==== Sys2Proof/Safety.lean ====
section
/-! DEFINITION. What statements call a sound state, and what no command may undo. -/
namespace Sys2Proof.Safety
open Sys2Proof Sys2Proof.Machine

/-- The state after a command that leaves the device at `d`: the queue as it was, and what no command may undo kept. -/
def after (s : State) (d : Dev) : State := { s with dev := s.dev.keep d }

/-- The register file and the memory behind BAR2 are in their canonical forms. -/
def canonical (s : State) : Bool := s.dev.regs.wf && s.dev.host.bar2.wf

/-- Slot F of the cellar holds the set `v` (R89). -/
def SlotF (v : VintageSet) (s : State) : Prop := s.dev.img.sets[0]? = some (some v)

/-- Key slot `i` holds the key `k` (R103). -/
def KeyHeld (i : Nat) (k : List Byte) (s : State) : Prop := s.dev.img.keys[i]? = some (some k)

/-- Key slot `i` is revoked (R103). -/
def Revoked (i : Nat) (s : State) : Prop := s.dev.img.revoked.testBit i = true

/-- The registers that telling of an event and writing a record may change (R335, R441, R449, R508, R511): status, EVT_LAST, the
pending vectors, the recorder's status, staging and losses, and the trace units' state. -/
def tellRegs : List Nat :=
  [0x20000, 0x20004, 0x20008, 0x20024, 0x20028, 0xD0000, 0x120000, 0x120018, 0x12001C, 0x120024, 0x151800]
    ++ (List.range 8).flatMap fun u => [0xD3014 + 0x40 * u, 0xD301C + 0x40 * u, 0xD3020 + 0x40 * u]

/-- `b` is `a` but for what its registers hold, and of those only the ones listed may differ. -/
def RegsOnly (l : List Nat) (a b : Dev) : Prop :=
  (∀ x, x ∉ l → b.word x = a.word x) ∧ b = { a with regs := b.regs }

/-- `a` with what telling of events and writing records may change taken from `b`: registers, staging, messages sent, trace units. -/
def graft (a b : Dev) : Dev := { a with
  regs := b.regs
  recorder := { a.recorder with
    lastSeq := b.recorder.lastSeq, first := b.recorder.first, staging := b.recorder.staging
    dropped := b.recorder.dropped, openBatch := b.recorder.openBatch, batchAt := b.recorder.batchAt, nor := b.recorder.nor }
  loop := { a.loop with trace := b.loop.trace, due := b.loop.due }
  host := { a.host with sent := b.host.sent, raised := b.host.raised } }

/-- `b` is `a` but for the registers listed and for what telling of events and writing records may change. -/
def ToldOnly (l : List Nat) (a b : Dev) : Prop :=
  (∀ x, x ∉ l → x ∉ tellRegs → b.word x = a.word x) ∧ b = graft a b

/-- The status bit of event `n` (R508). -/
def eventSet (n : Nat) (d : Dev) : Bool := d.bitAt (Reg.EVT_STATUS.STATUS (n / 32)) (n % 32)

/-- Where staging has room for it, a record of this type and body is created next, with the next SEQ (R435, R437, R441). -/
def Recorded (type : Nat) (body : List Byte) (a b : Dev) : Prop :=
  stagingBytes a.recorder.staging + 36 + body.length ≤ stagingSize →
    ∃ r l, b.recorder.openBatch ++ b.recorder.staging = a.recorder.openBatch ++ a.recorder.staging ++ r :: l ∧
      r.type = type ∧ r.body = body ∧ r.seq = a.recorder.lastSeq + 1

/-- A write is reported in HOST_WERR, its address register and its count, where none is held already (R507). -/
def Reported (cause port space addr : Nat) (a b : Dev) : Prop :=
  b.get Reg.HOST_WERR_CNT.COUNT = min 65535 (a.get Reg.HOST_WERR_CNT.COUNT + 1) ∧
  (a.flag Reg.HOST_WERR.WERR_VALID = false →
    b.get Reg.HOST_WERR.CAUSE = cause ∧ b.get Reg.HOST_WERR.PORT = port ∧ b.get Reg.HOST_WERR.SPACE = space ∧
    b.flag Reg.HOST_WERR.MULTI = false ∧ b.flag Reg.HOST_WERR.WERR_VALID = true ∧ b.get Reg.HOST_WERR_ADDR.ADDR = addr) ∧
  (a.flag Reg.HOST_WERR.WERR_VALID = true →
    b.word 0x150010 = a.word 0x150010 ∧ b.word 0x150014 = a.word 0x150014)

/-- The registers that a report of a write may change (R507). -/
def reportRegs : List Nat := [0x150010, 0x150014, 0x150018]

/-- A write of a parameter is refused with a code of PARAM_STATUS.ERR, and reported (R507, R539). -/
def ParamRefused (err port : Nat) (d e : Dev) : Prop :=
  e.get Reg.PARAM_STATUS.ERR = err ∧ Reported 8 port 0 0x170004 d e ∧ RegsOnly (0x170010 :: reportRegs) d e

end Sys2Proof.Safety
end

