-- ==== Sys2Proof/Certificates/Slice0/Obligations.lean ====
section
/-! DEFINITION. What the model is held to: statements for the provers, each from the rules of the manual that it cites. -/
open Sys2Proof Sys2Proof.Machine Sys2Proof.Safety

/-- A step takes the command at the front of the queue. Step of a state with command c at the front of its queue is exec of c on that state
with the queue's rest. On an empty queue the block idles (the model's choice, log 4). (R36, R505) -/
def Obligations.StepTakesFront : Prop :=
  (∀ (c : Instr) (s : State), step { s with pending := c :: s.pending } = exec c s) ∧
  (∀ (s : State), s.pending = [] → step s = .next s)

/-- Every command answers a next state and leaves the queue alone. For every command and state exec answers next, with the queue as it was:
what the manual refuses is reported in registers and never stops the block (the model's reading, log 12). (R507, R510) -/
def Obligations.EveryCommandAnswers : Prop :=
  ∀ (c : Instr) (s : State), ∃ d : Dev, exec c s = .next { s with dev := d }

/-- What reset leaves. At reset the queue is empty, the register file and the memory behind BAR2 are in canonical form, every register reads
its reset word of the register tables, and slot F holds the factory set that the model names (the model's choice, log 9; U and I
registers log 8). (R9, R89) -/
def Obligations.ResetState : Prop :=
  State.reset.pending = [] ∧ canonical State.reset = true ∧ SlotF VintageSet.made State.reset ∧
  (∀ a, State.reset.dev.word a = regReset a)

/-- No step changes slot F of the cellar. Whatever set slot F holds, it holds after every step from every state: the device never erases or
programs it. That it is so over every command is the model's reading of R89 (log 13). (R89) -/
def Obligations.FactorySlotKept : Prop :=
  ∀ (v : VintageSet) (s s' : State), SlotF v s → step s = .next s' → SlotF v s'

/-- No step changes a key slot that is written. A key slot that holds a key holds the same key after every step from every state: each slot
is written once (log 13). (R103) -/
def Obligations.EnrolledKeyKept : Prop :=
  ∀ (i : Nat) (k : List Byte) (s s' : State), KeyHeld i k s → step s = .next s' → KeyHeld i k s'

/-- No step undoes a revocation. A key slot that is revoked is revoked after every step from every state (log 13). (R103) -/
def Obligations.RevocationKept : Prop :=
  ∀ (i : Nat) (s s' : State), Revoked i s → step s = .next s' → Revoked i s'

/-- The pairs of a set and their ranges. A pair of components is in range exactly when each vintage lies in the inclusive range that the
other declares for its kind, and the pairs of a set are the six pairs of two different kinds. (R93) -/
def Obligations.PairsOfASet : Prop :=
  (∀ (v : VintageSet) (a b : Component) (i j : Nat) (ra rb : Word × Word), v.components[i]? = some a → v.components[j]? = some b →
    a.partners[j]? = some ra → b.partners[i]? = some rb →
    (v.inRange (i, j) = true ↔ (ra.1 ≤ b.vintage ∧ b.vintage ≤ ra.2) ∧ (rb.1 ≤ a.vintage ∧ a.vintage ≤ rb.2))) ∧
  (∀ (v : VintageSet), setPairs.all v.inRange = true ↔ ∀ i j, i < j → j < 4 → v.inRange (i, j) = true)

/-- The four check units. Units 0, 1 and 2 compute CRC-32C, CRC-32 of IEEE 802.3 and CRC-16 CCITT with the parameters given, and unit 3 is
programmable: width, polynomial, initial value, reflection and final XOR are read from its registers. (R129) -/
def Obligations.CheckUnits : Prop :=
  ∀ d : Dev,
    d.scanUnit 0 = ⟨32, 0x1EDC6F41, 0xFFFFFFFF, true, true, 0xFFFFFFFF⟩ ∧
    d.scanUnit 1 = ⟨32, 0x04C11DB7, 0xFFFFFFFF, true, true, 0xFFFFFFFF⟩ ∧
    d.scanUnit 2 = ⟨16, 0x1021, 0xFFFF, false, false, 0x0000⟩ ∧
    d.scanUnit 3 = ⟨d.get Reg.CHK_PROG_CFG.WIDTH, d.get Reg.CHK_PROG_POLY.POLY, d.get Reg.CHK_PROG_INIT.INIT, d.flag Reg.CHK_PROG_CFG.REFIN,
      d.flag Reg.CHK_PROG_CFG.REFOUT, d.get Reg.CHK_PROG_XOR.XOROUT⟩

/-- The check value of a tag. The check value is CRC-32C over the payload bytes in memory order and then tag bits [95:32] and [23:8], each
lowest byte first (layout of R24; that [95:32] comes first is the model's reading, log 121); the operation id and the flags are not
covered; its value over the ASCII string 123456789 is 0xE3069283. (R119, R24) -/
def Obligations.CheckValueOfATag : Prop :=
  crc ⟨32, 0x1EDC6F41, 0xFFFFFFFF, true, true, 0xFFFFFFFF⟩ [0x31, 0x32, 0x33, 0x34, 0x35, 0x36, 0x37, 0x38, 0x39] = 0xE3069283 ∧
  (∀ (p : Packet), p.calc = BitVec.ofNat 32 (crc ⟨32, 0x1EDC6F41, 0xFFFFFFFF, true, true, 0xFFFFFFFF⟩
    (p.payload.flatMap (fun w => leBytes 4 w.toNat) ++ leBytes 8 (p.tag.alive.toNat + 2 ^ 16 * p.tag.frame.toNat +
      2 ^ 32 * p.tag.tov.toNat) ++ leBytes 2 (p.tag.kind.toNat + 2 ^ 8 * p.tag.source.toNat)))) ∧
  (∀ (p : Packet) (g o : BitVec 8), Packet.calc { p with tag := { p.tag with flags := g, opId := o } } = p.calc)

/-- A seal is intact and counts. A sealed packet carries the check value of its contents, also with other flags and another operation id; it
carries the next alive value of its (source, kind) stream, that counter moves on by 1 modulo 65,536, and no other stream's counter
moves. The first value is the model's (log 10). (R119, R127) -/
def Obligations.SealIsIntact : Prop :=
  ∀ (d : Dev) (source kind op : Nat) (flags : BitVec 8) (lineage : Word) (tov : Int) (payload : List Word),
    (d.seal source kind op flags lineage tov payload).1.intact = true ∧
    (d.seal source kind op flags lineage tov payload).1.tag.alive.toNat = d.nextAlive source kind % 65536 ∧
    ((d.seal source kind op flags lineage tov payload).2.nextAlive source kind = (d.nextAlive source kind + 1) % 65536) ∧
    (∀ s k, (s, k) ≠ (source, kind) → (d.seal source kind op flags lineage tov payload).2.nextAlive s k = d.nextAlive s k) ∧
    (∀ g o, Packet.intact { (d.seal source kind op flags lineage tov payload).1 with
      tag := { (d.seal source kind op flags lineage tov payload).1.tag with flags := g, opId := o } } = true)

/-- A mode request is taken or reported. In every mode but M0 a write of SYS_MODEREQ with GO loads the request's fields and clears REASON,
ACCEPTED and REFUSED; while a request is pending the write is reported with cause 9 (log 24) and changes nothing else. Frame:
SYS_MODEREQ, or the report. (R36, R507) -/
def Obligations.ModeRequestWrite : Prop :=
  ∀ (s : State) (t target : Nat) (coupled track follow : Bool) (seq port : Nat) (d : Dev),
    d = s.dev.advance t → d.coreUp = true → d.mode ≠ 0 → d.host.causes = none → target < 8 → seq < 256 → port < 2 →
    ∃ e : Dev, exec (.modeRequestSubmit t target coupled track follow seq port) s = .next { s with dev := e } ∧
      (d.flag Reg.SYS_MODEREQ.GO = false →
        e.get Reg.SYS_MODEREQ.TARGET = target ∧ e.flag Reg.SYS_MODEREQ.COUPLED = coupled ∧
        e.flag Reg.SYS_MODEREQ.TRACK_TARGET = track ∧ e.flag Reg.SYS_MODEREQ.FOLLOW = follow ∧
        e.get Reg.SYS_MODEREQ.SEQ = seq ∧ e.get Reg.SYS_MODEREQ.REASON = 0 ∧
        e.flag Reg.SYS_MODEREQ.ACCEPTED = false ∧ e.flag Reg.SYS_MODEREQ.REFUSED = false ∧
        e.flag Reg.SYS_MODEREQ.GO = true ∧ RegsOnly [0x14] d e) ∧
      (d.flag Reg.SYS_MODEREQ.GO = true → Reported 9 port 0 0x14 d e ∧ RegsOnly reportRegs d e)

/-- HWM_CLR. HWM_CLR sets HWM to the current COUNT and leaves COUNT and everything else. (R83) -/
def Obligations.HighWaterMarkClear : Prop :=
  ∀ (s : State) (t : Nat) (d : Dev), d = s.dev.advance t → d.coreUp = true →
    ∃ e : Dev, exec (.schedHwmClr t) s = .next { s with dev := e } ∧
      e.get Reg.SCHED_INFLIGHT.HWM = d.get Reg.SCHED_INFLIGHT.COUNT ∧
      e.get Reg.SCHED_INFLIGHT.COUNT = d.get Reg.SCHED_INFLIGHT.COUNT ∧ RegsOnly [0x30008] d e

/-- A forced retirement. Force-retiring an operation id in flight whose retire-by time has come counts in FORCERET_CNT, sets FORCE_RET, sets
E2 with kind 1, takes the id out of flight, and discards the data held under it and nothing else held: the outputs, the checkpoints and
results of the solver, the plan's bounds, and for an id of the sensor entry the data of its slots and of the joints. Tasks released at
that very time take their inputs after it (the model's, log 128). Registers outside the ones named and the ones that tell of events keep
their words. The order of hits at one fence is the model's (log 106). (R73, R83, R508) -/
def Obligations.OperationIdForceRetired : Prop :=
  ∀ (s : State) (t op : Nat) (d : Dev) (mine : Packet → Bool), d = s.dev.advance t → d.coreUp = true →
    d.sched.inflight.any (fun x => x.1 = op && x.2 ≤ d.sched.st) = true → mine = (fun p => p.tag.opId.toNat == op) →
    ∃ e : Dev, exec (.operationIdForceRetire t op) s = .next { s with dev := e } ∧
      e.get Reg.SCHED_FORCERET_CNT.COUNT = min 65535 (d.get Reg.SCHED_FORCERET_CNT.COUNT + 1) ∧
      e.flag Reg.SCHED_STATUS.FORCE_RET = true ∧ e.get Reg.SCHED_FENCE_LAST.KIND = 1 ∧ eventSet 2 e = true ∧
      e.sched = { d.sched with
        inflight := d.sched.inflight.filter (fun x => x.1 != op)
        held := d.sched.held.filter (fun x => !mine x.2)
        prior := d.sched.prior.filter (fun x => !mine x.2)
        hyperHits := d.sched.hyperHits + 1
        hitsFault := e.sched.hitsFault } ∧
      e.entry = (if op ∈ d.image.entry.ops.flatMap (fun o => o.1) then { d.entry with
        slots := d.entry.slots.map (fun o => o.filter fun p => !mine p)
        fresh := d.entry.fresh.filter (fun x => !mine x.2) } else d.entry) ∧
      e.solv = { d.solv with slots := d.solv.slots.map fun u => { u with
        run := u.run.map fun r => { r with
          latest := r.latest.filter fun c => !mine c.pkt
          feasible := r.feasible.filter fun c => !mine c.pkt }
        out := u.out.map fun o => { o with pkt := o.pkt.filter fun p => !mine p } } } ∧
      (∀ keep : Option PlanSet → Option PlanSet,
        (keep = fun o => o.filter fun p => !(mine p.bounds || mine p.arrests || mine p.margins)) →
        e.alloc = { d.alloc with
          sealed := keep d.alloc.sealed, plan := keep d.alloc.plan, before := keep d.alloc.before
          jointData := if op ∈ d.image.entry.ops.flatMap (fun o => o.1) then
            d.alloc.jointData.map (fun l => l.filter fun p => !mine p) else d.alloc.jointData }) ∧
      e.shots = (Dev.resample { e with shots := d.shots }).shots ∧
      ToldOnly [0x30000, 0x30008, 0x30014, 0x30018, 0x3001C, 0x30020, 0x3010C + 0x10 * (d.holderOf op).1]
        { d with sched := e.sched, entry := e.entry, solv := e.solv, alloc := e.alloc, shots := e.shots } e

/-- The two keys of SYS_EXPERT. A write to SYS_EXPERT is a key word and writes no field. The first key is remembered with its port and
stamp, also when repeated; the second key from that port, stamped inside 1 ms from the first, sets UNLOCKED and PORT, raises E10 and
writes a record that holds SYS_EXPERT with the port; exactly at 1 ms or later, or with another word between, the sequence is over and
nothing else changes. A key on one port leaves the other port's sequence. (R505) -/
def Obligations.ExpertUnlock : Prop :=
  ∀ (s : State) (t port : Nat) (w : Word) (d k : Dev), d = s.dev.advance t → d.coreUp = true → port < 2 →
    k = { d with host := { d.host with keyAt := d.host.keyAt.filter (fun x => x.1 != port) } } →
    ∃ e : Dev, exec (.expertKeyWrite t w port) s = .next { s with dev := e } ∧
      (w = 0xB45C → e = { d with host := { d.host with keyAt := (port, d.sched.st) :: k.host.keyAt } }) ∧
      (w = 0 → e.host.keyAt = k.host.keyAt) ∧
      (∀ t1, w = 0xC31E → lookup d.host.keyAt port = some t1 → t1 ≤ d.sched.st → d.sched.st < t1 + 1000000 →
        e.flag Reg.SYS_EXPERT.UNLOCKED = true ∧ e.get Reg.SYS_EXPERT.PORT = port ∧ eventSet 10 e = true ∧
        (∃ sub, Recorded 0x01 (recordBody 10 0x00 sub [e.word 0x1C]) d e) ∧
        e.host.keyAt = k.host.keyAt ∧ e.host.expertAt = d.sched.st ∧
        ToldOnly [0x1C] { k with host := { k.host with expertAt := e.host.expertAt } } e) ∧
      (∀ t1, lookup d.host.keyAt port = some t1 → w ≠ 0 → w ≠ 0xB45C → (w ≠ 0xC31E ∨ t1 + 1000000 ≤ d.sched.st) → e = k) ∧
      (lookup d.host.keyAt port = none → w ≠ 0 → w ≠ 0xB45C → e = d)

/-- The unlock falls. A zero key locks; without an access for 30 minutes the unlock lapses, and before that the lapse command changes
nothing. (R506) -/
def Obligations.ExpertRelock : Prop :=
  ∀ (s : State) (t : Nat) (port : Nat) (d : Dev), d = s.dev.advance t → d.coreUp = true → port < 2 →
    (∃ e : Dev, exec (.expertKeyWrite t 0 port) s = .next { s with dev := e } ∧ e.flag Reg.SYS_EXPERT.UNLOCKED = false ∧
      ToldOnly [0x1C] { d with host := { d.host with keyAt := e.host.keyAt } } e) ∧
    (∃ e : Dev, exec (.expertIdleLapse t) s = .next { s with dev := e } ∧
      (d.host.expertAt + 1800000000000 ≤ d.sched.st → e.flag Reg.SYS_EXPERT.UNLOCKED = false ∧ ToldOnly [0x1C] d e) ∧
      (d.sched.st < d.host.expertAt + 1800000000000 → e = d))

/-- Signalling an event. Signalling event n sets its status bit and no other event's, and EVT_LAST and EVT_LAST_TS show n and the time, for
every event number below 96. (R508) -/
def Obligations.EventSignalled : Prop :=
  ∀ (d : Dev) (n : Nat), n < 96 →
    (∀ m < 96, eventSet m (d.signal n) = (decide (m = n) || eventSet m d)) ∧
    (d.signal n).get Reg.EVT_LAST.EVENT = n ∧ (d.signal n).get Reg.EVT_LAST_TS.TS = d.sched.st % 4294967296

/-- EVT_FORCE. While UNLOCKED, EVT_FORCE in M7 sets the event's status and records it with the forced mark (bit 15 of the subtype is the
model's, log 34); in another mode, for E31 and above 95 it is refused with cause 8 (log 24, 34). Owning blocks' registers keep their
words. (R512, R435, R506, R507) -/
def Obligations.EventForced : Prop :=
  ∀ (s : State) (t n port : Nat) (d : Dev), d = s.dev.advance t → d.coreUp = true → d.host.causes = none →
    d.flag Reg.SYS_EXPERT.UNLOCKED = true → n < 128 → port < 2 →
    ∃ e : Dev, exec (.evtForce t n port) s = .next { s with dev := e } ∧
      (d.mode = 7 → n < 96 → n ≠ 31 → eventSet n e = true ∧ Recorded (evtType n) (recordBody n (evtBlock n) 0x8000 []) d.opened e ∧
        ToldOnly [0x28000] d.opened e) ∧
      (d.mode ≠ 7 ∨ 96 ≤ n ∨ n = 31 → Reported 8 port 0 0x28000 d e ∧ RegsOnly (0x28000 :: reportRegs) d.opened e)

/-- Clearing events. A write of ones to EVT_STATUS clears exactly those events, but none that was raised in the same CLK_IO cycle of 10 ns
(cycles from schedule time 0: log 123); all else stays but the pending vectors and the count of messages. (R508, R511) -/
def Obligations.EventStatusCleared : Prop :=
  ∀ (s : State) (t b : Nat) (w : Word) (d : Dev), d = s.dev.advance t → d.coreUp = true → b < 3 →
    ∃ e : Dev, exec (.evtStatusClear t b w) s = .next { s with dev := e } ∧
      (∀ n < 96, eventSet n e = (eventSet n d && !(decide (n / 32 = b) && w.getLsbD (n % 32) && !d.host.raised.contains (n, d.ioCycle)))) ∧
      (∀ x, x ≠ 0x20000 + 4 * b → x ≠ 0x151800 → e.word x = d.word x) ∧
      e = { d with regs := e.regs, host := { d.host with sent := e.host.sent } }

/-- A pair of registers reads as one value. After a read of the low word, the read of the high word answers the value it had at the low
word's read, whatever time has passed. (R8) -/
def Obligations.LowWordLatchesHigh : Prop :=
  ∀ (s : State) (t t2 a : Nat) (d : Dev), d = s.dev.advance t → d.coreUp = true → a % 4 = 0 → latchedBy a = [a + 4] →
    lookup d.host.latched a = none →
    ∃ e : Dev, exec (.latchedLowWordRead t a) s = .next { s with dev := e } ∧
      e.host.readOut = d.hostWord a ∧
      ∃ f : Dev, exec (.latchedLowWordRead t2 (a + 4)) { s with dev := e } = .next { s with dev := f } ∧
        f.host.readOut = d.hostWord (a + 4)

/-- An address with no register. A read answers 0 where no latched word waits; a write changes nothing and is reported with cause 7. (R504,
R507) -/
def Obligations.UnmappedRegister : Prop :=
  ∀ (s : State) (t a port : Nat) (w : Word) (x : WriteIn) (d : Dev), d = s.dev.advance t →
    (d.coreUp || d.clk.phase = .halted) = true → d.host.causes = none → a % 4 = 0 → a < 2 ^ 32 → port < 2 → regRow a = none →
    (∃ e : Dev, exec (.readClearRegisterRead t a) s = .next { s with dev := e } ∧
      (lookup d.host.latched a = none → e.host.readOut = 0)) ∧
    (∃ e : Dev, exec (.registerWrite t port a w x) s = .next { s with dev := e } ∧ Reported 7 port 0 a d e ∧ RegsOnly reportRegs d e)

/-- Reserved bits read as 0. A bit of a register that no field covers reads as 0 in every state. (R9) -/
def Obligations.ReservedBitsReadZero : Prop :=
  ∀ (d : Dev) (a i : Nat) (r : RegRow), regRow a = some r → r.known.getLsbD i = false → (d.hostWord a).getLsbD i = false

/-- BAR2 stores bytes. A write into the staging region, with no racking running, stores its bytes at their addresses; every byte outside
reads as before and nothing else changes. (R501, R104) -/
def Obligations.Bar2StoresBytes : Prop :=
  ∀ (s : State) (t port a : Nat) (bs : List Byte) (d : Dev), d = s.dev.advance t →
    (d.coreUp || d.clk.phase = .halted) = true → d.host.causes = none → port < 2 →
    (∀ i < bs.length, bar2Region (a + i) = .staging) → d.img.racking = none →
    ∃ e : Dev, exec (.bar2Write t port a bs) s = .next { s with dev := e } ∧
      (∀ i (h : i < bs.length), e.host.bar2.read (a + i) = bs[i]) ∧
      (∀ b, b < a ∨ a + bs.length ≤ b → e.host.bar2.read b = d.host.bar2.read b) ∧
      e = { d with host := { d.host with bar2 := e.host.bar2 } }

/-- BAR2 regions that take no write. A write into a read-only region is reported with cause 1 and one into the unassigned region with cause
7; nothing else changes. (R501, R507) -/
def Obligations.Bar2ReadOnlyRegion : Prop :=
  ∀ (s : State) (t port a : Nat) (b : Byte) (d : Dev), d = s.dev.advance t → d.coreUp = true → d.host.causes = none → port < 2 →
    (bar2Region a = .readOnly → ∃ e : Dev, exec (.bar2Write t port a [b]) s = .next { s with dev := e } ∧
      Reported 1 port 1 a d e ∧ RegsOnly reportRegs d e) ∧
    (bar2Region a = .none → a < 2 ^ 32 → ∃ e : Dev, exec (.bar2Write t port a [b]) s = .next { s with dev := e } ∧
      Reported 7 port 1 a d e ∧ RegsOnly reportRegs d e)

/-- An SPI transfer with a wrong check. A write transfer of 1 to 64 words whose CRC is wrong is not carried out: CRC_ERR counts and stops at
65,535, the status tells of it (log 30), and nothing else changes. (R502) -/
def Obligations.SpiWrongCrc : Prop :=
  ∀ (s : State) (t a check : Nat) (words : List Word) (x : WriteIn) (d : Dev), d = s.dev.advance t →
    (d.coreUp || d.clk.phase = .halted) = true → 1 ≤ words.length → words.length ≤ 64 →
    ((crc16 (spiHead 0x02 a words)).toNat ≠ check → ∃ e : Dev,
      exec (.spiWriteBar0 t a words check x) s = .next { s with dev := e } ∧
      e.get Reg.HOST_SPI.CRC_ERR = min 65535 (d.get Reg.HOST_SPI.CRC_ERR + 1) ∧
      RegsOnly [0x150030] { d with host := { d.host with spiOk := false, spiCrc := true } } e) ∧
    ((crc16 (spiHead 0x12 a words)).toNat ≠ check → ∃ e : Dev,
      exec (.spiWriteBar2 t a words check) s = .next { s with dev := e } ∧
      e.get Reg.HOST_SPI.CRC_ERR = min 65535 (d.get Reg.HOST_SPI.CRC_ERR + 1) ∧
      RegsOnly [0x150030] { d with host := { d.host with spiOk := false, spiCrc := true } } e)

/-- TIME_SET. In M7 device time takes the value of the TIME_SET registers, DT_VALID sets, E42 is told, and the difference held of each
source that is here moves by the step (log 132); in another mode the write is reported with cause 8 (log 24) and device time stays.
(R197, R507) -/
def Obligations.TimeSetInM7 : Prop :=
  ∀ (s : State) (t port : Nat) (d : Dev), d = s.dev.advance t → d.coreUp = true → d.host.causes = none → port < 2 →
    ∃ e : Dev, exec (.timeSet t port) s = .next { s with dev := e } ∧
      (d.mode = 7 →
        e.dtQ = 4 * ((d.get Reg.TIME_SET_SEC.SEC : Int) * 1000000000 + d.get Reg.TIME_SET_NS.NS) ∧
        e.flag Reg.TIME_STATUS.DT_VALID = true ∧ eventSet 42 e = true ∧
        e.time.sources = d.time.sources.map (fun q => if q.here then { q with delta := q.delta - (e.time.offset - d.time.offset) } else q) ∧
        ToldOnly [0x90000] { d with time := { d.time with offset := e.time.offset, sources := e.time.sources } } e) ∧
      (d.mode ≠ 7 → Reported 8 port 0 0x90030 d e ∧ RegsOnly reportRegs d e)

/-- Schedule time and its capture. While CORE is up TS32 is schedule time in ns modulo 2^32 and reads the same as TIME_ST_LO; SYS_STHI and
TIME_ST_HI show bits [63:32] of schedule time; SYS_STHI and TS32 together give schedule time as 64 bits; SCHED_FRAME shows its
milliseconds modulo 65,536; and a TS32 capture less than 2^32 ns old extends to its schedule time by the three lines of the rule. (R194) -/
def Obligations.ScheduleTimeShown : Prop :=
  ∀ (d : Dev), d.coreUp = true →
    (d.hostWord 0x90008).toNat = d.sched.st % 2 ^ 32 ∧ (d.hostWord 0x9000C).toNat = d.sched.st / 2 ^ 32 % 2 ^ 32 ∧
    d.hostWord 0xC = d.hostWord 0x9000C ∧ d.ts32 = d.hostWord 0x90008 ∧
    (d.hostWord 0x30004).toNat % 2 ^ 16 = d.sched.st / 1000000 % 65536 ∧
    (∀ (now : Nat), now = (d.hostWord 0xC).toNat * 2 ^ 32 + d.ts32.toNat → now = d.sched.st % 2 ^ 64) ∧
    ∀ (c now : Nat), c ≤ now → now < c + 2 ^ 32 →
      now - (BitVec.ofNat 32 now - ts32Of c).toNat = c

/-- A runtime write of a parameter. A write to PARAM_DATA_LO is checked in the order of R539 and refused with ERR 1, 5, 3, 4 or 2 (2 outside
the range or the certified limits of the loaded vintage) and a report of cause 8 (log 24), or else waits with its time; it changes
nothing else. (R108, R117, R539, R507) -/
def Obligations.ParameterWriteWaits : Prop :=
  ∀ (s : State) (t port : Nat) (lo : Word) (d : Dev), d = s.dev.advance t → (d.coreUp || d.clk.phase = .halted) = true →
    d.host.causes = none → port < 2 →
    ∃ e : Dev, exec (.paramDataWrite t lo port) s = .next { s with dev := e } ∧
      (d.paramRow (d.get Reg.PARAM_INDEX.INDEX) = none → ParamRefused 1 port d e) ∧
      ∀ (i : Nat) (r : ParamRow) (q : Quad), i = d.get Reg.PARAM_INDEX.INDEX → d.paramRow i = some r →
        q = (if r.type = .fp64 then d.params.dataHi ++ lo else lo.setWidth 64) →
        (isSafeParam i = true → ParamRefused 5 port d e) ∧
        (isSafeParam i = false → r.expert = true → d.flag Reg.SYS_EXPERT.UNLOCKED = false → ParamRefused 3 port d e) ∧
        (isSafeParam i = false → (r.expert = true → d.flag Reg.SYS_EXPERT.UNLOCKED = true) →
          (r.type.bad q = true → ParamRefused 4 port d e) ∧
          (r.type.bad q = false → d.allows i r q = false → ParamRefused 2 port d e) ∧
          (r.type.bad q = false → d.allows i r q = true →
            e = { d with params := { d.params with waiting := d.params.waiting ++ [(d.sched.st, i, q)] } }))

/-- A bulk apply. A malformed area is refused with 6; else the first refused entry in index order decides ERR; with no entry refused every
entry waits. A refused apply leaves the parameters as they are. Doorbell bit 6 and E17 follow in every case (what is malformed: log 103;
the doorbell at once: log 104). (R117, R539, R517) -/
def Obligations.BulkApplyAllOrNothing : Prop :=
  ∀ (s : State) (t port : Nat) (d : Dev), d = s.dev.advance t → (d.coreUp || d.clk.phase = .halted) = true →
    d.host.causes = none → port < 2 →
    ∃ e : Dev, exec (.paramBulkApply t port) s = .next { s with dev := e } ∧
      (d.bulkEntries.any malformed = true → e.get Reg.PARAM_STATUS.ERR = 6 ∧ e.params = d.params) ∧
      (d.bulkEntries.any malformed = false → ∀ l x m, d.bulkEntries = l ++ x :: m → (∀ y ∈ l, d.paramError y.1 y.2 = 0) →
        d.paramError x.1 x.2 ≠ 0 → e.get Reg.PARAM_STATUS.ERR = d.paramError x.1 x.2 ∧ e.params = d.params) ∧
      (d.bulkEntries.any malformed = false → (∀ y ∈ d.bulkEntries, d.paramError y.1 y.2 = 0) →
        e.params = { d.params with waiting := d.params.waiting ++ d.bulkEntries.map fun y => (d.sched.st, y.1, y.2) }) ∧
      e.bitAt Reg.HOST_DB_OUT.DONE 6 = true ∧ eventSet 17 e = true ∧
      ToldOnly (0x150020 :: 0x170010 :: reportRegs) { d with params := e.params } e

/-- Parameters at a major-frame boundary. At a boundary the last value written for each index before it takes effect, a write stamped at the
boundary or later still waits, every other index keeps its runtime value, and the other layers stay. (R108) -/
def Obligations.ParameterTakesEffect : Prop :=
  ∀ (d : Dev),
    d.paramApply.params.waiting = d.params.waiting.filter (fun x => d.sched.st ≤ x.1) ∧
    (∀ i, lookup d.paramApply.params.runtime i
      = match (d.params.waiting.filter (fun x => decide (x.1 < d.sched.st) && x.2.1 == i)).getLast? with
        | some x => some x.2.2
        | none => lookup d.params.runtime i) ∧
    d.paramApply.params.overlay = d.params.overlay ∧ d.paramApply.params.factory = d.params.factory ∧
    d.paramApply.params.copyA = d.params.copyA ∧ d.paramApply.params.copyB = d.params.copyB

/-- Enrolling a key. While UNLOCKED in M7 an empty slot takes the key of the data registers and ENROLLED shows it; another mode or a written
slot is refused with cause 8 (log 24), and a write without the unlock is reported with cause 2. (R103, R116, R506, R507) -/
def Obligations.KeyEnrolment : Prop :=
  ∀ (s : State) (t slot port : Nat) (d : Dev), d = s.dev.advance t → (d.coreUp || d.clk.phase = .halted) = true →
    d.host.causes = none → port < 2 → slot < 4 →
    ∃ e : Dev, exec (.acckeyEnrol t slot port) s = .next { s with dev := e } ∧
      (d.flag Reg.SYS_EXPERT.UNLOCKED = true → d.mode = 7 → d.img.keys[slot]? = some none →
        e.img = { d.img with keys := setAt d.img.keys slot (some (bytesOf ((List.range 8).map fun i => d.word (0x48000 + 4 * i)))) } ∧
        KeyHeld slot (bytesOf ((List.range 8).map fun i => d.word (0x48000 + 4 * i))) { s with dev := e } ∧
        e.bitAt Reg.IMG_ACCKEY_CTRL.ENROLLED slot = true ∧
        (∀ x, x / 0x10000 ≠ 4 → e.word x = d.word x) ∧ e = { d.opened with regs := e.regs, img := e.img }) ∧
      (d.flag Reg.SYS_EXPERT.UNLOCKED = true → d.mode ≠ 7 ∨ (d.img.keys.getD slot none).isSome = true →
        Reported 8 port 0 0x48020 d e ∧ RegsOnly (0x48020 :: reportRegs) d.opened e) ∧
      (d.flag Reg.SYS_EXPERT.UNLOCKED = false → Reported 2 port 0 0x48020 d e ∧ RegsOnly reportRegs d e)

/-- Starting a scan job. A legal job starts with the fields of its registers and SCAN_BUSY; a job that breaks a limit of R130 is refused
with RESULT 3 (with doorbell bit 7, log 102); GO while a job runs is ignored with RESULT 1 and reported with cause 9 (log 24). (R130,
R132, R134, R507) -/
def Obligations.ScanJobStart : Prop :=
  ∀ (s : State) (t unit space port : Nat) (j : ScanJob) (d : Dev), d = s.dev.advance t → d.coreUp = true →
    d.host.causes = none → port < 2 → unit < 4 → space < 4 →
    j = ⟨unit, space, d.get Reg.CHK_SCAN_START.ADDR, d.get Reg.CHK_SCAN_LEN.LEN, d.get Reg.CHK_SCAN_STRIDE.STRIDE, d.word 0x50050⟩ →
    ∃ e : Dev, exec (.scanJobStart t unit space port) s = .next { s with dev := e } ∧
      (d.chk.job.isSome = true → e.get Reg.CHK_SCAN_RES.RESULT = 1 ∧ Reported 9 port 0 0x50040 d e ∧
        RegsOnly (0x50040 :: 0x50054 :: reportRegs) d e) ∧
      (d.chk.job = none →
        (space < 3 ∧ j.start % 8 = 0 ∧ j.stride % 8 = 0 ∧ 8 ≤ j.stride ∧ j.len % 8 = 0 ∧ 8 ≤ j.len ∧ j.len ≤ 2 ^ 28 →
          e.chk = { d.chk with job := some j } ∧ e.flag Reg.CHK_STATUS.SCAN_BUSY = true ∧ e.get Reg.CHK_SCAN_RES.RESULT = 1 ∧
          RegsOnly [0x50000, 0x50040, 0x50054] { d with chk := e.chk } e) ∧
        (¬ (space < 3 ∧ j.start % 8 = 0 ∧ j.stride % 8 = 0 ∧ 8 ≤ j.stride ∧ j.len % 8 = 0 ∧ 8 ≤ j.len ∧ j.len ≤ 2 ^ 28) →
          e.get Reg.CHK_SCAN_RES.RESULT = 3 ∧ Reported 8 port 0 0x50040 d e ∧ e.bitAt Reg.HOST_DB_OUT.DONE 7 = true ∧
          ToldOnly (0x50040 :: 0x50054 :: 0x150020 :: reportRegs) d e))

/-- Opening and closing a biquad channel. In M1 and M7 BQ_CTRL.OPEN opens or closes the channel and no other; in other modes the write is
flagged with cause 4 and its offset, and nothing else changes. (R315, R330, R507) -/
def Obligations.BiquadOpened : Prop :=
  ∀ (s : State) (t c port : Nat) (d : Dev), d = s.dev.advance t → d.coreUp = true → d.host.causes = none → port < 2 → c < 96 →
    (∃ e : Dev, exec (.biquadOpen t c true port) s = .next { s with dev := e } ∧
      (d.mode = 1 ∨ d.mode = 7 → e.flag (Reg.LOOP_BQ.CTRL.OPEN c) = true ∧ e.chanOpen false c = true ∧ RegsOnly [0xD1004 + 0x20 * c, 0xD1008 + 0x20 * c] d e)) ∧
    (∃ e : Dev, exec (.biquadOpen t c false port) s = .next { s with dev := e } ∧
      (d.mode = 1 ∨ d.mode = 7 → e.flag (Reg.LOOP_BQ.CTRL.OPEN c) = false ∧ e.chanOpen false c = false ∧
        (∀ k, k ≠ c → e.bq k = d.bq k) ∧
        RegsOnly [0xD1004 + 0x20 * c, 0xD1008 + 0x20 * c] { d with loop := { d.loop with bq := e.loop.bq } } e)) ∧
    (∀ on, ¬ (d.mode = 1 ∨ d.mode = 7) → ∃ e : Dev, exec (.biquadOpen t c on port) s = .next { s with dev := e } ∧
      e.flag Reg.LOOP_STATUS.REFUSED_STICKY = true ∧ e.get Reg.LOOP_REFUSE.OFFSET = 0x1004 + 0x20 * c ∧
      e.get Reg.LOOP_REFUSE.CAUSE = 4 ∧ RegsOnly (0xD0000 :: 0xD0004 :: reportRegs) d e)

/-- Writing a coefficient. A write to a bank that is the target of a blend is refused with cause 2, to the active bank of a closed channel
with cause 1; to the active bank of an open channel or an inactive bank it stores the word, clears that bank's validation and leaves
every other bank. A channel or an index that does not exist is reported with cause 8 and a NaN or infinity with cause 6, and no bank
changes (log 24). AUTOINC may move LOOP_CW_SEL. (R329, R330, R336) -/
def Obligations.CoefficientWritten : Prop :=
  ∀ (s : State) (t c b i port : Nat) (pid : Bool) (w : Word) (d : Dev), d = s.dev.advance t → d.coreUp = true →
    d.host.causes = none → port < 2 → d.cwSel = (pid, c, b, i) →
    ∃ e : Dev, exec (.coefficientWrite t w port) s = .next { s with dev := e } ∧
      ((if pid then 16 else 96) ≤ c → Reported 8 port 0 0xD0014 d e ∧ RegsOnly (0xD0010 :: reportRegs) d e) ∧
      (c < (if pid then 16 else 96) → d.stat pid c 2 = 1 → d.stat pid c 1 ≠ b →
        e.flag Reg.LOOP_STATUS.REFUSED_STICKY = true ∧ e.get Reg.LOOP_REFUSE.OFFSET = 0x14 ∧ e.get Reg.LOOP_REFUSE.CAUSE = 2 ∧
        RegsOnly (0xD0000 :: 0xD0004 :: 0xD0010 :: reportRegs) d e) ∧
      (c < (if pid then 16 else 96) → d.stat pid c 2 = 0 → d.stat pid c 1 = b → d.chanOpen pid c = false →
        e.flag Reg.LOOP_STATUS.REFUSED_STICKY = true ∧ e.get Reg.LOOP_REFUSE.OFFSET = 0x14 ∧ e.get Reg.LOOP_REFUSE.CAUSE = 1 ∧
        RegsOnly (0xD0000 :: 0xD0004 :: 0xD0010 :: reportRegs) d e) ∧
      (c < (if pid then 16 else 96) → d.stat pid c 2 = 0 → d.stat pid c 1 ≠ b ∨ d.chanOpen pid c = true →
        (bankWords pid ≤ i → Reported 8 port 0 0xD0014 d e ∧ RegsOnly (0xD0010 :: reportRegs) d e) ∧
        (i < bankWords pid → ((pid || i != 0) && (F32.mk w).bad) = true →
          Reported 6 port 0 0xD0014 d e ∧ RegsOnly (0xD0010 :: reportRegs) d e) ∧
        (i < bankWords pid → ((pid || i != 0) && (F32.mk w).bad) = false →
          (if pid then c < d.loop.pid.length else c < d.loop.bq.length) →
          e.bank pid c b = setAt (d.bank pid c b) i w ∧ e.stat pid c (6 + b) = 0 ∧
          (∀ p k m, (p, k, m % 2) ≠ (pid, c, b) → e.bank p k (m % 2) = d.bank p k (m % 2)) ∧
          RegsOnly [0xD0010, statAt pid c] { d with loop := e.loop } e))

/-- Listen-only operation. LISTEN is set in M7 only and cleared in any mode; a listening controller sends nothing, its pending frames stay,
and a frame whose transmission had started is pending again or gives way as at an error (R344). Setting it in another mode is reported
with cause 3 and changes nothing else. (R348, R344, R507) -/
def Obligations.ListenOnlyInM7 : Prop :=
  ∀ (s : State) (t c port : Nat) (on : Bool) (d : Dev), d = s.dev.advance t → d.coreUp = true → d.host.causes = none → port < 2 →
    c < 6 →
    ∃ e : Dev, exec (.canListen t c on port) s = .next { s with dev := e } ∧
      (on = false ∨ d.mode = 7 → e.flag (Reg.CAN_CH.CH_STAT.LISTENING c) = on ∧ (on = true → e.canSends c = false) ∧
        (∀ k, k ≠ c → e.can k = d.can k) ∧ (on = false → e.out = d.out) ∧
        (on = true → ∀ b ∈ (e.can c).bufs, b.sof = none) ∧
        (∀ b ∈ (d.can c).bufs, (∀ x ∈ (d.can c).bufs, x.key = b.key → x.sof = none) → b ∈ (e.can c).bufs) ∧
        ((∀ b ∈ (d.can c).bufs, b.sof = none) → RegsOnly [0xE0104 + 0x40 * c, 0xE0108 + 0x40 * c] d e) ∧
        RegsOnly [0xE0104 + 0x40 * c, 0xE0108 + 0x40 * c, 0xE0114 + 0x40 * c, 0xE0808 + 0x100 * c]
          { d with out := { d.out with can := e.out.can } } e) ∧
      (on = true → d.mode ≠ 7 → Reported 3 port 0 (0xE0104 + 0x40 * c) d e ∧ RegsOnly reportRegs d e)

/-- Freezing the recorder. A freeze in the full profile writes a record of type 0x0C, subtype 2, and, where staging has room for it and no
trace unit waits, leaves FROZEN set; THAW writes subtype 3 and leaves FROZEN clear under the same conditions; a freeze in the compact
profile or while one holds is ignored with RESULT 2. (R448, R436) -/
def Obligations.FreezeAndThaw : Prop :=
  ∀ (s : State) (t port : Nat) (d : Dev), d = s.dev.advance t → d.coreUp = true → d.host.causes = none → port < 2 →
    (∃ e : Dev, exec (.freeze t port) s = .next { s with dev := e } ∧
      (d.flag Reg.REC_STATUS.PROFILE = true → d.flag Reg.REC_STATUS.FROZEN = false →
        (d.loop.due = [] → stagingBytes d.recorder.staging + 52 ≤ stagingSize → e.flag Reg.REC_STATUS.FROZEN = true) ∧
        e.recorder.freezeAt = d.sched.st ∧
        Recorded 0x0C (recordBody 0xFF 0x12 2 []) d e ∧
        ToldOnly [] { d with recorder := { d.recorder with freezeAt := d.sched.st } } e) ∧
      (d.flag Reg.REC_STATUS.PROFILE = false ∨ d.flag Reg.REC_STATUS.FROZEN = true →
        e.get Reg.REC_FREEZE_STAT.RESULT = 2 ∧ e.recorder = d.recorder ∧ RegsOnly (0x120024 :: reportRegs) d e)) ∧
    (∃ e : Dev, exec (.thaw t) s = .next { s with dev := e } ∧
      (d.flag Reg.REC_STATUS.FROZEN = true →
        (d.loop.due = [] → stagingBytes d.recorder.staging + 52 ≤ stagingSize → e.flag Reg.REC_STATUS.FROZEN = false) ∧
        Recorded 0x0C (recordBody 0xFF 0x12 3 []) d e ∧ ToldOnly [] d e) ∧
      (d.flag Reg.REC_STATUS.FROZEN = false → e = d))

/-- Moving the origin and resetting the filter. ORIGIN_SET is refused with RESULT 2 in M5 and M6 and with 3 for a latitude outside 89
degrees, else the move waits for the boundary; FILTER_RESET is refused with RESULT 2 in M4 to M6, else it waits. Refusals are reported
with cause 8 (log 24); RESULT 1 of a request that waits is the register's table. (R221, R226, R507) -/
def Obligations.OriginAndFilterReset : Prop :=
  ∀ (s : State) (t port : Nat) (d : Dev), d = s.dev.advance t → d.coreUp = true → d.host.causes = none → port < 2 →
    (∃ e : Dev, exec (.originSet t port) s = .next { s with dev := e } ∧
      (d.mode = 5 ∨ d.mode = 6 → e.get Reg.FUS_CTRL_RES.RESULT = 2 ∧ Reported 8 port 0 0xA0054 d e ∧ RegsOnly (0xA0058 :: reportRegs) d e) ∧
      (d.mode ≠ 5 → d.mode ≠ 6 → (F64.ofInt 89).lt (F64.mk (d.word 0xA0044 ++ d.word 0xA0040)).abs = true →
        e.get Reg.FUS_CTRL_RES.RESULT = 3 ∧ Reported 8 port 0 0xA0054 d e ∧ RegsOnly (0xA0058 :: reportRegs) d e) ∧
      (d.mode ≠ 5 → d.mode ≠ 6 → (F64.ofInt 89).lt (F64.mk (d.word 0xA0044 ++ d.word 0xA0040)).abs = false →
        e.fus = { d.fus with originDue := true } ∧ e.get Reg.FUS_CTRL_RES.RESULT = 1 ∧ RegsOnly [0xA0058] { d with fus := e.fus } e)) ∧
    (∃ e : Dev, exec (.filterReset t port) s = .next { s with dev := e } ∧
      (4 ≤ d.mode ∧ d.mode ≤ 6 → e.get Reg.FUS_CTRL_RES.RESULT = 2 ∧ Reported 8 port 0 0xA0054 d e ∧ RegsOnly (0xA0058 :: reportRegs) d e) ∧
      (¬ (4 ≤ d.mode ∧ d.mode ≤ 6) →
        e.fus = { d.fus with resetDue := true } ∧ e.get Reg.FUS_CTRL_RES.RESULT = 1 ∧ RegsOnly [0xA0058] { d with fus := e.fus } e))

/-- ARREST_CLR. At ARREST_CLR STATE and MASK return to 0, ARREST clears, ARREST_STICKY and the mode stay, and the last mask handed over is
forgotten; nothing else changes. (R272) -/
def Obligations.ArrestCleared : Prop :=
  ∀ (s : State) (t : Nat) (d : Dev), d = s.dev.advance t → d.coreUp = true →
    ∃ e : Dev, exec (.arrestClr t) s = .next { s with dev := e } ∧
      e.get Reg.ALLOC_ARREST.STATE = 0 ∧ e.get Reg.ALLOC_ARREST.MASK = 0 ∧ e.flag Reg.ALLOC_STATUS.ARREST = false ∧
      e.flag Reg.ALLOC_STATUS.ARREST_STICKY = d.flag Reg.ALLOC_STATUS.ARREST_STICKY ∧
      e.alloc = { d.alloc with arrested := 0, lastMask := none } ∧ e.mode = d.mode ∧
      RegsOnly [0xB0000, 0xB0030] { d with alloc := e.alloc } e

/-- A cold restart of the receiver. In M1 and M7 ephemerides, almanac, position and what is predicted from them are discarded and the
channels' registers read their reset words; in other modes the write is reported with cause 8 (log 24) and nothing changes. (R188, R507) -/
def Obligations.ColdRestartDiscards : Prop :=
  ∀ (s : State) (t port : Nat) (d : Dev), d = s.dev.advance t → d.coreUp = true → d.host.causes = none → port < 2 →
    ∃ e : Dev, exec (.coldRestart t port) s = .next { s with dev := e } ∧
      (d.mode = 1 ∨ d.mode = 7 → e.gnss = { d.gnss with ephemerides := [], almanac := false, almanacTainted := false, position := none, predicted := [] } ∧
        (∀ a, 0x81000 ≤ a → a < 0x81F00 → e.word a = regReset a) ∧
        (∀ a, ¬ (0x81000 ≤ a ∧ a < 0x81F00) → e.word a = d.word a) ∧ e = { d with regs := e.regs, gnss := e.gnss }) ∧
      (¬ (d.mode = 1 ∨ d.mode = 7) → Reported 8 port 0 0x80050 d e ∧ RegsOnly reportRegs d e)

/-- A rung that is refused. Each of the four rungs asked for below the level reached, and rungs 3 and 4 without their key, is refused:
REFUSED and a report of cause 8 (log 57), and nothing else but SYS_RECOVER's fields changes. (R492, R495, R507) -/
def Obligations.LadderRefused : Prop :=
  ∀ (s : State) (t port block key n : Nat) (inp : StartIn) (d : Dev), d = s.dev.advance t → d.coreUp = true → d.host.causes = none →
    port < 2 →
    (1 < d.bist.level → ∃ e : Dev, exec (.recoverRung1 t port) s = .next { s with dev := e } ∧
      e.flag Reg.SYS_RECOVER.REFUSED = true ∧ Reported 8 port 0 0x18 d e ∧ RegsOnly (0x18 :: reportRegs) d e) ∧
    (2 < d.bist.level → ∃ e : Dev, exec (.recoverBlockReset t block port) s = .next { s with dev := e } ∧
      e.flag Reg.SYS_RECOVER.REFUSED = true ∧ Reported 8 port 0 0x18 d e ∧ RegsOnly (0x18 :: reportRegs) d e) ∧
    (3 < d.bist.level ∨ key ≠ 0x5A → ∃ e : Dev, exec (.recoverDeviceReset t key port inp) s = .next { s with dev := e } ∧
      e.flag Reg.SYS_RECOVER.REFUSED = true ∧ Reported 8 port 0 0x18 d e ∧ RegsOnly (0x18 :: reportRegs) d e) ∧
    (4 < d.bist.level ∨ key ≠ 0x5A → ∃ e : Dev, exec (.recoverPowerCycle t key n port) s = .next { s with dev := e } ∧
      e.flag Reg.SYS_RECOVER.REFUSED = true ∧ Reported 8 port 0 0x18 d e ∧ RegsOnly (0x18 :: reportRegs) d e)

/-- Minor, major and hyperframe boundaries run (R22, R63, R66). -/
def Obligations.FrameBoundariesComplete : Prop :=
  (∀ (s : State) (t : Nat) (d : Dev) ins levels back stall, d = s.dev.advance t → d.coreUp = true → d.mode ≠ 0 →
      d.sched.st % 1000000 = 0 → exec (.minorFrameBoundary t ins levels back stall) s =
      .next (after s ((d.minorFrame ins levels back stall).resample))) ∧
  (∀ (s : State) (t : Nat) (d : Dev) strap sofs, d = s.dev.advance t → d.coreUp = true → d.mode ≠ 0 →
      d.sched.st % 10000000 = 0 → exec (.majorFrameBoundary t strap sofs) s =
      .next (after s (((d.noteSofs sofs).majorFrame strap).resample))) ∧
  (∀ (s : State) (t : Nat) (d : Dev) ddr sram, d = s.dev.advance t → d.coreUp = true → d.mode ≠ 0 →
      d.sched.st % 100000000 = 0 → exec (.hyperframeBoundary t ddr sram) s = .next (after s ((d.hyperFrame ddr sram).resample)))

/-- Schedule and mode commands run (R68, R73, R62, R43, R83, R80, R36). -/
def Obligations.ScheduleCommandsComplete : Prop :=
  (∀ (s : State) (t : Nat) (d : Dev) task inFact waited done rel fence alarms row x, d = s.dev.advance t → d.coreUp = true →
      d.image.tasks[task]? = some row → d.fencedShot task row = some x →
      exec (.taskFence t task inFact waited done rel fence alarms) s =
      .next (after s ((alarms.foldl (fun d e => d.alarm e.1 e.2) (d.showJitter rel fence)).taskFence task row x inFact waited
        done))) ∧
  (∀ (s : State) (t : Nat) (d : Dev) op, d = s.dev.advance t → d.coreUp = true →
      (d.sched.inflight.any (fun e => e.1 = op && e.2 ≤ d.sched.st) = true) → exec (.operationIdForceRetire t op) s =
      .next (after s (d.forceRetire op))) ∧
  (∀ (s : State) (t : Nat) (d : Dev), d = s.dev.advance t → d.coreUp = true → d.flag Reg.SCHED_STATUS.CERT_OK = true →
      d.running = false → d.mode ≠ 0 → d.sched.st % 100000000 = 0 → exec (.scheduleStart t) s =
      .next (after s (d.scheduleStart))) ∧
  (∀ (s : State) (t : Nat) (d : Dev), d = s.dev.advance t → d.coreUp = true → d.running = true →
      d.flag Reg.SYS_MODE.STARTED = false → d.sched.startAt + 100000000 ≤ d.sched.st → d.sched.st % 10000000 = 0 →
      exec (.standbyReached t) s = .next (after s (d.standbyReached))) ∧
  (∀ (s : State) (t : Nat) (d : Dev), d = s.dev.advance t → d.coreUp = true → exec (.schedHwmClr t) s =
      .next (after s (d.set Reg.SCHED_INFLIGHT.HWM (d.get Reg.SCHED_INFLIGHT.COUNT)))) ∧
  (∀ (s : State) (t : Nat) (d : Dev) task port, d = s.dev.advance t → d.coreUp = true →
      d.flag Reg.SYS_EXPERT.UNLOCKED = true → d.mode = 7 → exec (.schedXinjGo t task port) s =
      .next (after s (((d.opened.set Reg.SCHED_XINJ.TASK task)).setB Reg.SCHED_XINJ.GO true))) ∧
  (∀ (s : State) (t : Nat) (d : Dev) target coupled trackTarget follow seq port, d = s.dev.advance t → d.coreUp = true →
      d.mode ≠ 0 → d.flag Reg.SYS_MODEREQ.GO = false →
      exec (.modeRequestSubmit t target coupled trackTarget follow seq port) s =
      .next (after s (d.setWord 0x14 (BitVec.ofNat 32 (target % 8 + 16 * bit coupled + 32 * bit trackTarget + 64 * bit follow +
        256 * (seq % 256) + 2147483648)))))

/-- The periodic tasks of the schedule run (R63, R270, R271, R272, R311, R368, R384, R215, R316, R300, R255, R359). -/
def Obligations.PeriodicTasksComplete : Prop :=
  (∀ (s : State) (t : Nat) (d : Dev) fault e, d = s.dev.advance t → d.coreUp = true → d.slotOf .excursion 0 = some e →
      d.freeToRun e 0 = true → exec (.excursionMonitor t fault) s =
      .next (after s (d.perform e 0 fun v d => d.monitor v fault))) ∧
  (∀ (s : State) (t : Nat) (d : Dev) fault e, d = s.dev.advance t → d.coreUp = true → d.slotOf .arrestAllocation 0 = some e →
      d.freeToRun e 0 = true → (d.view e.shot).alloc.detected.isSome = true → exec (.arrestAllocation t fault) s =
      .next (after s (d.perform e 0 fun v d => d.arrestAllocate v fault))) ∧
  (∀ (s : State) (t : Nat) (d : Dev) fault sofs e, d = s.dev.advance t → d.coreUp = true →
      (d.noteSofs sofs).slotOf .arrestBuild 0 = some e → (d.noteSofs sofs).freeToRun e 0 = true →
      ((d.noteSofs sofs).view e.shot).alloc.detected.isSome = true → exec (.arrestFrameBuild t fault sofs) s =
      .next (after s ((d.noteSofs sofs).perform e 0 fun v d => d.arrestBuild v fault))) ∧
  (∀ (s : State) (t : Nat) (d : Dev) channel fault e, d = s.dev.advance t → d.coreUp = true →
      d.slotOf .biquads channel = some e → d.freeToRun e channel = true → d.bqDue e.shot.rel channel = true →
      exec (.thrusterLoopRun t channel fault) s = .next (after s (d.perform e channel fun v d => d.bqRun v channel fault))) ∧
  (∀ (s : State) (t : Nat) (d : Dev) n fault back e, d = s.dev.advance t → d.coreUp = true → d.slotOf .analogue 0 = some e →
      d.freeToRun e 0 = true → (d.view e.shot).flag Reg.SYS_MODE.STARTED = true → exec (.analogueOutputWrite t n fault back) s =
      .next (after s (d.perform e 0 fun v d => d.analogueRun v n fault back))) ∧
  (∀ (s : State) (t : Nat) (d : Dev) fault e, d = s.dev.advance t → d.coreUp = true → d.slotOf .heartbeat 0 = some e →
      d.freeToRun e 0 = true → (d.view e.shot).beats = true → exec (.coruzHeartbeatSend t fault) s =
      .next (after s (d.perform e 0 fun v d => d.sendHeartbeat v fault))) ∧
  (∀ (s : State) (t : Nat) (d : Dev) rel fault e, d = s.dev.advance t → d.coreUp = true → d.slotOf .fusion 0 = some e →
      d.freeToRun e 0 = true → e.shot.rel = rel → exec (.fusionUpdate t rel fault) s =
      .next (after s (d.perform e 0 fun v d => d.fusionRun v rel fault))) ∧
  (∀ (s : State) (t : Nat) (d : Dev) channel fault e m x, d = s.dev.advance t → d.coreUp = true →
      (d.slotWith .pid channel (fun e => d.pidSlot channel e.row) = some e) →
      (if channel < 3 then d.loadInto e fault else (d, e)) = (m, x) → m.freeToRun x channel = true →
      exec (.positionPidRun t channel fault) s = .next (after s (m.perform x channel fun v d => d.pidRun v channel fault))) ∧
  (∀ (s : State) (t : Nat) (d : Dev) fault e, d = s.dev.advance t → d.coreUp = true → d.slotOf .fallback 0 = some e →
      d.freeToRun e 0 = true → (d.view e.shot).allocates = true → exec (.fallbackAllocation t fault) s =
      .next (after s (d.perform e 0 fun v d => d.fallbackRun v fault))) ∧
  (∀ (s : State) (t : Nat) (d : Dev) task fault row e, d = s.dev.advance t → d.coreUp = true → d.solvTask task = some row →
      d.slotAt row.task = some e → e.shot.done.contains 0 = false → d.freeToRun e 0 = true → (d.view e.shot).solves row = true →
      d.ownsLanes task row = true → exec (.solverPress t task fault) s =
      .next (after s (d.perform e 0 fun v d => d.press v task fault))) ∧
  (∀ (s : State) (t : Nat) (d : Dev) task sram fault row run e, d = s.dev.advance t → d.coreUp = true →
      d.solvTask task = some row → d.slotAt row.task = some e → (d.slot task).run = some run →
      d.mayIterate task e.fence row run = true → exec (.solverIteration t task sram fault) s =
      .next (after s (d.within e fun _ d => d.solverIterate task e.fence sram fault))) ∧
  (∀ (s : State) (t : Nat) (d : Dev) fault e, d = s.dev.advance t → d.coreUp = true → d.slotOf .select 0 = some e →
      d.freeToRun e 0 = true → (d.view e.shot).allocates = true → exec (.allocationSelectAndSeal t fault) s =
      .next (after s (d.perform e 0 fun v d => d.selectRun v fault))) ∧
  (∀ (s : State) (t : Nat) (d : Dev) thr fault sofs e, d = s.dev.advance t → d.coreUp = true →
      (d.noteSofs sofs).slotOf .commandBuild 0 = some e → (d.noteSofs sofs).freeToRun e 0 = true →
      ((d.noteSofs sofs).view e.shot).sendsFrames = true → exec (.thrustCommandBuild t thr fault sofs) s =
      .next (after s (Dev.finishCut ((d.noteSofs sofs).perform e 0 fun v d => d.commandBuild v thr fault)))) ∧
  (∀ (s : State) (t : Nat) (d : Dev) fault sofs e, d = s.dev.advance t → d.coreUp = true →
      (d.noteSofs sofs).slotOf .jointBuild 0 = some e → (d.noteSofs sofs).freeToRun e 0 = true →
      d.image.alloc.chain.isSome = true → ((d.noteSofs sofs).view e.shot).sendsJoints = true →
      exec (.jointCommandSend t fault sofs) s = .next (after s ((d.noteSofs sofs).perform e 0 fun v d => d.jointSend v fault))) ∧
  (∀ (s : State) (t : Nat) (d : Dev) fault e, d = s.dev.advance t → d.coreUp = true → d.slotOf .mirror 0 = some e →
      d.freeToRun e 0 = true → (d.view e.shot).get Reg.RED_STATUS.ROLE = 3 → exec (.stateMirrorCapture t fault) s =
      .next (after s (d.perform e 0 fun v d => d.captureMirror v fault))) ∧
  (∀ (s : State) (t : Nat) (d : Dev) fault e k, d = s.dev.advance t → d.coreUp = true → d.slotOf .margins 0 = some e →
      d.freeToRun e 0 = true → d.solverKind 1 = some k → (d.slot k).out.isSome = true → exec (.capabilityMargins t fault) s =
      .next (after s (d.perform e 0 fun v d => d.marginsRun v fault))) ∧
  (∀ (s : State) (t : Nat) (d : Dev) wrong e, d = s.dev.advance t → d.coreUp = true → d.slotOf .scan 0 = some e →
      d.freeToRun e 0 = true → (d.view e.shot).paramB P.CHK.BG_ENABLE = true → exec (.backgroundTableScan t wrong) s =
      .next (after s (d.perform e 0 fun _ d => if d.paramB P.CHK.BG_ENABLE then d.tableScan wrong else d))) ∧
  (∀ (s : State) (t : Nat) (d : Dev) bad x (n : Dev), d = s.dev.advance t → d.coreUp = true → d.islandRuns = true →
      lookup d.shots islandTask = some x → d.sched.st ≤ x.rel + d.islandSlot →
      (n =
        ({ d with shots := d.shots.filter (fun e => e.1 != islandTask), safe := { d.safe with beat := x.rel + d.islandSlot } } :
        Dev)) → exec (.safetyEvaluation t bad) s = .next (after s (n.evaluate (n.view x) x.rel bad)))

/-- Scan jobs and lineage look-ups run (R130, R135, R505). -/
def Obligations.IntegrityCommandsComplete : Prop :=
  (∀ (s : State) (t : Nat) (d : Dev) unit space port (n : Dev) job, d = s.dev.advance t → d.coreUp = true →
      n = (d.set Reg.CHK_SCAN_CTRL.UNIT unit).set Reg.CHK_SCAN_CTRL.SPACE space → d.chk.job = none →
      job = ⟨unit % 4, space % 4, n.get Reg.CHK_SCAN_START.ADDR, n.get Reg.CHK_SCAN_LEN.LEN, n.get Reg.CHK_SCAN_STRIDE.STRIDE,
        n.word 0x50050⟩ → ScanJob.legal job = true → exec (.scanJobStart t unit space port) s =
      .next (after s ((({ n with chk := { d.chk with job := some job } } : Dev).setB Reg.CHK_STATUS.SCAN_BUSY true).set
        Reg.CHK_SCAN_RES.RESULT 1))) ∧
  (∀ (s : State) (t : Nat) (d : Dev) mem job, d = s.dev.advance t → d.coreUp = true → d.chk.job = some job →
      d.scanSlotOpen = false → exec (.scanJobComplete t mem) s = .next (after s (d.scanDone mem))) ∧
  (∀ (s : State) (t : Nat) (d : Dev) resource op nth port, d = s.dev.advance t → d.coreUp = true →
      d.flag Reg.SYS_EXPERT.UNLOCKED = true → exec (.lineageLookup t resource op nth port) s =
      .next (after s (d.opened.lineageLookup resource op nth)))

/-- Arrivals at the entry ports run (R142, R143, R144, R145, R351, R151, R158, R159). -/
def Obligations.EntryCommandsComplete : Prop :=
  (∀ (s : State) (t : Nat) (d : Dev) port (tArr : Nat) chars bad fill tov, d = s.dev.advance t → d.coreUp = true → port < 12 →
      d.get (Reg.ENTRY_PORT.PORT_CFG.MODE port) = 0 → tov = d.sourceTov (tArr / 10 * 10) (P.ENTRY.PORT_LAT port) →
      ((d.onto tov).serialAdmit port tArr fill chars.length bad).1 = true →
      exec (.serialSentenceReceived t port tArr chars bad fill) s =
      .next (after s (d.about tov fun d => (d.serialAdmit port tArr fill chars.length bad).2.serialText port tArr chars))) ∧
  (∀ (s : State) (t : Nat) (d : Dev) port (tArr : Nat) bytes bad fill tov, d = s.dev.advance t → d.coreUp = true → port < 12 →
      d.get (Reg.ENTRY_PORT.PORT_CFG.MODE port) = 1 → tov = d.sourceTov (tArr / 10 * 10) (P.ENTRY.PORT_LAT port) →
      ((d.onto tov).serialAdmit port tArr fill bytes.length bad).1 = true →
      exec (.serialBinaryFrameReceived t port tArr bytes bad fill) s =
      .next (after s (d.about tov fun d => (d.serialAdmit port tArr fill bytes.length bad).2.serialBinary port tArr 0 0 bytes))) ∧
  (∀ (s : State) (t : Nat) (d : Dev) b (n : Dev), d = s.dev.advance t → d.coreUp = true → b.port < 12 →
      d.get (Reg.ENTRY_PORT.PORT_CFG.MODE b.port) ≠ 2 → (d.entry.lost.getD b.port []).contains b.first = false →
      (n = ((({ d with entry := { d.entry with lost := modAt d.entry.lost b.port (fun l => l ++ [b.first]) } } : Dev).showFill
        b.port 4096 0).inc (Reg.ENTRY_PORT.PORT_DROP.OVERFLOW b.port)).setB Reg.ENTRY_STATUS.OVF_STICKY true) →
      exec (.serialFifoOverflow t b) s =
      .next (after s (n.about (n.sourceTov (b.first / 10 * 10) (P.ENTRY.PORT_LAT b.port)) fun d => (d.uncover 3).raiseSub 33
        b.port [0x60000, 0x60110 + 0x20 * b.port]))) ∧
  (∀ (s : State) (t : Nat) (d : Dev) port (ingress : Nat) m (tArr : Nat) tov, d = s.dev.advance t → d.coreUp = true →
      port < 4 → d.running = true → d.joined port m.group = true →
      tArr = (((ingress : Int) + d.paramInt (P.NET.ING_CORR port)) / 4).toNat → tov = d.sourceTov tArr (P.ENTRY.NET_LAT port) →
      ((d.onto tov).countArrival (12 + port) tArr).1 = true → m.payload.length ≤ 1472 →
      m.payload.take 6 = [0x55, 0x64, 0x50, 0x62, 0x43, 0x00] → exec (.netDatagramReceived t port ingress m) s =
      .next (after s (d.about tov fun d => (linesOf (m.payload.drop 6)).foldl (fun d l => d.netSentence port tArr l)
        (d.countArrival (12 + port) tArr).2))) ∧
  (∀ (s : State) (t : Nat) (d : Dev) c f waits, d = s.dev.advance t → d.coreUp = true → d.canActive c = true →
      exec (.canFrameReceived t c f waits) s = .next (after s (d.canReceived c f waits))) ∧
  (∀ (s : State) (t : Nat) (d : Dev) slot, d = s.dev.advance t → d.coreUp = true → slot < 64 → d.windowOver slot = true →
      exec (.slotTimeout t slot) s = .next (after s ((d.closeWindow slot).refTimeout slot))) ∧
  (∀ (s : State) (t : Nat) (d : Dev) n, d = s.dev.advance t → d.coreUp = true → n < 16 → d.running = true →
      (d.chan n).settleEnd ≤ d.sched.st → exec (.afeSettlingEnd t n) s =
      .next (after s (d.setB (Reg.AFE_CH.CH_STAT.SETTLING n) false))) ∧
  (∀ (s : State) (t : Nat) (d : Dev) p high hold, d = s.dev.advance t → d.coreUp = true → p < 8 → d.running = true →
      (d.afe.pulses.getD p default).cfg.getLsbD 0 = true → (d.afe.pulses.getD p default).level ≠ high →
      10 * getBits (d.afe.pulses.getD p default).cfg 8 6 ≤ hold → exec (.pulseEdge t p high hold) s =
      .next (after s (d.pulseEdge p t high hold)))

/-- The GNSS commands run (R173, R174, R169, R188, R171, R178, R179, R182, R184, R186). -/
def Obligations.GnssCommandsComplete : Prop :=
  (∀ (s : State) o (d : Dev), d = s.dev.advance o.epoch → d.coreUp = true → d.flag Reg.GNSS_STATUS.RUNNING = true →
      d.param P.GNSS.RATE ≠ 0 → o.epoch % d.epochPeriod = 0 → exec (.gnssEpoch o) s =
      .next (after s (d.about o.epoch fun d => d.gnssEpoch o))) ∧
  (∀ (s : State) (t : Nat) (d : Dev) output epoch, d = s.dev.advance t → d.coreUp = true →
      epoch = (d.sched.st - 1500000) / d.epochPeriod * d.epochPeriod → d.running = true →
      d.flag Reg.GNSS_STATUS.RUNNING = true → d.seals output = true → 1500000 ≤ d.sched.st → d.outOpen output epoch = true →
      exec (.gnssEpochDrop t output) s = .next (after s (d.dropEpoch output epoch))) ∧
  (∀ (s : State) (t : Nat) (d : Dev) a b, d = s.dev.advance t → d.coreUp = true → exec (.antBiasMeasure t a b) s =
      .next (after s ((d.measureAnt 0 a).measureAnt 1 b))) ∧
  (∀ (s : State) (t : Nat) (d : Dev) ant due, d = s.dev.advance t → d.coreUp = true → (d.ant ant).retryAt = some due →
      due ≤ d.sched.st → d.get (Reg.GNSS_ANT.STATE ant) = 3 → (d.ant ant).biasOn = false → exec (.antBiasRetry t ant) s =
      .next (after s ((d.setAnt ant (fun x =>
        { x with biasOn := true, tries := x.tries + 1, retryAt := none, highSince := none })).inc (Reg.GNSS_ANT.RETRIES ant)))) ∧
  (∀ (s : State) (t : Nat) (d : Dev), d = s.dev.advance t → d.coreUp = true → d.get (Reg.GNSS_ANT.STATE 0) = 3 →
      (d.ant 0).biasOn = false → exec (.antRetry t) s = .next (after s ((d.retryAnt 0).retryAnt 1))) ∧
  (∀ (s : State) (t : Nat) (d : Dev) first second, d = s.dev.advance t → d.coreUp = true → first.supported = true →
      d.signalStopped first.signal = false → d.inSearch first = true →
      (∀ c ∈ second, first.otherBand c = true ∧ (d.showChannel first false).signalStopped c.signal = false) →
      exec (.acquisitionComplete t first second) s =
      .next (after s (second.elim (d.showChannel first false) fun c => (d.showChannel first false).showChannel c false))) ∧
  (∀ (s : State) (t : Nat) (d : Dev) source udpPort frame, d = s.dev.advance t → d.coreUp = true → source < 16 →
      d.get Reg.GNSS_CORR_CFG.SRC = source → (source < 12 ∨ d.get Reg.GNSS_CORR_CFG.UDP_PORT = udpPort) →
      (d.countArrival source t).1 = true → exec (.rtcmFrameReceived t source udpPort frame) s =
      .next (after s (if source < 12 then (d.countArrival source t).2.rtcmFrame t frame else (d.countArrival source
        t).2.rtcmFrames t frame (frame.length + 1)))) ∧
  (∀ (s : State) (t : Nat) (d : Dev) w port (n : Dev), d = s.dev.advance t → d.coreUp = true →
      d.get Reg.GNSS_CORR_CFG.SRC = 16 →
      n = ({ d with gnss := { d.gnss with fifo := d.gnss.fifo ++ leBytes 4 w.toNat } } : Dev) →
      exec (.gnssCorrFifoWrite t w port) s = .next (after s (n.fifoFrames n.gnss.fifo.length))) ∧
  (∀ (s : State) (t : Nat) (d : Dev) rest, d = s.dev.advance t → d.coreUp = true → d.corrClosed = true →
      exec (.correctionAgeExpiry t rest) s =
      .next (after s (d.takeFix (d.fixType rest).1 (d.get Reg.GNSS_FIX.ANT) (d.fixType rest).2))) ∧
  (∀ (s : State) (t : Nat) (d : Dev) l1 l5, d = s.dev.advance t → d.coreUp = true → exec (.interferenceTimer t l1 l5) s =
      .next (after s ((d.judgeJam l1 l5).jamState))) ∧
  (∀ (s : State) (t : Nat) (d : Dev) port, d = s.dev.advance t → d.coreUp = true → d.get Reg.GNSS_STATUS.INTEG = 3 →
      heldFor d.sched.st (nsOfSec (d.paramF P.GNSS.SPOOF_CLEAR)) d.gnss.passSince = true → exec (.spoofAck t port) s =
      .next (after s
        (({ d.enterIntegrity (d.get Reg.GNSS_STATUS.JAM) with gnss := { (d.enterIntegrity (d.get Reg.GNSS_STATUS.JAM)).gnss with left := true } }
        : Dev)))) ∧
  (∀ (s : State) (t : Nat) (d : Dev) port, d = s.dev.advance t → d.coreUp = true → (d.mode = 1 ∨ d.mode = 7) →
      exec (.coldRestart t port) s =
      .next (after s
        (({ d with regs := d.regs.resetRange 0x81000 0x81F00, gnss := { d.gnss with ephemerides := [], almanac := false, almanacTainted := false, position := none, predicted := [] } }
        : Dev)))) ∧
  (∀ (s : State) seconds position used decoded expired inp, s.dev.clk.phase = .dormant →
      exec (.gnssDormantBurst seconds position used decoded expired inp) s =
      .next (after s (s.dev.burst seconds position used decoded expired inp))) ∧
  (∀ (s : State) seconds renewed began (n : Dev), s.dev.clk.phase = .dormant → s.dev.gnss.renewing = some began →
      began ≤ seconds → n = (if seconds ≤ began + 60 then (s.dev.caughtUp seconds).renewed renewed else s.dev) →
      exec (.ephemerisRenewalComplete seconds renewed) s =
      .next (after s (({ n with gnss := { n.gnss with renewing := none } } : Dev))))

/-- The time and network commands run (R199, R203, R205, R206, R197, R207, R210). -/
def Obligations.TimeCommandsComplete : Prop :=
  (∀ (s : State) (t : Nat) (d : Dev) source m, d = s.dev.advance t → d.coreUp = true → source < 3 →
      (source = 0 → d.flag Reg.GNSS_STATUS.TIME_OK = true) → (d.measureSource source m).steadyLongEnough source = true →
      ((d.measureSource source m).source source).qualified = false → exec (.timeSourceQualified t source m) s =
      .next (after s ((d.measureSource source m).qualifySource source))) ∧
  (∀ (s : State) (t : Nat) (d : Dev) source, d = s.dev.advance t → d.coreUp = true → source < 3 →
      exec (.timeSourceLost t source) s = .next (after s (d.loseSource source))) ∧
  (∀ (s : State) (t : Nat) (d : Dev) sec e, d = s.dev.advance t → d.coreUp = true → d.time.step = some (sec, e) →
      (sec : Int) ≤ d.dtSec → exec (.timeStepApply t) s =
      .next (after s
        (({ ((d.setB Reg.TIME_STATUS.STEP_PEND false).setB Reg.TIME_STATUS.STEP_STICKY true) with time := { d.time with step := none, stepped := some (d.time.offset, sec) } }
        : Dev).moveDt e 42 2))) ∧
  (∀ (s : State) (t : Nat) (d : Dev) x, d = s.dev.advance t → d.coreUp = true → d.ppsAt = some x → d.ppsEnabled = true →
      (∀ l ∈ d.time.ppsLast, x.before (l.later 500000000) = false) → exec (.ppsEdge t) s =
      .next (after s
        (({ (d.set Reg.TIME_PPS_TS.TS d.ts32.toNat) with time := { d.time with ppsHigh := true, ppsLast := some x } } : Dev)))) ∧
  (∀ (s : State) (t : Nat) (d : Dev) k, d = s.dev.advance t → d.coreUp = true → k = d.get Reg.TIME_LEAP.PENDING → k ≠ 0 →
      (d.time.leapAt : Int) ≤ d.dtSec → d.get Reg.TIME_STATUS.SRC = 3 → exec (.leapSecondApply t) s =
      .next (after s ((d.setInt Reg.TIME_LEAP.OFFSET (d.getInt Reg.TIME_LEAP.OFFSET + (if k = 1 then 1 else -1))).set
        Reg.TIME_LEAP.PENDING 0))) ∧
  (∀ (s : State) (t : Nat) (d : Dev) port, d = s.dev.advance t → d.coreUp = true → d.mode = 7 → exec (.timeSet t port) s =
      .next (after s (((d.setB Reg.TIME_STATUS.DT_VALID true).setB Reg.TIME_STATUS.STEP_STICKY true).moveDt (4 * ((d.get
        Reg.TIME_SET_SEC.SEC : Int) * 1000000000 + d.get Reg.TIME_SET_NS.NS) - d.dtQ) 42 1))) ∧
  (∀ (s : State) (t : Nat) (d : Dev) m k, d = s.dev.advance t → d.coreUp = true → m.port < 4 →
      d.flag (Reg.NET_PTP.PTP_CFG.EN m.port) = true → m.udp = d.flag (Reg.NET_PTP.PTP_CFG.UDP m.port) →
      d.domainIndex m.dom = some k → exec (.ptpMessageReceived t m) s = .next (after s (d.ptpMessage k m))) ∧
  (∀ (s : State) (t : Nat) (d : Dev) port dom announce stamp k at_, d = s.dev.advance t → d.coreUp = true → port < 4 →
      d.domainIndex dom = some k → d.flag (Reg.NET_PTP.PTP_CFG.EN port) = true → d.get (Reg.NET_PTP.PTP_CFG.ROLE port) ≠ 1 →
      d.get (ptpState k port) = 6 → d.flag Reg.TIME_STATUS.DT_VALID = true →
      (announce = true ∨ ∀ a ∈ lookupAt d.net.syncAt (port, k), a + d.syncInterval ≤ d.sched.st) →
      at_ = stamp + d.paramInt (P.NET.EGR_CORR port) → exec (.ptpSyncTransmit t port dom announce stamp) s =
      .next (after s
        (({ d with net := { d.net with ptp := if announce then [d.ptpSend port dom .announce at_] else [d.ptpSend port dom .sync at_, d.ptpSend port dom .syncFollow at_], syncAt := if announce then d.net.syncAt else ((port, k), d.sched.st) :: d.net.syncAt.filter (fun e => e.1 != (port, k)) } }
        : Dev)))) ∧
  (∀ (s : State) (t : Nat) (d : Dev) port queue launch busy, d = s.dev.advance t → d.coreUp = true → port < 4 → queue < 8 →
      d.flag (Reg.NET_TXQ.QCFG.LAUNCH_EN port queue) = true → d.sched.st < launch →
      exec (.launchFrameAtHead t port queue launch busy) s =
      .next (after s
        (({ d.unwait port queue with net := { (d.unwait port queue).net with waiting := (port, queue, launch) :: (d.unwait port queue).net.waiting } }
        : Dev)))) ∧
  (∀ (s : State) (t : Nat) (d : Dev) port queue busy launch, d = s.dev.advance t → d.coreUp = true →
      (d.net.waiting.find? (fun e => e.1 == port && e.2.1 == queue) = some (port, queue, launch)) → launch ≤ d.sched.st →
      exec (.launchTimeReached t port queue busy) s = .next (after s ((d.unwait port queue).offerFrame port queue busy true)))

/-- The fusion commands run (R226, R221, R220, R235, R227, R229, R228, R240). -/
def Obligations.FusionCommandsComplete : Prop :=
  (∀ (s : State) (t : Nat) (d : Dev) port, d = s.dev.advance t → d.coreUp = true → d.loopClosed = false →
      exec (.filterReset t port) s =
      .next (after s (({ (d.set Reg.FUS_CTRL_RES.RESULT 1) with fus := { d.fus with resetDue := true } } : Dev)))) ∧
  (∀ (s : State) (t : Nat) (d : Dev) port, d = s.dev.advance t → d.coreUp = true → d.mode ≠ 5 → d.mode ≠ 6 →
      ((F64.ofInt 89).lt (F64.mk ((d.word 0xA0044) ++ (d.word 0xA0040))).abs) = false → exec (.originSet t port) s =
      .next (after s (({ (d.set Reg.FUS_CTRL_RES.RESULT 1) with fus := { d.fus with originDue := true } } : Dev)))) ∧
  (∀ (s : State) (t : Nat) (d : Dev) slot, d = s.dev.advance t → d.coreUp = true → slot < 28 → exec (.anchorSet t slot) s =
      .next (after s (({ d with fus := { d.fus with anchorSet := slot :: d.fus.anchorSet.filter (· != slot) } } : Dev)))) ∧
  (∀ (s : State) (t : Nat) (d : Dev) (n : Dev), d = s.dev.advance t → d.coreUp = true → n = d.countDr →
      n.flag Reg.FUS_STATUS.DR = true → n.flag Reg.FUS_STATUS.DR_EXPIRED = false →
      heldFor n.sched.st (n.paramNs P.FUS.DR_LIMIT) n.fus.drSince = true → exec (.drLimitExpired t) s =
      .next (after s (((n.setB Reg.FUS_STATUS.DR_EXPIRED true).setBitAt Reg.SYS_MODE.STATES 11 true).raise 49 [0xA0000,
        0xA0004]))) ∧
  (∀ (s : State) (t : Nat) (d : Dev), d = s.dev.advance t → d.coreUp = true →
      heldFor d.sched.st 10000000000 d.fus.convSince = true → exec (.convergenceTimer t) s =
      .next (after s (d.setB Reg.FUS_STATUS.CONVERGED true))) ∧
  (∀ (s : State) (t : Nat) (d : Dev) slot, d = s.dev.advance t → d.coreUp = true → slot < 28 → d.refState slot = 1 →
      heldFor d.sched.st (d.paramNs P.FUS.READMIT_TIME) (d.ref slot).passSince = true → exec (.readmitTimeExpiry t slot) s =
      .next (after s (d.moveRef slot 2 0))) ∧
  (∀ (s : State) (t : Nat) (d : Dev) slot, d = s.dev.advance t → d.coreUp = true → slot < 28 → d.refState slot = 3 →
      heldFor d.sched.st (d.paramNs P.FUS.SUSPECT_MAX) (d.ref slot).suspectSince = true → exec (.suspectMaxExpiry t slot) s =
      .next (after s (d.moveRef slot 4 (d.get (Reg.FUS_REF.REF_STAT.CAUSE slot))))) ∧
  (∀ (s : State) (t : Nat) (d : Dev) (n : Dev), d = s.dev.advance t → d.coreUp = true → d.fus.attPair = false →
      heldFor d.sched.st 1000000000 d.fus.attSince = true →
      (n = [20, 21, 22].foldl (fun d s => if d.refState s = 1 || d.refState s = 2 then d.moveRef s 3 2 else d)
        ({ d with fus := { d.fus with attPair := true } } : Dev)) → exec (.attitudeDisagreeTimer t) s =
      .next (after s (((n.setAttDeg true).setB Reg.FUS_STATUS.DISAGREE_STICKY true).raise 48 (refCaps 20)))) ∧
  (∀ (s : State) (t : Nat) (d : Dev) object u, d = s.dev.advance t → d.coreUp = true → object < 8 →
      (d.obj object).lastAt = some u → (d.get (Reg.FUS_OBJ.OBJ.STATE object) = 2 ∨ d.get (Reg.FUS_OBJ.OBJ.STATE object) = 3) →
      (5000000000 : Int) ≤ (d.sched.st : Int) - u → exec (.trackCoastTimer t object) s = .next (after s (d.ageObj object)))

/-- The allocation commands run (R272, R276, R303). -/
def Obligations.AllocationCommandsComplete : Prop :=
  (∀ (s : State) (t : Nat) (d : Dev), d = s.dev.advance t → d.coreUp = true → exec (.arrestClr t) s =
      .next (after s
        (({ (((d.set Reg.ALLOC_ARREST.STATE 0).set Reg.ALLOC_ARREST.MASK 0).setB Reg.ALLOC_STATUS.ARREST false) with alloc := { d.alloc with arrested := 0, lastMask := none } }
        : Dev)))) ∧
  (∀ (s : State) (t : Nat) (d : Dev) (n : Dev), d = s.dev.advance t → d.coreUp = true → d.coupled = true → d.coupleCause = 0 →
      d.flag Reg.ALLOC_STATUS.COUPLE_HELD = true →
      n = ({ d with alloc := { d.alloc with coupleOk := since d.sched.st true d.alloc.coupleOk } } : Dev) →
      heldFor n.sched.st (n.paramNs P.ALLOC.COUPLE_RESUME) n.alloc.coupleOk = true → exec (.coupleResumeTimer t) s =
      .next (after s
        (({ ((n.setHeld false).set Reg.ALLOC_COUPLE_CAUSE.CAUSE 0) with alloc := { ((n.setHeld false).set Reg.ALLOC_COUPLE_CAUSE.CAUSE 0).alloc with coupleOk := none } }
        : Dev)))) ∧
  (∀ (s : State) (t : Nat) (d : Dev) port, d = s.dev.advance t → d.coreUp = true → (d.mode = 1 ∨ d.mode = 2 ∨ d.mode = 7) →
      exec (.wsDiscard t port) s = .next (after s (d.discardWarm)))

/-- The loop commands run (R315, R319, R330, R336, R329, R331, R325, R335). -/
def Obligations.LoopCommandsComplete : Prop :=
  (∀ (s : State) (t : Nat) (d : Dev) channel on port, d = s.dev.advance t → d.coreUp = true → channel < 96 →
      (d.mode = 1 ∨ d.mode = 7) → on = true → exec (.biquadOpen t channel on port) s =
      .next (after s ((d.setB (Reg.LOOP_BQ.CTRL.OPEN channel) true).setStat false channel 0 1))) ∧
  (∀ (s : State) (t : Nat) (d : Dev) channel on port, d = s.dev.advance t → d.coreUp = true → channel < 96 →
      (d.mode = 1 ∨ d.mode = 7) → on = false → exec (.biquadOpen t channel on port) s =
      .next (after s ((d.setB (Reg.LOOP_BQ.CTRL.OPEN channel) false).bqClose channel))) ∧
  (∀ (s : State) (t : Nat) (d : Dev) channel on port (n : Dev), d = s.dev.advance t → d.coreUp = true → 3 ≤ channel →
      channel < 16 → (d.mode = 1 ∨ d.mode = 7) → on = true → d.chanOpen true channel = false →
      n = (d.setB (Reg.LOOP_PID.CTRL.OPEN channel) true).setStat true channel 0 1 → exec (.pidOpen t channel on port) s =
      .next (after s (n.setF (Reg.LOOP_PID.PID_MAN.MAN channel) (n.pid channel).uPrev.to32))) ∧
  (∀ (s : State) (t : Nat) (d : Dev) channel on port (n : Dev), d = s.dev.advance t → d.coreUp = true → 3 ≤ channel →
      channel < 16 → (d.mode = 1 ∨ d.mode = 7) → on = false → d.chanOpen true channel = true →
      n = (d.setB (Reg.LOOP_PID.CTRL.OPEN channel) false).setStat true channel 0 0 → exec (.pidOpen t channel on port) s =
      .next (after s (n.setPid channel fun s => { s with preset := some (n.getF (Reg.LOOP_PID.PID_MAN.MAN channel)).to64 }))) ∧
  (∀ (s : State) (t : Nat) (d : Dev) w port pid c b i, d = s.dev.advance t → d.coreUp = true → d.cwSel = (pid, c, b, i) →
      d.blendTarget pid c b = false → (d.stat pid c 1 == b && (!d.chanOpen pid c || d.stat pid c 2 == 1)) = false →
      i < bankWords pid → ((pid || i != 0) && (F32.mk w).bad) = false → c < (if pid then 16 else 96) →
      exec (.coefficientWrite t w port) s =
      .next (after s (((d.setBank pid c b (setAt (d.bank pid c b) i w)).setStat pid c (6 + b) 0).cwAdvance))) ∧
  (∀ (s : State) (t : Nat) (d : Dev), d = s.dev.advance t → d.coreUp = true → exec (.coefficientRead t) s =
      .next (after s (({ d with host := { d.host with readOut := d.cwData } } : Dev).cwAdvance))) ∧
  (∀ (s : State) (t : Nat) (d : Dev) pid c b i, d = s.dev.advance t → d.coreUp = true → d.cwSel = (pid, c, b, i) →
      c < (if pid then 16 else 96) → d.blendTarget pid c b = false → judgeBank pid (d.pidStep c) (d.bank pid c b) ≠ 1 →
      exec (.bankValidate t) s =
      .next (after s ((d.set Reg.LOOP_CW_VAL.RESULT (judgeBank pid (d.pidStep c) (d.bank pid c b))).setStat pid c (6 + b) 0))) ∧
  (∀ (s : State) (t : Nat) (d : Dev) pid c b i (n : Dev) (w : List Word), d = s.dev.advance t → d.coreUp = true →
      d.cwSel = (pid, c, b, i) → c < (if pid then 16 else 96) → d.blendTarget pid c b = false → w = d.bank pid c b →
      judgeBank pid (d.pidStep c) w = 1 → n = d.set Reg.LOOP_CW_VAL.RESULT 1 → exec (.bankValidate t) s =
      .next (after s ((n.setBank pid c b (bankSealed pid w)).setStat pid c (6 + b) 1))) ∧
  (∀ (s : State) (t : Nat) (d : Dev) pid channel bank lenM1 (n : Dev), d = s.dev.advance t → d.coreUp = true →
      channel < (if pid then 16 else 96) →
      n = (d.set ⟨statAt pid channel - 4, 2, 1⟩ (bank % 2)).set ⟨statAt pid channel - 4, 3, 12⟩ (lenM1 % 4096) →
      n.stat pid channel 2 ≠ 1 → exec (.bankRequest t pid channel bank lenM1) s =
      .next (after s (n.setReq pid channel (some ⟨bank % 2, lenM1 % 4096 + 1, d.sched.st, false⟩) none))) ∧
  (∀ (s : State) (t : Nat) (d : Dev) count hdgMode clear (n : Dev), d = s.dev.advance t → d.coreUp = true →
      n = (d.set Reg.LOOP_PATH_CTRL.COUNT count).setB Reg.LOOP_PATH_CTRL.HDG_MODE hdgMode →
      exec (.pathCommit t count hdgMode clear) s =
      .next (after s
        (({ (n.setB Reg.LOOP_PATH_STAT.PENDING true) with loop := { d.loop with pathReq := some (clear, true, count % 64, hdgMode) } }
        : Dev)))) ∧
  (∀ (s : State) (t : Nat) (d : Dev), d = s.dev.advance t → d.coreUp = true → exec (.pathClear t) s =
      .next (after s
        (({ (d.setB Reg.LOOP_PATH_STAT.PENDING true) with loop := { d.loop with pathReq := some (true, false, d.get Reg.LOOP_PATH_CTRL.COUNT, d.flag Reg.LOOP_PATH_CTRL.HDG_MODE) } }
        : Dev)))) ∧
  (∀ (s : State) (t : Nat) (d : Dev) u, d = s.dev.advance t → d.coreUp = true → u < 8 → exec (.traceArm t u) s =
      .next (after s
        (((({ d with loop := { d.loop with trace := setAt d.loop.trace u ⟨0, 0, [], none, 0, d.get (Reg.LOOP_TR.DEC.DEC u)⟩ } }
        : Dev).set (Reg.LOOP_TR.STAT.STATE u) 1).set (Reg.LOOP_TR.STAT.PRE_HAVE u) 0).set (Reg.LOOP_TR.FIRST_TS.FIRST_TS u) 0))) ∧
  (∀ (s : State) (t : Nat) (d : Dev) u, d = s.dev.advance t → d.coreUp = true → u < 8 → d.get (Reg.LOOP_TR.STAT.STATE u) = 1 →
      exec (.traceForce t u) s = .next (after s (Dev.flushTrace 24 (d.traceTrigger u)))) ∧
  (∀ (s : State) (t : Nat) (d : Dev) u, d = s.dev.advance t → d.coreUp = true → u < 8 →
      (d.get (Reg.LOOP_TR.STAT.STATE u) = 1 ∨ d.get (Reg.LOOP_TR.STAT.STATE u) = 2) → exec (.traceStop t u) s =
      .next (after s (d.set (Reg.LOOP_TR.STAT.STATE u) 3)))

/-- The CAN commands run (R344, R346, R348, R350, R373, R349, R367). -/
def Obligations.BusCommandsComplete : Prop :=
  (∀ (s : State) (t : Nat) (d : Dev) f b, d = s.dev.advance t → d.coreUp = true → d.canSends f.ctrl = true →
      d.goneAt f = none → (d.noteSof f).onBus f = some b → b.cancel = false → exec (.canTxComplete t f) s =
      .next (after s (((((d.noteSof f).countSent f b.frame).nextInBuf f.ctrl b).txResult f.ctrl f.key 0).judgeCan f.ctrl))) ∧
  (∀ (s : State) (t : Nat) (d : Dev) f code inc dataPhase b (n : Dev), d = s.dev.advance t → d.coreUp = true →
      d.canSends f.ctrl = true → d.goneAt f = none → (d.noteSof f).onBus f = some b → code % 7 ≠ 0 →
      n = (d.noteSof f).txFailed f.ctrl b → exec (.canTxError t f code inc dataPhase) s =
      .next (after s ((((n.set (Reg.CAN_CH.CH_LASTERR.CODE f.ctrl) (code % 7)).setB (Reg.CAN_CH.CH_LASTERR.DATA_PHASE f.ctrl)
        dataPhase).setCan f.ctrl (fun x => { x with tec := x.tec + inc })).judgeCan f.ctrl))) ∧
  (∀ (s : State) (t : Nat) (d : Dev) c code inc dataPhase, d = s.dev.advance t → d.coreUp = true → d.canActive c = true →
      ((d.set (Reg.CAN_CH.CH_LASTERR.CODE c) (code % 7)).setB (Reg.CAN_CH.CH_LASTERR.DATA_PHASE c) dataPhase).flag
        (Reg.CAN_CH.CH_STAT.LISTENING c) = false → exec (.canRxError t c code inc dataPhase) s =
      .next (after s ((((d.set (Reg.CAN_CH.CH_LASTERR.CODE c) (code % 7)).setB (Reg.CAN_CH.CH_LASTERR.DATA_PHASE c)
        dataPhase).setCan c fun x => { x with rxe := x.rxe + inc }).judgeCan c))) ∧
  (∀ (s : State) (t : Nat) (d : Dev) c, d = s.dev.advance t → d.coreUp = true → c < 6 →
      d.get (Reg.CAN_CH.CH_STAT.STATE c) = 2 → exec (.canRecover t c) s = .next (after s (d.canState c 3))) ∧
  (∀ (s : State) (t : Nat) (d : Dev) c, d = s.dev.advance t → d.coreUp = true → c < 6 →
      d.get (Reg.CAN_CH.CH_STAT.STATE c) = 3 → exec (.canBusoffRecoveryComplete t c) s =
      .next (after s (((d.setCan c fun x => { x with tec := 0, rxe := 0 }).showCan c).canState c 0))) ∧
  (∀ (s : State) (t : Nat) (d : Dev) c on port, d = s.dev.advance t → d.coreUp = true → c < 6 → d.mode = 7 → on = true →
      exec (.canListen t c on port) s =
      .next (after s (((d.setB (Reg.CAN_CH.CH_CTRL.LISTEN c) true).setB (Reg.CAN_CH.CH_STAT.LISTENING c) true).endStarted c))) ∧
  (∀ (s : State) (t : Nat) (d : Dev) c on port, d = s.dev.advance t → d.coreUp = true → c < 6 → on = false →
      exec (.canListen t c on port) s =
      .next (after s ((d.setB (Reg.CAN_CH.CH_CTRL.LISTEN c) false).setB (Reg.CAN_CH.CH_STAT.LISTENING c) false))) ∧
  (∀ (s : State) (t : Nat) (d : Dev) port c buf dlc (n : Dev) b id xtd fd, d = s.dev.advance t → d.coreUp = true → c < 6 →
      n = ((d.set (Reg.CAN_HTX.HTX_CTRL.BUF c) buf).set (Reg.CAN_HTX.HTX_CTRL.DLC c) dlc).showHtx c → n.framesOff = false →
      b = n.get (Reg.CAN_HTX.HTX_CTRL.BUF c) → id = n.get (Reg.CAN_HTX.HTX_ID.ID c) → xtd = n.flag (Reg.CAN_HTX.HTX_ID.XTD c) →
      fd = n.flag (Reg.CAN_HTX.HTX_ID.FD c) → (xtd = true ∨ id < 2048) → n.idRefused id xtd = false →
      n.txBuf c (.host b) = none → exec (.hostTxGo t port c buf dlc) s =
      .next (after s ((n.setBuf c ⟨.host b, ⟨id, xtd, fd, n.flag (Reg.CAN_HTX.HTX_ID.BRS c), n.get (Reg.CAN_HTX.HTX_CTRL.DLC c),
        ((List.range 16).flatMap fun q => leBytes 4 (n.get (Reg.CAN_HTX.DATA.DATA c q))).take (dlcBytes fd (n.get
        (Reg.CAN_HTX.HTX_CTRL.DLC c)))⟩, none, false, none, n.sched.st⟩).txResult c (.host b) 1))) ∧
  (∀ (s : State) (t : Nat) (d : Dev) c buf sofs (n : Dev) k b (m : Dev), d = s.dev.advance t → d.coreUp = true → c < 6 →
      n = ((d.noteSofs sofs).set (Reg.CAN_HTX.HTX_CTRL.BUF c) buf).showHtx c →
      k = TxKey.host (n.get (Reg.CAN_HTX.HTX_CTRL.BUF c)) → n.txBuf c k = some b → b.sof = none →
      m = ((n.dropBuf c k).inc (Reg.CAN_CH.CH_TXCNT.CANCELLED c)).txResult c k 2 → exec (.hostTxCancel t c buf sofs) s =
      .next (after s (m.setCan c fun x => { x with gone := (b, m.sched.st) :: x.gone.filter fun e => e.1.key != k }))) ∧
  (∀ (s : State) (t : Nat) (d : Dev) c dominant frame inp, d = s.dev.advance t → c < 6 → d.canWakes c dominant frame = true →
      d.bitAt Reg.CLK_WAKE_EN.EN 0 = true → d.clk.phase = .dormant → exec (.canWake t c dominant frame inp) s =
      .next (after s
        (({ d with clk := { d.clk with wakes := d.clk.wakes ||| 1, wakeCtrl := if d.get (Reg.CAN_CH.CH_CFG.WAKE c) = 2 then c else 7 } }
        : Dev).start 6 0 false inp))) ∧
  (∀ (s : State) (t : Nat) (d : Dev) thr a (n : Dev), d = s.dev.advance t → d.coreUp = true → thr < 16 →
      (d.thr thr).since = some a → (d.thr thr).episode = false →
      max a ((d.thr thr).fbAt.getD 0) + nsOfMs (d.paramF P.OUT.FB_TIMEOUT) ≤ d.sched.st →
      (n = ((d.setThr thr (fun e => { e with episode := true })).inc (Reg.OUT_THR.TH_CNT.FBTO thr)).setB
        Reg.OUT_STATUS.FBTO_STICKY true) → exec (.feedbackTimeout t thr) s =
      .next (after s (n.raiseSub 75 thr [0xF0000, 0xF010C + 0x20 * thr, 0xF0110 + 0x20 * thr])))

/-- The redundancy commands run (R382, R381, R391, R393, R398, R396, R400, R404, R403). -/
def Obligations.RedundancyCommandsComplete : Prop :=
  (∀ (s : State) (t : Nat) (d : Dev) l bs, d = s.dev.advance t → d.coreUp = true → l < 2 →
      exec (.coruzFrameReceived t l bs) s = .next (after s (d.coruzReceived l bs))) ∧
  (∀ (s : State) (t : Nat) (d : Dev) l a, d = s.dev.advance t → d.coreUp = true → l < 2 → (d.link l).validAt = some a →
      a + d.linkTimeout ≤ d.sched.st → exec (.coruzLinkTimeout t l) s = .next (after s (d.linkDown l))) ∧
  (∀ (s : State) (t : Nat) (d : Dev) l, d = s.dev.advance t → d.coreUp = true → l < 2 → exec (.coruzBlockLockLoss t l) s =
      .next (after s ((d.setB (Reg.RED_LINK.LK_STAT.LOCK l) false).linkDown l))) ∧
  (∀ (s : State) (t : Nat) (d : Dev) done p m, d = s.dev.advance t → d.coreUp = true → d.flag Reg.RED_STATUS.SYNC = true →
      done = true → d.red.mirrorPrev = some p → d.red.mirror = some m → exec (.shadowRepeatComplete t done) s =
      .next (after s (d.addWord m.seq d.unit (d.repeatWord p m)))) ∧
  (∀ (s : State) (t : Nat) (d : Dev) cond sram addr sofs, d = s.dev.advance t → d.coreUp = true →
      exec (.canaryForcingReport t cond sram addr sofs) s = .next (after s ((d.noteSofs sofs).reportForcing cond sram addr))) ∧
  (∀ (s : State) (t : Nat) (d : Dev), d = s.dev.advance t → d.coreUp = true → exec (.claimWaitExpiry t) s =
      .next (after s (d.judgeRole))) ∧
  (∀ (s : State) (t : Nat) (d : Dev), d = s.dev.advance t → d.coreUp = true → exec (.echoWindowExpiry t) s =
      .next (after s (d.judgeEcho))) ∧
  (∀ (s : State) (t : Nat) (d : Dev), d = s.dev.advance t → d.coreUp = true → exec (.revertDwellComplete t) s =
      .next (after s (d.judgeDwell.revertNow))) ∧
  (∀ (s : State) (t : Nat) (d : Dev) a (n : Dev), d = s.dev.advance t → d.coreUp = true → d.red.revertAt = some a →
      a + 50000000 ≤ d.sched.st → d.get Reg.RED_ECHO.OWN = 0 →
      n = ({ d with red := { d.red with holds := false, revertAt := none } } : Dev) → exec (.revertEchoTimeout t) s =
      .next (after s ((((n.setB Reg.RED_EVT.REVERT_FAIL_STICKY true).note 0x03 0x10 82 [n.word 0x100000, n.word 0x100010,
        0]).judgeRole).judgeDwell))) ∧
  (∀ (s : State) (t : Nat) (d : Dev) port, d = s.dev.advance t → d.coreUp = true → d.mode = 7 → d.red.drill = none →
      d.drillReady = true → exec (.drillGo t port) s =
      .next (after s ((((({ d with red := { d.red with drill := some ⟨d.sched.st, 0, [], 0, false⟩ } } : Dev).setB
        Reg.RED_DRILL_RES.BUSY true).set Reg.RED_DRILL_RES.STEP 0).set Reg.RED_DRILL_RES.THR_FAIL 0)))) ∧
  (∀ (s : State) (t : Nat) (d : Dev) r, d = s.dev.advance t → d.coreUp = true → d.red.drill = some r → exec (.drillEnd t) s =
      .next (after s (d.drillEnd))) ∧
  (∀ (s : State) (t : Nat) (d : Dev) r, d = s.dev.advance t → d.coreUp = true → d.red.drill = some r →
      exec (.drillAbort t) s = .next (after s (d.drillDone 3))) ∧
  (∀ (s : State) (t : Nat) (d : Dev), d = s.dev.advance t → d.coreUp = true → exec (.drillDue t) s =
      .next (after s (d.judgeDrillAge)))

/-- The safety commands run (R424, R423, R416, R426, R428, R410, R421, R430, R415, R427). -/
def Obligations.SafetyCommandsComplete : Prop :=
  (∀ (s : State) (t : Nat) (d : Dev) n chB level, d = s.dev.advance t → d.safeUp = true → n < 8 →
      exec (.safeInputChange t n chB level) s = .next (after s (d.inLevel n chB level))) ∧
  (∀ (s : State) (t : Nat) (d : Dev) n (m : Dev), d = s.dev.advance t → d.safeUp = true → n < 8 →
      heldFor d.sched.st (nsOfMs (d.sealedF P.SAFE.IN_DISC)) (d.safeIn n).diffSince = true →
      d.flag (Reg.SAFE_IN.IN_STAT.DISC n) = false →
      (m = (d.setB (Reg.SAFE_IN.IN_STAT.DISC n) true).setIn n fun y => { y with bothLow := false }) →
      exec (.safeInputDiscrepancy t n) s =
      .next (after s ((m.note 0x08 0x11 6 (m.safeWords n (m.word (0x110200 + 0x10 * n)))).judgeIn n))) ∧
  (∀ (s : State) (t : Nat) (d : Dev), d = s.dev.advance t → d.coreUp = true → d.sealedVal P.SAFE.STOP_AUTORESET = 1 →
      d.safe.stops.any d.autoresetDue = true → exec (.stopAutoreset t) s =
      .next (after s (d.keepStops (fun x => !d.autoresetDue x)))) ∧
  (∀ (s : State) (t : Nat) (d : Dev) port, d = s.dev.advance t → d.coreUp = true → d.stopHolds = false →
      (eight.any (fun f => d.flag (Reg.SAFE_FN.FN_STAT.ACTIVE f) && d.inhibits f) = false) → exec (.inhReset t port) s =
      .next (after s (d.safeReset))) ∧
  (∀ (s : State) (t : Nat) (d : Dev) port pass, d = s.dev.advance t → d.coreUp = true → (d.mode = 1 ∨ d.mode = 7) →
      exec (.outReset t port pass) s =
      .next (after s (eight.foldl (fun d n => if d.flag (Reg.SAFE_OUT.OUT_STAT.FAULT n) || d.flag
        (Reg.SAFE_OUT.OUT_STAT.DEFER_FAULT n) then (if pass.testBit n then ((((d.setB (Reg.SAFE_OUT.OUT_STAT.FAULT n)
        false).setB (Reg.SAFE_OUT.OUT_STAT.DEFER_FAULT n) false).testPassed n false).testPassed n true) else (d.inc
        (Reg.SAFE_OUT.OUT_CNT.FAIL n)).pairFault n) else d) d))) ∧
  (∀ (s : State) (t : Nat) (d : Dev) port l, d = s.dev.advance t → d.coreUp = true → d.mode = 7 → d.safe.load = none →
      (l = eight.filter fun n => d.sealedVal (P.SAFE.OUT_THRMASK n) != 0) → exec (.loadtest t port) s =
      .next (after s
        (({ d with safe := { d.safe with load := some ⟨d.sched.st, l, List.replicate l.length 0, List.replicate l.length 0⟩ } }
        : Dev).openPairs))) ∧
  (∀ (s : State) (t : Nat) (d : Dev) l, d = s.dev.advance t → d.coreUp = true → d.safe.load = some l →
      d.loadEnd l ≤ d.sched.st → exec (.loadTestComplete t) s = .next (after s (d.loadDone))) ∧
  (∀ (s : State) (t : Nat) (d : Dev) sel port, d = s.dev.advance t → d.coreUp = true → (d.mode = 1 ∨ d.mode = 7) →
      exec (.instSel t sel port) s =
      .next (after s (({ (d.set Reg.SAFE_CTRL.INST_SEL (sel % 8)) with safe := { d.safe with instDue := true } } : Dev)))) ∧
  (∀ (s : State) (t : Nat) (d : Dev) n chB low high u, d = s.dev.advance t → d.coreUp = true → n < 8 →
      d.testDue n (d.sched.st - 500000) chB = true → (d.safeOut n).demandAt = none → (d.safeOut n).onSince = some u →
      u ≤ d.sched.st - 500000 → low = true → high = true → exec (.safeOutTestPulse t n chB low high) s =
      .next (after s (d.testPassed n chB))) ∧
  (∀ (s : State) (t : Nat) (d : Dev), d = s.dev.advance t → d.safeUp = true → d.flag Reg.SAFE_STATUS.SEAL_OK = true →
      2 ≤ d.missedBeats → exec (.safetyWatchdog t) s = .next (after s (d.stopLatch 2 0 (d.sealedVal P.SAFE.WD_MASK)))) ∧
  (∀ (s : State) (t : Nat) (d : Dev) p q, d = s.dev.advance t → d.coreUp = true → exec (.sealSwitchRead t p q) s =
      .next (after s (d.switchRead (switchCode p q).1 (switchCode p q).2))) ∧
  (∀ (s : State) (t : Nat) (d : Dev) f, d = s.dev.advance t → d.coreUp = true → f < 8 →
      d.flag Reg.SAFE_STATUS.SEAL_OK = true → d.get (Reg.SAFE_FN.FN_CFG.REACT f) = 2 →
      nsOfSec (d.sealedF (P.SAFE.FN_ESC f)) ≠ 0 → d.flag (Reg.SAFE_FN.FN_STAT.ACTIVE f) = true →
      heldFor d.sched.st (nsOfSec (d.sealedF (P.SAFE.FN_ESC f))) (d.safeFn f).since = true →
      d.flag (Reg.SAFE_FN.FN_STAT.ESCALATED f) = false → exec (.safeEscalation t f) s =
      .next (after s ((d.setB (Reg.SAFE_FN.FN_STAT.ESCALATED f) true).inhibit f))) ∧
  (∀ (s : State) (t : Nat) (d : Dev) n (m : Dev), d = s.dev.advance t → d.coreUp = true → n < 8 → 60000000000 < d.deferNs n →
      d.flag (Reg.SAFE_OUT.OUT_STAT.DEFER_FAULT n) = false → m = (d.setB (Reg.SAFE_OUT.OUT_STAT.DEFER_FAULT n) true).openPairs →
      exec (.testDeferFault t n) s = .next (after s (m.safeEvent 85 n (m.word (0x110300 + 0x10 * n)))))

/-- The recorder's commands run (R441, R445, R438, R446, R448, R450, R451, R452, R457, R458, R462). -/
def Obligations.RecorderCommandsComplete : Prop :=
  (∀ (s : State) (t : Nat) (d : Dev) n, d = s.dev.advance t → d.coreUp = true → d.flag Reg.REC_STATUS.FROZEN = false →
      exec (.recordDrain t n) s =
      .next (after s ((if d.onNand then n.fails.foldl (fun d e => d.blockFails e.1 e.2) d else d).drain n.count n.broken))) ∧
  (∀ (s : State) (t : Nat) (d : Dev), d = s.dev.advance t → d.coreUp = true → d.onNand = true → d.recorder.openBatch ≠ [] →
      d.batchDue = true → exec (.nandBatchClose t) s = .next (after s (d.closeBatch))) ∧
  (∀ (s : State) (t : Nat) (d : Dev), d = s.dev.advance t → d.coreUp = true → d.recorder.hoursAt + 600000 ≤ d.oph →
      exec (.hoursCheckpoint t) s =
      .next (after s (({ d with recorder := { d.recorder with hoursAt := d.oph } } : Dev).note 0x0F 0x12 0 [BitVec.ofNat 32
        d.oph, BitVec.ofNat 32 (d.oph / 4294967296), d.word 0x120014]))) ∧
  (∀ (s : State) (t : Nat) (d : Dev) port, d = s.dev.advance t → d.coreUp = true → d.recorder.copying = false →
      exec (.recordReadGo t port) s =
      .next (after s
        (({ (d.setB Reg.REC_READ_RES.BUSY true) with recorder := { d.recorder with copying := true, copySrc := if d.flag Reg.REC_STATUS.FROZEN then some d.heldRecs else none } }
        : Dev)))) ∧
  (∀ (s : State) (t : Nat) (d : Dev) reads, d = s.dev.advance t → d.coreUp = true → d.recorder.copying = true →
      exec (.recordReadComplete t reads) s = .next (after s (d.readDone reads))) ∧
  (∀ (s : State) (t : Nat) (d : Dev) port (n : Dev), d = s.dev.advance t → d.coreUp = true →
      d.flag Reg.REC_STATUS.PROFILE = true → d.flag Reg.REC_STATUS.FROZEN = false →
      n = ((d.set Reg.REC_FREEZE_STAT.RESULT 0).set Reg.REC_FREEZE_STAT.END 0).setB Reg.REC_STATUS.FROZEN true →
      exec (.freeze t port) s =
      .next (after s (({ n with recorder := { d.recorder with freezeAt := d.sched.st } } : Dev).note 0x0C 0x12 2 []))) ∧
  (∀ (s : State) (t : Nat) (d : Dev), d = s.dev.advance t → d.coreUp = true → d.flag Reg.REC_STATUS.FROZEN = true →
      exec (.thaw t) s =
      .next (after s ((((d.set Reg.REC_FREEZE_STAT.ELAPSED d.frozenFor).set Reg.REC_FREEZE_STAT.END 1).setB
        Reg.REC_STATUS.FROZEN false).note 0x0C 0x12 3 []))) ∧
  (∀ (s : State) (t : Nat) (d : Dev), d = s.dev.advance t → d.coreUp = true → d.flag Reg.REC_STATUS.FROZEN = true →
      d.recorder.freezeAt + d.paramNs P.REC.FREEZE_MAX ≤ d.sched.st → exec (.freezeTimeout t) s =
      .next (after s ((((d.set Reg.REC_FREEZE_STAT.ELAPSED d.frozenFor).set Reg.REC_FREEZE_STAT.END 2).setB
        Reg.REC_STATUS.FROZEN false).note 0x0C 0x12 3 []))) ∧
  (∀ (s : State) (t : Nat) (d : Dev) (n : Dev), d = s.dev.advance t → d.coreUp = true →
      n =
        ({ d with recorder := { d.recorder with nonce := some (Config.nonce d.recorder.nonces, d.sched.st), nonces := d.recorder.nonces + 1 } }
        : Dev) → exec (.clearChallenge t) s =
      .next (after s ((List.range 8).foldl (fun e k => e.set (Reg.REC_CLR_CHAL.NONCE k) (ofLeBytes (((Config.nonce
        d.recorder.nonces).drop (4 * k)).take 4))) n))) ∧
  (∀ (s : State) (t : Nat) (d : Dev) replace port (n : Dev), d = s.dev.advance t → d.coreUp = true →
      n = d.setB Reg.REC_CLR_CTRL.REPLACE replace → d.recorder.clearing = none → n.clearResult = 0 →
      exec (.clearSubmit t replace port) s =
      .next (after s
        (({ (({ n with recorder := { n.recorder with nonce := none } } : Dev).set Reg.REC_CLR_RES.RESULT 1) with recorder := { n.recorder with nonce := none, clearing := some ((({ n with recorder := { n.recorder with nonce := none } } : Dev).heldRecs.map (fun x => x.seq)).headD 0, n.word 0x120004, replace) } }
        : Dev)))) ∧
  (∀ (s : State) (t : Nat) (d : Dev) c, d = s.dev.advance t → d.coreUp = true → d.recorder.clearing = some c →
      exec (.clearCommit t) s = .next (after s (d.clearCommit))) ∧
  (∀ (s : State) (t : Nat) (d : Dev) port, d = s.dev.advance t → d.coreUp = true → d.flag Reg.SYS_EXPERT.UNLOCKED = true →
      d.mode = 7 → d.recorder.key = none → exec (.clearKeyEnrol t port) s =
      .next (after s
        (({ (d.opened.setB Reg.REC_STATUS.KEY true) with recorder := { d.recorder with key := some (bytesOf ((List.range 8).map fun i => d.word (0x128000 + 4 * i))) } }
        : Dev)))) ∧
  (∀ (s : State) (t : Nat) (d : Dev) port marks, d = s.dev.advance t → d.coreUp = true → d.mode = 7 →
      d.flag Reg.SYS_EXPERT.UNLOCKED = true → d.flag Reg.NAND_STATUS.PRESENT = true → exec (.nandFormat t port marks) s =
      .next (after s (d.formatNand marks))) ∧
  (∀ (s : State) (t : Nat) (d : Dev) port, d = s.dev.advance t → d.coreUp = true → d.flag Reg.NAND_STATUS.SCRUBBING = false →
      d.onNand = true → d.flag Reg.REC_STATUS.FROZEN = false → exec (.scrubNow t port) s =
      .next (after s (d.setB Reg.NAND_STATUS.SCRUBBING true))) ∧
  (∀ (s : State) (t : Nat) (d : Dev), d = s.dev.advance t → d.coreUp = true →
      (d.paramF P.NAND.SCRUB_DAYS).le d.scrubAge = true → d.onNand = true → d.flag Reg.REC_STATUS.FROZEN = false →
      exec (.scrubPassStart t) s = .next (after s (d.setB Reg.NAND_STATUS.SCRUBBING true))) ∧
  (∀ (s : State) (t : Nat) (d : Dev) reads quiet (n : Dev), d = s.dev.advance t → d.coreUp = true →
      d.flag Reg.NAND_STATUS.SCRUBBING = true → d.flag Reg.REC_STATUS.FROZEN = false →
      (quiet = ((d.blocksWhere fun b => b.holds && !b.grownBad).filter fun i => !reads.any fun r => r.block = i).map (⟨·, 0,
        []⟩)) →
      (n = ((((reads ++ quiet).foldl (fun d r => Dev.judgeBlock true (d.blockRead r) r) d).setB Reg.NAND_STATUS.SCRUBBING
        false).incWrap Reg.NAND_SCRUB.PASSES).setBitAt Reg.NAND_STATUS.STICKY 1 true) → exec (.scrubPassComplete t reads) s =
      .next (after s
        (({ n with nand := { n.nand with passDt := (if n.flag Reg.TIME_STATUS.DT_VALID then some n.dtSec.toNat else none), passOph := n.oph } }
        : Dev).raise 92 [0x130000, 0x13001C]))) ∧
  (∀ (s : State) (t : Nat) (d : Dev) fail m l, d = s.dev.advance t → d.coreUp = true → d.nand.moving = m :: l →
      d.flag Reg.REC_STATUS.FROZEN = false → exec (.blockRelocationComplete t fail) s = .next (after s (d.relocated fail))) ∧
  (∀ (s : State) (t : Nat) (d : Dev), d = s.dev.advance t → d.coreUp = true → d.onNand = true →
      d.flag Reg.REC_STATUS.FROZEN = false → d.param P.NAND.WL_SPREAD < d.get Reg.NAND_EC_MAX.EC - d.get Reg.NAND_EC_MIN.EC →
      exec (.staticWearLevelling t) s = .next (after s (d.levelWear)))

/-- The cellar's commands run (R104, R105, R102, R103, R100). -/
def Obligations.CellarCommandsComplete : Prop :=
  (∀ (s : State) (t : Nat) (d : Dev) target src activate port (n : Dev), d = s.dev.advance t →
      (d.coreUp || d.clk.phase = .halted) = true → (d.coreUp && d.mode = 0) = false → src % 8 ≠ 5 → src % 8 ≠ 7 →
      n = (((d.set Reg.IMG_RACK.TARGET (target % 8)).setB Reg.IMG_RACK.ACTIVATE activate).set Reg.IMG_RACK.SRC (src % 8)) →
      d.img.racking = none → target % 8 ≠ 0 → target % 8 ≤ 4 → target % 8 ≠ n.dir.active →
      (n.sourceSet (src % 8)).isSome = true → exec (.rackingGo t target src activate port) s =
      .next (after s ((({ n with img := { n.img with racking := some ⟨src % 8, target % 8, activate, 1, false, none⟩ } } :
        Dev).setB Reg.IMG_RACK_RES.BUSY true).set Reg.IMG_RACK_RES.STEP 0))) ∧
  (∀ (s : State) (t : Nat) (d : Dev) fail r, d = s.dev.advance t → (d.coreUp || d.clk.phase = .halted) = true →
      d.img.racking = some r → exec (.rackingStepComplete t fail) s = .next (after s (d.rackAdvance fail))) ∧
  (∀ (s : State) (t : Nat) (d : Dev) port, d = s.dev.advance t → (d.coreUp || d.clk.phase = .halted) = true →
      d.img.submitted = none → exec (.acceptanceSubmit t port) s =
      .next (after s (({ d with img := { d.img with submitted := some (d.host.bar2.readAll 0x03900000 128) } } : Dev)))) ∧
  (∀ (s : State) (t : Nat) (d : Dev) b, d = s.dev.advance t → (d.coreUp || d.clk.phase = .halted) = true →
      d.img.submitted = some b → exec (.acceptanceVerifyComplete t) s = .next (after s (d.acceptDone))) ∧
  (∀ (s : State) (t : Nat) (d : Dev) slot port (n : Dev), d = s.dev.advance t → (d.coreUp || d.clk.phase = .halted) = true →
      d.flag Reg.SYS_EXPERT.UNLOCKED = true → d.mode = 7 → d.img.keys.getD (slot % 4) none = none →
      n = d.opened.set Reg.IMG_ACCKEY_CTRL.SLOT (slot % 4) → n.mode = 7 → exec (.acckeyEnrol t slot port) s =
      .next (after s
        ((({ n with img := { n.img with keys := setAt n.img.keys (slot % 4) (some (bytesOf ((List.range 8).map fun i => n.word (0x48000 + 4 * i)))) } }
        : Dev).showKeys.showDir)))) ∧
  (∀ (s : State) (t : Nat) (d : Dev) slot port (n : Dev), d = s.dev.advance t → (d.coreUp || d.clk.phase = .halted) = true →
      d.flag Reg.SYS_EXPERT.UNLOCKED = true → d.mode = 7 → n = d.opened.set Reg.IMG_ACCKEY_CTRL.SLOT (slot % 4) → n.mode = 7 →
      exec (.acckeyRevoke t slot port) s =
      .next (after s ((({ n with img := { n.img with revoked := n.img.revoked ||| 2 ^ (slot % 4) } } : Dev).showKeys.showDir)))) ∧
  (∀ (s : State) (t : Nat) (d : Dev), d = s.dev.advance t → d.coreUp = true → d.kgDue = true →
      d.dir.knownGood ≠ d.get Reg.IMG_STATUS.BOOTED → d.bootedHolds = true → exec (.knownGoodDwell t) s =
      .next (after s (d.dirChange fun x =>
        { (if d.get Reg.IMG_STATUS.BOOTED = 0 then (if (x.slots.getD x.knownGood DirSlot.empty).state == SlotState.knownGood then x.mark x.knownGood .racked else x) else (if (x.slots.getD x.knownGood DirSlot.empty).state == SlotState.knownGood then x.mark x.knownGood .racked else x).mark (d.get Reg.IMG_STATUS.BOOTED) .knownGood) with knownGood := d.get Reg.IMG_STATUS.BOOTED })))

/-- The parameter commands run (R108, R110, R117, R517). -/
def Obligations.ParameterCommandsComplete : Prop :=
  (∀ (s : State) (t : Nat) (d : Dev) lo port r q, d = s.dev.advance t → (d.coreUp || d.clk.phase = .halted) = true →
      d.paramRow (d.get Reg.PARAM_INDEX.INDEX) = some r →
      q = (if r.type == .fp64 then d.params.dataHi ++ lo else lo.setWidth 64) →
      d.paramError (d.get Reg.PARAM_INDEX.INDEX) q = 0 → exec (.paramDataWrite t lo port) s =
      .next (after s (d.paramWait (d.get Reg.PARAM_INDEX.INDEX) q))) ∧
  (∀ (s : State) (t : Nat) (d : Dev) port (n : Dev), d = s.dev.advance t → (d.coreUp || d.clk.phase = .halted) = true →
      d.params.commit = none →
      n = (d.set Reg.PARAM_COMMIT.OP 0).set Reg.PARAM_COMMIT.INDEX (d.get Reg.PARAM_COMMIT.INDEX % 65536) →
      exec (.paramCommitAll t port) s =
      .next (after s
        (({ (n.setB Reg.PARAM_COMMIT_RES.BUSY true) with params := { n.params with commit := some ⟨n.sched.st, 0, d.get Reg.PARAM_COMMIT.INDEX % 65536, none⟩ } }
        : Dev)))) ∧
  (∀ (s : State) (t : Nat) (d : Dev) port (n : Dev), d = s.dev.advance t → (d.coreUp || d.clk.phase = .halted) = true →
      d.params.commit = none →
      n = (d.set Reg.PARAM_COMMIT.OP 3).set Reg.PARAM_COMMIT.INDEX (d.get Reg.PARAM_COMMIT.INDEX % 65536) →
      exec (.paramClearAllMask t port) s =
      .next (after s
        (({ (n.setB Reg.PARAM_COMMIT_RES.BUSY true) with params := { n.params with commit := some ⟨n.sched.st, 3, d.get Reg.PARAM_COMMIT.INDEX % 65536, none⟩ } }
        : Dev)))) ∧
  (∀ (s : State) (t : Nat) (d : Dev) index port (n : Dev), d = s.dev.advance t → (d.coreUp || d.clk.phase = .halted) = true →
      d.params.commit = none → isSafeParam (index % 65536) = false → (d.paramRow (index % 65536)).isSome = true →
      n = (d.set Reg.PARAM_COMMIT.OP 1).set Reg.PARAM_COMMIT.INDEX (index % 65536) → exec (.paramCommitIndex t index port) s =
      .next (after s
        (({ (n.setB Reg.PARAM_COMMIT_RES.BUSY true) with params := { n.params with commit := some ⟨n.sched.st, 1, index % 65536, none⟩ } }
        : Dev)))) ∧
  (∀ (s : State) (t : Nat) (d : Dev) index port (n : Dev), d = s.dev.advance t → (d.coreUp || d.clk.phase = .halted) = true →
      d.params.commit = none → isSafeParam (index % 65536) = false → (d.paramRow (index % 65536)).isSome = true →
      n = (d.set Reg.PARAM_COMMIT.OP 2).set Reg.PARAM_COMMIT.INDEX (index % 65536) → exec (.paramClearMaskBit t index port) s =
      .next (after s
        (({ (n.setB Reg.PARAM_COMMIT_RES.BUSY true) with params := { n.params with commit := some ⟨n.sched.st, 2, index % 65536, none⟩ } }
        : Dev)))) ∧
  (∀ (s : State) (t : Nat) (d : Dev) fail c vals, d = s.dev.advance t → (d.coreUp || d.clk.phase = .halted) = true →
      d.params.commit = some c → c.captured = some vals → exec (.paramCommitComplete t fail) s =
      .next (after s (d.commitDone fail))) ∧
  (∀ (s : State) (t : Nat) (d : Dev) port, d = s.dev.advance t → (d.coreUp || d.clk.phase = .halted) = true →
      d.params.snapping = false → exec (.paramBulkSnap t port) s =
      .next (after s (({ d with params := { d.params with snapping := true } } : Dev)))) ∧
  (∀ (s : State) (t : Nat) (d : Dev), d = s.dev.advance t → (d.coreUp || d.clk.phase = .halted) = true →
      d.params.snapping = true → exec (.paramBulkSnapComplete t) s =
      .next (after s ((({ d with params := { d.params with snapping := false } } : Dev).bar2Write 0x03A00000
        d.snapBytes).doorbell 5))) ∧
  (∀ (s : State) (t : Nat) (d : Dev) port, d = s.dev.advance t → (d.coreUp || d.clk.phase = .halted) = true →
      d.bulkEntries.any malformed = false → (∀ e ∈ d.bulkEntries, d.paramError e.1 e.2 = 0) → exec (.paramBulkApply t port) s =
      .next (after s ((d.bulkEntries.foldl (fun d e => d.paramWait e.1 e.2) d).doorbell 6)))

/-- The clock commands run (R464, R465, R467, R480). -/
def Obligations.ClockCommandsComplete : Prop :=
  (∀ (s : State) (t : Nat) (d : Dev) ref (n : Dev), d = s.dev.advance t → d.coreUp = true → n = d.refHere (ref % 2) false →
      n.get Reg.CLK_STATUS.REF = ref % 2 → n.refPresent (1 - ref % 2) = true → exec (.refLoss t ref) s =
      .next (after s (n.refSwitch (1 - ref % 2)))) ∧
  (∀ (s : State) (t : Nat) (d : Dev) ref (n : Dev), d = s.dev.advance t → d.coreUp = true → n = d.refHere (ref % 2) false →
      n.get Reg.CLK_STATUS.REF = ref % 2 → n.refPresent (1 - ref % 2) = false → exec (.refLoss t ref) s =
      .next (after s (n.pllUnlock))) ∧
  (∀ (s : State) (t : Nat) (d : Dev) ref ofs (n : Dev), d = s.dev.advance t → d.coreUp = true →
      d.refMayQualify (ref % 2) = true →
      n = (((d.refHere (ref % 2) true).setBitAt ⟨0x10000, 3, 2⟩ (ref % 2) true).setInt Reg.CLK_REF.EXT_OFS ofs) →
      n.get Reg.CLK_STATUS.REF ≠ ref % 2 → n.refPresent (n.get Reg.CLK_STATUS.REF) = true → n.param P.CLK.REF_PRIO ≠ ref % 2 →
      exec (.refQualified t ref ofs) s = .next (after s (n))) ∧
  (∀ (s : State) (t : Nat) (d : Dev) ref ofs (n : Dev), d = s.dev.advance t → d.coreUp = true →
      d.refMayQualify (ref % 2) = true →
      n = (((d.refHere (ref % 2) true).setBitAt ⟨0x10000, 3, 2⟩ (ref % 2) true).setInt Reg.CLK_REF.EXT_OFS ofs) →
      n.get Reg.CLK_STATUS.REF ≠ ref % 2 → n.refPresent (n.get Reg.CLK_STATUS.REF) = false → exec (.refQualified t ref ofs) s =
      .next (after s (n.refSwitch (ref % 2)))) ∧
  (∀ (s : State) (t : Nat) (d : Dev) ofs (n : Dev), d = s.dev.advance t → d.coreUp = true →
      n = d.setInt Reg.CLK_REF.EXT_OFS ofs → n.refOk 0 = true → n.refOk 1 = true →
      ((n.paramF P.CLK.REF_TOL).lt ((F64.ofRatio ofs 100).abs)) = true → exec (.refDisqualify t ofs) s =
      .next (after s (n.setBitAt ⟨0x10000, 3, 2⟩ (1 - n.get Reg.CLK_STATUS.REF) false))) ∧
  (∀ (s : State) (t : Nat) (d : Dev) (n : Dev), d = s.dev.advance t → d.coreUp = true → d.flag Reg.CLK_STATUS.LOCKED = true →
      n = ((((({ d with clk := { d.clk with unlockAt := d.sched.st } } : Dev).setB Reg.CLK_STATUS.LOCKED false).setB
        Reg.CLK_STATUS.HOLD true).setB Reg.CLK_STATUS.UNLOCK_STICKY true).raise 11 [0x10000, 0x10008]).uncover 0 →
      exec (.pllUnlock t) s = .next (after s (({ n with red := { n.red with clockFault := true } } : Dev).judgeVerdict))) ∧
  (∀ (s : State) (t : Nat) (d : Dev) ok, d = s.dev.advance t → d.coreUp = true → ok = true →
      d.flag Reg.CLK_STATUS.LOCKED = false → d.refPresent (d.get Reg.CLK_STATUS.REF) = true →
      (d.sched.st - d.clk.unlockAt) % 10000000 = 0 → d.sched.st ≠ d.clk.unlockAt → exec (.pllRelockAttempt t ok) s =
      .next (after s (((d.setB Reg.CLK_STATUS.LOCKED true).setB Reg.CLK_STATUS.HOLD false).recoverCondition 0))) ∧
  (∀ (s : State) (t : Nat) (d : Dev) count spacing lens port (n : Dev) x, d = s.dev.advance t → d.coreUp = true →
      d.flag Reg.SYS_EXPERT.UNLOCKED = true → count % 64 ≠ 0 → spacing % 256 ≠ 0 →
      n = (d.opened.set Reg.CLK_XPULSE.COUNT (count % 64)).set Reg.CLK_XPULSE.SPACING (spacing % 256) → n.mode = 7 →
      x = crossBurst (count % 64) (spacing % 256) lens → x.lost = false → exec (.xpulseBurst t count spacing lens port) s =
      .next (after s (((n.set Reg.CLK_XPULSE_RES.RECEIVED x.got).setB Reg.CLK_XPULSE_RES.DONE true).note 0x01 0x01 1 [((n.set
        Reg.CLK_XPULSE_RES.RECEIVED x.got).setB Reg.CLK_XPULSE_RES.DONE true).word 0x18000, ((n.set Reg.CLK_XPULSE_RES.RECEIVED
        x.got).setB Reg.CLK_XPULSE_RES.DONE true).word 0x18004]))) ∧
  (∀ (s : State) (t : Nat) (d : Dev) port (n : Dev) r, d = s.dev.advance t → d.coreUp = true →
      d.flag Reg.SYS_EXPERT.UNLOCKED = true → n = d.opened → n.mode = 7 → r = 1 - n.get Reg.CLK_STATUS.REF → n.refOk r = true →
      exec (.forceRefSwitch t port) s = .next (after s ((n.refSwitch r).note 0x01 0x01 2 [n.word 0x10000])))

/-- Power, resets and wakes run (R470, R471, R475, R520, R524). -/
def Obligations.PowerCommandsComplete : Prop :=
  (∀ (s : State) (t : Nat) (d : Dev) domain coreKept inp, d = s.dev.advance t → d.coreUp = true → 1 ≤ domain → domain ≤ 6 →
      exec (.domainPowerFail t domain coreKept inp) s = .next (after s (d.start 5 domain (coreKept && domain != 2) inp))) ∧
  (∀ (s : State) inp, s.dev.clk.phase ≠ .aonLost → s.dev.clk.phase ≠ .resetHeld → exec (.powerOn inp) s =
      .next (after s (s.dev.start (if s.dev.clk.aonGone then 1 else 0) 0 false inp))) ∧
  (∀ (s : State) (t : Nat) (d : Dev), d = s.dev.advance t → exec (.vaonLoss t) s =
      .next (after s
        (({ (d.down .aonLost) with clk := { (d.down .aonLost).clk with clean := false, wakes := 0, wakeCtrl := 7, aonDt := none, aonGone := true } }
        : Dev)))) ∧
  (∀ (s : State) inp, s.dev.clk.phase = .aonLost → s.dev.clk.vinHere = true → exec (.vaonRestore inp) s =
      .next (after s (s.dev.start 1 0 false inp))) ∧
  (∀ (s : State) (t : Nat) (d : Dev), d = s.dev.advance t → d.clk.phase ≠ .aonLost → exec (.resetNAssert t) s =
      .next (after s (d.down .resetHeld))) ∧
  (∀ (s : State) inp, s.dev.clk.phase = .resetHeld → s.dev.clk.vinHere = true → exec (.resetNRelease inp) s =
      .next (after s (s.dev.start 2 0 false inp))) ∧
  (∀ (s : State) (t : Nat) (d : Dev) w port inp, d = s.dev.advance t → d.coreUp = true → w = 0x8000005A →
      d.clk.shutdown = none → exec (.deviceReset t w port inp) s = .next (after s (d.start 3 0 true inp))) ∧
  (∀ (s : State) (t : Nat) (d : Dev), d = s.dev.advance t → d.coreUp = true → exec (.watchdogPrewarn t) s =
      .next (after s (d.raise 19 [0x10000, 0x1000C]))) ∧
  (∀ (s : State) (t : Nat) (d : Dev) inp, d = s.dev.advance t → d.coreUp = true → exec (.watchdogReset t inp) s =
      .next (after s ((d.levelAtRestart 3).start 4 0 true inp))) ∧
  (∀ (s : State) (t : Nat) (d : Dev) inp, d = s.dev.advance t → d.bitAt Reg.CLK_WAKE_EN.EN 2 = true → d.clk.phase = .dormant →
      exec (.wakeNAssert t inp) s =
      .next (after s (({ d with clk := { d.clk with wakes := d.clk.wakes ||| 4, wakeCtrl := 7 } } : Dev).start 6 0 false inp))) ∧
  (∀ (s : State) (t : Nat) (d : Dev) inp, d = s.dev.advance t → d.bitAt Reg.CLK_WAKE_EN.EN 3 = true → d.clk.phase = .dormant →
      exec (.spiWake t inp) s =
      .next (after s (({ d with clk := { d.clk with wakes := d.clk.wakes ||| 8, wakeCtrl := 7 } } : Dev).start 6 0 false inp))) ∧
  (∀ (s : State) (t : Nat) (d : Dev) inp, d = s.dev.advance t → d.get Reg.CLK_WAKE_TIMER.SECONDS ≠ 0 →
      d.bitAt Reg.CLK_WAKE_EN.EN 4 = true → d.clk.phase = .dormant →
      d.clk.stopAt.getD 0 + 1000000000 * d.get Reg.CLK_WAKE_TIMER.SECONDS ≤ d.sched.st → exec (.wakeTimerExpiry t inp) s =
      .next (after s (({ d with clk := { d.clk with wakes := d.clk.wakes ||| 16, wakeCtrl := 7 } } : Dev).start 6 0 false inp))) ∧
  (∀ (s : State) inp, s.dev.clk.phase = .tripped → exec (.thermalTripRelease inp) s =
      .next (after s ((s.dev.start 5 2 false inp).setB Reg.SYS_ENV_STAT.TRIP_LAST true))) ∧
  (∀ (s : State) t (n : Dev),
      n = ({ (s.dev.advance t).setVin false with clk := { ((s.dev.advance t).setVin false).clk with vinLost := true } } : Dev) →
      n.clk.phase ≠ .aonLost → n.clk.phase ≠ .resetHeld → exec (.vinBrownout t) s = .next (after s (n.down .off)))

/-- Shutdown, lamp check, ladder and test port run (R482, R486, R491, R492, R493, R494, R495). -/
def Obligations.ShutdownCommandsComplete : Prop :=
  (∀ (s : State) (t : Nat) (d : Dev) w port sofs (n : Dev), d = s.dev.advance t → d.coreUp = true → w = 0x800000A5 →
      n = d.noteSofs sofs → (n.mode = 1 ∨ n.mode = 7) → n.clk.shutdown = none → exec (.shutdownRequest t w port sofs) s =
      .next (after s (n.shutDown 0))) ∧
  (∀ (s : State) (t : Nat) (d : Dev) sofs (n : Dev), d = s.dev.advance t → d.coreUp = true → n = d.noteSofs sofs →
      n.clk.phase ≠ .enteringDormant → n.mode ≠ 0 → n.clk.shutdown = none → exec (.shutdownPin t sofs) s =
      .next (after s (n.shutDown 1))) ∧
  (∀ (s : State) (t : Nat) (d : Dev) sofs (n : Dev), d = s.dev.advance t → d.coreUp = true → n = d.noteSofs sofs →
      n.clk.phase = .enteringDormant → exec (.shutdownPin t sofs) s =
      .next (after s (({ n.holdPower with clk := { n.holdPower.clk with dormantAbandon := true } } : Dev)))) ∧
  (∀ (s : State) (t : Nat) (d : Dev) x inp e, d = s.dev.advance t → d.coreUp = true → d.clk.shutdown = some e →
      exec (.lampCheckComplete t x inp) s = .next (after s (d.lampDone x inp))) ∧
  (∀ (s : State) (t : Nat) (d : Dev) port (n : Dev), d = s.dev.advance t → d.coreUp = true →
      n = d.set Reg.SYS_RECOVER.RUNG 1 → n.bist.level = 0 → n.mode ≠ 0 → exec (.recoverRung1 t port) s =
      .next (after s ((n.setB Reg.SYS_RECOVER.REFUSED false).setLevel 1))) ∧
  (∀ (s : State) (t : Nat) (d : Dev) block port (n : Dev) (m : Dev), d = s.dev.advance t → d.coreUp = true →
      n = (d.set Reg.SYS_RECOVER.BLOCK (block % 256)).set Reg.SYS_RECOVER.RUNG 2 → n.bist.level ≤ 1 → n.mode ≠ 0 →
      m = n.setB Reg.SYS_RECOVER.REFUSED false → m.blockResettable (block % 256) = true → m.clk.shutdown = none →
      exec (.recoverBlockReset t block port) s =
      .next (after s (({ m with bist := { m.bist with blockReset := some (block % 256) } } : Dev).setLevel 2))) ∧
  (∀ (s : State) (t : Nat) (d : Dev) key port inp (n : Dev) (m : Dev), d = s.dev.advance t → d.coreUp = true → key = 0x5A →
      n = d.set Reg.SYS_RECOVER.RUNG 3 → n.bist.level ≤ 3 → n.mode ≠ 0 → m = n.setB Reg.SYS_RECOVER.REFUSED false →
      m.clk.shutdown = none → exec (.recoverDeviceReset t key port inp) s =
      .next (after s ((m.levelAtRestart 3).start 3 0 true inp))) ∧
  (∀ (s : State) (t : Nat) (d : Dev) key count port (n : Dev) (m : Dev) (dk : Dev), d = s.dev.advance t → d.coreUp = true →
      key = 0x5A → n = d.set Reg.SYS_RECOVER.RUNG 4 → n.bist.level ≤ 4 → n.mode ≠ 0 → m = n.setB Reg.SYS_RECOVER.REFUSED false →
      m.clk.shutdown = none → m.clk.cycleReq = false →
      dk = ((((m.levelAtRestart 4).set Reg.SYS_RECOVER.LEVEL 4).holdPower.endFreeze 0).drain count []).closeBatch →
      exec (.recoverPowerCycle t key count port) s =
      .next (after s
        (({ dk.stopSchedule with clk := { dk.clk with phase := .cycling, cycleReq := true, cycleAt := dk.sched.st } } : Dev)))) ∧
  (∀ (s : State) (t : Nat) (d : Dev) inp (n : Dev), d = s.dev.advance t → d.coreUp = true → d.clk.phase = .cycling →
      n = d.start 3 0 true inp → d.clk.cycleAt + d.paramNs P.SYS.CYCLE_WAIT ≤ d.sched.st → exec (.cycleWaitExpiry t inp) s =
      .next (after s (({ n with bist := { n.bist with cycleFail := true } } : Dev)))) ∧
  (∀ (s : State) (t : Nat) (d : Dev), d = s.dev.advance t → d.coreUp = true → d.bist.level ≠ 0 → exec (.recoverAck t) s =
      .next (after s ((({ d with bist := { d.bist with level := 0 } } : Dev).set Reg.SYS_RECOVER.LEVEL 0).raise 18 [0x18]))) ∧
  (∀ (s : State) (t : Nat) (d : Dev) port (n : Dev), d = s.dev.advance t → d.coreUp = true →
      d.flag Reg.SYS_EXPERT.UNLOCKED = true → d.opened.mode = 7 →
      n = (((d.opened.clearSecrets.setB Reg.BIST_XSCAN.SCAN_EN true).setB Reg.BIST_STATUS.SCAN_OPEN true).setB
        Reg.CLK_CTRL.FULL_NEXT true) → exec (.scanEnable t port) s =
      .next (after s
        (({ n with safe := { n.safe with scanOpen := true }, out := { n.out with can := n.out.can.map (fun c => { c with bufs := [] }) } }
        : Dev).openPairs)))

/-- The host's accesses run (R8, R11, R500, R501, R502, R505, R506, R510, R511, R512). -/
def Obligations.HostCommandsComplete : Prop :=
  (∀ (s : State) (t : Nat) (d : Dev) w port, d = s.dev.advance t → d.coreUp = true → exec (.expertKeyWrite t w port) s =
      .next (after s (d.keyWrite w (port % 2)))) ∧
  (∀ (s : State) (t : Nat) (d : Dev), d = s.dev.advance t → d.coreUp = true → d.host.expertAt + 1800000000000 ≤ d.sched.st →
      d.flag Reg.SYS_EXPERT.UNLOCKED = true → exec (.expertIdleLapse t) s =
      .next (after s ((d.setB Reg.SYS_EXPERT.UNLOCKED false).note 0x01 0x00 (0x100 + 1) [d.word 0x1C]))) ∧
  (∀ (s : State) (t : Nat) (d : Dev), d = s.dev.advance t → (d.coreUp || d.clk.phase = .halted) = true →
      exec (.bar0Malformed t) s = .next (after s ((d.inc Reg.HOST_PCIE_ERR.BAR0_FORM).raise 95 [0x150000, 0x150004]))) ∧
  (∀ (s : State) (t : Nat) (d : Dev) port addr bytes, d = s.dev.advance t → (d.coreUp || d.clk.phase = .halted) = true →
      (∀ k < bytes.length, d.bar2Cause (addr + k) = 0) → exec (.bar2Write t port addr bytes) s =
      .next (after s (((List.range bytes.length).zip bytes).foldl (fun n e => n.bar2Write (addr + e.1) [e.2]) d))) ∧
  (∀ (s : State) (t : Nat) (d : Dev) addr words check x, d = s.dev.advance t → (d.coreUp || d.clk.phase = .halted) = true →
      spiCount words.length = true → (crc16 (spiHead 0x02 addr words)).toNat = check → addr % 4 = 0 →
      exec (.spiWriteBar0 t addr words check x) s =
      .next (after s (({ d with host := { d.host with spiOk := true } } : Dev).spiBurst addr words x))) ∧
  (∀ (s : State) (t : Nat) (d : Dev) addr n, d = s.dev.advance t → (d.coreUp || d.clk.phase = .halted) = true →
      spiCount n = true → addr % 4 = 0 → exec (.spiReadBar0 t addr n) s = .next (after s (d.spiRead0 addr n))) ∧
  (∀ (s : State) (t : Nat) (d : Dev) addr words check, d = s.dev.advance t → (d.coreUp || d.clk.phase = .halted) = true →
      spiCount words.length = true → (crc16 (spiHead 0x12 addr words)).toNat = check →
      exec (.spiWriteBar2 t addr words check) s =
      .next (after s (({ d with host := { d.host with spiOk := true } } : Dev).bar2HostWrite addr (words.flatMap fun w =>
        leBytes 4 w.toNat) 1))) ∧
  (∀ (s : State) (t : Nat) (d : Dev) addr n, d = s.dev.advance t → (d.coreUp || d.clk.phase = .halted) = true →
      spiCount n = true → exec (.spiReadBar2 t addr n) s =
      .next (after s (d.spiReturn ((List.range (4 * n)).map fun k => d.bar2Read (addr + k))))) ∧
  (∀ (s : State) (t : Nat) (d : Dev), d = s.dev.advance t → (d.coreUp || d.clk.phase = .halted) = true →
      exec (.spiStatus t) s =
      .next (after s (({ d with host := { d.host with spiOut := leBytes 1 d.spiByte, spiCrc := false } } : Dev)))) ∧
  (∀ (s : State) (t : Nat) (d : Dev) b w (n : Dev), d = s.dev.advance t → d.coreUp = true → b < 3 →
      n = d.setWord (0x20000 + 4 * b) (d.word (0x20000 + 4 * b) &&& ~~~(w &&& ~~~(d.raisedNow b))) →
      exec (.evtStatusClear t b w) s =
      .next (after s ([0, 1, 2, 3].foldl (fun d v => if d.vecPending v then d.sendVector v else d) n))) ∧
  (∀ (s : State) (t : Nat) (d : Dev) n port (m : Dev), d = s.dev.advance t → d.coreUp = true →
      d.flag Reg.SYS_EXPERT.UNLOCKED = true → m = d.opened.set Reg.EVT_FORCE.EVENT n → m.mode = 7 → n % 128 ≤ 95 →
      n % 128 ≠ 31 → exec (.evtForce t n port) s =
      .next (after s (Dev.flushTrace 24 ((m.signal (n % 128)).record (evtType (n % 128)) (recordBody (n % 128) (evtBlock (n %
        128)) 0x8000 []) none)))) ∧
  (∀ (s : State) (t : Nat) (d : Dev) width speed master masks (n : Dev), d = s.dev.advance t →
      (d.coreUp || d.clk.phase = .halted) = true →
      n = ((((d.setB Reg.HOST_STATUS.LINK_UP true).set Reg.HOST_STATUS.WIDTH width).set Reg.HOST_STATUS.SPEED speed).setB
        Reg.HOST_STATUS.MASTER master) → exec (.msixSendEnable t width speed master masks) s =
      .next (after s (([0, 1, 2, 3].foldl (fun d v => d.setB (Reg.HOST_MSIX.CTRL.MASK v) (masks.testBit v)) n).resend))) ∧
  (∀ (s : State) (t : Nat) (d : Dev) uncorrectable, d = s.dev.advance t → (d.coreUp || d.clk.phase = .halted) = true →
      exec (.pcieError t uncorrectable) s =
      .next (after s ((d.inc (if uncorrectable then Reg.HOST_PCIE_ERR.UNCORR else Reg.HOST_PCIE_ERR.CORR)).raise 95 [0x150000,
        0x150004]))) ∧
  (∀ (s : State) (t : Nat) (d : Dev), d = s.dev.advance t → (d.coreUp || d.clk.phase = .halted) = true →
      exec (.pcieLinkLoss t) s =
      .next (after s (((d.setB Reg.HOST_STATUS.LINK_UP false).set Reg.HOST_STATUS.WIDTH 0).set Reg.HOST_STATUS.SPEED 0))) ∧
  (∀ (s : State) (t : Nat) (d : Dev) port up, d = s.dev.advance t → d.coreUp = true → port < 4 →
      d.bitAt Reg.NET_LINK.UP port ≠ up → exec (.ethLinkChange t port up) s =
      .next (after s ((d.setBitAt Reg.NET_LINK.UP port up).raise 94 [0x160000]))) ∧
  (∀ (s : State) (t : Nat) (d : Dev) port addr w x r, d = s.dev.advance t → (d.coreUp || d.clk.phase = .halted) = true →
      addr % 4 = 0 → d.serves addr = true → addr ≠ 0x1C → regRow addr = some r → r.fields.any FieldRow.writable = true →
      exec (.registerWrite t port addr w x) s = .next (after s (d.writeReg r addr w (port % 2) x))) ∧
  (∀ (s : State) (t : Nat) (d : Dev) addr, d = s.dev.advance t → (d.coreUp || d.clk.phase = .halted) = true →
      exec (.latchedLowWordRead t addr) s = .next (after s (d.hostRead addr))) ∧
  (∀ (s : State) (t : Nat) (d : Dev) addr, d = s.dev.advance t → (d.coreUp || d.clk.phase = .halted) = true →
      exec (.readClearRegisterRead t addr) s = .next (after s (d.hostRead addr)))

/-- The monitors' commands run (R523, R524). -/
def Obligations.MonitorCommandsComplete : Prop :=
  (∀ (s : State) (t : Nat) (d : Dev) x, d = s.dev.advance t → d.coreUp = true → exec (.envMeasure t x) s =
      .next (after s (d.measureEnv x))) ∧
  (∀ (s : State) (t : Nat) (d : Dev), d = s.dev.advance t → (d.coreUp || d.clk.phase = .halted) = true →
      exec (.thermalTrip t) s = .next (after s (d.down .tripped)))
end

