-- ==== Sys2Proof/Laws/RegFile.lean ====
section
/-! SUPPORT. Laws of the register file: a read after a write, fields, and the canonical form. -/
namespace Sys2Proof.Machine
open Sys2Proof

theorem RegFile.find_drop_other : ∀ (m : RegFile) (a b : Nat), b ≠ a → RegFile.find (m.drop a) b = RegFile.find m b
  | [], _, _, _ => rfl
  | (c, v) :: m, a, b, h => by
    unfold RegFile.drop
    split
    · next e => rw [RegFile.find_drop_other m a b h]; simp only [RegFile.find, if_neg (show ¬ c = b by omega)]
    · simp only [RegFile.find, RegFile.find_drop_other m a b h]

theorem RegFile.find_put_same : ∀ (m : RegFile) (a : Nat) (v : Word), RegFile.find (m.put a v) a = some v
  | [], a, v => by simp [RegFile.put, RegFile.find]
  | (b, x) :: m, a, v => by
    unfold RegFile.put
    split
    · simp [RegFile.find]
    · split
      · simp [RegFile.find]
      · next _ e => simp only [RegFile.find, if_neg (show ¬ b = a by omega), RegFile.find_put_same m a v]

theorem RegFile.find_put_other : ∀ (m : RegFile) (a b : Nat) (v : Word), b ≠ a → RegFile.find (m.put a v) b = RegFile.find m b
  | [], a, b, v, h => by simp [RegFile.put, RegFile.find, Ne.symm h]
  | (c, x) :: m, a, b, v, h => by
    unfold RegFile.put
    split
    · simp [RegFile.find, Ne.symm h]
    · split
      · next e => subst e; simp [RegFile.find, Ne.symm h]
      · simp only [RegFile.find, RegFile.find_put_other m a b v h]

/-- Every address of a memory in order is above a bound. -/
def RegFile.above (n : Nat) (m : RegFile) : Prop := ∀ c ∈ m, n < c.1

theorem RegFile.sorted_cons (b : Nat) (v : Word) (m : RegFile) :
    RegFile.sorted ((b, v) :: m) = true ↔ RegFile.above b m ∧ RegFile.sorted m = true := by
  induction m generalizing b v with
  | nil => simp [RegFile.sorted, RegFile.above]
  | cons c m ih =>
    obtain ⟨c, w⟩ := c
    simp only [RegFile.sorted, Bool.and_eq_true, decide_eq_true_eq]
    rw [ih]
    constructor
    · rintro ⟨h1, h2, h3⟩
      refine ⟨?_, h2, h3⟩
      intro x hx
      rcases List.mem_cons.mp hx with rfl | hx
      · exact h1
      · exact lt_trans h1 (h2 x hx)
    · rintro ⟨h1, h2, h3⟩
      exact ⟨h1 _ (List.mem_cons_self ..), h2, h3⟩

theorem RegFile.mem_drop (m : RegFile) (a : Nat) (c : Nat × Word) (h : c ∈ m.drop a) : c ∈ m := by
  induction m with
  | nil => cases h
  | cons x m ih =>
    obtain ⟨b, v⟩ := x
    unfold RegFile.drop at h
    split at h
    · exact List.mem_cons_of_mem _ (ih h)
    · rcases List.mem_cons.mp h with rfl | h
      · exact List.mem_cons_self ..
      · exact List.mem_cons_of_mem _ (ih h)

theorem RegFile.mem_put (m : RegFile) (a : Nat) (v : Word) (c : Nat × Word) (h : c ∈ m.put a v) : c = (a, v) ∨ c ∈ m := by
  induction m with
  | nil => simpa [RegFile.put] using h
  | cons x m ih =>
    obtain ⟨b, w⟩ := x
    unfold RegFile.put at h
    split at h
    · rcases List.mem_cons.mp h with h | h
      · exact .inl h
      · exact .inr h
    · split at h
      · rcases List.mem_cons.mp h with h | h
        · exact .inl h
        · exact .inr (List.mem_cons_of_mem _ h)
      · rcases List.mem_cons.mp h with rfl | h
        · exact .inr (List.mem_cons_self ..)
        · rcases ih h with h | h
          · exact .inl h
          · exact .inr (List.mem_cons_of_mem _ h)

theorem RegFile.sorted_drop (m : RegFile) (a : Nat) (h : m.sorted = true) : RegFile.sorted (m.drop a) = true := by
  induction m with
  | nil => rfl
  | cons x m ih =>
    obtain ⟨b, v⟩ := x
    have h' := (RegFile.sorted_cons b v m).mp h
    unfold RegFile.drop
    split
    · exact ih h'.2
    · exact (RegFile.sorted_cons ..).mpr ⟨fun c hc => h'.1 c (RegFile.mem_drop _ _ _ hc), ih h'.2⟩

theorem RegFile.sorted_put (m : RegFile) (a : Nat) (v : Word) (h : m.sorted = true) : RegFile.sorted (m.put a v) = true := by
  induction m with
  | nil => rfl
  | cons x m ih =>
    obtain ⟨b, w⟩ := x
    have h' := (RegFile.sorted_cons b w m).mp h
    unfold RegFile.put
    split
    · next hlt =>
      refine (RegFile.sorted_cons ..).mpr ⟨?_, h⟩
      intro c hc
      rcases List.mem_cons.mp hc with rfl | hc
      · exact hlt
      · exact lt_trans hlt (h'.1 c hc)
    · split
      · next e => subst e; exact (RegFile.sorted_cons ..).mpr h'
      · next h1 h2 =>
        refine (RegFile.sorted_cons ..).mpr ⟨?_, ih h'.2⟩
        intro c hc
        rcases RegFile.mem_put _ _ _ _ hc with rfl | hc
        · show b < a
          omega
        · exact h'.1 c hc

theorem RegFile.find_drop_same (m : RegFile) (a : Nat) : RegFile.find (m.drop a) a = none := by
  induction m with
  | nil => rfl
  | cons x m ih =>
    obtain ⟨b, v⟩ := x
    unfold RegFile.drop
    split
    · exact ih
    · next e => simp only [RegFile.find, if_neg e]; exact ih

/-- A register reads as it was written. -/
theorem RegFile.read_write_same (m : RegFile) (a : Nat) (w : Word) : (m.write a w).read a = w := by
  unfold RegFile.write RegFile.read
  split
  · next e => rw [RegFile.find_drop_same m a, e]; rfl
  · rw [RegFile.find_put_same]; rfl

/-- A write leaves every other register. -/
@[simp] theorem RegFile.read_write_other (m : RegFile) (a b : Nat) (w : Word) (h : b ≠ a) : (m.write a w).read b = m.read b := by
  unfold RegFile.write RegFile.read
  split
  · rw [RegFile.find_drop_other m a b h]
  · rw [RegFile.find_put_other m a b w h]

/-- A write keeps the canonical form. -/
@[simp] theorem RegFile.wf_write (m : RegFile) (a : Nat) (v : Word) (h : m.wf = true) : (m.write a v).wf = true := by
  obtain ⟨h1, h2⟩ := Bool.and_eq_true_iff.mp h
  have h2' : ∀ c ∈ m, (c.2 != regReset c.1) = true := by simpa using h2
  unfold RegFile.write
  split
  · refine Bool.and_eq_true_iff.mpr ⟨RegFile.sorted_drop m a h1, ?_⟩
    rw [List.all_eq_true]
    exact fun c hc => h2' c (RegFile.mem_drop _ _ _ hc)
  · next hv =>
    refine Bool.and_eq_true_iff.mpr ⟨RegFile.sorted_put m a v h1, ?_⟩
    rw [List.all_eq_true]
    intro c hc
    rcases RegFile.mem_put _ _ _ _ hc with rfl | hc
    · simpa using hv
    · exact h2' c hc

/-- A field write keeps the canonical form. -/
@[simp] theorem RegFile.wf_set (m : RegFile) (x : Field) (v : Nat) (h : m.wf = true) : (m.set x v).wf = true :=
  RegFile.wf_write m _ _ h

/-- A field write leaves every other register. -/
theorem RegFile.read_set_other (m : RegFile) (x : Field) (b v : Nat) (h : b ≠ x.addr) : (m.set x v).read b = m.read b :=
  RegFile.read_write_other m _ _ _ h

/-- A field of another register stays. -/
theorem RegFile.get_set_other (m : RegFile) (x y : Field) (v : Nat) (h : y.addr ≠ x.addr) : (m.set x v).get y = m.get y := by
  unfold RegFile.get
  rw [RegFile.read_set_other m x y.addr v h]

theorem getLsbD_setBits (w : Word) (lo width v i : Nat) (hi : i < 32) :
    (setBits w lo width v).getLsbD i
      = if lo ≤ i ∧ i < lo + width then v.testBit (i - lo) else w.getLsbD i := by
  unfold setBits fieldMask
  simp only [BitVec.getLsbD_or, BitVec.getLsbD_and, BitVec.getLsbD_not, BitVec.getLsbD_shiftLeft, BitVec.getLsbD_ofNat,
    Nat.testBit_two_pow_sub_one, Nat.testBit_mod_two_pow, hi, decide_true, Bool.true_and]
  by_cases h1 : lo ≤ i
  · by_cases h2 : i < lo + width
    · have h3 : i - lo < width := by omega
      have h4 : ¬ i < lo := by omega
      have h5 : i - lo < 32 := by omega
      simp [h1, h2, h3, h4, h5]
    · have h3 : ¬ i - lo < width := by omega
      simp [h2, h3]
  · have h4 : i < lo := by omega
    simp [h1, h4]

/-- A field reads as it was written, cut to its width. -/
theorem getBits_setBits_same (w : Word) (lo width v : Nat) (h : lo + width ≤ 32) :
    getBits (setBits w lo width v) lo width = v % 2 ^ width := by
  unfold getBits
  apply Nat.eq_of_testBit_eq
  intro i
  rw [BitVec.testBit_toNat, BitVec.getLsbD_extractLsb', Nat.testBit_mod_two_pow]
  by_cases hi : i < width
  · rw [getLsbD_setBits w lo width v (lo + i) (by omega)]
    simp [hi]
  · simp [hi]

/-- A field that does not overlap the one written stays. -/
theorem getBits_setBits_other (w : Word) (lo width v lo' width' : Nat) (h : lo' + width' ≤ 32)
    (hd : lo' + width' ≤ lo ∨ lo + width ≤ lo') : getBits (setBits w lo width v) lo' width' = getBits w lo' width' := by
  unfold getBits
  apply Nat.eq_of_testBit_eq
  intro i
  rw [BitVec.testBit_toNat, BitVec.testBit_toNat, BitVec.getLsbD_extractLsb', BitVec.getLsbD_extractLsb']
  by_cases hi : i < width'
  · rw [getLsbD_setBits w lo width v (lo' + i) (by omega)]
    have : ¬ (lo ≤ lo' + i ∧ lo' + i < lo + width) := by omega
    simp [hi, this]
  · simp [hi]

/-- A register field reads as it was written, cut to its width. -/
theorem RegFile.get_set_same (m : RegFile) (x : Field) (v : Nat) (hw : x.lo + x.width ≤ 32) :
    (m.set x v).get x = v % 2 ^ x.width := by
  unfold RegFile.get RegFile.set
  rw [RegFile.read_write_same, getBits_setBits_same _ _ _ _ hw]

/-- A field of the same register that does not overlap the one written stays. -/
theorem RegFile.get_set_apart (m : RegFile) (x y : Field) (v : Nat) (ha : y.addr = x.addr)
    (hw : y.lo + y.width ≤ 32) (hd : y.lo + y.width ≤ x.lo ∨ x.lo + x.width ≤ y.lo) : (m.set x v).get y = m.get y := by
  unfold RegFile.get RegFile.set
  rw [ha, RegFile.read_write_same, getBits_setBits_other _ _ _ _ _ _ hw hd]

theorem RegFile.sorted_of_wf (m : RegFile) (h : m.wf = true) : m.sorted = true := (Bool.and_eq_true_iff.mp h).1

theorem RegFile.sorted_write (m : RegFile) (a : Nat) (w : Word) (h : m.sorted = true) : (m.write a w).sorted = true := by
  unfold RegFile.write
  split
  · exact RegFile.sorted_drop m a h
  · exact RegFile.sorted_put m a w h

theorem RegFile.sorted_filter (m : RegFile) (p : Nat × Word → Bool) (h : m.sorted = true) : RegFile.sorted (m.filter p) = true := by
  induction m with
  | nil => rfl
  | cons x m ih =>
    obtain ⟨b, v⟩ := x
    have h' := (RegFile.sorted_cons b v m).mp h
    by_cases hp : p (b, v) = true
    · rw [List.filter_cons_of_pos hp]
      exact (RegFile.sorted_cons ..).mpr ⟨fun c hc => h'.1 c (List.mem_filter.mp hc).1, ih h'.2⟩
    · rw [List.filter_cons_of_neg hp]
      exact ih h'.2

/-- Putting a range of registers back keeps the canonical form. -/
theorem RegFile.wf_resetRange (m : RegFile) (lo hi : Nat) (h : m.wf = true) : (m.resetRange lo hi).wf = true := by
  obtain ⟨h1, h2⟩ := Bool.and_eq_true_iff.mp h
  refine Bool.and_eq_true_iff.mpr ⟨RegFile.sorted_filter m _ h1, ?_⟩
  rw [List.all_eq_true] at h2 ⊢
  exact fun c hc => h2 c (List.mem_filter.mp hc).1

end Sys2Proof.Machine
end

