-- ==== Sys2Proof/Laws/State.lean ====
section
/-! SUPPORT. What each update of the device leaves unchanged: one law for each component and each update. -/
namespace Sys2Proof.Machine
open Sys2Proof

/-! Dev.setWord -/

@[simp] theorem Dev.setWord_sched (d : Dev) (a : Nat) (w : Word) : (d.setWord a w).sched = d.sched := rfl
@[simp] theorem Dev.setWord_chk (d : Dev) (a : Nat) (w : Word) : (d.setWord a w).chk = d.chk := rfl
@[simp] theorem Dev.setWord_img (d : Dev) (a : Nat) (w : Word) : (d.setWord a w).img = d.img := rfl
@[simp] theorem Dev.setWord_params (d : Dev) (a : Nat) (w : Word) : (d.setWord a w).params = d.params := rfl
@[simp] theorem Dev.setWord_recorder (d : Dev) (a : Nat) (w : Word) : (d.setWord a w).recorder = d.recorder := rfl
@[simp] theorem Dev.setWord_nand (d : Dev) (a : Nat) (w : Word) : (d.setWord a w).nand = d.nand := rfl
@[simp] theorem Dev.setWord_clk (d : Dev) (a : Nat) (w : Word) : (d.setWord a w).clk = d.clk := rfl
@[simp] theorem Dev.setWord_bist (d : Dev) (a : Nat) (w : Word) : (d.setWord a w).bist = d.bist := rfl
@[simp] theorem Dev.setWord_host (d : Dev) (a : Nat) (w : Word) : (d.setWord a w).host = d.host := rfl
@[simp] theorem Dev.setWord_entry (d : Dev) (a : Nat) (w : Word) : (d.setWord a w).entry = d.entry := rfl
@[simp] theorem Dev.setWord_afe (d : Dev) (a : Nat) (w : Word) : (d.setWord a w).afe = d.afe := rfl
@[simp] theorem Dev.setWord_gnss (d : Dev) (a : Nat) (w : Word) : (d.setWord a w).gnss = d.gnss := rfl
@[simp] theorem Dev.setWord_time (d : Dev) (a : Nat) (w : Word) : (d.setWord a w).time = d.time := rfl
@[simp] theorem Dev.setWord_fus (d : Dev) (a : Nat) (w : Word) : (d.setWord a w).fus = d.fus := rfl
@[simp] theorem Dev.setWord_alloc (d : Dev) (a : Nat) (w : Word) : (d.setWord a w).alloc = d.alloc := rfl
@[simp] theorem Dev.setWord_solv (d : Dev) (a : Nat) (w : Word) : (d.setWord a w).solv = d.solv := rfl
@[simp] theorem Dev.setWord_loop (d : Dev) (a : Nat) (w : Word) : (d.setWord a w).loop = d.loop := rfl
@[simp] theorem Dev.setWord_out (d : Dev) (a : Nat) (w : Word) : (d.setWord a w).out = d.out := rfl
@[simp] theorem Dev.setWord_red (d : Dev) (a : Nat) (w : Word) : (d.setWord a w).red = d.red := rfl
@[simp] theorem Dev.setWord_safe (d : Dev) (a : Nat) (w : Word) : (d.setWord a w).safe = d.safe := rfl
@[simp] theorem Dev.setWord_net (d : Dev) (a : Nat) (w : Word) : (d.setWord a w).net = d.net := rfl
@[simp] theorem Dev.setWord_image (d : Dev) (a : Nat) (w : Word) : (d.setWord a w).image = d.image := rfl
@[simp] theorem Dev.setWord_shots (d : Dev) (a : Nat) (w : Word) : (d.setWord a w).shots = d.shots := rfl

/-! Dev.set -/

@[simp] theorem Dev.set_sched (d : Dev) (x : Field) (v : Nat) : (d.set x v).sched = d.sched := rfl
@[simp] theorem Dev.set_chk (d : Dev) (x : Field) (v : Nat) : (d.set x v).chk = d.chk := rfl
@[simp] theorem Dev.set_img (d : Dev) (x : Field) (v : Nat) : (d.set x v).img = d.img := rfl
@[simp] theorem Dev.set_params (d : Dev) (x : Field) (v : Nat) : (d.set x v).params = d.params := rfl
@[simp] theorem Dev.set_recorder (d : Dev) (x : Field) (v : Nat) : (d.set x v).recorder = d.recorder := rfl
@[simp] theorem Dev.set_nand (d : Dev) (x : Field) (v : Nat) : (d.set x v).nand = d.nand := rfl
@[simp] theorem Dev.set_clk (d : Dev) (x : Field) (v : Nat) : (d.set x v).clk = d.clk := rfl
@[simp] theorem Dev.set_bist (d : Dev) (x : Field) (v : Nat) : (d.set x v).bist = d.bist := rfl
@[simp] theorem Dev.set_host (d : Dev) (x : Field) (v : Nat) : (d.set x v).host = d.host := rfl
@[simp] theorem Dev.set_entry (d : Dev) (x : Field) (v : Nat) : (d.set x v).entry = d.entry := rfl
@[simp] theorem Dev.set_afe (d : Dev) (x : Field) (v : Nat) : (d.set x v).afe = d.afe := rfl
@[simp] theorem Dev.set_gnss (d : Dev) (x : Field) (v : Nat) : (d.set x v).gnss = d.gnss := rfl
@[simp] theorem Dev.set_time (d : Dev) (x : Field) (v : Nat) : (d.set x v).time = d.time := rfl
@[simp] theorem Dev.set_fus (d : Dev) (x : Field) (v : Nat) : (d.set x v).fus = d.fus := rfl
@[simp] theorem Dev.set_alloc (d : Dev) (x : Field) (v : Nat) : (d.set x v).alloc = d.alloc := rfl
@[simp] theorem Dev.set_solv (d : Dev) (x : Field) (v : Nat) : (d.set x v).solv = d.solv := rfl
@[simp] theorem Dev.set_loop (d : Dev) (x : Field) (v : Nat) : (d.set x v).loop = d.loop := rfl
@[simp] theorem Dev.set_out (d : Dev) (x : Field) (v : Nat) : (d.set x v).out = d.out := rfl
@[simp] theorem Dev.set_red (d : Dev) (x : Field) (v : Nat) : (d.set x v).red = d.red := rfl
@[simp] theorem Dev.set_safe (d : Dev) (x : Field) (v : Nat) : (d.set x v).safe = d.safe := rfl
@[simp] theorem Dev.set_net (d : Dev) (x : Field) (v : Nat) : (d.set x v).net = d.net := rfl
@[simp] theorem Dev.set_image (d : Dev) (x : Field) (v : Nat) : (d.set x v).image = d.image := rfl
@[simp] theorem Dev.set_shots (d : Dev) (x : Field) (v : Nat) : (d.set x v).shots = d.shots := rfl

/-! Dev.setB -/

@[simp] theorem Dev.setB_sched (d : Dev) (x : Field) (b : Bool) : (d.setB x b).sched = d.sched := rfl
@[simp] theorem Dev.setB_chk (d : Dev) (x : Field) (b : Bool) : (d.setB x b).chk = d.chk := rfl
@[simp] theorem Dev.setB_img (d : Dev) (x : Field) (b : Bool) : (d.setB x b).img = d.img := rfl
@[simp] theorem Dev.setB_params (d : Dev) (x : Field) (b : Bool) : (d.setB x b).params = d.params := rfl
@[simp] theorem Dev.setB_recorder (d : Dev) (x : Field) (b : Bool) : (d.setB x b).recorder = d.recorder := rfl
@[simp] theorem Dev.setB_nand (d : Dev) (x : Field) (b : Bool) : (d.setB x b).nand = d.nand := rfl
@[simp] theorem Dev.setB_clk (d : Dev) (x : Field) (b : Bool) : (d.setB x b).clk = d.clk := rfl
@[simp] theorem Dev.setB_bist (d : Dev) (x : Field) (b : Bool) : (d.setB x b).bist = d.bist := rfl
@[simp] theorem Dev.setB_host (d : Dev) (x : Field) (b : Bool) : (d.setB x b).host = d.host := rfl
@[simp] theorem Dev.setB_entry (d : Dev) (x : Field) (b : Bool) : (d.setB x b).entry = d.entry := rfl
@[simp] theorem Dev.setB_afe (d : Dev) (x : Field) (b : Bool) : (d.setB x b).afe = d.afe := rfl
@[simp] theorem Dev.setB_gnss (d : Dev) (x : Field) (b : Bool) : (d.setB x b).gnss = d.gnss := rfl
@[simp] theorem Dev.setB_time (d : Dev) (x : Field) (b : Bool) : (d.setB x b).time = d.time := rfl
@[simp] theorem Dev.setB_fus (d : Dev) (x : Field) (b : Bool) : (d.setB x b).fus = d.fus := rfl
@[simp] theorem Dev.setB_alloc (d : Dev) (x : Field) (b : Bool) : (d.setB x b).alloc = d.alloc := rfl
@[simp] theorem Dev.setB_solv (d : Dev) (x : Field) (b : Bool) : (d.setB x b).solv = d.solv := rfl
@[simp] theorem Dev.setB_loop (d : Dev) (x : Field) (b : Bool) : (d.setB x b).loop = d.loop := rfl
@[simp] theorem Dev.setB_out (d : Dev) (x : Field) (b : Bool) : (d.setB x b).out = d.out := rfl
@[simp] theorem Dev.setB_red (d : Dev) (x : Field) (b : Bool) : (d.setB x b).red = d.red := rfl
@[simp] theorem Dev.setB_safe (d : Dev) (x : Field) (b : Bool) : (d.setB x b).safe = d.safe := rfl
@[simp] theorem Dev.setB_net (d : Dev) (x : Field) (b : Bool) : (d.setB x b).net = d.net := rfl
@[simp] theorem Dev.setB_image (d : Dev) (x : Field) (b : Bool) : (d.setB x b).image = d.image := rfl
@[simp] theorem Dev.setB_shots (d : Dev) (x : Field) (b : Bool) : (d.setB x b).shots = d.shots := rfl

/-! Dev.inc -/

@[simp] theorem Dev.inc_sched (d : Dev) (x : Field) : (d.inc x).sched = d.sched := rfl
@[simp] theorem Dev.inc_chk (d : Dev) (x : Field) : (d.inc x).chk = d.chk := rfl
@[simp] theorem Dev.inc_img (d : Dev) (x : Field) : (d.inc x).img = d.img := rfl
@[simp] theorem Dev.inc_params (d : Dev) (x : Field) : (d.inc x).params = d.params := rfl
@[simp] theorem Dev.inc_recorder (d : Dev) (x : Field) : (d.inc x).recorder = d.recorder := rfl
@[simp] theorem Dev.inc_nand (d : Dev) (x : Field) : (d.inc x).nand = d.nand := rfl
@[simp] theorem Dev.inc_clk (d : Dev) (x : Field) : (d.inc x).clk = d.clk := rfl
@[simp] theorem Dev.inc_bist (d : Dev) (x : Field) : (d.inc x).bist = d.bist := rfl
@[simp] theorem Dev.inc_host (d : Dev) (x : Field) : (d.inc x).host = d.host := rfl
@[simp] theorem Dev.inc_entry (d : Dev) (x : Field) : (d.inc x).entry = d.entry := rfl
@[simp] theorem Dev.inc_afe (d : Dev) (x : Field) : (d.inc x).afe = d.afe := rfl
@[simp] theorem Dev.inc_gnss (d : Dev) (x : Field) : (d.inc x).gnss = d.gnss := rfl
@[simp] theorem Dev.inc_time (d : Dev) (x : Field) : (d.inc x).time = d.time := rfl
@[simp] theorem Dev.inc_fus (d : Dev) (x : Field) : (d.inc x).fus = d.fus := rfl
@[simp] theorem Dev.inc_alloc (d : Dev) (x : Field) : (d.inc x).alloc = d.alloc := rfl
@[simp] theorem Dev.inc_solv (d : Dev) (x : Field) : (d.inc x).solv = d.solv := rfl
@[simp] theorem Dev.inc_loop (d : Dev) (x : Field) : (d.inc x).loop = d.loop := rfl
@[simp] theorem Dev.inc_out (d : Dev) (x : Field) : (d.inc x).out = d.out := rfl
@[simp] theorem Dev.inc_red (d : Dev) (x : Field) : (d.inc x).red = d.red := rfl
@[simp] theorem Dev.inc_safe (d : Dev) (x : Field) : (d.inc x).safe = d.safe := rfl
@[simp] theorem Dev.inc_net (d : Dev) (x : Field) : (d.inc x).net = d.net := rfl
@[simp] theorem Dev.inc_image (d : Dev) (x : Field) : (d.inc x).image = d.image := rfl
@[simp] theorem Dev.inc_shots (d : Dev) (x : Field) : (d.inc x).shots = d.shots := rfl

/-! Dev.incBy -/

@[simp] theorem Dev.incBy_sched (d : Dev) (x : Field) (n : Nat) : (d.incBy x n).sched = d.sched := rfl
@[simp] theorem Dev.incBy_chk (d : Dev) (x : Field) (n : Nat) : (d.incBy x n).chk = d.chk := rfl
@[simp] theorem Dev.incBy_img (d : Dev) (x : Field) (n : Nat) : (d.incBy x n).img = d.img := rfl
@[simp] theorem Dev.incBy_params (d : Dev) (x : Field) (n : Nat) : (d.incBy x n).params = d.params := rfl
@[simp] theorem Dev.incBy_recorder (d : Dev) (x : Field) (n : Nat) : (d.incBy x n).recorder = d.recorder := rfl
@[simp] theorem Dev.incBy_nand (d : Dev) (x : Field) (n : Nat) : (d.incBy x n).nand = d.nand := rfl
@[simp] theorem Dev.incBy_clk (d : Dev) (x : Field) (n : Nat) : (d.incBy x n).clk = d.clk := rfl
@[simp] theorem Dev.incBy_bist (d : Dev) (x : Field) (n : Nat) : (d.incBy x n).bist = d.bist := rfl
@[simp] theorem Dev.incBy_host (d : Dev) (x : Field) (n : Nat) : (d.incBy x n).host = d.host := rfl
@[simp] theorem Dev.incBy_entry (d : Dev) (x : Field) (n : Nat) : (d.incBy x n).entry = d.entry := rfl
@[simp] theorem Dev.incBy_afe (d : Dev) (x : Field) (n : Nat) : (d.incBy x n).afe = d.afe := rfl
@[simp] theorem Dev.incBy_gnss (d : Dev) (x : Field) (n : Nat) : (d.incBy x n).gnss = d.gnss := rfl
@[simp] theorem Dev.incBy_time (d : Dev) (x : Field) (n : Nat) : (d.incBy x n).time = d.time := rfl
@[simp] theorem Dev.incBy_fus (d : Dev) (x : Field) (n : Nat) : (d.incBy x n).fus = d.fus := rfl
@[simp] theorem Dev.incBy_alloc (d : Dev) (x : Field) (n : Nat) : (d.incBy x n).alloc = d.alloc := rfl
@[simp] theorem Dev.incBy_solv (d : Dev) (x : Field) (n : Nat) : (d.incBy x n).solv = d.solv := rfl
@[simp] theorem Dev.incBy_loop (d : Dev) (x : Field) (n : Nat) : (d.incBy x n).loop = d.loop := rfl
@[simp] theorem Dev.incBy_out (d : Dev) (x : Field) (n : Nat) : (d.incBy x n).out = d.out := rfl
@[simp] theorem Dev.incBy_red (d : Dev) (x : Field) (n : Nat) : (d.incBy x n).red = d.red := rfl
@[simp] theorem Dev.incBy_safe (d : Dev) (x : Field) (n : Nat) : (d.incBy x n).safe = d.safe := rfl
@[simp] theorem Dev.incBy_net (d : Dev) (x : Field) (n : Nat) : (d.incBy x n).net = d.net := rfl
@[simp] theorem Dev.incBy_image (d : Dev) (x : Field) (n : Nat) : (d.incBy x n).image = d.image := rfl
@[simp] theorem Dev.incBy_shots (d : Dev) (x : Field) (n : Nat) : (d.incBy x n).shots = d.shots := rfl

/-! Dev.incWrap -/

@[simp] theorem Dev.incWrap_sched (d : Dev) (x : Field) : (d.incWrap x).sched = d.sched := rfl
@[simp] theorem Dev.incWrap_chk (d : Dev) (x : Field) : (d.incWrap x).chk = d.chk := rfl
@[simp] theorem Dev.incWrap_img (d : Dev) (x : Field) : (d.incWrap x).img = d.img := rfl
@[simp] theorem Dev.incWrap_params (d : Dev) (x : Field) : (d.incWrap x).params = d.params := rfl
@[simp] theorem Dev.incWrap_recorder (d : Dev) (x : Field) : (d.incWrap x).recorder = d.recorder := rfl
@[simp] theorem Dev.incWrap_nand (d : Dev) (x : Field) : (d.incWrap x).nand = d.nand := rfl
@[simp] theorem Dev.incWrap_clk (d : Dev) (x : Field) : (d.incWrap x).clk = d.clk := rfl
@[simp] theorem Dev.incWrap_bist (d : Dev) (x : Field) : (d.incWrap x).bist = d.bist := rfl
@[simp] theorem Dev.incWrap_host (d : Dev) (x : Field) : (d.incWrap x).host = d.host := rfl
@[simp] theorem Dev.incWrap_entry (d : Dev) (x : Field) : (d.incWrap x).entry = d.entry := rfl
@[simp] theorem Dev.incWrap_afe (d : Dev) (x : Field) : (d.incWrap x).afe = d.afe := rfl
@[simp] theorem Dev.incWrap_gnss (d : Dev) (x : Field) : (d.incWrap x).gnss = d.gnss := rfl
@[simp] theorem Dev.incWrap_time (d : Dev) (x : Field) : (d.incWrap x).time = d.time := rfl
@[simp] theorem Dev.incWrap_fus (d : Dev) (x : Field) : (d.incWrap x).fus = d.fus := rfl
@[simp] theorem Dev.incWrap_alloc (d : Dev) (x : Field) : (d.incWrap x).alloc = d.alloc := rfl
@[simp] theorem Dev.incWrap_solv (d : Dev) (x : Field) : (d.incWrap x).solv = d.solv := rfl
@[simp] theorem Dev.incWrap_loop (d : Dev) (x : Field) : (d.incWrap x).loop = d.loop := rfl
@[simp] theorem Dev.incWrap_out (d : Dev) (x : Field) : (d.incWrap x).out = d.out := rfl
@[simp] theorem Dev.incWrap_red (d : Dev) (x : Field) : (d.incWrap x).red = d.red := rfl
@[simp] theorem Dev.incWrap_safe (d : Dev) (x : Field) : (d.incWrap x).safe = d.safe := rfl
@[simp] theorem Dev.incWrap_net (d : Dev) (x : Field) : (d.incWrap x).net = d.net := rfl
@[simp] theorem Dev.incWrap_image (d : Dev) (x : Field) : (d.incWrap x).image = d.image := rfl
@[simp] theorem Dev.incWrap_shots (d : Dev) (x : Field) : (d.incWrap x).shots = d.shots := rfl

/-! Dev.setInt -/

@[simp] theorem Dev.setInt_sched (d : Dev) (x : Field) (v : Int) : (d.setInt x v).sched = d.sched := rfl
@[simp] theorem Dev.setInt_chk (d : Dev) (x : Field) (v : Int) : (d.setInt x v).chk = d.chk := rfl
@[simp] theorem Dev.setInt_img (d : Dev) (x : Field) (v : Int) : (d.setInt x v).img = d.img := rfl
@[simp] theorem Dev.setInt_params (d : Dev) (x : Field) (v : Int) : (d.setInt x v).params = d.params := rfl
@[simp] theorem Dev.setInt_recorder (d : Dev) (x : Field) (v : Int) : (d.setInt x v).recorder = d.recorder := rfl
@[simp] theorem Dev.setInt_nand (d : Dev) (x : Field) (v : Int) : (d.setInt x v).nand = d.nand := rfl
@[simp] theorem Dev.setInt_clk (d : Dev) (x : Field) (v : Int) : (d.setInt x v).clk = d.clk := rfl
@[simp] theorem Dev.setInt_bist (d : Dev) (x : Field) (v : Int) : (d.setInt x v).bist = d.bist := rfl
@[simp] theorem Dev.setInt_host (d : Dev) (x : Field) (v : Int) : (d.setInt x v).host = d.host := rfl
@[simp] theorem Dev.setInt_entry (d : Dev) (x : Field) (v : Int) : (d.setInt x v).entry = d.entry := rfl
@[simp] theorem Dev.setInt_afe (d : Dev) (x : Field) (v : Int) : (d.setInt x v).afe = d.afe := rfl
@[simp] theorem Dev.setInt_gnss (d : Dev) (x : Field) (v : Int) : (d.setInt x v).gnss = d.gnss := rfl
@[simp] theorem Dev.setInt_time (d : Dev) (x : Field) (v : Int) : (d.setInt x v).time = d.time := rfl
@[simp] theorem Dev.setInt_fus (d : Dev) (x : Field) (v : Int) : (d.setInt x v).fus = d.fus := rfl
@[simp] theorem Dev.setInt_alloc (d : Dev) (x : Field) (v : Int) : (d.setInt x v).alloc = d.alloc := rfl
@[simp] theorem Dev.setInt_solv (d : Dev) (x : Field) (v : Int) : (d.setInt x v).solv = d.solv := rfl
@[simp] theorem Dev.setInt_loop (d : Dev) (x : Field) (v : Int) : (d.setInt x v).loop = d.loop := rfl
@[simp] theorem Dev.setInt_out (d : Dev) (x : Field) (v : Int) : (d.setInt x v).out = d.out := rfl
@[simp] theorem Dev.setInt_red (d : Dev) (x : Field) (v : Int) : (d.setInt x v).red = d.red := rfl
@[simp] theorem Dev.setInt_safe (d : Dev) (x : Field) (v : Int) : (d.setInt x v).safe = d.safe := rfl
@[simp] theorem Dev.setInt_net (d : Dev) (x : Field) (v : Int) : (d.setInt x v).net = d.net := rfl
@[simp] theorem Dev.setInt_image (d : Dev) (x : Field) (v : Int) : (d.setInt x v).image = d.image := rfl
@[simp] theorem Dev.setInt_shots (d : Dev) (x : Field) (v : Int) : (d.setInt x v).shots = d.shots := rfl

/-! Dev.setBitAt -/

@[simp] theorem Dev.setBitAt_sched (d : Dev) (x : Field) (i : Nat) (b : Bool) : (d.setBitAt x i b).sched = d.sched := rfl
@[simp] theorem Dev.setBitAt_chk (d : Dev) (x : Field) (i : Nat) (b : Bool) : (d.setBitAt x i b).chk = d.chk := rfl
@[simp] theorem Dev.setBitAt_img (d : Dev) (x : Field) (i : Nat) (b : Bool) : (d.setBitAt x i b).img = d.img := rfl
@[simp] theorem Dev.setBitAt_params (d : Dev) (x : Field) (i : Nat) (b : Bool) : (d.setBitAt x i b).params = d.params := rfl
@[simp] theorem Dev.setBitAt_recorder (d : Dev) (x : Field) (i : Nat) (b : Bool) : (d.setBitAt x i b).recorder = d.recorder := rfl
@[simp] theorem Dev.setBitAt_nand (d : Dev) (x : Field) (i : Nat) (b : Bool) : (d.setBitAt x i b).nand = d.nand := rfl
@[simp] theorem Dev.setBitAt_clk (d : Dev) (x : Field) (i : Nat) (b : Bool) : (d.setBitAt x i b).clk = d.clk := rfl
@[simp] theorem Dev.setBitAt_bist (d : Dev) (x : Field) (i : Nat) (b : Bool) : (d.setBitAt x i b).bist = d.bist := rfl
@[simp] theorem Dev.setBitAt_host (d : Dev) (x : Field) (i : Nat) (b : Bool) : (d.setBitAt x i b).host = d.host := rfl
@[simp] theorem Dev.setBitAt_entry (d : Dev) (x : Field) (i : Nat) (b : Bool) : (d.setBitAt x i b).entry = d.entry := rfl
@[simp] theorem Dev.setBitAt_afe (d : Dev) (x : Field) (i : Nat) (b : Bool) : (d.setBitAt x i b).afe = d.afe := rfl
@[simp] theorem Dev.setBitAt_gnss (d : Dev) (x : Field) (i : Nat) (b : Bool) : (d.setBitAt x i b).gnss = d.gnss := rfl
@[simp] theorem Dev.setBitAt_time (d : Dev) (x : Field) (i : Nat) (b : Bool) : (d.setBitAt x i b).time = d.time := rfl
@[simp] theorem Dev.setBitAt_fus (d : Dev) (x : Field) (i : Nat) (b : Bool) : (d.setBitAt x i b).fus = d.fus := rfl
@[simp] theorem Dev.setBitAt_alloc (d : Dev) (x : Field) (i : Nat) (b : Bool) : (d.setBitAt x i b).alloc = d.alloc := rfl
@[simp] theorem Dev.setBitAt_solv (d : Dev) (x : Field) (i : Nat) (b : Bool) : (d.setBitAt x i b).solv = d.solv := rfl
@[simp] theorem Dev.setBitAt_loop (d : Dev) (x : Field) (i : Nat) (b : Bool) : (d.setBitAt x i b).loop = d.loop := rfl
@[simp] theorem Dev.setBitAt_out (d : Dev) (x : Field) (i : Nat) (b : Bool) : (d.setBitAt x i b).out = d.out := rfl
@[simp] theorem Dev.setBitAt_red (d : Dev) (x : Field) (i : Nat) (b : Bool) : (d.setBitAt x i b).red = d.red := rfl
@[simp] theorem Dev.setBitAt_safe (d : Dev) (x : Field) (i : Nat) (b : Bool) : (d.setBitAt x i b).safe = d.safe := rfl
@[simp] theorem Dev.setBitAt_net (d : Dev) (x : Field) (i : Nat) (b : Bool) : (d.setBitAt x i b).net = d.net := rfl
@[simp] theorem Dev.setBitAt_image (d : Dev) (x : Field) (i : Nat) (b : Bool) : (d.setBitAt x i b).image = d.image := rfl
@[simp] theorem Dev.setBitAt_shots (d : Dev) (x : Field) (i : Nat) (b : Bool) : (d.setBitAt x i b).shots = d.shots := rfl

/-! Dev.setF -/

@[simp] theorem Dev.setF_sched (d : Dev) (x : Field) (v : F32) : (d.setF x v).sched = d.sched := by
  unfold Dev.setF; split <;> rfl
@[simp] theorem Dev.setF_chk (d : Dev) (x : Field) (v : F32) : (d.setF x v).chk = d.chk := by
  unfold Dev.setF; split <;> rfl
@[simp] theorem Dev.setF_img (d : Dev) (x : Field) (v : F32) : (d.setF x v).img = d.img := by
  unfold Dev.setF; split <;> rfl
@[simp] theorem Dev.setF_params (d : Dev) (x : Field) (v : F32) : (d.setF x v).params = d.params := by
  unfold Dev.setF; split <;> rfl
@[simp] theorem Dev.setF_recorder (d : Dev) (x : Field) (v : F32) : (d.setF x v).recorder = d.recorder := by
  unfold Dev.setF; split <;> rfl
@[simp] theorem Dev.setF_nand (d : Dev) (x : Field) (v : F32) : (d.setF x v).nand = d.nand := by
  unfold Dev.setF; split <;> rfl
@[simp] theorem Dev.setF_clk (d : Dev) (x : Field) (v : F32) : (d.setF x v).clk = d.clk := by
  unfold Dev.setF; split <;> rfl
@[simp] theorem Dev.setF_bist (d : Dev) (x : Field) (v : F32) : (d.setF x v).bist = d.bist := by
  unfold Dev.setF; split <;> rfl
@[simp] theorem Dev.setF_host (d : Dev) (x : Field) (v : F32) : (d.setF x v).host = d.host := by
  unfold Dev.setF; split <;> rfl
@[simp] theorem Dev.setF_entry (d : Dev) (x : Field) (v : F32) : (d.setF x v).entry = d.entry := by
  unfold Dev.setF; split <;> rfl
@[simp] theorem Dev.setF_afe (d : Dev) (x : Field) (v : F32) : (d.setF x v).afe = d.afe := by
  unfold Dev.setF; split <;> rfl
@[simp] theorem Dev.setF_gnss (d : Dev) (x : Field) (v : F32) : (d.setF x v).gnss = d.gnss := by
  unfold Dev.setF; split <;> rfl
@[simp] theorem Dev.setF_time (d : Dev) (x : Field) (v : F32) : (d.setF x v).time = d.time := by
  unfold Dev.setF; split <;> rfl
@[simp] theorem Dev.setF_fus (d : Dev) (x : Field) (v : F32) : (d.setF x v).fus = d.fus := by
  unfold Dev.setF; split <;> rfl
@[simp] theorem Dev.setF_alloc (d : Dev) (x : Field) (v : F32) : (d.setF x v).alloc = d.alloc := by
  unfold Dev.setF; split <;> rfl
@[simp] theorem Dev.setF_solv (d : Dev) (x : Field) (v : F32) : (d.setF x v).solv = d.solv := by
  unfold Dev.setF; split <;> rfl
@[simp] theorem Dev.setF_loop (d : Dev) (x : Field) (v : F32) : (d.setF x v).loop = d.loop := by
  unfold Dev.setF; split <;> rfl
@[simp] theorem Dev.setF_out (d : Dev) (x : Field) (v : F32) : (d.setF x v).out = d.out := by
  unfold Dev.setF; split <;> rfl
@[simp] theorem Dev.setF_red (d : Dev) (x : Field) (v : F32) : (d.setF x v).red = d.red := by
  unfold Dev.setF; split <;> rfl
@[simp] theorem Dev.setF_safe (d : Dev) (x : Field) (v : F32) : (d.setF x v).safe = d.safe := by
  unfold Dev.setF; split <;> rfl
@[simp] theorem Dev.setF_net (d : Dev) (x : Field) (v : F32) : (d.setF x v).net = d.net := by
  unfold Dev.setF; split <;> rfl
@[simp] theorem Dev.setF_image (d : Dev) (x : Field) (v : F32) : (d.setF x v).image = d.image := by
  unfold Dev.setF; split <;> rfl
@[simp] theorem Dev.setF_shots (d : Dev) (x : Field) (v : F32) : (d.setF x v).shots = d.shots := by
  unfold Dev.setF; split <;> rfl

/-! Dev.advance -/

@[simp] theorem Dev.advance_regs (d : Dev) (t : Nat) : (d.advance t).regs = d.regs := rfl
@[simp] theorem Dev.advance_chk (d : Dev) (t : Nat) : (d.advance t).chk = d.chk := rfl
@[simp] theorem Dev.advance_img (d : Dev) (t : Nat) : (d.advance t).img = d.img := rfl
@[simp] theorem Dev.advance_params (d : Dev) (t : Nat) : (d.advance t).params = d.params := rfl
@[simp] theorem Dev.advance_recorder (d : Dev) (t : Nat) : (d.advance t).recorder = d.recorder := rfl
@[simp] theorem Dev.advance_nand (d : Dev) (t : Nat) : (d.advance t).nand = d.nand := rfl
@[simp] theorem Dev.advance_clk (d : Dev) (t : Nat) : (d.advance t).clk = d.clk := rfl
@[simp] theorem Dev.advance_bist (d : Dev) (t : Nat) : (d.advance t).bist = d.bist := rfl
@[simp] theorem Dev.advance_host (d : Dev) (t : Nat) : (d.advance t).host = d.host := rfl
@[simp] theorem Dev.advance_entry (d : Dev) (t : Nat) : (d.advance t).entry = d.entry := rfl
@[simp] theorem Dev.advance_afe (d : Dev) (t : Nat) : (d.advance t).afe = d.afe := rfl
@[simp] theorem Dev.advance_gnss (d : Dev) (t : Nat) : (d.advance t).gnss = d.gnss := rfl
@[simp] theorem Dev.advance_time (d : Dev) (t : Nat) : (d.advance t).time = d.time := rfl
@[simp] theorem Dev.advance_fus (d : Dev) (t : Nat) : (d.advance t).fus = d.fus := rfl
@[simp] theorem Dev.advance_alloc (d : Dev) (t : Nat) : (d.advance t).alloc = d.alloc := rfl
@[simp] theorem Dev.advance_solv (d : Dev) (t : Nat) : (d.advance t).solv = d.solv := rfl
@[simp] theorem Dev.advance_loop (d : Dev) (t : Nat) : (d.advance t).loop = d.loop := rfl
@[simp] theorem Dev.advance_out (d : Dev) (t : Nat) : (d.advance t).out = d.out := rfl
@[simp] theorem Dev.advance_red (d : Dev) (t : Nat) : (d.advance t).red = d.red := rfl
@[simp] theorem Dev.advance_safe (d : Dev) (t : Nat) : (d.advance t).safe = d.safe := rfl
@[simp] theorem Dev.advance_net (d : Dev) (t : Nat) : (d.advance t).net = d.net := rfl
@[simp] theorem Dev.advance_image (d : Dev) (t : Nat) : (d.advance t).image = d.image := rfl
@[simp] theorem Dev.advance_st (d : Dev) (t : Nat) : (d.advance t).sched.st = max d.sched.st t := rfl
@[simp] theorem Dev.advance_coreUp (d : Dev) (t : Nat) : (d.advance t).coreUp = d.coreUp := rfl

/-! Dev.bar2Write -/

@[simp] theorem Dev.bar2Write_regs (d : Dev) (a : Nat) (bs : List Byte) : (d.bar2Write a bs).regs = d.regs := rfl
@[simp] theorem Dev.bar2Write_sched (d : Dev) (a : Nat) (bs : List Byte) : (d.bar2Write a bs).sched = d.sched := rfl
@[simp] theorem Dev.bar2Write_chk (d : Dev) (a : Nat) (bs : List Byte) : (d.bar2Write a bs).chk = d.chk := rfl
@[simp] theorem Dev.bar2Write_img (d : Dev) (a : Nat) (bs : List Byte) : (d.bar2Write a bs).img = d.img := rfl
@[simp] theorem Dev.bar2Write_params (d : Dev) (a : Nat) (bs : List Byte) : (d.bar2Write a bs).params = d.params := rfl
@[simp] theorem Dev.bar2Write_recorder (d : Dev) (a : Nat) (bs : List Byte) : (d.bar2Write a bs).recorder = d.recorder := rfl
@[simp] theorem Dev.bar2Write_nand (d : Dev) (a : Nat) (bs : List Byte) : (d.bar2Write a bs).nand = d.nand := rfl
@[simp] theorem Dev.bar2Write_clk (d : Dev) (a : Nat) (bs : List Byte) : (d.bar2Write a bs).clk = d.clk := rfl
@[simp] theorem Dev.bar2Write_bist (d : Dev) (a : Nat) (bs : List Byte) : (d.bar2Write a bs).bist = d.bist := rfl
@[simp] theorem Dev.bar2Write_entry (d : Dev) (a : Nat) (bs : List Byte) : (d.bar2Write a bs).entry = d.entry := rfl
@[simp] theorem Dev.bar2Write_afe (d : Dev) (a : Nat) (bs : List Byte) : (d.bar2Write a bs).afe = d.afe := rfl
@[simp] theorem Dev.bar2Write_gnss (d : Dev) (a : Nat) (bs : List Byte) : (d.bar2Write a bs).gnss = d.gnss := rfl
@[simp] theorem Dev.bar2Write_time (d : Dev) (a : Nat) (bs : List Byte) : (d.bar2Write a bs).time = d.time := rfl
@[simp] theorem Dev.bar2Write_fus (d : Dev) (a : Nat) (bs : List Byte) : (d.bar2Write a bs).fus = d.fus := rfl
@[simp] theorem Dev.bar2Write_alloc (d : Dev) (a : Nat) (bs : List Byte) : (d.bar2Write a bs).alloc = d.alloc := rfl
@[simp] theorem Dev.bar2Write_solv (d : Dev) (a : Nat) (bs : List Byte) : (d.bar2Write a bs).solv = d.solv := rfl
@[simp] theorem Dev.bar2Write_loop (d : Dev) (a : Nat) (bs : List Byte) : (d.bar2Write a bs).loop = d.loop := rfl
@[simp] theorem Dev.bar2Write_out (d : Dev) (a : Nat) (bs : List Byte) : (d.bar2Write a bs).out = d.out := rfl
@[simp] theorem Dev.bar2Write_red (d : Dev) (a : Nat) (bs : List Byte) : (d.bar2Write a bs).red = d.red := rfl
@[simp] theorem Dev.bar2Write_safe (d : Dev) (a : Nat) (bs : List Byte) : (d.bar2Write a bs).safe = d.safe := rfl
@[simp] theorem Dev.bar2Write_net (d : Dev) (a : Nat) (bs : List Byte) : (d.bar2Write a bs).net = d.net := rfl
@[simp] theorem Dev.bar2Write_image (d : Dev) (a : Nat) (bs : List Byte) : (d.bar2Write a bs).image = d.image := rfl
@[simp] theorem Dev.bar2Write_shots (d : Dev) (a : Nat) (bs : List Byte) : (d.bar2Write a bs).shots = d.shots := rfl

/-! Dev.keep -/

@[simp] theorem Dev.keep_regs (old new : Dev) : (old.keep new).regs = new.regs := rfl
@[simp] theorem Dev.keep_sched (old new : Dev) : (old.keep new).sched = new.sched := rfl
@[simp] theorem Dev.keep_chk (old new : Dev) : (old.keep new).chk = new.chk := rfl
@[simp] theorem Dev.keep_params (old new : Dev) : (old.keep new).params = new.params := rfl
@[simp] theorem Dev.keep_recorder (old new : Dev) : (old.keep new).recorder = new.recorder := rfl
@[simp] theorem Dev.keep_nand (old new : Dev) : (old.keep new).nand = new.nand := rfl
@[simp] theorem Dev.keep_clk (old new : Dev) : (old.keep new).clk = new.clk := rfl
@[simp] theorem Dev.keep_bist (old new : Dev) : (old.keep new).bist = new.bist := rfl
@[simp] theorem Dev.keep_host (old new : Dev) : (old.keep new).host = new.host := rfl
@[simp] theorem Dev.keep_entry (old new : Dev) : (old.keep new).entry = new.entry := rfl
@[simp] theorem Dev.keep_afe (old new : Dev) : (old.keep new).afe = new.afe := rfl
@[simp] theorem Dev.keep_gnss (old new : Dev) : (old.keep new).gnss = new.gnss := rfl
@[simp] theorem Dev.keep_time (old new : Dev) : (old.keep new).time = new.time := rfl
@[simp] theorem Dev.keep_fus (old new : Dev) : (old.keep new).fus = new.fus := rfl
@[simp] theorem Dev.keep_alloc (old new : Dev) : (old.keep new).alloc = new.alloc := rfl
@[simp] theorem Dev.keep_solv (old new : Dev) : (old.keep new).solv = new.solv := rfl
@[simp] theorem Dev.keep_loop (old new : Dev) : (old.keep new).loop = new.loop := rfl
@[simp] theorem Dev.keep_out (old new : Dev) : (old.keep new).out = new.out := rfl
@[simp] theorem Dev.keep_red (old new : Dev) : (old.keep new).red = new.red := rfl
@[simp] theorem Dev.keep_safe (old new : Dev) : (old.keep new).safe = new.safe := rfl
@[simp] theorem Dev.keep_net (old new : Dev) : (old.keep new).net = new.net := rfl
@[simp] theorem Dev.keep_image (old new : Dev) : (old.keep new).image = new.image := rfl
@[simp] theorem Dev.keep_shots (old new : Dev) : (old.keep new).shots = new.shots := rfl

/-! A command that takes effect -/

@[simp] theorem State.apply_pending (s : State) (f : Dev → Dev) : (s.apply f).pending = s.pending := rfl
@[simp] theorem State.run_eq (s : State) (f : Dev → Dev) : s.run f = .next (s.apply f) := rfl

@[simp] theorem State.apply_regs (s : State) (f : Dev → Dev) : (s.apply f).dev.regs = (f s.dev).regs := rfl
@[simp] theorem State.apply_sched (s : State) (f : Dev → Dev) : (s.apply f).dev.sched = (f s.dev).sched := rfl
@[simp] theorem State.apply_chk (s : State) (f : Dev → Dev) : (s.apply f).dev.chk = (f s.dev).chk := rfl
@[simp] theorem State.apply_params (s : State) (f : Dev → Dev) : (s.apply f).dev.params = (f s.dev).params := rfl
@[simp] theorem State.apply_recorder (s : State) (f : Dev → Dev) : (s.apply f).dev.recorder = (f s.dev).recorder := rfl
@[simp] theorem State.apply_nand (s : State) (f : Dev → Dev) : (s.apply f).dev.nand = (f s.dev).nand := rfl
@[simp] theorem State.apply_clk (s : State) (f : Dev → Dev) : (s.apply f).dev.clk = (f s.dev).clk := rfl
@[simp] theorem State.apply_bist (s : State) (f : Dev → Dev) : (s.apply f).dev.bist = (f s.dev).bist := rfl
@[simp] theorem State.apply_host (s : State) (f : Dev → Dev) : (s.apply f).dev.host = (f s.dev).host := rfl
@[simp] theorem State.apply_entry (s : State) (f : Dev → Dev) : (s.apply f).dev.entry = (f s.dev).entry := rfl
@[simp] theorem State.apply_afe (s : State) (f : Dev → Dev) : (s.apply f).dev.afe = (f s.dev).afe := rfl
@[simp] theorem State.apply_gnss (s : State) (f : Dev → Dev) : (s.apply f).dev.gnss = (f s.dev).gnss := rfl
@[simp] theorem State.apply_time (s : State) (f : Dev → Dev) : (s.apply f).dev.time = (f s.dev).time := rfl
@[simp] theorem State.apply_fus (s : State) (f : Dev → Dev) : (s.apply f).dev.fus = (f s.dev).fus := rfl
@[simp] theorem State.apply_alloc (s : State) (f : Dev → Dev) : (s.apply f).dev.alloc = (f s.dev).alloc := rfl
@[simp] theorem State.apply_solv (s : State) (f : Dev → Dev) : (s.apply f).dev.solv = (f s.dev).solv := rfl
@[simp] theorem State.apply_loop (s : State) (f : Dev → Dev) : (s.apply f).dev.loop = (f s.dev).loop := rfl
@[simp] theorem State.apply_out (s : State) (f : Dev → Dev) : (s.apply f).dev.out = (f s.dev).out := rfl
@[simp] theorem State.apply_red (s : State) (f : Dev → Dev) : (s.apply f).dev.red = (f s.dev).red := rfl
@[simp] theorem State.apply_safe (s : State) (f : Dev → Dev) : (s.apply f).dev.safe = (f s.dev).safe := rfl
@[simp] theorem State.apply_net (s : State) (f : Dev → Dev) : (s.apply f).dev.net = (f s.dev).net := rfl
@[simp] theorem State.apply_image (s : State) (f : Dev → Dev) : (s.apply f).dev.image = (f s.dev).image := rfl
@[simp] theorem State.apply_shots (s : State) (f : Dev → Dev) : (s.apply f).dev.shots = (f s.dev).shots := rfl

end Sys2Proof.Machine
end

