-- ==== Sys2Proof/Laws/Ops.lean ====
section
/-! SUPPORT. What the shared operations do to registers: reads after writes, and the frames of events and records. -/
namespace Sys2Proof.Machine
open Sys2Proof

/-! ## Registers -/

theorem Dev.word_setWord_same (d : Dev) (a : Nat) (w : Word) : (d.setWord a w).word a = w :=
  RegFile.read_write_same d.regs a w

@[simp] theorem Dev.word_setWord_other (d : Dev) (a b : Nat) (w : Word) (h : b ≠ a) : (d.setWord a w).word b = d.word b :=
  RegFile.read_write_other d.regs a b w h

@[simp] theorem Dev.word_set_other (d : Dev) (x : Field) (b v : Nat) (h : b ≠ x.addr) : (d.set x v).word b = d.word b :=
  RegFile.read_set_other d.regs x b v h

theorem Dev.get_set_same (d : Dev) (x : Field) (v : Nat) (hw : x.lo + x.width ≤ 32) :
    (d.set x v).get x = v % 2 ^ x.width :=
  RegFile.get_set_same d.regs x v hw

@[simp] theorem Dev.get_set_other (d : Dev) (x y : Field) (v : Nat) (h : y.addr ≠ x.addr) : (d.set x v).get y = d.get y :=
  RegFile.get_set_other d.regs x y v h

theorem Dev.get_set_apart (d : Dev) (x y : Field) (v : Nat) (ha : y.addr = x.addr)
    (hw : y.lo + y.width ≤ 32) (hd : y.lo + y.width ≤ x.lo ∨ x.lo + x.width ≤ y.lo) : (d.set x v).get y = d.get y :=
  RegFile.get_set_apart d.regs x y v ha hw hd

theorem Dev.sorted_setWord (d : Dev) (a : Nat) (w : Word) (h : d.regs.sorted = true) : (d.setWord a w).regs.sorted = true :=
  RegFile.sorted_write d.regs a w h

theorem Dev.sorted_set (d : Dev) (x : Field) (v : Nat) (h : d.regs.sorted = true) : (d.set x v).regs.sorted = true :=
  RegFile.sorted_write d.regs _ _ h

theorem Dev.wf_set (d : Dev) (x : Field) (v : Nat) (h : d.regs.wf = true) : (d.set x v).regs.wf = true :=
  RegFile.wf_set d.regs x v h

/-- A word is the words of its fields. -/
theorem Dev.get_eq_word (d : Dev) (x : Field) : d.get x = getBits (d.word x.addr) x.lo x.width := rfl

/-- The word of a register after a write of one of its fields. -/
theorem Dev.word_set_same (d : Dev) (x : Field) (v : Nat) : (d.set x v).word x.addr = setBits (d.word x.addr) x.lo x.width v :=
  RegFile.read_write_same d.regs x.addr _

theorem getBits_testBit (w : Word) (lo width j : Nat) : (getBits w lo width).testBit j = (decide (j < width) && w.getLsbD (lo + j)) := by
  unfold getBits
  rw [BitVec.testBit_toNat, BitVec.getLsbD_extractLsb']

theorem Dev.bitAt_eq (d : Dev) (x : Field) (j : Nat) : d.bitAt x j = (decide (j < x.width) && (d.word x.addr).getLsbD (x.lo + j)) :=
  getBits_testBit _ _ _ _

theorem bit_testBit_zero (b : Bool) : (bit b).testBit 0 = b := by cases b <;> rfl

/-- A bit reads as it was written, and its neighbours stay. -/
theorem Dev.bitAt_setBitAt (d : Dev) (x : Field) (i j : Nat) (b : Bool) (hw : x.lo + x.width ≤ 32) (hi : i < x.width) (hj : j < x.width) :
    (d.setBitAt x i b).bitAt x j = if j = i then b else d.bitAt x j := by
  rw [Dev.bitAt_eq, Dev.bitAt_eq]
  have : (d.setBitAt x i b).word x.addr = setBits (d.word x.addr) (x.lo + i) 1 (bit b) :=
    RegFile.read_write_same d.regs x.addr _
  rw [this, getLsbD_setBits _ _ _ _ _ (by omega)]
  by_cases e : j = i
  · subst e
    cases b <;> simp [hj, bit]
  · have : ¬ (x.lo + i ≤ x.lo + j ∧ x.lo + j < x.lo + i + 1) := by omega
    rw [if_neg this, if_neg e]

/-- A one-bit field reads as it was written. -/
theorem Dev.flag_setB_same (d : Dev) (x : Field) (b : Bool) (h : x.width = 1) (hw : x.lo ≤ 31) : (d.setB x b).flag x = b := by
  unfold Dev.flag Dev.setB
  rw [Dev.get_set_same d x _ (by omega), h]
  cases b <;> rfl

theorem Dev.flag_set_other (d : Dev) (x y : Field) (v : Nat) (h : y.addr ≠ x.addr) : (d.set x v).flag y = d.flag y := by
  unfold Dev.flag
  rw [Dev.get_set_other d x y v h]

theorem Dev.flag_set_apart (d : Dev) (x y : Field) (v : Nat) (ha : y.addr = x.addr)
    (hw : y.lo + y.width ≤ 32) (hd : y.lo + y.width ≤ x.lo ∨ x.lo + x.width ≤ y.lo) : (d.set x v).flag y = d.flag y := by
  unfold Dev.flag
  rw [Dev.get_set_apart d x y v ha hw hd]

/-- A field is below its bound. -/
theorem Dev.get_lt (d : Dev) (x : Field) : d.get x < 2 ^ x.width := by
  rw [Dev.get_eq_word]
  exact (BitVec.extractLsb' _ _ _).isLt

/-! ## What no command undoes -/

theorem keepFirst_self {α : Type} (l : List α) : keepFirst l l = l := by
  cases l <;> rfl

theorem keepWritten_self {α : Type} (l : List (Option α)) : keepWritten l l = l := by
  induction l with
  | nil => rfl
  | cons x l ih => cases x <;> simp [keepWritten, ih]

/-- An effect that leaves the cellar as it is is kept whole. -/
theorem Dev.keep_of_img {a b : Dev} (h : b.img = a.img) : a.keep b = b := by
  have : { b.img with
      sets := keepFirst a.img.sets b.img.sets
      keys := keepWritten a.img.keys b.img.keys
      revoked := a.img.revoked ||| b.img.revoked } = b.img := by
    rw [h, keepFirst_self, keepWritten_self, Nat.or_self]
  unfold Dev.keep
  rw [this]

end Sys2Proof.Machine
end

