-- ==== Sys2Proof/Laws/Lists.lean ====
section
/-! SUPPORT. Lists that the state holds: elements changed, values put for an index, masks, bytes, and what is kept. -/
namespace Sys2Proof.Machine
open Sys2Proof

/-- The other elements of a list stay. -/
theorem modAt_getD_other {α : Type} (l : List α) (i j : Nat) (f : α → α) (x : α) (h : j ≠ i) : (modAt l i f).getD j x = l.getD j x := by
  induction l generalizing i j with
  | nil => rfl
  | cons a l ih =>
    cases i <;> cases j
    · exact absurd rfl h
    · rfl
    · rfl
    · simp only [modAt, List.getD_cons_succ]
      exact ih _ _ (by omega)

/-- An element of a list after its change. -/
theorem modAt_getD_same {α : Type} (l : List α) (i : Nat) (f : α → α) (x : α) (h : i < l.length) : (modAt l i f).getD i x = f (l.getD i x) := by
  induction l generalizing i with
  | nil => cases h
  | cons a l ih =>
    cases i
    · rfl
    · simp only [modAt, List.getD_cons_succ]
      exact ih _ (by simpa using h)

/-- A value put for an index is found, and the others stay. -/
theorem lookup_update {α : Type} (l : List (Nat × α)) (i j : Nat) (v : α) :
    lookup (update l i v) j = if j = i then some v else lookup l j := by
  unfold lookup update
  by_cases h : j = i
  · subst h; simp
  · rw [if_neg h, List.find?_cons_of_neg (by simp; omega), List.find?_filter]
    congr 1
    apply List.find?_congr
    intro x _
    by_cases k : x.1 = j <;> simp [k, h]

/-- Values put one after another, no index twice. -/
theorem lookup_updates (l : List (Nat × Quad)) (j : Nat) (nd : ∀ r x m, l = r ++ x :: m → ∀ y ∈ m, y.1 ≠ x.1) : ∀ r : List (Nat × Quad),
    lookup (l.foldl (fun r e => update r e.1 e.2) r) j = match l.find? (fun e => e.1 == j) with
      | some e => some e.2
      | none => lookup r j := by
  induction l with
  | nil => intro r; rfl
  | cons x l ih =>
    intro r
    rw [List.foldl_cons, ih (fun r y m h => nd (x :: r) y m (by rw [h]; rfl))]
    by_cases h : x.1 = j
    · have : l.find? (fun e => e.1 == j) = none := by
        rw [List.find?_eq_none]
        intro y hy
        have := nd [] x l rfl y hy
        simp
        omega
      rw [this, List.find?_cons_of_pos (by simp [h]), lookup_update, if_pos h.symm]
    · rw [List.find?_cons_of_neg (by simp [h])]
      split
      · rfl
      · rw [lookup_update, if_neg (fun k => h k.symm)]

/-- A last write is one of the writes. -/
theorem lastWrites_mem (l : List (Nat × Nat × Quad)) : ∀ y ∈ lastWrites l, ∃ x ∈ l, x.2.1 = y.1 := by
  induction l with
  | nil => intro y h; cases h
  | cons x l ih =>
    intro y h
    unfold lastWrites at h
    split at h
    · obtain ⟨z, h1, h2⟩ := ih y h
      exact ⟨z, List.mem_cons_of_mem _ h1, h2⟩
    · rcases List.mem_cons.mp h with rfl | h
      · exact ⟨_, List.mem_cons_self .., rfl⟩
      · obtain ⟨z, h1, h2⟩ := ih y h
        exact ⟨z, List.mem_cons_of_mem _ h1, h2⟩

/-- No index is written last twice. -/
theorem lastWrites_nodup (l : List (Nat × Nat × Quad)) : ∀ r x m, lastWrites l = r ++ x :: m → ∀ y ∈ m, y.1 ≠ x.1 := by
  induction l with
  | nil => intro r x m h; simp [lastWrites] at h
  | cons a l ih =>
    intro r x m h
    unfold lastWrites at h
    split at h
    · exact ih r x m h
    · next hn =>
      cases r with
      | nil =>
        simp only [List.nil_append, List.cons.injEq] at h
        obtain ⟨rfl, rfl⟩ := h
        intro y hy e
        obtain ⟨z, h1, h2⟩ := lastWrites_mem l y hy
        apply hn
        rw [List.any_eq_true]
        exact ⟨z, h1, by simp only [beq_iff_eq]; rw [h2, e]⟩
      | cons b r =>
        simp only [List.cons_append, List.cons.injEq] at h
        exact ih r x m h.2

/-- The last write of an index. -/
theorem lastWrites_find (l : List (Nat × Nat × Quad)) (j : Nat) : ((lastWrites l).find? (fun e => e.1 == j)).map (fun e => e.2)
    = ((l.filter (fun x => x.2.1 == j)).getLast?).map (fun x => x.2.2) := by
  induction l with
  | nil => rfl
  | cons a l ih =>
    unfold lastWrites
    by_cases h : l.any (fun e => e.2.1 == a.2.1) = true
    · rw [if_pos h, ih]
      by_cases k : a.2.1 = j
      · rw [List.filter_cons_of_pos (by simp [k])]
        obtain ⟨z, h1, h2⟩ := List.any_eq_true.mp h
        have : l.filter (fun x => x.2.1 == j) ≠ [] := by
          intro e
          rw [List.filter_eq_nil_iff] at e
          exact e z h1 (by rw [← k]; exact h2)
        rw [List.getLast?_cons, List.getLast?_eq_some_getLast this]
        rfl
      · rw [List.filter_cons_of_neg (by simp [k])]
    · rw [if_neg h]
      by_cases k : a.2.1 = j
      · have : l.filter (fun x => x.2.1 == j) = [] := by
          rw [List.filter_eq_nil_iff]
          intro z hz e
          apply h
          rw [List.any_eq_true]
          exact ⟨z, hz, by rw [k]; exact e⟩
        rw [List.filter_cons_of_pos (by simp [k]), this, List.find?_cons_of_pos (by simp [k])]
        rfl
      · rw [List.filter_cons_of_neg (by simp [k]), List.find?_cons_of_neg (by simp [k]), ih]

/-- The first element is kept. -/
theorem keepFirst_zero {α : Type} (l m : List α) (a : α) (h : l[0]? = some a) : (keepFirst l m)[0]? = some a := by
  cases l <;> simp_all [keepFirst]

/-- A slot that is written stays written. -/
theorem keepWritten_get {α : Type} (l m : List (Option α)) (i : Nat) (a : α) (h : l[i]? = some (some a)) : (keepWritten l m)[i]? = some (some a) := by
  induction l generalizing m i with
  | nil => simp at h
  | cons x l ih =>
    cases m with
    | nil => cases x <;> exact h
    | cons y m =>
      cases i with
      | zero =>
        simp at h
        subst h
        rfl
      | succ i =>
        have h : l[i]? = some (some a) := by simpa using h
        cases x <;> simpa [keepWritten] using ih m i h

/-- A slot written once is kept as it was first written. -/
theorem keepWritten_setAt {α : Type} (l : List (Option α)) (n : Nat) (x : α) : l[n]? = some none →
    keepWritten l (setAt l n (some x)) = setAt l n (some x) ∧ (setAt l n (some x))[n]? = some (some x) := by
  induction l generalizing n with
  | nil => intro h; simp at h
  | cons a l ih =>
    intro h
    cases n with
    | zero =>
      simp at h
      subst h
      exact ⟨by simp [setAt, keepWritten, keepWritten_self], rfl⟩
    | succ n =>
      simp at h
      obtain ⟨h1, h2⟩ := ih n h
      refine ⟨?_, by simpa [setAt] using h2⟩
      cases a <;> simp [setAt, keepWritten, h1]

/-- The element put into a list. -/
theorem setAt_getD {α : Type} (l : List (Option α)) (n : Nat) (x : α) (h : l[n]? = some none) : (setAt l n (some x)).getD n none = some x := by
  have := (keepWritten_setAt l n x h).2
  rw [List.getD_eq_getElem?_getD, this]
  rfl

/-- The bits of a mask built up. -/
theorem foldl_or_testBit (l : List Nat) (n : Nat) : ∀ m : Nat, (l.foldl (fun m i => m ||| 2 ^ i) m).testBit n = (m.testBit n || decide (n ∈ l)) := by
  induction l with
  | nil => intro m; simp
  | cons x l ih =>
    intro m
    rw [List.foldl_cons, ih, Nat.testBit_or, Nat.testBit_two_pow]
    by_cases h : x = n
    · subst h; simp
    · have : ¬ n = x := fun k => h k.symm
      simp [h, this]

/-- A member of a list has its bit in the mask. -/
theorem maskOf_testBit (l : List Nat) (n : Nat) (h : n ∈ l) : (maskOf l).testBit n = true := by
  unfold maskOf
  rw [foldl_or_testBit]
  simp [h]

/-- The mask of a list has exactly its members' bits. -/
theorem maskOf_contains (l : List Nat) (n : Nat) : (maskOf l).testBit n = l.contains n := by
  unfold maskOf
  rw [foldl_or_testBit]
  simp

/-- Little-endian bytes of a number cut in two. -/
theorem leBytes_add (n m : Nat) : ∀ (x y : Nat), x < 256 ^ n → leBytes (n + m) (x + 256 ^ n * y) = leBytes n x ++ leBytes m y := by
  induction n with
  | zero =>
    intro x y h
    have : x = 0 := by simpa using h
    subst this
    simp [leBytes]
  | succ n ih =>
    intro x y h
    have e : n + 1 + m = (n + m) + 1 := by omega
    have h2 : (x + 256 ^ (n + 1) * y) / 256 = x / 256 + 256 ^ n * y := by
      rw [pow_succ, Nat.mul_comm (256 ^ n) 256, Nat.mul_assoc, Nat.add_mul_div_left _ _ (by decide)]
    have h3 : x / 256 < 256 ^ n := by
      rw [pow_succ] at h
      omega
    have h4 : BitVec.ofNat 8 (x + 256 ^ (n + 1) * y) = BitVec.ofNat 8 x := by
      apply BitVec.eq_of_toNat_eq
      simp only [BitVec.toNat_ofNat]
      rw [pow_succ, Nat.mul_comm (256 ^ n) 256, Nat.mul_assoc]
      show (x + 256 * _) % 256 = x % 256
      omega
    rw [e]
    simp only [leBytes]
    rw [h2, h4, ih _ _ h3]
    rfl

/-- A register that a filter lets through. -/
theorem find_filter_in (m : RegFile) (p : Nat × Word → Bool) (a : Nat) : (∀ v, p (a, v) = true) → RegFile.find (m.filter p) a = RegFile.find m a := by
  intro h
  induction m with
  | nil => rfl
  | cons x m ih =>
    obtain ⟨b, v⟩ := x
    by_cases hp : p (b, v) = true
    · rw [List.filter_cons_of_pos hp]
      simp only [RegFile.find]
      rw [ih]
    · rw [List.filter_cons_of_neg hp, ih]
      have : ¬ b = a := by
        rintro rfl
        exact hp (h v)
      simp only [RegFile.find, if_neg this]

/-- A register that a filter takes away. -/
theorem find_filter_out (m : RegFile) (p : Nat × Word → Bool) (a : Nat) : (∀ v, p (a, v) = false) → RegFile.find (m.filter p) a = none := by
  intro h
  induction m with
  | nil => rfl
  | cons x m ih =>
    obtain ⟨b, v⟩ := x
    by_cases hp : p (b, v) = true
    · rw [List.filter_cons_of_pos hp]
      have : ¬ b = a := by
        rintro rfl
        rw [h v] at hp
        cases hp
      simp only [RegFile.find, if_neg this]
      exact ih
    · rw [List.filter_cons_of_neg hp, ih]

end Sys2Proof.Machine
end

