-- ==== Sys2Proof/Laws/Told.lean ====
section
/-! SUPPORT. What telling of an event or writing a record changes: the registers of `tellRegs`, staging, the trace units and the count of
messages, and nothing else; and it clears no status bit of an event. -/
namespace Sys2Proof.Machine
open Sys2Proof Sys2Proof.Safety

/-- `e` differs from `d` at most by what telling of events changes. -/
structure Told (d e : Dev) : Prop where
  word : ∀ a, a ∉ tellRegs → e.word a = d.word a
  evt : ∀ b < 3, ∀ i < 32, d.bitAt (Reg.EVT_STATUS.STATUS b) i = true → e.bitAt (Reg.EVT_STATUS.STATUS b) i = true
  wf : d.regs.wf = true → e.regs.wf = true
  recs : ∃ l, e.recorder.openBatch ++ e.recorder.staging = d.recorder.openBatch ++ d.recorder.staging ++ l
  eq : e = graft d e

theorem Told.refl (d : Dev) : Told d d := ⟨fun _ _ => rfl, fun _ _ _ _ h => h, id, ⟨[], (List.append_nil _).symm⟩, rfl⟩

theorem Told.trans {a b c : Dev} (h : Told a b) (k : Told b c) : Told a c where
  word := fun x hx => (k.word x hx).trans (h.word x hx)
  evt := fun b hb i hi x => k.evt b hb i hi (h.evt b hb i hi x)
  wf := fun x => k.wf (h.wf x)
  recs := by
    obtain ⟨l, hl⟩ := h.recs
    obtain ⟨m, hm⟩ := k.recs
    exact ⟨l ++ m, by rw [hm, hl, List.append_assoc]⟩
  eq := by
    have h1 : graft b c = graft (graft a b) c := congrArg (fun x => graft x c) h.eq
    exact k.eq.trans h1

/-- What is told of is told of in the frame of a statement. -/
theorem Told.only {d e : Dev} (h : Told d e) : ToldOnly [] d e := ⟨fun x _ hx => h.word x hx, h.eq⟩

/-! ## What telling leaves -/

theorem Told.get {d e : Dev} (h : Told d e) (x : Field) (hx : x.addr ∉ tellRegs) : e.get x = d.get x := by
  rw [Dev.get_eq_word, Dev.get_eq_word, h.word _ hx]

theorem Told.flag {d e : Dev} (h : Told d e) (x : Field) (hx : x.addr ∉ tellRegs) : e.flag x = d.flag x := by
  unfold Dev.flag
  rw [h.get x hx]

theorem Told.sched {d e : Dev} (h : Told d e) : e.sched = d.sched := by
  rw [h.eq]
  rfl

theorem Told.chk {d e : Dev} (h : Told d e) : e.chk = d.chk := by
  rw [h.eq]
  rfl

theorem Told.img {d e : Dev} (h : Told d e) : e.img = d.img := by
  rw [h.eq]
  rfl

theorem Told.params {d e : Dev} (h : Told d e) : e.params = d.params := by
  rw [h.eq]
  rfl

theorem Told.nand {d e : Dev} (h : Told d e) : e.nand = d.nand := by
  rw [h.eq]
  rfl

theorem Told.clk {d e : Dev} (h : Told d e) : e.clk = d.clk := by
  rw [h.eq]
  rfl

theorem Told.bist {d e : Dev} (h : Told d e) : e.bist = d.bist := by
  rw [h.eq]
  rfl

theorem Told.entry {d e : Dev} (h : Told d e) : e.entry = d.entry := by
  rw [h.eq]
  rfl

theorem Told.afe {d e : Dev} (h : Told d e) : e.afe = d.afe := by
  rw [h.eq]
  rfl

theorem Told.gnss {d e : Dev} (h : Told d e) : e.gnss = d.gnss := by
  rw [h.eq]
  rfl

theorem Told.time {d e : Dev} (h : Told d e) : e.time = d.time := by
  rw [h.eq]
  rfl

theorem Told.fus {d e : Dev} (h : Told d e) : e.fus = d.fus := by
  rw [h.eq]
  rfl

theorem Told.alloc {d e : Dev} (h : Told d e) : e.alloc = d.alloc := by
  rw [h.eq]
  rfl

theorem Told.solv {d e : Dev} (h : Told d e) : e.solv = d.solv := by
  rw [h.eq]
  rfl

theorem Told.out {d e : Dev} (h : Told d e) : e.out = d.out := by
  rw [h.eq]
  rfl

theorem Told.red {d e : Dev} (h : Told d e) : e.red = d.red := by
  rw [h.eq]
  rfl

theorem Told.safe {d e : Dev} (h : Told d e) : e.safe = d.safe := by
  rw [h.eq]
  rfl

theorem Told.net {d e : Dev} (h : Told d e) : e.net = d.net := by
  rw [h.eq]
  rfl

theorem Told.image {d e : Dev} (h : Told d e) : e.image = d.image := by
  rw [h.eq]
  rfl

theorem Told.bar2 {d e : Dev} (h : Told d e) : e.host.bar2 = d.host.bar2 := by
  rw [h.eq]
  rfl

theorem Told.keyAt {d e : Dev} (h : Told d e) : e.host.keyAt = d.host.keyAt := by
  rw [h.eq]
  rfl

theorem Told.expertAt {d e : Dev} (h : Told d e) : e.host.expertAt = d.host.expertAt := by
  rw [h.eq]
  rfl

theorem Told.spiOk {d e : Dev} (h : Told d e) : e.host.spiOk = d.host.spiOk := by
  rw [h.eq]
  rfl

theorem Told.spiCrc {d e : Dev} (h : Told d e) : e.host.spiCrc = d.host.spiCrc := by
  rw [h.eq]
  rfl

theorem Told.spiOut {d e : Dev} (h : Told d e) : e.host.spiOut = d.host.spiOut := by
  rw [h.eq]
  rfl

theorem Told.readOut {d e : Dev} (h : Told d e) : e.host.readOut = d.host.readOut := by
  rw [h.eq]
  rfl

theorem Told.latched {d e : Dev} (h : Told d e) : e.host.latched = d.host.latched := by
  rw [h.eq]
  rfl

theorem Told.causes {d e : Dev} (h : Told d e) : e.host.causes = d.host.causes := by
  rw [h.eq]
  rfl

/-- A register that tells, other than the status of events. -/
def tellsMore (a : Nat) : Bool := tellRegs.contains a && 0x2000C ≤ a

theorem tellsMore_mem {a : Nat} (h : tellsMore a = true) : a ∈ tellRegs := by
  simp only [tellsMore, Bool.and_eq_true, List.contains_iff_mem] at h
  exact h.1

theorem Told.set {d e : Dev} (h : Told d e) (x : Field) (v : Nat) (hx : tellsMore x.addr = true) : Told d (e.set x v) :=
  h.trans {
    word := fun a ha => Dev.word_set_other e x a v (by rintro rfl; exact ha (tellsMore_mem hx))
    evt := fun b hb i _ k => by
      simp only [tellsMore, Bool.and_eq_true, decide_eq_true_eq] at hx
      unfold Dev.bitAt at k ⊢
      rwa [Dev.get_set_other e x (Reg.EVT_STATUS.STATUS b) v (by show 0x20000 + 0x4 * b ≠ x.addr; omega)]
    wf := fun w => Dev.wf_set e x v w
    recs := ⟨[], (List.append_nil _).symm⟩
    eq := rfl }

/-- A bit of a bank of EVT_STATUS after a bit of that bank is set. -/
theorem Dev.bitAt_status (d : Dev) (b i j : Nat) (hi : i < 32) (hj : j < 32) :
    (d.setBitAt (Reg.EVT_STATUS.STATUS b) i true).bitAt (Reg.EVT_STATUS.STATUS b) j
      = if j = i then true else d.bitAt (Reg.EVT_STATUS.STATUS b) j :=
  Dev.bitAt_setBitAt d (Reg.EVT_STATUS.STATUS b) i j true (Nat.le_refl 32) hi hj

/-- The status bit of an event is set. -/
theorem Told.setEvent {d e : Dev} (h : Told d e) (n : Nat) (hn : n < 96) :
    Told d (e.setBitAt (Reg.EVT_STATUS.STATUS (n / 32)) (n % 32) true) :=
  h.trans {
    word := fun a ha => Dev.word_set_other e _ a _ (by
      rintro rfl
      apply ha
      have : n / 32 = 0 ∨ n / 32 = 1 ∨ n / 32 = 2 := by omega
      rcases this with k | k | k <;> simp [k, tellRegs])
    evt := fun b _ i hi k => by
      by_cases hb : b = n / 32
      · subst hb
        rw [Dev.bitAt_status _ _ _ _ (by omega) hi]
        split
        · rfl
        · exact k
      · unfold Dev.bitAt at k ⊢
        rwa [show (e.setBitAt (Reg.EVT_STATUS.STATUS (n / 32)) (n % 32) true).get (Reg.EVT_STATUS.STATUS b) = e.get (Reg.EVT_STATUS.STATUS b)
          from Dev.get_set_other e _ _ _ (by show 0x20000 + 0x4 * b ≠ 0x20000 + 0x4 * (n / 32); omega)]
    wf := fun w => Dev.wf_set e _ _ w
    recs := ⟨[], (List.append_nil _).symm⟩
    eq := rfl }

theorem Told.setB {d e : Dev} (h : Told d e) (x : Field) (b : Bool) (hx : tellsMore x.addr = true) : Told d (e.setB x b) := h.set x _ hx

theorem Told.inc {d e : Dev} (h : Told d e) (x : Field) (hx : tellsMore x.addr = true) : Told d (e.inc x) := h.set x _ hx

theorem Told.setBitAt {d e : Dev} (h : Told d e) (x : Field) (i : Nat) (b : Bool) (hx : tellsMore x.addr = true) :
    Told d (e.setBitAt x i b) := h.set _ _ hx

theorem Told.recorder {d e : Dev} (h : Told d e) (r : RecState) (l : List Rec)
    (hl : r.openBatch ++ r.staging = e.recorder.openBatch ++ e.recorder.staging ++ l)
    (k : { e with recorder := r } = graft e { e with recorder := r } := by rfl) : Told d { e with recorder := r } :=
  h.trans { Told.refl e with recs := ⟨l, hl⟩, eq := k }

theorem Told.loop {d e : Dev} (h : Told d e) (l : LoopState) (k : { e with loop := l } = graft e { e with loop := l } := by rfl) :
    Told d { e with loop := l } :=
  h.trans { Told.refl e with eq := k }

theorem Told.foldl {α : Type} {d : Dev} (l : List α) (f : Dev → α → Dev) (hf : ∀ e x, x ∈ l → Told d e → Told d (f e x)) :
    ∀ e, Told d e → Told d (l.foldl f e) := by
  induction l with
  | nil => exact fun e h => h
  | cons x l ih =>
    intro e h
    exact ih (fun e y hy => hf e y (List.mem_cons_of_mem _ hy)) _ (hf e x (List.mem_cons_self ..) h)

theorem Told.sendVector {d e : Dev} (h : Told d e) (v : Nat) : Told d (e.sendVector v) := by
  unfold Dev.sendVector
  split
  · have h1 : Told d { e with host := { e.host with sent := modAt e.host.sent v (· + 1) } } := h.trans { Told.refl e with eq := rfl }
    exact h1.setBitAt _ _ _ rfl
  · exact h.setBitAt _ _ _ rfl

theorem Told.deliverFrom {d e : Dev} (h : Told d e) (old : Dev) : Told d (Dev.deliverFrom old e) := by
  unfold Dev.deliverFrom
  refine Told.foldl _ _ ?_ e h
  intro e x _ he
  split
  · exact he.sendVector x
  · exact he

theorem tells_trace (u k : Nat) (hu : u < 8) (hk : k = 0xD3014 ∨ k = 0xD301C ∨ k = 0xD3020) : tellsMore (k + 0x40 * u) = true := by
  have : u = 0 ∨ u = 1 ∨ u = 2 ∨ u = 3 ∨ u = 4 ∨ u = 5 ∨ u = 6 ∨ u = 7 := by omega
  rcases hk with rfl | rfl | rfl <;> rcases this with rfl | rfl | rfl | rfl | rfl | rfl | rfl | rfl <;> decide

theorem Told.markRaised {d e : Dev} (h : Told d e) (n : Nat) : Told d (e.markRaised n) :=
  h.trans { Told.refl e with eq := rfl }

theorem Told.signal {d e : Dev} (h : Told d e) (n : Nat) (hn : n < 96) : Told d (e.signal n) := by
  have h1 : Told d (((e.setBitAt (Reg.EVT_STATUS.STATUS (n / 32)) (n % 32) true).set Reg.EVT_LAST.EVENT n).set
      Reg.EVT_LAST_TS.TS e.ts32.toNat) :=
    ((h.setEvent n hn).set _ _ rfl).set _ _ rfl
  have h2 := (h1.deliverFrom e).markRaised n
  unfold Dev.signal
  extract_lets a b
  split
  · exact h2.loop _
  · exact h2

theorem Told.showStaging {d e : Dev} (h : Told d e) : Told d e.showStaging := by
  unfold Dev.showStaging
  extract_lets kb a
  have h1 : Told d a := h.set _ _ rfl
  split
  · exact h1.set _ _ rfl
  · exact h1

theorem Told.stage {d e : Dev} (h : Told d e) (type : Nat) (body : List Byte) (tov : Option Int) : Told d (e.stage type body tov) :=
  (h.recorder _ _ (List.append_assoc ..).symm).showStaging

theorem Told.dropRecord {d e : Dev} (h : Told d e) : Told d e.dropRecord := by
  unfold Dev.dropRecord
  extract_lets seq first
  have h1 := h.recorder { e.recorder with lastSeq := seq, dropped := some (first, seq) } [] (List.append_nil _).symm
  exact h1.inc Reg.REC_LOST.DROPPED rfl

theorem Told.drainAll {d e : Dev} (h : Told d e) : Told d e.drainAll :=
  (h.recorder _ [] rfl).showStaging

theorem Told.record {d e : Dev} (h : Told d e) (type : Nat) (body : List Byte) (tov : Option Int) :
    Told d (e.record type body tov) := by
  unfold Dev.record
  extract_lets at_ used fresh
  split
  · exact h.inc _ rfl
  · split
    · exact h.stage _ _ _
    · split
      · have h1 : Told d (((e.set Reg.REC_FREEZE_STAT.ELAPSED e.frozenFor).setB Reg.REC_STATUS.FROZEN false).set
            Reg.REC_FREEZE_STAT.END 3).drainAll :=
          (((h.set _ _ rfl).setB _ _ rfl).set _ _ rfl).drainAll
        exact (((h1.setBitAt _ _ _ rfl).signal 88 (by decide)).stage _ _ _).stage _ _ _
      · have h1 : Told d e.dropRecord := h.dropRecord
        split
        · exact ((h1.setBitAt _ _ _ rfl).signal 89 (by decide)).dropRecord
        · exact h1

theorem Told.raiseCore {d e : Dev} (h : Told d e) (n sub : Nat) (words : List Word) (tov : Option Int) (hn : n < 96) :
    Told d (e.raiseCore n sub words tov) := (h.signal n hn).record _ _ _

theorem Told.traceTrigger {d e : Dev} (h : Told d e) (u : Nat) (hu : u < 8) : Told d (e.traceTrigger u) := by
  have h1 := h.loop { e.loop with trace := modAt e.loop.trace u (fun y => { y with left := 65536 - e.get (Reg.LOOP_TR.TRIG.PRE u) }) }
  have h2 := ((h1.set (Reg.LOOP_TR.STAT.STATE u) 2 (tells_trace u 0xD3014 hu (by decide))).set (Reg.LOOP_TR.STAT.PRE_HAVE u)
    (min (e.loop.trace.getD u default).count (e.get (Reg.LOOP_TR.TRIG.PRE u))) (tells_trace u 0xD3014 hu (by decide))).set
    (Reg.LOOP_TR.TRIG_IDX.TRIG_IDX u) (((e.loop.trace.getD u default).pos + 65535) % 65536) (tells_trace u 0xD3020 hu (by decide))
  exact ((h2.set (Reg.LOOP_TR.TRIG_TS.TRIG_TS u) _ (tells_trace u 0xD301C hu (by decide))).setB Reg.LOOP_STATUS.TRIG_STICKY true
    rfl).raiseCore 61 u _ none (by decide)

theorem Told.flushTrace {d : Dev} : ∀ (k : Nat) (e : Dev), Told d e → Told d (Dev.flushTrace k e)
  | 0, _, h => h
  | k + 1, e, h => by
    unfold Dev.flushTrace
    split
    · exact h
    · refine Told.flushTrace k _ (Told.foldl _ _ ?_ _ (h.loop _))
      intro e u hu he
      split
      · exact he.traceTrigger u (List.mem_range.mp hu)
      · exact he

/-- Raising an event changes only what tells of it. -/
theorem Told.raiseWith {d e : Dev} (h : Told d e) (n sub : Nat) (words : List Word) (tov : Option Int) (hn : n < 96) :
    Told d (e.raiseWith n sub words tov) := Told.flushTrace 24 _ (h.raiseCore n sub words tov hn)

/-- Raising an event changes only what tells of it. -/
theorem Told.raise {d e : Dev} (h : Told d e) (n : Nat) (caps : List Nat) (hn : n < 96) : Told d (e.raise n caps) :=
  h.raiseWith n 0 _ none hn

/-- Writing a record changes only what holds records. -/
theorem Told.note {d e : Dev} (h : Told d e) (type blk sub : Nat) (words : List Word) : Told d (e.note type blk sub words) :=
  Told.flushTrace 24 _ (h.record _ _ _)

/-- The completion of a command tells of itself by its doorbell bit and E17. -/
theorem Told.doorbell (d : Dev) (i : Nat) : Told (d.setBitAt Reg.HOST_DB_OUT.DONE i true) (d.doorbell i) :=
  (Told.refl _).raise 17 _ (by decide)

/-- A record for which staging has room is staged. -/
theorem record_room (d : Dev) (type : Nat) (body : List Byte) (tov : Option Int) (ht : type ≠ 0x0A)
    (h : stagingBytes d.recorder.staging + 36 + body.length ≤ stagingSize) : d.record type body tov = d.stage type body (tov <|> d.sched.subject) := by
  unfold Dev.record
  extract_lets at_ used fresh
  rw [if_neg (by simp [ht]), if_pos h]

/-- A record for which staging has room is there afterwards, with what tells of more behind it. -/
theorem Told.recorded {d a e : Dev} (type : Nat) (body : List Byte) (tov : Option Int) (ht : type ≠ 0x0A)
    (k : Told (a.record type body tov) e) (hs : a.recorder.staging = d.recorder.staging)
    (hq : a.recorder.lastSeq = d.recorder.lastSeq) (ho : a.recorder.openBatch = d.recorder.openBatch) : Recorded type body d e := by
  intro room
  rw [record_room a type body tov ht (by rw [hs]; exact room)] at k
  obtain ⟨l, hl⟩ := k.recs
  refine ⟨a.makeRec (a.recorder.lastSeq + 1) type body (tov <|> a.sched.subject), l, ?_, rfl, rfl, by rw [← hq]; rfl⟩
  have : (a.stage type body (tov <|> a.sched.subject)).recorder.openBatch ++ (a.stage type body (tov <|> a.sched.subject)).recorder.staging
      = a.recorder.openBatch ++ (a.recorder.staging ++ [a.makeRec (a.recorder.lastSeq + 1) type body (tov <|> a.sched.subject)]) := by
    unfold Dev.stage Dev.showStaging
    extract_lets
    split <;> rfl
  rw [hl, this, hs, ho]
  simp

theorem eventSet_def (n : Nat) (d : Dev) : eventSet n d = d.bitAt (Reg.EVT_STATUS.STATUS (n / 32)) (n % 32) := rfl

/-- What tells of more keeps the events told of. -/
theorem Told.eventSet {d e : Dev} (h : Told d e) (n : Nat) (hn : n < 96) (k : eventSet n d = true) : Safety.eventSet n e = true :=
  h.evt _ (by omega) _ (by omega) k

/-- An event that is raised has its status bit. -/
theorem eventSet_signal (d : Dev) (n : Nat) (hn : n < 96) : Safety.eventSet n (d.signal n) = true := by
  have h0 : Safety.eventSet n (d.setBitAt (Reg.EVT_STATUS.STATUS (n / 32)) (n % 32) true) = true := by
    rw [eventSet_def, Dev.bitAt_status _ _ _ _ (by omega) (by omega), if_pos rfl]
  have h1 : Told (d.setBitAt (Reg.EVT_STATUS.STATUS (n / 32)) (n % 32) true) (d.signal n) := by
    have h2 := ((((Told.refl (d.setBitAt (Reg.EVT_STATUS.STATUS (n / 32)) (n % 32) true)).set Reg.EVT_LAST.EVENT n rfl).set
      Reg.EVT_LAST_TS.TS d.ts32.toNat rfl).deliverFrom d).markRaised n
    unfold Dev.signal
    extract_lets a b
    split
    · exact h2.loop _
    · exact h2
  exact h1.eventSet n hn h0

theorem eventSet_raiseWith (d : Dev) (n sub : Nat) (words : List Word) (tov : Option Int) (hn : n < 96) :
    Safety.eventSet n (d.raiseWith n sub words tov) = true :=
  (Told.flushTrace 24 _ ((Told.refl (d.signal n)).record _ _ _)).eventSet n hn (eventSet_signal d n hn)

theorem eventSet_raise (d : Dev) (n : Nat) (caps : List Nat) (hn : n < 96) : Safety.eventSet n (d.raise n caps) = true :=
  eventSet_raiseWith d n 0 _ none hn

theorem evtType_ne (n : Nat) : evtType n ≠ 0x0A := by
  unfold evtType
  split_ifs <;> decide

theorem signal_recorder (d : Dev) (n : Nat) : (d.signal n).recorder = d.recorder := by
  have h (old : Dev) (l : List Nat) : ∀ e : Dev, e.recorder = d.recorder →
      (l.foldl (fun d v => if d.vecPending v && !old.vecPending v then d.sendVector v else d) e).recorder = d.recorder := by
    induction l with
    | nil => exact fun e he => he
    | cons v l ih =>
      intro e he
      refine ih _ ?_
      dsimp only
      split
      · unfold Dev.sendVector
        split <;> exact he
      · exact he
  unfold Dev.signal
  extract_lets a b
  have hb : b.recorder = d.recorder := h d _ _ rfl
  split <;> exact hb

/-- An event that is raised is recorded. -/
theorem recorded_raiseWith (d : Dev) (n sub : Nat) (words : List Word) (tov : Option Int) :
    Recorded (evtType n) (recordBody n (evtBlock n) sub words) d (d.raiseWith n sub words tov) := by
  have h := signal_recorder d n
  exact Told.recorded _ _ tov (evtType_ne n) (Told.flushTrace 24 _ (Told.refl _))
    (congrArg RecState.staging h) (congrArg RecState.lastSeq h) (congrArg RecState.openBatch h)

/-- A record without an event is staged. -/
theorem recorded_note (d : Dev) (type blk sub : Nat) (words : List Word) (ht : type ≠ 0x0A) :
    Recorded type (recordBody 0xFF blk sub words) d (d.note type blk sub words) :=
  Told.recorded _ _ none ht (Told.flushTrace 24 _ (Told.refl _)) rfl rfl rfl

end Sys2Proof.Machine
end

