-- ==== Sys2Proof/Laws/Report.lean ====
section
/-! SUPPORT. What reporting a refused write changes (R507): HOST_WERR, its address and its count, and nothing else. -/
namespace Sys2Proof.Safety
open Sys2Proof Sys2Proof.Machine

theorem RegsOnly.refl (l : List Nat) (d : Dev) : RegsOnly l d d := ⟨fun _ _ => rfl, rfl⟩

theorem RegsOnly.trans {l : List Nat} {a b c : Dev} (h : RegsOnly l a b) (k : RegsOnly l b c) : RegsOnly l a c := by
  refine ⟨fun x hx => (k.1 x hx).trans (h.1 x hx), ?_⟩
  have h1 : ({ b with regs := c.regs } : Dev) = { a with regs := c.regs } := congrArg (fun x : Dev => { x with regs := c.regs }) h.2
  exact k.2.trans h1

theorem RegsOnly.set {l : List Nat} {a b : Dev} (h : RegsOnly l a b) (x : Field) (v : Nat) (hx : x.addr ∈ l) : RegsOnly l a (b.set x v) :=
  h.trans ⟨fun y hy => Dev.word_set_other b x y v (fun e => hy (e ▸ hx)), rfl⟩

theorem RegsOnly.setB {l : List Nat} {a b : Dev} (h : RegsOnly l a b) (x : Field) (v : Bool) (hx : x.addr ∈ l) : RegsOnly l a (b.setB x v) :=
  h.set x _ hx

theorem RegsOnly.setWord {l : List Nat} {a b : Dev} (h : RegsOnly l a b) (x : Nat) (w : Word) (hx : x ∈ l) : RegsOnly l a (b.setWord x w) :=
  h.trans ⟨fun y hy => Dev.word_setWord_other b x y w (fun e => hy (e ▸ hx)), rfl⟩

theorem RegsOnly.mono {l m : List Nat} {a b : Dev} (h : RegsOnly l a b) (hm : ∀ x ∈ l, x ∈ m) : RegsOnly m a b :=
  ⟨fun x hx => h.1 x (fun k => hx (hm x k)), h.2⟩

theorem RegsOnly.get {l : List Nat} {a b : Dev} (h : RegsOnly l a b) (x : Field) (hx : x.addr ∉ l) : b.get x = a.get x := by
  rw [Dev.get_eq_word, Dev.get_eq_word, h.1 _ hx]

/-- A report says the same of devices whose report registers are the same. -/
theorem Reported.of_words {cause port space addr : Nat} {a b a' b' : Dev} (h : Reported cause port space addr a b)
    (ha : ∀ x ∈ reportRegs, a'.word x = a.word x) (hb : ∀ x ∈ reportRegs, b'.word x = b.word x) :
    Reported cause port space addr a' b' := by
  have w1 := ha 0x150010 (by decide)
  have w2 := ha 0x150014 (by decide)
  have w3 := ha 0x150018 (by decide)
  have v1 := hb 0x150010 (by decide)
  have v2 := hb 0x150014 (by decide)
  have v3 := hb 0x150018 (by decide)
  unfold Reported Dev.flag at h ⊢
  simp only [Dev.get_eq_word] at h ⊢
  rw [w1, w2, w3, v1, v2, v3]
  exact h

end Sys2Proof.Safety

namespace Sys2Proof.Machine
open Sys2Proof Sys2Proof.Safety

theorem Dev.get_set_same' (d : Dev) (x : Field) (v : Nat) (hw : x.lo + x.width ≤ 32) (hv : v < 2 ^ x.width) : (d.set x v).get x = v := by
  rw [Dev.get_set_same d x v hw, Nat.mod_eq_of_lt hv]

/-- Registers written, then telling. -/
theorem Told.after {l : List Nat} {a b c : Dev} (h : RegsOnly l a b) (k : Told b c) : ToldOnly l a c := by
  refine ⟨fun x hx hy => (k.word x hy).trans (h.1 x hx), ?_⟩
  have h1 : graft b c = graft { a with regs := b.regs } c := congrArg (fun x => graft x c) h.2
  exact k.eq.trans h1

/-- A report of a write changes only the registers that report writes. -/
theorem report_only (d : Dev) (cause port space addr : Nat) (multi : Bool) (hc : d.host.causes = none) :
    RegsOnly reportRegs d (d.reportWrite cause port space addr multi) := by
  unfold Dev.reportWrite
  rw [hc]
  dsimp only
  split
  · exact (RegsOnly.refl _ d).set _ _ (by decide)
  · exact (((((((RegsOnly.refl _ d).set _ _ (by decide)).set _ _ (by decide)).set _ _ (by decide)).set _ _ (by decide)).setB _ _
      (by decide)).setB _ _ (by decide)).set _ _ (by decide)

/-- What a report of a write says. -/
theorem report_says (d : Dev) (cause port space addr : Nat) (hc : d.host.causes = none)
    (h1 : cause < 16) (h2 : port < 2) (h3 : space < 2) (h4 : addr < 2 ^ 32) :
    Reported cause port space addr d (d.reportWrite cause port space addr false) := by
  have hcnt : (d.inc Reg.HOST_WERR_CNT.COUNT).get Reg.HOST_WERR_CNT.COUNT = min 65535 (d.get Reg.HOST_WERR_CNT.COUNT + 1) := by
    unfold Dev.inc
    rw [Dev.get_set_same' _ _ _ (by decide)]
    · unfold satInc
      split <;> (simp only at *; omega)
    · unfold satInc
      split <;> (simp only at *; omega)
  have hv : (d.inc Reg.HOST_WERR_CNT.COUNT).flag Reg.HOST_WERR.WERR_VALID = d.flag Reg.HOST_WERR.WERR_VALID :=
    Dev.flag_set_other d _ _ _ (by decide)
  unfold Dev.reportWrite
  rw [hc]
  dsimp only
  split
  · next h =>
    refine ⟨hcnt, fun k => ?_, fun _ => ⟨Dev.word_set_other d _ _ _ (by decide), Dev.word_set_other d _ _ _ (by decide)⟩⟩
    rw [hv, k] at h
    cases h
  · next h =>
    rw [hv] at h
    refine ⟨?_, fun _ => ⟨?_, ?_, ?_, ?_, ?_, ?_⟩, fun k => absurd k h⟩
    · rw [Dev.get_set_other _ _ _ _ (by decide), Dev.setB, Dev.get_set_other _ _ _ _ (by decide), Dev.setB,
        Dev.get_set_other _ _ _ _ (by decide), Dev.get_set_other _ _ _ _ (by decide), Dev.get_set_other _ _ _ _ (by decide),
        Dev.get_set_other _ _ _ _ (by decide), hcnt]
    · rw [Dev.get_set_other _ _ _ _ (by decide), Dev.setB, Dev.get_set_apart _ _ _ _ (by rfl) (by decide) (by decide), Dev.setB,
        Dev.get_set_apart _ _ _ _ (by rfl) (by decide) (by decide), Dev.get_set_apart _ _ _ _ (by rfl) (by decide) (by decide),
        Dev.get_set_apart _ _ _ _ (by rfl) (by decide) (by decide), Dev.get_set_same' _ _ _ (by decide) h1]
    · rw [Dev.get_set_other _ _ _ _ (by decide), Dev.setB, Dev.get_set_apart _ _ _ _ (by rfl) (by decide) (by decide), Dev.setB,
        Dev.get_set_apart _ _ _ _ (by rfl) (by decide) (by decide), Dev.get_set_apart _ _ _ _ (by rfl) (by decide) (by decide),
        Dev.get_set_same' _ _ _ (by decide) h2]
    · rw [Dev.get_set_other _ _ _ _ (by decide), Dev.setB, Dev.get_set_apart _ _ _ _ (by rfl) (by decide) (by decide), Dev.setB,
        Dev.get_set_apart _ _ _ _ (by rfl) (by decide) (by decide), Dev.get_set_same' _ _ _ (by decide) h3]
    · rw [Dev.flag_set_other _ _ _ _ (by decide), Dev.setB, Dev.flag_set_apart _ _ _ _ (by rfl) (by decide) (by decide),
        Dev.flag_setB_same _ _ _ rfl (by decide)]
    · rw [Dev.flag_set_other _ _ _ _ (by decide), Dev.flag_setB_same _ _ _ rfl (by decide)]
    · exact Dev.get_set_same' _ _ _ (by decide) h4

/-- A report of a write, in the terms of statements. -/
theorem reported (d : Dev) (cause port space addr : Nat) (hc : d.host.causes = none)
    (h1 : cause < 16) (h2 : port < 2) (h3 : space < 2) (h4 : addr < 2 ^ 32) :
    Reported cause port space addr d (d.reportWrite cause port space addr false) ∧
      RegsOnly reportRegs d (d.reportWrite cause port space addr false) :=
  ⟨report_says d cause port space addr hc h1 h2 h3 h4, report_only d cause port space addr false hc⟩

/-- A report after other registers were written, in the terms of statements. -/
theorem reported_after {l : List Nat} {d m : Dev} (h : RegsOnly l d m) (hl : ∀ x ∈ reportRegs, x ∉ l) (cause port space addr : Nat)
    (hc : d.host.causes = none) (h1 : cause < 16) (h2 : port < 2) (h3 : space < 2) (h4 : addr < 2 ^ 32) :
    Reported cause port space addr d (m.reportWrite cause port space addr false) ∧
      RegsOnly (l ++ reportRegs) d (m.reportWrite cause port space addr false) := by
  have hm : m.host.causes = none := by
    rw [h.2]
    exact hc
  have R := reported m cause port space addr hm h1 h2 h3 h4
  exact ⟨R.1.of_words (fun x hx => (h.1 x (hl x hx)).symm) (fun _ _ => rfl),
    (h.mono fun x hx => List.mem_append_left _ hx).trans (R.2.mono fun x hx => List.mem_append_right _ hx)⟩

end Sys2Proof.Machine
end

