-- ==== Sys2Proof/Laws/Blocks.lean ====
section
/-! SUPPORT. What shared operations of the blocks change, and what they leave. -/
namespace Sys2Proof.Machine
open Sys2Proof Sys2Proof.Safety

/-- Registers are not the cellar. -/
theorem img_of {l : List Nat} {a b : Dev} (h : RegsOnly l a b) : b.img = a.img := by rw [h.2]

/-- A counter that stops at its largest value. -/
theorem inc_count (d : Dev) (x : Field) (hx : x.lo + x.width ≤ 32) : (d.inc x).get x = min (2 ^ x.width - 1) (d.get x + 1) := by
  unfold Dev.inc satInc
  have h := Dev.get_lt d x
  have hp : 0 < 2 ^ x.width := Nat.two_pow_pos _
  split
  · rw [Dev.get_set_same' _ _ _ hx (by omega)]; omega
  · rw [Dev.get_set_same' _ _ _ hx (by omega)]; omega

/-- Showing the pool of operation ids writes its registers, then tells (R82, R83). -/
theorem showPool_told (d : Dev) : ∃ b : Dev, RegsOnly [0x30000, 0x30008] d b ∧ Told b d.showPool := by
  unfold Dev.showPool
  extract_lets n d1 d2 low
  have h1 : RegsOnly [0x30000, 0x30008] d d1 := (RegsOnly.refl _ d).set _ _ (by decide)
  have h2 : RegsOnly [0x30000, 0x30008] d d2 := by
    show RegsOnly _ _ (if _ then _ else _)
    split
    · exact h1.set _ _ (by decide)
    · exact h1
  split
  · exact ⟨_, h2.setB Reg.SCHED_STATUS.POOL_LOW true (by decide), (Told.refl _).raise 3 _ (by decide)⟩
  · exact ⟨_, h2.setB Reg.SCHED_STATUS.POOL_LOW low (by decide), Told.refl _⟩

/-- What both branches keep is kept. -/
theorem ite_keeps {α : Type} (f : Dev → α) {c : Prop} [Decidable c] {a b : Dev} (v : α) (ha : f a = v) (hb : f b = v) :
    f (if c then a else b) = v := by split <;> assumption

/-- Showing a parameter leaves the parameters. -/
theorem showParam_params (d : Dev) (i : Nat) : (d.showParam i).params = d.params := by
  have hp (e : Dev) : e.showPool.params = e.params := by
    obtain ⟨b, h1, h2⟩ := showPool_told e
    rw [h2.params, h1.2]
  unfold Dev.showParam
  extract_lets v
  repeat' first | exact hp _ | refine ite_keeps Dev.params _ ?_ ?_ | rfl

/-- A value that takes effect is put into the runtime layer (R108). -/
theorem paramEffect_params (d : Dev) (i : Nat) (q : Quad) :
    (d.paramEffect i q).params = { d.params with runtime := update d.params.runtime i q } := by
  unfold Dev.paramEffect
  extract_lets old _ e
  rw [((Told.refl (e.showParam i)).note _ _ _ _).params, showParam_params]

/-- Values that take effect one after another. -/
theorem paramEffect_fold (l : List (Nat × Quad)) : ∀ d : Dev, (l.foldl (fun d e => d.paramEffect e.1 e.2) d).params
    = { d.params with runtime := l.foldl (fun r e => update r e.1 e.2) d.params.runtime } := by
  induction l with
  | nil => intro d; rfl
  | cons x l ih =>
    intro d
    rw [List.foldl_cons, ih, paramEffect_params]
    rfl

/-- A value that takes effect leaves the schedule time. -/
theorem paramEffect_st (l : List (Nat × Quad)) : ∀ d : Dev, (l.foldl (fun d e => d.paramEffect e.1 e.2) d).sched.st = d.sched.st := by
  have hp (e : Dev) : e.showPool.sched.st = e.sched.st := by
    obtain ⟨b, h1, h2⟩ := showPool_told e
    rw [h2.sched, h1.2]
  have hs (e : Dev) (i : Nat) : (e.showParam i).sched.st = e.sched.st := by
    unfold Dev.showParam
    extract_lets v
    repeat' first | exact hp _ | refine ite_keeps (fun x : Dev => x.sched.st) _ ?_ ?_ | rfl
  induction l with
  | nil => intro d; rfl
  | cons x l ih =>
    intro d
    rw [List.foldl_cons, ih]
    unfold Dev.paramEffect
    extract_lets old _ e
    rw [((Told.refl (e.showParam x.1)).note _ _ _ _).sched, hs]

/-- Values that are registered one after another (R108). -/
theorem paramWait_fold (l : List (Nat × Quad)) : ∀ d : Dev, l.foldl (fun d e => d.paramWait e.1 e.2) d
    = { d with params := { d.params with waiting := d.params.waiting ++ l.map fun y => (d.sched.st, y.1, y.2) } } := by
  induction l with
  | nil => intro d; simp
  | cons x l ih =>
    intro d
    rw [List.foldl_cons, ih]
    simp [Dev.paramWait]

/-- A write of a parameter that is refused (R539). -/
theorem prefused (d : Dev) (err port : Nat) (hc : d.host.causes = none) (hp : port < 2) (he : err < 256) :
    ParamRefused err port d ((d.set Reg.PARAM_STATUS.ERR err).reportWrite 8 port 0 0x170004 false) := by
  have R := reported_after (d := d) ((RegsOnly.refl [0x170010] d).set Reg.PARAM_STATUS.ERR err (by decide)) (by decide) 8 port 0 0x170004
    hc (by decide) hp (by decide) (by decide)
  refine ⟨?_, R.1, R.2⟩
  rw [(report_only (d.set Reg.PARAM_STATUS.ERR err) 8 port 0 0x170004 false hc).get _ (by decide)]
  exact Dev.get_set_same' _ _ _ (by decide) he

/-- Only registers of 0x40000 to 0x401BF differ. -/
def DirOnly (d e : Dev) : Prop := (∀ x, ¬ (0x40000 ≤ x ∧ x < 0x401C0) → e.word x = d.word x) ∧ e = { d with regs := e.regs }

/-- A register of the directory is written. -/
theorem DirOnly.set {d e : Dev} (h : DirOnly d e) (x : Field) (v : Nat) (hx : 0x40000 ≤ x.addr ∧ x.addr < 0x401C0) : DirOnly d (e.set x v) := by
  refine ⟨fun y hy => ?_, ?_⟩
  · rw [Dev.word_set_other e x y v (by rintro rfl; exact hy hx), h.1 y hy]
  · have h1 : ({ e with regs := (e.set x v).regs } : Dev) = { d with regs := (e.set x v).regs } := congrArg (fun y : Dev => { y with regs := (e.set x v).regs }) h.2
    exact h1

/-- Registers of the directory are written one after another. -/
theorem DirOnly.foldl {d : Dev} (l : List Nat) (f : Dev → Nat → Dev) (hf : ∀ e x, x ∈ l → DirOnly d e → DirOnly d (f e x)) :
    ∀ e, DirOnly d e → DirOnly d (l.foldl f e) := by
  induction l with
  | nil => exact fun e h => h
  | cons x l ih =>
    intro e h
    exact ih (fun e y hy => hf e y (List.mem_cons_of_mem _ hy)) _ (hf e x (List.mem_cons_self ..) h)

/-- Showing the slot directory writes its registers only. -/
theorem showDir_only (d : Dev) : DirOnly d d.showDir := by
  have h0 : DirOnly d d := ⟨fun _ _ => rfl, rfl⟩
  unfold Dev.showDir
  refine DirOnly.foldl _ _ ?_ _ ((((h0.set _ _ (by decide)).set _ _ (by decide)).set _ _ (by decide)).set _ _ (by decide))
  intro e n hn h
  have hn := List.mem_range.mp hn
  exact ((((((((h.set _ _ (by dsimp only; omega)).set _ _ (by dsimp only; omega)).set _ _ (by dsimp only; omega)).set _ _ (by dsimp only; omega)).set _ _ (by dsimp only; omega)).set _ _ (by dsimp only; omega)).set _ _ (by dsimp only; omega)).set _ _ (by dsimp only; omega))

/-- ENROLLED shows a slot that holds a key (R116). -/
theorem showKeys_enrolled (n : Dev) (slot : Nat) (hs : slot < 4) (h : (n.img.keys.getD slot none).isSome = true) :
    n.showKeys.bitAt Reg.IMG_ACCKEY_CTRL.ENROLLED slot = true := by
  unfold Dev.bitAt Dev.showKeys
  rw [Dev.get_set_apart _ _ _ _ (by rfl) (by decide) (by decide), Dev.get_set_same _ _ _ (by decide), Nat.testBit_mod_two_pow,
    maskOf_testBit _ _ (List.mem_filter.mpr ⟨List.mem_range.mpr hs, h⟩)]
  simp [hs]

/-- Showing the key slots writes IMG_ACCKEY_CTRL only. -/
theorem showKeys_only (n : Dev) : RegsOnly [0x48020] n n.showKeys := ((RegsOnly.refl _ n).set _ _ (by decide)).set _ _ (by decide)

/-- The bytes of the key data registers (R116). -/
def keyData (d : Dev) : List Byte := bytesOf ((List.range 8).map fun i => d.word (0x48000 + 4 * i))

/-- An enrolment that is taken (R103). -/
theorem acckeyEnrol_done (d : Dev) (slot port : Nat) (hs : slot < 4) (h7 : d.mode = 7) (he : (d.img.keys.getD slot none).isSome = false) :
    ∃ m : Dev, RegsOnly [0x48020] d m ∧
      d.acckeyEnrol slot port = (({ m with img := { m.img with keys := setAt m.img.keys slot (some (keyData m)) } } : Dev).showKeys).showDir := by
  refine ⟨d.set Reg.IMG_ACCKEY_CTRL.SLOT slot, (RegsOnly.refl _ d).set _ _ (by decide), ?_⟩
  have hm : (d.set Reg.IMG_ACCKEY_CTRL.SLOT slot).mode = d.mode := Dev.get_set_other d _ _ _ (by decide)
  unfold Dev.acckeyEnrol
  rw [Nat.mod_eq_of_lt hs]
  dsimp only
  rw [if_neg]
  · rfl
  · rw [hm, h7]
    intro h
    simp only [bne_self_eq_false, Bool.false_or] at h
    rw [show (d.set Reg.IMG_ACCKEY_CTRL.SLOT slot).img = d.img from rfl, he] at h
    cases h

/-- An enrolment that is refused (R103). -/
theorem acckeyEnrol_refused (d : Dev) (slot port : Nat) (hs : slot < 4) (h : d.mode ≠ 7 ∨ (d.img.keys.getD slot none).isSome = true) :
    d.acckeyEnrol slot port = (d.set Reg.IMG_ACCKEY_CTRL.SLOT slot).reportWrite 8 port 0 0x48020 false := by
  have hm : (d.set Reg.IMG_ACCKEY_CTRL.SLOT slot).mode = d.mode := Dev.get_set_other d _ _ _ (by decide)
  unfold Dev.acckeyEnrol
  rw [Nat.mod_eq_of_lt hs]
  dsimp only
  rw [if_pos]
  rw [hm, show (d.set Reg.IMG_ACCKEY_CTRL.SLOT slot).img = d.img from rfl]
  rcases h with h | h
  · simp [h]
  · rw [h, Bool.or_true]

/-- IMG_ACCKEY_CTRL is none of the key data registers. -/
theorem keyData_only (d m : Dev) (h : RegsOnly [0x48020] d m) : keyData m = keyData d := by
  unfold keyData
  congr 1
  apply List.map_congr_left
  intro i hi
  have := List.mem_range.mp hi
  exact h.1 _ (by simp only [List.mem_singleton]; omega)

/-- An effect that writes an empty key slot is kept whole (R103). -/
theorem keep_key (d e : Dev) (slot : Nat) (key : List Byte) (hw : d.img.keys[slot]? = some none)
    (h : e.img = { d.img with keys := setAt d.img.keys slot (some key) }) : d.keep e = e := by
  have : { e.img with
      sets := keepFirst d.img.sets e.img.sets
      keys := keepWritten d.img.keys e.img.keys
      revoked := d.img.revoked ||| e.img.revoked } = e.img := by
    rw [h]
    dsimp only
    rw [keepFirst_self, (keepWritten_setAt _ _ _ hw).1, Nat.or_self]
  unfold Dev.keep
  rw [this]

/-- What a refused LOOP write says and changes (R330). -/
theorem loopRefused (d : Dev) (offset cause werr port : Nat) (hc : d.host.causes = none) (hp : port < 2) (h1 : offset < 65536) (h2 : cause < 16)
    (h3 : werr < 16) :
    (d.loopRefuseWrite offset cause werr port).flag Reg.LOOP_STATUS.REFUSED_STICKY = true ∧
    (d.loopRefuseWrite offset cause werr port).get Reg.LOOP_REFUSE.OFFSET = offset ∧
    (d.loopRefuseWrite offset cause werr port).get Reg.LOOP_REFUSE.CAUSE = cause ∧
    Reported werr port 0 (0xD0000 + offset) d (d.loopRefuseWrite offset cause werr port) ∧
    RegsOnly (0xD0000 :: 0xD0004 :: reportRegs) d (d.loopRefuseWrite offset cause werr port) := by
  have hm : RegsOnly [0xD0000, 0xD0004] d (d.loopRefuse offset cause) :=
    (((RegsOnly.refl _ d).setB _ _ (by simp)).set _ _ (by simp)).set _ _ (by simp)
  have hmc : (d.loopRefuse offset cause).host.causes = none := hc
  have R := reported_after hm (by decide) werr port 0 (0xD0000 + offset) hc h3 hp (by decide) (by omega)
  have O := report_only (d.loopRefuse offset cause) werr port 0 (0xD0000 + offset) false hmc
  refine ⟨?_, ?_, ?_, R.1, R.2⟩
  · unfold Dev.loopRefuseWrite Dev.flag
    rw [O.get _ (by decide)]
    unfold Dev.loopRefuse
    rw [Dev.get_set_other _ _ _ _ (by decide), Dev.get_set_other _ _ _ _ (by decide)]
    exact Dev.flag_setB_same _ _ _ rfl (by decide)
  · unfold Dev.loopRefuseWrite
    rw [O.get _ (by decide)]
    unfold Dev.loopRefuse
    rw [Dev.get_set_apart _ _ _ _ (by rfl) (by decide) (by decide)]
    exact Dev.get_set_same' _ _ _ (by decide) h1
  · unfold Dev.loopRefuseWrite
    rw [O.get _ (by decide)]
    exact Dev.get_set_same' _ _ _ (by decide) h2

/-- A status bit is 0 or 1. -/
theorem stat_zero_one (d : Dev) (pid : Bool) (c lo : Nat) : d.stat pid c lo = 0 ∨ d.stat pid c lo = 1 := by
  have := Dev.get_lt d ⟨statAt pid c, lo, 1⟩
  unfold Dev.stat
  dsimp only at this
  omega

/-- A status bit reads as it was written. -/
theorem stat_setStat (d : Dev) (pid : Bool) (c lo v : Nat) (hl : lo < 32) (hv : v < 2) : (d.setStat pid c lo v).stat pid c lo = v :=
  Dev.get_set_same' d ⟨statAt pid c, lo, 1⟩ v hl hv

/-- AUTOINC changes LOOP_CW_SEL only (R336). -/
theorem cwAdvance_only (d : Dev) : RegsOnly [0xD0010] d d.cwAdvance := by
  unfold Dev.cwAdvance
  split
  · exact (RegsOnly.refl _ d).set _ _ (by simp)
  · exact RegsOnly.refl _ d

/-- The banks are part of the loop state. -/
theorem bank_congr (x y : Dev) (h : x.loop = y.loop) (p : Bool) (k q : Nat) : x.bank p k q = y.bank p k q := by
  unfold Dev.bank Dev.pid Dev.bq
  rw [h]

/-- A bank reads as it was written, and the others stay. -/
theorem bank_setBank (d : Dev) (pid : Bool) (c b : Nat) (l : List Word) (hb : b < 2) (hc : if pid then c < d.loop.pid.length else c < d.loop.bq.length) :
    (d.setBank pid c b l).bank pid c b = l ∧
    ∀ p k m, (p, k, m % 2) ≠ (pid, c, b) → (d.setBank pid c b l).bank p k (m % 2) = d.bank p k (m % 2) := by
  have hb' : b = 0 ∨ b = 1 := by omega
  have hm (m : Nat) : m % 2 = 0 ∨ m % 2 = 1 := by omega
  cases pid
  · simp only [Bool.false_eq_true, if_false] at hc
    constructor
    · unfold Dev.bank Dev.setBank Dev.bq Dev.setBq
      simp only [Bool.false_eq_true, if_false]
      rw [modAt_getD_same _ _ _ _ hc]
      rcases hb' with rfl | rfl <;> simp
    · intro p k m hne
      unfold Dev.bank Dev.setBank Dev.bq Dev.setBq Dev.pid
      cases p
      · simp only [Bool.false_eq_true, if_false]
        by_cases hk : k = c
        · subst hk
          rw [modAt_getD_same _ _ _ _ hc]
          rcases hb' with rfl | rfl <;> rcases hm m with h | h <;> simp [h] at hne ⊢
        · rw [modAt_getD_other _ _ _ _ _ hk]
      · simp
  · simp only [if_true] at hc
    constructor
    · unfold Dev.bank Dev.setBank Dev.pid Dev.setPid
      simp only [if_true]
      rw [modAt_getD_same _ _ _ _ hc]
      rcases hb' with rfl | rfl <;> simp
    · intro p k m hne
      unfold Dev.bank Dev.setBank Dev.pid Dev.setPid Dev.bq
      cases p
      · simp
      · simp only [if_true]
        by_cases hk : k = c
        · subst hk
          rw [modAt_getD_same _ _ _ _ hc]
          rcases hb' with rfl | rfl <;> rcases hm m with h | h <;> simp [h] at hne ⊢
        · rw [modAt_getD_other _ _ _ _ _ hk]

/-- The status register of a channel is none of these. -/
theorem stat_addr (pid : Bool) (c : Nat) : statAt pid c ≠ 0xD0010 ∧ statAt pid c ≠ 0xD0000 := by
  unfold statAt
  split <;> omega

/-- A record for which staging has room, with no trace unit waiting. -/
theorem note_room (d : Dev) (blk sub : Nat) (hd : d.loop.due = []) (hr : stagingBytes d.recorder.staging + 52 ≤ stagingSize) (h : (recordBody 0xFF blk sub []).length = 16) :
    d.note 0x0C blk sub [] = d.stage 0x0C (recordBody 0xFF blk sub []) d.sched.subject := by
  unfold Dev.note
  rw [record_room _ _ _ _ (by decide) (by omega)]
  have : (d.stage 0x0C (recordBody 0xFF blk sub []) d.sched.subject).loop.due = [] := by
    rw [((Told.refl d).stage 0x0C (recordBody 0xFF blk sub []) d.sched.subject).eq]
    unfold Dev.stage Dev.showStaging
    extract_lets
    split <;> exact hd
  show Dev.flushTrace 24 (d.stage 0x0C (recordBody 0xFF blk sub []) d.sched.subject) = _
  unfold Dev.flushTrace
  rw [this]

/-- Staging a record changes no register but REC_STAGE. -/
theorem stage_word (d : Dev) (type : Nat) (body : List Byte) (tov : Option Int) (a : Nat) (h : a ≠ Reg.REC_STAGE.LEVEL.addr) :
    (d.stage type body tov).word a = d.word a := by
  unfold Dev.stage Dev.showStaging
  extract_lets seq r _ kb e
  have he : e.word a = d.word a := Dev.word_set_other _ _ _ _ (by exact h)
  split
  · rw [Dev.word_set_other _ _ _ _ (by exact h)]
    exact he
  · exact he

/-- What a refused rung says and changes (R492). -/
theorem rungRefused_says (d m : Dev) (port : Nat) (h : RegsOnly [0x18] d m) (hc : d.host.causes = none) (hp : port < 2) :
    (m.rungRefused port).flag Reg.SYS_RECOVER.REFUSED = true ∧ Reported 8 port 0 0x18 d (m.rungRefused port) ∧
    RegsOnly (0x18 :: reportRegs) d (m.rungRefused port) := by
  have h2 : RegsOnly [0x18] d (m.setB Reg.SYS_RECOVER.REFUSED true) := h.setB _ _ (by decide)
  have R := reported_after h2 (by decide) 8 port 0 0x18 hc (by decide) hp (by decide) (by decide)
  refine ⟨?_, R⟩
  unfold Dev.rungRefused Dev.flag
  rw [(report_only (m.setB Reg.SYS_RECOVER.REFUSED true) 8 port 0 0x18 false (by rw [h2.2]; exact hc)).get _ (by decide)]
  exact Dev.flag_setB_same m _ _ rfl (by decide)

/-- A rung below the level reached, or without its key, is refused (R492). -/
theorem rung_refused (d m : Dev) (r port : Nat) (keyed : Bool) (f : Dev → Dev) (h : RegsOnly [0x18] d m) (hb : r < d.bist.level ∨ keyed = false)
    (hc : d.host.causes = none) (hp : port < 2) :
    (m.rung r keyed port f).flag Reg.SYS_RECOVER.REFUSED = true ∧ Reported 8 port 0 0x18 d (m.rung r keyed port f) ∧
    RegsOnly (0x18 :: reportRegs) d (m.rung r keyed port f) := by
  have e : m.rung r keyed port f = (m.set Reg.SYS_RECOVER.RUNG r).rungRefused port := by
    unfold Dev.rung
    have : (m.set Reg.SYS_RECOVER.RUNG r).bist = d.bist := by
      show m.bist = _
      rw [h.2]
    dsimp only
    rw [if_pos]
    rw [this]
    rcases hb with hb | hb
    · simp [hb]
    · simp [hb]
  rw [e]
  exact rungRefused_says d _ port (h.set _ _ (by decide)) hc hp

end Sys2Proof.Machine
end

