-- ==== Sys2Proof/Laws/Bus.lean ====
section
/-! SUPPORT. What the end of a CAN transmission changes: the controller it ends on, its buffers and its counters. -/
namespace Sys2Proof.Machine
open Sys2Proof Sys2Proof.Safety

/-- A list keeps its length. -/
theorem modAt_length {α : Type} (l : List α) (i : Nat) (f : α → α) : (modAt l i f).length = l.length := by
  induction l generalizing i with
  | nil => cases i <;> rfl
  | cons a l ih => cases i with
    | zero => rfl
    | succ i => simp [modAt, ih]

/-- An element changed: the change of the element, or no element there. -/
theorem modAt_getD_cases {α : Type} (l : List α) (i : Nat) (f : α → α) (x : α) :
    (modAt l i f).getD i x = f (l.getD i x) ∨ (modAt l i f).getD i x = x ∧ l.length ≤ i := by
  by_cases h : i < l.length
  · exact .inl (modAt_getD_same l i f x h)
  · refine .inr ⟨?_, by omega⟩
    rw [List.getD_eq_default _ _ (by rw [modAt_length]; omega)]

/-- The registers of controller `c` that the end of its transmissions changes: its control, its status, the count of frames not sent and the
result of the host's buffer. -/
abbrev canRegs (c : Nat) : List Nat := [0xE0104 + 0x40 * c, 0xE0108 + 0x40 * c, 0xE0114 + 0x40 * c, 0xE0808 + 0x100 * c]

/-- Two devices differ at most in the state and the registers of CAN controller `c`. -/
structure CanOnly (c : Nat) (d e : Dev) : Prop where
  regs : RegsOnly (canRegs c) { d with out := { d.out with can := e.out.can } } e
  other : ∀ k, k ≠ c → e.can k = d.can k
  len : e.out.can.length = d.out.can.length

/-- Nothing differs. -/
theorem CanOnly.refl (c : Nat) (d : Dev) : CanOnly c d d := ⟨⟨fun _ _ => rfl, rfl⟩, fun _ _ => rfl, rfl⟩

/-- A change of the controller. -/
theorem CanOnly.setCan {c : Nat} {d e : Dev} (h : CanOnly c d e) (f : CanCtl → CanCtl) : CanOnly c d (e.setCan c f) :=
  ⟨⟨fun x hx => h.regs.1 x hx, by rw [h.regs.2]; rfl⟩, fun k hk => (modAt_getD_other _ _ _ _ _ hk).trans (h.other k hk), (modAt_length ..).trans h.len⟩

/-- A change of one of its registers. -/
theorem CanOnly.set {c : Nat} {d e : Dev} (h : CanOnly c d e) (x : Field) (v : Nat) (hx : x.addr ∈ canRegs c) : CanOnly c d (e.set x v) :=
  ⟨⟨fun y hy => (Dev.word_set_other e x y v (by rintro rfl; exact hy hx)).trans (h.regs.1 y hy), by
    rw [show e.set x v = { e with regs := (e.set x v).regs } from rfl, h.regs.2]⟩, h.other, h.len⟩

/-- A count in one of its registers. -/
theorem CanOnly.inc {c : Nat} {d e : Dev} (h : CanOnly c d e) (x : Field) (hx : x.addr ∈ canRegs c) : CanOnly c d (e.inc x) :=
  h.set _ _ hx

/-- A change of one controller is the change of its buffers. -/
theorem can_setCan (e : Dev) (c : Nat) (f : CanCtl → CanCtl) (hd : (f default).bufs = [] ∨ c < e.out.can.length) :
    ((e.setCan c f).can c).bufs = (f (e.can c)).bufs := by
  rcases modAt_getD_cases e.out.can c f default with h | h
  · exact congrArg CanCtl.bufs h
  · rcases hd with hd | hd
    · have : e.can c = default := by
        show e.out.can.getD c default = _
        simp [List.getD, List.getElem?_eq_none h.2]
      rw [this, hd]; exact congrArg CanCtl.bufs h.1
    · omega

/-- A counter does not touch the controllers. -/
theorem can_inc (e : Dev) (x : Field) (c : Nat) : (e.inc x).can c = e.can c := rfl

/-- A result does not touch the buffers. -/
theorem txResult_bufs (e : Dev) (c : Nat) (k : TxKey) (r : Nat) : ((e.txResult c k r).can c).bufs = (e.can c).bufs := by
  unfold Dev.txResult
  split
  · exact (can_setCan e c _ (.inl rfl))
  · rfl

/-- What a transmission that ends without success leaves in its controller: the other identifiers' buffers, and at most one frame of its
own, not started (R344). -/
theorem txAborted_bufs (e : Dev) (c : Nat) (b : TxBuf) (hc : c < e.out.can.length) :
    ∃ l, ((e.txAborted c b).can c).bufs = l ++ (e.can c).bufs.filter (fun y => y.key != b.key) ∧ ∀ x ∈ l, x.sof = none ∧ x.key = b.key := by
  have hn : ∃ l, ((e.nextInBuf c b).can c).bufs = l ++ (e.can c).bufs.filter (fun y => y.key != b.key) ∧ ∀ x ∈ l, x.sof = none ∧ x.key = b.key := by
    unfold Dev.nextInBuf
    split
    · exact ⟨[_], can_setCan e c _ (.inr hc), by simp⟩
    · exact ⟨[], can_setCan e c _ (.inr hc), by simp⟩
  unfold Dev.txAborted
  split
  · obtain ⟨l, h1, h2⟩ := hn
    exact ⟨l, by rw [txResult_bufs, can_inc]; exact h1, h2⟩
  · split
    · obtain ⟨l, h1, h2⟩ := hn
      exact ⟨l, by rw [can_inc]; exact h1, h2⟩
    · exact ⟨[_], can_setCan e c _ (.inr hc), by simp⟩

/-- It changes nothing outside its controller. -/
theorem CanOnly.txAborted {c : Nat} {d e : Dev} (h : CanOnly c d e) (b : TxBuf) : CanOnly c d (e.txAborted c b) := by
  have hn : CanOnly c d (e.nextInBuf c b) := by
    unfold Dev.nextInBuf
    split <;> exact h.setCan _
  have hr : ∀ {m : Dev} (k r), CanOnly c d m → CanOnly c d (m.txResult c k r) := by
    intro m k r hm
    unfold Dev.txResult
    split
    · exact (hm.setCan _).set _ _ (by simp)
    · exact hm
  unfold Dev.txAborted
  split
  · exact hr _ _ (hn.inc _ (by simp))
  · split
    · exact hn.inc _ (by simp)
    · exact h.setCan _

/-- The same of a list of transmissions that end so: no frame of theirs is left started, and the buffers of other identifiers stay. -/
theorem txAborted_fold (c : Nat) (d : Dev) : ∀ (l : List TxBuf) (e : Dev), c < e.out.can.length → CanOnly c d e →
    CanOnly c d (l.foldl (fun d b => d.txAborted c b) e) ∧
    (∀ b ∈ ((l.foldl (fun d b => d.txAborted c b) e).can c).bufs, b.sof = none ∨ (b ∈ (e.can c).bufs ∧ ∀ x ∈ l, x.key ≠ b.key)) ∧
    (∀ b ∈ (e.can c).bufs, (∀ x ∈ l, x.key ≠ b.key) → b ∈ ((l.foldl (fun d b => d.txAborted c b) e).can c).bufs)
  | [], e, hc, h => ⟨h, fun b hb => .inr ⟨hb, by simp⟩, fun b hb _ => hb⟩
  | y :: l, e, hc, h => by
    have h1 := CanOnly.txAborted h y
    obtain ⟨m, hm1, hm2⟩ := txAborted_bufs e c y hc
    obtain ⟨i1, i2, i3⟩ := txAborted_fold c d l (e.txAborted c y) (by rw [h1.len, ← h.len]; exact hc) h1
    refine ⟨i1, fun b hb => ?_, fun b hb hx => i3 b ?_ fun x hx' => hx x (List.mem_cons_of_mem _ hx')⟩
    · rcases i2 b hb with h2 | ⟨h2, h3⟩
      · exact .inl h2
      · rw [hm1] at h2
        rcases List.mem_append.mp h2 with h4 | h4
        · exact .inl (hm2 b h4).1
        · rw [List.mem_filter] at h4
          refine .inr ⟨h4.1, fun x hx => ?_⟩
          rcases List.mem_cons.mp hx with rfl | hx
          · have := h4.2; simp at this; exact fun h => this h.symm
          · exact h3 x hx
    · rw [hm1]
      refine List.mem_append_right _ (List.mem_filter.mpr ⟨hb, ?_⟩)
      have := hx y List.mem_cons_self
      simp; exact fun h => this h.symm

end Sys2Proof.Machine
end

