-- ==== Sys2Proof/Laws/Host.lean ====
section
/-! SUPPORT. What host accesses answer. -/
namespace Sys2Proof.Machine
open Sys2Proof Sys2Proof.Safety

/-- What a read of a register that no low word latched answers, and what it leaves (R8). -/
theorem hostRead_readOut (d : Dev) (a : Nat) (h : lookup d.host.latched a = none) : (d.hostRead a).host.readOut = d.hostWord a ∧
    (d.hostRead a).img = d.img ∧ (d.hostRead a).clk = d.clk ∧
    (d.hostRead a).host.latched = (latchedBy a).map (fun b => (b, d.hostWord b)) ++ d.host.latched.filter (fun e => !(latchedBy a).contains e.1) := by
  have hf (l : List FieldRow) : ∀ e : Dev, (l.foldl (fun d f => if f.access == .rc then d.set ⟨a, f.lo, f.width⟩ 0 else d) e).host = e.host ∧ (l.foldl (fun d f => if f.access == .rc then d.set ⟨a, f.lo, f.width⟩ 0 else d) e).clk = e.clk ∧
      (l.foldl (fun d f => if f.access == .rc then d.set ⟨a, f.lo, f.width⟩ 0 else d) e).img = e.img := by
    induction l with
    | nil => exact fun _ => ⟨rfl, rfl, rfl⟩
    | cons x l ih =>
      intro e
      have := ih (if x.access == .rc then e.set ⟨a, x.lo, x.width⟩ 0 else e)
      rw [List.foldl_cons]
      refine ⟨this.1.trans ?_, this.2.1.trans ?_, this.2.2.trans ?_⟩ <;> split <;> rfl
  unfold Dev.hostRead
  rw [h]
  dsimp only
  split_ifs
  · exact ⟨rfl, rfl, rfl, rfl⟩
  · unfold Dev.cwAdvance
    split <;> exact ⟨rfl, rfl, rfl, rfl⟩
  · cases regRow a with
    | none => exact ⟨rfl, rfl, rfl, rfl⟩
    | some r =>
      dsimp only
      have hx := hf r.fields ({ d with host := { d.host with readOut := d.hostWord a, latched := (latchedBy a).map (fun b => (b, d.hostWord b)) ++ d.host.latched.filter (fun e => !(latchedBy a).contains e.1) } } : Dev)
      exact ⟨by rw [hx.1], by rw [hx.2.2], by rw [hx.2.1], by rw [hx.1]⟩

/-- A latched high word is read once (R8). -/
theorem hostRead_latched (d : Dev) (a : Nat) (w : Word) (h : lookup d.host.latched a = some w) :
    d.hostRead a = { d with host := { d.host with readOut := w, latched := d.host.latched.filter (fun e => e.1 != a) } } := by
  unfold Dev.hostRead
  rw [h]

/-- Whether the CORE domain is up is a matter of the clocks. -/
theorem coreUp_of_clk {a b : Dev} (h : a.clk = b.clk) : a.coreUp = b.coreUp := by
  unfold Dev.coreUp
  rw [h]

/-- Every register is served while the CORE domain is up. -/
theorem serves_core (d : Dev) (hu : d.coreUp = true) (a : Nat) : d.serves a = true := by
  unfold Dev.serves
  have : d.clk.phase ≠ .halted := by
    intro h
    unfold Dev.coreUp at hu
    rw [h] at hu
    cases hu
  simp [this]

/-- A register that shows what the device has now. -/
theorem hostWord_live (d : Dev) (a : Nat) (w m : Word) (hs : d.serves a = true)
    (hr : (regRow a).any (fun r => r.fields.all (fun f => f.access != .wo) && r.known == m) = true)
    (hl : d.liveWord a = some w) : d.hostWord a = w &&& m := by
  obtain ⟨r, h1, h2⟩ := (Option.any_eq_true _ _).mp hr
  rw [Bool.and_eq_true] at h2
  have hf (l : List FieldRow) (h : l.all (fun f => f.access != .wo) = true) : ∀ w : Word,
      l.foldl (fun w f => if f.access == .wo then setBits w f.lo f.width 0 else w) w = w := by
    induction l with
    | nil => exact fun _ => rfl
    | cons x l ih =>
      intro w
      simp only [List.all_cons, Bool.and_eq_true, bne_iff_ne] at h
      rw [List.foldl_cons, if_neg (by simpa using h.1)]
      exact ih (by simpa using h.2) w
  unfold Dev.hostWord
  rw [hs, h1]
  dsimp only
  rw [hl, eq_of_beq h2.2]
  show _ &&& m = _
  simp only [Option.getD_some]
  rw [hf _ h2.1]

/-- A word and all ones. -/
theorem and_ones (w : Word) : w &&& 0xFFFFFFFF#32 = w := by
  have : (0xFFFFFFFF#32 : Word) = BitVec.allOnes 32 := by decide
  rw [this, BitVec.and_allOnes]

/-- The bit of an event among those that a clear leaves set: it was raised in the present cycle of CLK_IO (R511). -/
theorem raisedNow_bit (d : Dev) (n : Nat) : (d.raisedNow (n / 32)).getLsbD (n % 32) = d.host.raised.contains (n, d.ioCycle) := by
  have h32 : n % 32 < 32 := Nat.mod_lt _ (by decide)
  unfold Dev.raisedNow
  rw [BitVec.getLsbD_ofNat, decide_eq_true h32, Bool.true_and, maskOf_contains, Bool.eq_iff_iff]
  simp only [List.contains_iff_mem, List.mem_map, List.mem_filter, Bool.and_eq_true, beq_iff_eq]
  constructor
  · rintro ⟨⟨x, y⟩, ⟨h, h1, h2⟩, h3⟩
    have : x = n := by simp only at h1 h3; omega
    simp only at h2; subst this; subst h2; exact h
  · exact fun h => ⟨_, ⟨h, rfl, rfl⟩, rfl⟩

end Sys2Proof.Machine
end

