-- ==== Sys2Proof/Laws/Memory.lean ====
section
/-! SUPPORT. Laws of the byte memory: a read after a write, and the canonical form. -/
namespace Sys2Proof.Machine
open Sys2Proof

theorem Memory.read_drop_same : ∀ (m : Memory) (a : Nat), Memory.read (m.drop a) a = 0
  | [], _ => rfl
  | (b, v) :: m, a => by
    unfold Memory.drop
    split
    · exact Memory.read_drop_same m a
    · next e =>
      simp only [Memory.read, if_neg e]
      exact Memory.read_drop_same m a

theorem Memory.read_drop_other : ∀ (m : Memory) (a b : Nat), b ≠ a → Memory.read (m.drop a) b = Memory.read m b
  | [], _, _, _ => rfl
  | (c, v) :: m, a, b, h => by
    unfold Memory.drop
    split
    · next e => rw [Memory.read_drop_other m a b h]; simp only [Memory.read, if_neg (show ¬ c = b by omega)]
    · simp only [Memory.read, Memory.read_drop_other m a b h]

theorem Memory.read_put_same : ∀ (m : Memory) (a : Nat) (v : Byte), Memory.read (m.put a v) a = v
  | [], a, v => by simp [Memory.put, Memory.read]
  | (b, x) :: m, a, v => by
    unfold Memory.put
    split
    · simp [Memory.read]
    · split
      · simp [Memory.read]
      · next _ e => simp only [Memory.read, if_neg (show ¬ b = a by omega), Memory.read_put_same m a v]

theorem Memory.read_put_other : ∀ (m : Memory) (a b : Nat) (v : Byte), b ≠ a → Memory.read (m.put a v) b = Memory.read m b
  | [], a, b, v, h => by simp [Memory.put, Memory.read, Ne.symm h]
  | (c, x) :: m, a, b, v, h => by
    unfold Memory.put
    split
    · simp [Memory.read, Ne.symm h]
    · split
      · next e => subst e; simp [Memory.read, Ne.symm h]
      · simp only [Memory.read, Memory.read_put_other m a b v h]

/-- A byte reads as it was written. -/
theorem Memory.read_write_same (m : Memory) (a : Nat) (v : Byte) : (m.write a v).read a = v := by
  unfold Memory.write
  split
  · next e => rw [Memory.read_drop_same m a, e]
  · exact Memory.read_put_same m a v

/-- A write leaves every other byte. -/
theorem Memory.read_write_other (m : Memory) (a b : Nat) (v : Byte) (h : b ≠ a) : (m.write a v).read b = m.read b := by
  unfold Memory.write
  split
  · exact Memory.read_drop_other m a b h
  · exact Memory.read_put_other m a b v h

/-- Every address of a memory in order is above a bound. -/
def Memory.above (n : Nat) (m : Memory) : Prop := ∀ c ∈ m, n < c.1

theorem Memory.sorted_cons (b : Nat) (v : Byte) (m : Memory) :
    Memory.sorted ((b, v) :: m) = true ↔ Memory.above b m ∧ Memory.sorted m = true := by
  induction m generalizing b v with
  | nil => simp [Memory.sorted, Memory.above]
  | cons c m ih =>
    obtain ⟨c, w⟩ := c
    simp only [Memory.sorted, Bool.and_eq_true, decide_eq_true_eq]
    rw [ih]
    constructor
    · rintro ⟨h1, h2, h3⟩
      refine ⟨?_, h2, h3⟩
      intro x hx
      rcases List.mem_cons.mp hx with rfl | hx
      · exact h1
      · exact lt_trans h1 (h2 x hx)
    · rintro ⟨h1, h2, h3⟩
      exact ⟨h1 _ (List.mem_cons_self ..), h2, h3⟩

theorem Memory.mem_drop (m : Memory) (a : Nat) (c : Host.Cell) (h : c ∈ m.drop a) : c ∈ m := by
  induction m with
  | nil => cases h
  | cons x m ih =>
    obtain ⟨b, v⟩ := x
    unfold Memory.drop at h
    split at h
    · exact List.mem_cons_of_mem _ (ih h)
    · rcases List.mem_cons.mp h with rfl | h
      · exact List.mem_cons_self ..
      · exact List.mem_cons_of_mem _ (ih h)

theorem Memory.mem_put (m : Memory) (a : Nat) (v : Byte) (c : Host.Cell) (h : c ∈ m.put a v) : c = (a, v) ∨ c ∈ m := by
  induction m with
  | nil => simpa [Memory.put] using h
  | cons x m ih =>
    obtain ⟨b, w⟩ := x
    unfold Memory.put at h
    split at h
    · rcases List.mem_cons.mp h with h | h
      · exact .inl h
      · exact .inr h
    · split at h
      · rcases List.mem_cons.mp h with h | h
        · exact .inl h
        · exact .inr (List.mem_cons_of_mem _ h)
      · rcases List.mem_cons.mp h with rfl | h
        · exact .inr (List.mem_cons_self ..)
        · rcases ih h with h | h
          · exact .inl h
          · exact .inr (List.mem_cons_of_mem _ h)

theorem Memory.sorted_drop (m : Memory) (a : Nat) (h : m.sorted = true) : Memory.sorted (m.drop a) = true := by
  induction m with
  | nil => rfl
  | cons x m ih =>
    obtain ⟨b, v⟩ := x
    have h' := (Memory.sorted_cons b v m).mp h
    unfold Memory.drop
    split
    · exact ih h'.2
    · exact (Memory.sorted_cons ..).mpr ⟨fun c hc => h'.1 c (Memory.mem_drop _ _ _ hc), ih h'.2⟩

theorem Memory.sorted_put (m : Memory) (a : Nat) (v : Byte) (h : m.sorted = true) : Memory.sorted (m.put a v) = true := by
  induction m with
  | nil => rfl
  | cons x m ih =>
    obtain ⟨b, w⟩ := x
    have h' := (Memory.sorted_cons b w m).mp h
    unfold Memory.put
    split
    · next hlt =>
      refine (Memory.sorted_cons ..).mpr ⟨?_, h⟩
      intro c hc
      rcases List.mem_cons.mp hc with rfl | hc
      · exact hlt
      · exact lt_trans hlt (h'.1 c hc)
    · split
      · next e => subst e; exact (Memory.sorted_cons ..).mpr h'
      · next h1 h2 =>
        refine (Memory.sorted_cons ..).mpr ⟨?_, ih h'.2⟩
        intro c hc
        rcases Memory.mem_put _ _ _ _ hc with rfl | hc
        · show b < a
          omega
        · exact h'.1 c hc

/-- A write keeps the canonical form. -/
theorem Memory.wf_write (m : Memory) (a : Nat) (v : Byte) (h : m.wf = true) : (m.write a v).wf = true := by
  obtain ⟨h1, h2⟩ := Bool.and_eq_true_iff.mp h
  have h2' : ∀ c ∈ m, (c.2 != 0) = true := by simpa using h2
  unfold Memory.write
  split
  · refine Bool.and_eq_true_iff.mpr ⟨Memory.sorted_drop m a h1, ?_⟩
    rw [List.all_eq_true]
    exact fun c hc => h2' c (Memory.mem_drop _ _ _ hc)
  · next hv =>
    refine Bool.and_eq_true_iff.mpr ⟨Memory.sorted_put m a v h1, ?_⟩
    rw [List.all_eq_true]
    intro c hc
    rcases Memory.mem_put _ _ _ _ hc with rfl | hc
    · simpa using hv
    · exact h2' c hc

/-- Writing bytes keeps the canonical form. -/
theorem Memory.wf_writeAll (m : Memory) (a : Nat) (bs : List Byte) (h : m.wf = true) : (m.writeAll a bs).wf = true := by
  induction bs generalizing m a with
  | nil => exact h
  | cons b bs ih => exact ih _ _ (Memory.wf_write m a b h)

/-- Writing bytes leaves every byte outside them. -/
theorem Memory.read_writeAll_other (m : Memory) (a b : Nat) (bs : List Byte) (h : b < a ∨ a + bs.length ≤ b) :
    (m.writeAll a bs).read b = m.read b := by
  induction bs generalizing m a with
  | nil => rfl
  | cons x bs ih =>
    rw [List.length_cons] at h
    show ((m.write a x).writeAll (a + 1) bs).read b = m.read b
    rw [ih _ _ (by omega), Memory.read_write_other _ _ _ _ (by omega)]

/-- Bytes read as they were written. -/
theorem Memory.read_writeAll_inside (m : Memory) (a i : Nat) (bs : List Byte) (hi : i < bs.length) :
    (m.writeAll a bs).read (a + i) = bs[i] := by
  induction bs generalizing m a i with
  | nil => simp at hi
  | cons x bs ih =>
    show ((m.write a x).writeAll (a + 1) bs).read (a + i) = (x :: bs)[i]
    cases i with
    | zero =>
      rw [Memory.read_writeAll_other _ _ _ _ (by omega)]
      exact Memory.read_write_same m a x
    | succ i =>
      have := ih (m.write a x) (a + 1) i (by simpa using hi)
      rw [show a + (i + 1) = a + 1 + i by omega, this]
      rfl

end Sys2Proof.Machine
end

