-- ==== Sys2Proof/Laws/Run.lean ====
section
/-! SUPPORT. How a command answers: an effect on the device at the time of the command, with the queue left as it is. -/
namespace Sys2Proof.Machine
open Sys2Proof Sys2Proof.Safety

/-- A field of a word given as a number. -/
theorem getBits_ofNat (v lo width : Nat) (h : lo + width ≤ 32) : getBits (BitVec.ofNat 32 v) lo width = v / 2 ^ lo % 2 ^ width := by
  unfold getBits
  apply Nat.eq_of_testBit_eq
  intro i
  rw [BitVec.testBit_toNat, BitVec.getLsbD_extractLsb', BitVec.getLsbD_ofNat, Nat.testBit_mod_two_pow, Nat.testBit_div_two_pow]
  by_cases hi : i < width
  · simp [hi, show lo + i < 32 by omega, Nat.add_comm]
  · simp [hi]

theorem bit_ne (b : Bool) : (bit b != 0) = b := by cases b <;> rfl

theorem bit_lt (b : Bool) : bit b < 2 := by cases b <;> decide

/-- A command that needs the CORE domain, while it is up, answers its effect. -/
theorem run_up (s : State) (t : Nat) (f : Dev → Dev) (d e : Dev) (hd : d = s.dev.advance t) (hu : d.coreUp = true) (he : f d = e)
    (hi : e.img = d.img) : s.run (fun x => (x.advance t).whenUp f) = .next { s with dev := e } := by
  subst hd he
  have h : (s.dev.advance t).whenUp f = f (s.dev.advance t) := by
    unfold Dev.whenUp
    rw [if_pos hu]
  unfold State.run State.apply
  dsimp only
  rw [h, Dev.keep_of_img (a := s.dev) (b := f (s.dev.advance t)) hi]

/-- A command that the boot loader serves as well answers its effect. -/
theorem run_host (s : State) (t : Nat) (f : Dev → Dev) (d e : Dev) (hd : d = s.dev.advance t)
    (hu : (d.coreUp || d.clk.phase = .halted) = true) (he : f d = e) (hi : e.img = d.img) :
    s.run (fun x => (x.advance t).whenHost f) = .next { s with dev := e } := by
  subst hd he
  have h : (s.dev.advance t).whenHost f = f (s.dev.advance t) := by
    unfold Dev.whenHost
    rw [if_pos hu]
  unfold State.run State.apply
  dsimp only
  rw [h, Dev.keep_of_img (a := s.dev) (b := f (s.dev.advance t)) hi]

/-- A command that needs the CORE domain does nothing while it is down, but for the time that passes. -/
theorem run_down (s : State) (t : Nat) (f : Dev → Dev) (hu : (s.dev.advance t).coreUp = false) :
    s.run (fun x => (x.advance t).whenUp f) = .next { s with dev := s.dev.advance t } := by
  have h : (s.dev.advance t).whenUp f = s.dev.advance t := by
    unfold Dev.whenUp
    rw [if_neg (by simp [hu])]
  unfold State.run State.apply
  dsimp only
  rw [h, Dev.keep_of_img (a := s.dev) (b := s.dev.advance t) rfl]

/-- A command that the boot loader serves, with what is kept. -/
theorem run_hostKeep (s : State) (t : Nat) (f : Dev → Dev) (d e : Dev) (hd : d = s.dev.advance t)
    (hu : (d.coreUp || d.clk.phase = .halted) = true) (he : d.keep (f d) = e) :
    s.run (fun x => (x.advance t).whenHost f) = .next { s with dev := e } := by
  subst hd he
  have h : (s.dev.advance t).whenHost f = f (s.dev.advance t) := by
    unfold Dev.whenHost
    rw [if_pos hu]
  unfold State.run State.apply
  dsimp only
  rw [h]
  rfl

/-- Every command answers an effect on the device, the queue left as it is. -/
theorem exec_apply (c : Instr) (s : State) : ∃ f : Dev → Dev, exec c s = .next (s.apply f) := by
  cases c <;> exact ⟨_, rfl⟩

/-- A step is an effect on the device, or the block idles. -/
theorem step_apply (s s' : State) (h : step s = .next s') : ∃ f : Dev → Dev, s'.dev = s.dev.keep (f s.dev) ∨ s' = s := by
  unfold step at h
  split at h
  · cases h
    exact ⟨id, .inr rfl⟩
  · next c rest hp =>
    obtain ⟨f, hf⟩ := exec_apply c { s with pending := rest }
    rw [hf] at h
    cases h
    exact ⟨f, .inl rfl⟩

end Sys2Proof.Machine
end

