-- ==== Sys2Proof/Laws/Slots.lean ====
section
/-! SUPPORT. What tasks in their slots do: where a task can run, what a run changes, and what a task sees of the device. -/
namespace Sys2Proof.Machine
open Sys2Proof

/-! ## Where a task is in its slot (R59) -/

/-- A task in its slot has a row in the image, has its release behind it and its fence before it. -/
theorem Dev.slotAt_some (d : Dev) (n : Nat) (e : InSlot) (h : d.slotAt n = some e) :
    e.task = n ∧ d.image.tasks[n]? = some e.row ∧ lookup d.shots n = some e.shot ∧ e.shot.rel ≤ d.sched.st ∧ d.sched.st < e.fence := by
  unfold Dev.slotAt at h
  split at h
  · next row x hr hx =>
    split at h
    · next c => cases h; simp at c; exact ⟨rfl, hr, hx, c.1, c.2⟩
    · cases h
  · cases h

/-- The task that a role runs a channel in has that role, serves the channel, and has not run it yet. -/
theorem Dev.slotWith_some (d : Dev) (r : TaskRole) (c : Nat) (p : InSlot → Bool) (e : InSlot) (h : d.slotWith r c p = some e) :
    d.slotAt e.task = some e ∧ e.row.role = r ∧ e.row.serves c = true ∧ e.shot.done.contains c = false ∧ p e = true := by
  unfold Dev.slotWith at h
  obtain ⟨n, -, hn⟩ := List.exists_of_findSome?_eq_some h
  split at hn
  · next x hx =>
    split at hn
    · next hc =>
      cases hn
      simp only [Bool.and_eq_true, beq_iff_eq, Bool.not_eq_true'] at hc
      obtain ⟨⟨⟨a, b⟩, c'⟩, q⟩ := hc
      rw [(Dev.slotAt_some d n e hx).1]
      exact ⟨hx, a, b, c', q⟩
    · cases hn
  · cases hn

/-! ## Runs (R63, R74, R80) -/

/-- A task that nothing keeps from running runs. -/
theorem Dev.runIn_free (d : Dev) (e : InSlot) (c : Nat) (f : Dev → Dev → Dev) (h : d.freeToRun e c = true) :
    d.runIn e c f = d.perform e c f := if_pos h

/-- A task that something keeps from running changes nothing but the mark that it waited. -/
theorem Dev.runIn_kept (d : Dev) (e : InSlot) (c : Nat) (f : Dev → Dev → Dev) (h : d.freeToRun e c = false) :
    d.runIn e c f = { d with shots := (d.runIn e c f).shots } := by
  rw [Dev.runIn, if_neg (by rw [h]; decide)]
  split <;> rfl

/-- A role whose task is in its slot, free to run, runs there. -/
theorem Dev.runOf_slot (d : Dev) (r : TaskRole) (c : Nat) (e : InSlot) (f : Dev → Dev → Dev) (h : d.slotOf r c = some e)
    (g : d.freeToRun e c = true) : d.runOf r c f = d.perform e c f := by
  rw [Dev.runOf, h]; exact Dev.runIn_free d e c f g

/-- A role with no task in its slot changes nothing. -/
theorem Dev.runOf_none (d : Dev) (r : TaskRole) (c : Nat) (f : Dev → Dev → Dev) (h : d.slotOf r c = none) : d.runOf r c f = d := by
  rw [Dev.runOf, h]

/-- A task in its slot, free to run, runs there. -/
theorem Dev.runTask_slot (d : Dev) (n c : Nat) (e : InSlot) (f : Dev → Dev → Dev) (h : d.slotAt n = some e)
    (k : e.shot.done.contains c = false) (g : d.freeToRun e c = true) : d.runTask n c f = d.perform e c f := by
  rw [Dev.runTask, h]; simp only [k]; exact Dev.runIn_free d e c f g

/-- What a task does leaves the parameters, which are those of its release while it runs. -/
@[simp] theorem Dev.within_params (d : Dev) (e : InSlot) (f : Dev → Dev → Dev) : (d.within e f).params = d.params := rfl

/-! ## What a task sees (R63) -/

@[simp] theorem Dev.view_regs (d : Dev) (x : Shot) : (d.view x).regs = x.regs := rfl
@[simp] theorem Dev.view_params (d : Dev) (x : Shot) : (d.view x).params = x.params := rfl
@[simp] theorem Dev.view_slots (d : Dev) (x : Shot) : (d.view x).entry.slots = x.slots := rfl
@[simp] theorem Dev.view_st (d : Dev) (x : Shot) : (d.view x).sched.st = x.rel := rfl
@[simp] theorem Dev.view_held (d : Dev) (x : Shot) : (d.view x).sched.held = x.held := rfl
@[simp] theorem Dev.view_image (d : Dev) (x : Shot) : (d.view x).image = d.image := rfl
@[simp] theorem Dev.view_word (d : Dev) (x : Shot) (a : Nat) : (d.view x).word a = x.regs.read a := rfl

/-- Taking the inputs anew at a release changes nothing but the tasks in their slots. -/
theorem Dev.resample_eq (d : Dev) : d.resample = { d with shots := d.resample.shots } := rfl
@[simp] theorem Dev.resample_regs (d : Dev) : d.resample.regs = d.regs := rfl
@[simp] theorem Dev.resample_word (d : Dev) (a : Nat) : d.resample.word a = d.word a := rfl
@[simp] theorem Dev.resample_sched (d : Dev) : d.resample.sched = d.sched := rfl

/-- A computation on data says their time of validity while it runs, and no longer (R26, R29). -/
@[simp] theorem Dev.about_subject (d : Dev) (tov : Int) (f : Dev → Dev) : (d.about tov f).sched.subject = d.sched.subject := rfl

/-! ## The data held under an operation id (R73) -/

@[simp] theorem Dev.discardOp_regs (d : Dev) (op : Nat) : (d.discardOp op).regs = d.regs := rfl
@[simp] theorem Dev.discardOp_chk (d : Dev) (op : Nat) : (d.discardOp op).chk = d.chk := rfl
@[simp] theorem Dev.discardOp_img (d : Dev) (op : Nat) : (d.discardOp op).img = d.img := rfl
@[simp] theorem Dev.discardOp_params (d : Dev) (op : Nat) : (d.discardOp op).params = d.params := rfl
@[simp] theorem Dev.discardOp_recorder (d : Dev) (op : Nat) : (d.discardOp op).recorder = d.recorder := rfl
@[simp] theorem Dev.discardOp_nand (d : Dev) (op : Nat) : (d.discardOp op).nand = d.nand := rfl
@[simp] theorem Dev.discardOp_clk (d : Dev) (op : Nat) : (d.discardOp op).clk = d.clk := rfl
@[simp] theorem Dev.discardOp_bist (d : Dev) (op : Nat) : (d.discardOp op).bist = d.bist := rfl
@[simp] theorem Dev.discardOp_host (d : Dev) (op : Nat) : (d.discardOp op).host = d.host := rfl
@[simp] theorem Dev.discardOp_afe (d : Dev) (op : Nat) : (d.discardOp op).afe = d.afe := rfl
@[simp] theorem Dev.discardOp_gnss (d : Dev) (op : Nat) : (d.discardOp op).gnss = d.gnss := rfl
@[simp] theorem Dev.discardOp_time (d : Dev) (op : Nat) : (d.discardOp op).time = d.time := rfl
@[simp] theorem Dev.discardOp_fus (d : Dev) (op : Nat) : (d.discardOp op).fus = d.fus := rfl
@[simp] theorem Dev.discardOp_loop (d : Dev) (op : Nat) : (d.discardOp op).loop = d.loop := rfl
@[simp] theorem Dev.discardOp_out (d : Dev) (op : Nat) : (d.discardOp op).out = d.out := rfl
@[simp] theorem Dev.discardOp_red (d : Dev) (op : Nat) : (d.discardOp op).red = d.red := rfl
@[simp] theorem Dev.discardOp_safe (d : Dev) (op : Nat) : (d.discardOp op).safe = d.safe := rfl
@[simp] theorem Dev.discardOp_net (d : Dev) (op : Nat) : (d.discardOp op).net = d.net := rfl
@[simp] theorem Dev.discardOp_image (d : Dev) (op : Nat) : (d.discardOp op).image = d.image := rfl
@[simp] theorem Dev.discardOp_shots (d : Dev) (op : Nat) : (d.discardOp op).shots = d.shots := rfl
@[simp] theorem Dev.discardOp_st (d : Dev) (op : Nat) : (d.discardOp op).sched.st = d.sched.st := rfl
@[simp] theorem Dev.discardOp_inflight (d : Dev) (op : Nat) : (d.discardOp op).sched.inflight = d.sched.inflight := rfl

end Sys2Proof.Machine
end

