-- ==== Sys2Proof/WellFormed.lean ====
section
/-! DEFINITION. Which commands are well formed: every number that names a port, a channel, a slot or a field value lies in the range
that the hardware's field or array has. -/
namespace Sys2Proof
open Sys2Proof.Machine

/-- The operands lie in the ranges of the fields and arrays they name. -/
def Instr.wf : Instr → Bool
  | .minorFrameBoundary _ _ _ _ _ => true
  | .majorFrameBoundary _ _ _ => true
  | .hyperframeBoundary _ _ _ => true
  | .taskFence _ task _ _ done _ _ _ => decide (task < 1024) && done.all fun e =>
      e.outs.all (fun o => decide (0xF0 ≤ o.kind && o.kind < 0x100)) && e.recs.all fun r =>
        decide (0x80 ≤ r.1 && r.1 < 0x100 && 16 ≤ r.2.length && r.2.length ≤ 1024 && r.2.length % 4 = 0)
  | .operationIdForceRetire _ op => decide (op < 256)
  | .scheduleStart _ => true
  | .modeRequestSubmit _ target _ _ _ seq port => decide (target < 8) && decide (seq < 256) && decide (port < 2)
  | .standbyReached _ => true
  | .excursionMonitor _ _ => true
  | .arrestAllocation _ _ => true
  | .arrestFrameBuild _ _ _ => true
  | .thrusterLoopRun _ channel _ => decide (channel < 96)
  | .analogueOutputWrite _ n _ _ => decide (n < 8)
  | .coruzHeartbeatSend _ _ => true
  | .fusionUpdate _ _ _ => true
  | .positionPidRun _ channel _ => decide (channel < 16)
  | .fallbackAllocation _ _ => true
  | .solverPress _ task _ => decide (task < 8)
  | .solverIteration _ task _ _ => decide (task < 8)
  | .allocationSelectAndSeal _ _ => true
  | .thrustCommandBuild _ thr _ _ => decide (thr < 16)
  | .jointCommandSend _ _ _ => true
  | .stateMirrorCapture _ _ => true
  | .capabilityMargins _ _ => true
  | .backgroundTableScan _ _ => true
  | .safetyEvaluation _ bad => bad.all fun h => decide (h.f < 8 ∧ h.seq < 256)
  | .schedHwmClr _ => true
  | .schedXinjGo _ task port => decide (task < 1024) && decide (port < 2)
  | .scanJobStart _ unit space port => decide (unit < 4) && decide (space < 4) && decide (port < 2)
  | .scanJobComplete _ mem => mem.wf
  | .lineageLookup _ resource op nth port => decide (resource < 256) && decide (op < 256) && decide (nth < 256) && decide (port < 2)
  | .serialSentenceReceived _ port _ _ _ _ => decide (port < 12)
  | .serialBinaryFrameReceived _ port _ _ _ _ => decide (port < 12)
  | .serialFifoOverflow _ b => decide (b.port < 12)
  | .netDatagramReceived _ port _ _ => decide (port < 4)
  | .canFrameReceived _ c _ _ => decide (c < 6)
  | .slotTimeout _ slot => decide (slot < 64)
  | .afeSettlingEnd _ n => decide (n < 16)
  | .pulseEdge _ p _ _ => decide (p < 8)
  | .gnssEpoch _ => true
  | .gnssEpochDrop _ output => decide (output < 3)
  | .antBiasMeasure _ _ _ => true
  | .antBiasRetry _ ant => decide (ant < 2)
  | .antRetry _ => true
  | .acquisitionComplete _ _ _ => true
  | .rtcmFrameReceived _ _ _ _ => true
  | .gnssCorrFifoWrite _ _ port => decide (port < 2)
  | .correctionAgeExpiry _ _ => true
  | .interferenceTimer _ _ _ => true
  | .spoofAck _ port => decide (port < 2)
  | .coldRestart _ port => decide (port < 2)
  | .gnssDormantBurst _ _ _ _ _ _ => true
  | .ephemerisRenewalComplete _ _ => true
  | .timeSourceQualified _ source _ => decide (source < 3)
  | .timeSourceLost _ source => decide (source < 3)
  | .timeStepApply _ => true
  | .ppsEdge _ => true
  | .leapSecondApply _ => true
  | .timeSet _ port => decide (port < 2)
  | .ptpMessageReceived _ _ => true
  | .ptpSyncTransmit _ port dom _ _ => decide (port < 4) && decide (dom < 2)
  | .launchFrameAtHead _ port queue _ _ => decide (port < 4) && decide (queue < 8)
  | .launchTimeReached _ port queue _ => decide (port < 4) && decide (queue < 8)
  | .filterReset _ port => decide (port < 2)
  | .originSet _ port => decide (port < 2)
  | .anchorSet _ slot => decide (slot < 28)
  | .drLimitExpired _ => true
  | .convergenceTimer _ => true
  | .readmitTimeExpiry _ slot => decide (slot < 28)
  | .suspectMaxExpiry _ slot => decide (slot < 28)
  | .attitudeDisagreeTimer _ => true
  | .trackCoastTimer _ object => decide (object < 8)
  | .arrestClr _ => true
  | .coupleResumeTimer _ => true
  | .wsDiscard _ port => decide (port < 2)
  | .biquadOpen _ channel _ port => decide (channel < 96) && decide (port < 2)
  | .pidOpen _ channel _ port => decide (channel < 16) && decide (port < 2)
  | .coefficientWrite _ _ port => decide (port < 2)
  | .coefficientRead _ => true
  | .bankValidate _ => true
  | .bankRequest _ pid channel bank lenM1 => decide (bank < 2) && decide (lenM1 < 4096) && decide (channel < (if pid then 16 else 96))
  | .pathCommit _ count _ _ => decide (count < 64)
  | .pathClear _ => true
  | .traceArm _ u => decide (u < 8)
  | .traceForce _ u => decide (u < 8)
  | .traceStop _ u => decide (u < 8)
  | .canTxComplete _ _ => true
  | .canTxError _ _ _ _ _ => true
  | .canRecover _ c => decide (c < 6)
  | .canBusoffRecoveryComplete _ c => decide (c < 6)
  | .canListen _ c _ port => decide (c < 6) && decide (port < 2)
  | .hostTxGo _ port c buf dlc => decide (port < 2) && decide (c < 6) && decide (buf < 16) && decide (dlc < 16)
  | .hostTxCancel _ c buf _ => decide (c < 6) && decide (buf < 16)
  | .canWake _ c _ _ _ => decide (c < 6)
  | .feedbackTimeout _ thr => decide (thr < 16)
  | .coruzFrameReceived _ l _ => decide (l < 2)
  | .coruzLinkTimeout _ l => decide (l < 2)
  | .coruzBlockLockLoss _ l => decide (l < 2)
  | .shadowRepeatComplete _ _ => true
  | .canaryForcingReport _ _ _ _ _ => true
  | .claimWaitExpiry _ => true
  | .echoWindowExpiry _ => true
  | .revertDwellComplete _ => true
  | .revertEchoTimeout _ => true
  | .drillGo _ port => decide (port < 2)
  | .drillEnd _ => true
  | .drillAbort _ => true
  | .drillDue _ => true
  | .safeInputChange _ n _ _ => decide (n < 8)
  | .safeInputDiscrepancy _ n => decide (n < 8)
  | .stopAutoreset _ => true
  | .inhReset _ port => decide (port < 2)
  | .outReset _ port _ => decide (port < 2)
  | .loadtest _ port => decide (port < 2)
  | .instSel _ sel port => decide (sel < 8) && decide (port < 2)
  | .safeOutTestPulse _ n _ _ _ => decide (n < 8)
  | .safetyWatchdog _ => true
  | .sealSwitchRead _ p q => decide (p.1 < 4096 ∧ p.2 < 4096 ∧ q.1 < 4096 ∧ q.2 < 4096)
  | .safeEscalation _ f => decide (f < 8)
  | .testDeferFault _ n => decide (n < 8)
  | .recordDrain _ _ => true
  | .nandBatchClose _ => true
  | .hoursCheckpoint _ => true
  | .recordReadGo _ port => decide (port < 2)
  | .recordReadComplete _ _ => true
  | .freeze _ port => decide (port < 2)
  | .thaw _ => true
  | .freezeTimeout _ => true
  | .clearChallenge _ => true
  | .clearSubmit _ _ port => decide (port < 2)
  | .clearCommit _ => true
  | .clearKeyEnrol _ port => decide (port < 2)
  | .nandFormat _ port _ => decide (port < 2)
  | .scrubNow _ port => decide (port < 2)
  | .scrubPassStart _ => true
  | .scrubPassComplete _ _ => true
  | .blockRelocationComplete _ _ => true
  | .staticWearLevelling _ => true
  | .rackingGo _ target src _ port => decide (target < 8) && decide (src < 8) && decide (port < 2)
  | .rackingStepComplete _ _ => true
  | .acceptanceSubmit _ port => decide (port < 2)
  | .acckeyEnrol _ slot port => decide (slot < 4) && decide (port < 2)
  | .acckeyRevoke _ slot port => decide (slot < 4) && decide (port < 2)
  | .knownGoodDwell _ => true
  | .paramDataWrite _ _ port => decide (port < 2)
  | .paramCommitAll _ port => decide (port < 2)
  | .paramCommitIndex _ index port => decide (index < 65536) && decide (port < 2)
  | .paramClearMaskBit _ index port => decide (index < 65536) && decide (port < 2)
  | .paramClearAllMask _ port => decide (port < 2)
  | .paramCommitComplete _ _ => true
  | .paramBulkSnap _ port => decide (port < 2)
  | .paramBulkSnapComplete _ => true
  | .paramBulkApply _ port => decide (port < 2)
  | .refLoss _ ref => decide (ref < 2)
  | .refQualified _ ref _ => decide (ref < 2)
  | .pllUnlock _ => true
  | .pllRelockAttempt _ _ => true
  | .domainPowerFail _ domain _ _ => decide (domain < 7)
  | .powerOn _ => true
  | .vaonLoss _ => true
  | .resetNAssert _ => true
  | .deviceReset _ _ port _ => decide (port < 2)
  | .watchdogPrewarn _ => true
  | .watchdogReset _ _ => true
  | .wakeNAssert _ _ => true
  | .spiWake _ _ => true
  | .wakeTimerExpiry _ _ => true
  | .xpulseBurst _ count spacing _ port => decide (count < 64) && decide (spacing < 256) && decide (port < 2)
  | .forceRefSwitch _ port => decide (port < 2)
  | .shutdownRequest _ _ port _ => decide (port < 2)
  | .shutdownPin _ _ => true
  | .lampCheckComplete _ _ _ => true
  | .recoverRung1 _ port => decide (port < 2)
  | .recoverBlockReset _ block port => decide (block < 256) && decide (port < 2)
  | .recoverDeviceReset _ key port _ => decide (key < 256) && decide (port < 2)
  | .recoverPowerCycle _ key _ port => decide (key < 256) && decide (port < 2)
  | .cycleWaitExpiry _ _ => true
  | .recoverAck _ => true
  | .scanEnable _ port => decide (port < 2)
  | .expertKeyWrite _ _ port => decide (port < 2)
  | .expertIdleLapse _ => true
  | .bar0Malformed _ => true
  | .bar2Write _ port addr bytes => decide (port < 2) && !bytes.isEmpty && decide (addr + bytes.length ≤ 67108864) && decide (bytes.length ≤ 256)
  | .spiWriteBar0 _ _ words check _ => decide (check < 65536) && decide (1 ≤ words.length) && decide (words.length ≤ 64)
  | .spiReadBar0 _ _ n => decide (1 ≤ n) && decide (n ≤ 64)
  | .spiWriteBar2 _ _ words check => decide (check < 65536) && decide (1 ≤ words.length) && decide (words.length ≤ 64)
  | .spiReadBar2 _ _ n => decide (1 ≤ n) && decide (n ≤ 64)
  | .spiStatus _ => true
  | .evtStatusClear _ b _ => decide (b < 3)
  | .evtForce _ n port => decide (n < 128) && decide (port < 2)
  | .msixSendEnable _ width speed _ masks => decide (width < 3) && decide (speed < 4) && decide (masks < 16)
  | .pcieError _ _ => true
  | .ethLinkChange _ port _ => decide (port < 4)
  | .envMeasure _ _ => true
  | .thermalTrip _ => true
  | .vinBrownout _ => true
  | .registerWrite _ port addr _ _ => decide (port < 2) && addr % 4 == 0 && decide (addr < 16777216)
  | .latchedLowWordRead _ addr => addr % 4 == 0 && decide (addr < 16777216)
  | .readClearRegisterRead _ addr => addr % 4 == 0 && decide (addr < 16777216)
  | .canRxError _ c _ _ _ => decide (c < 6)
  | .loadTestComplete _ => true
  | .acceptanceVerifyComplete _ => true
  | .thermalTripRelease _ => true
  | .vaonRestore _ => true
  | .resetNRelease _ => true
  | .refDisqualify _ _ => true
  | .pcieLinkLoss _ => true

end Sys2Proof
end

