-- ==== Sys2Proof/Tests/Slice0.lean ====
section
/-! SUPPORT. Witnesses of the statements' hypotheses, the check of well-formedness on ill-formed commands, and single steps. -/
namespace Sys2Proof.Tests
set_option Elab.async false
open Sys2Proof Sys2Proof.Machine Sys2Proof.Safety
/-- The device at reset, changed. -/
def st (f : Dev → Dev) : State := { State.reset with dev := f State.reset.dev }
/-- The state at reset. -/
def s0 : State := State.reset
/-- One task of a role in its slot of 1 ms, at its release, the device changed before its release. -/
def slotSt (r : TaskRole) (f : Dev → Dev) : State := st fun d =>
  let d : Dev := f { (d.setB Reg.SCHED_STATUS.RUNNING true) with image := { d.image with tasks := [{ (default : TaskRow) with role := r, fence := 1000000 }] } }
  { d with shots := [(0, d.snapshot d.sched.st)] }
/-- Task 0 of a state in its slot. -/
def inSlot (s : State) : InSlot := ⟨0, s.dev.image.tasks.getD 0 default, (lookup s.dev.shots 0).getD default⟩
/-- A directory of one racked slot, checked. -/
def kgDir : Directory :=
  (⟨1, 1, 0, [{ DirSlot.empty with state := .factory }, { DirSlot.empty with state := .racked }], 0⟩ : Directory).checked
/-- A checked directory is valid. -/
theorem checked_valid (x : Directory) : x.checked.valid = true := by
  simp [Directory.valid, Directory.checked, Directory.bytes]
/-- A valid copy A beside no copy B is the directory. -/
theorem dir_of_copyA {d : Dev} {x : Directory} (ha : d.img.dirA = some x) (hv : x.valid = true) (hb : d.img.dirB = none) :
    d.dir = x := by
  have h : goodCopy (some x) = some x := by simp [goodCopy, Option.filter, hv]
  have h0 : goodCopy none = none := rfl
  simp only [Dev.dir, Dev.directory, ha, hb, h, h0]
/-- The device 10¹⁶ ns after a start of the racked set in slot 1, in mode M6. -/
def kgDev : Dev :=
  let d : Dev := ((State.reset.dev.setB Reg.SYS_MODE.STARTED true).set Reg.SYS_MODE.MODE 6).set Reg.IMG_STATUS.BOOTED 1
  { d with img := { d.img with
    kgSince := some 0, dirA := some kgDir, dirB := none, sets := [none, some default], running := some (default : VintageSet).digest } }
/-- The state of that device. -/
def kgSt : State := { State.reset with dev := kgDev }
theorem kgDev_dir : (kgDev.advance 10000000000000000).dir = kgDir := dir_of_copyA rfl (checked_valid _) rfl
theorem kgDev_booted : (kgDev.advance 10000000000000000).get Reg.IMG_STATUS.BOOTED = 1 := by decide +kernel
theorem kgDev_kg : (kgDev.advance 10000000000000000).dir.knownGood ≠ (kgDev.advance 10000000000000000).get Reg.IMG_STATUS.BOOTED := by
  rw [kgDev_dir, kgDev_booted]; decide
theorem kgDev_holds : (kgDev.advance 10000000000000000).bootedHolds = true := by
  have h : (kgDev.advance 10000000000000000).slotEntry 1 = { DirSlot.empty with state := .racked } := by
    unfold Dev.slotEntry; rw [kgDev_dir]; rfl
  have h2 : (kgDev.advance 10000000000000000).slotSet 1 = some default := rfl
  have h3 : (kgDev.advance 10000000000000000).img.running = some (default : VintageSet).digest := rfl
  unfold Dev.bootedHolds
  simp only [kgDev_booted, h, h2, h3]
  simp

theorem witness_FrameBoundariesComplete :
    (∃ (s : State) (t : Nat) (d : Dev), d = s.dev.advance t ∧ d.coreUp = true ∧ d.mode ≠ 0 ∧ d.sched.st % 1000000 = 0) ∧
    (∃ (s : State) (t : Nat) (d : Dev), d = s.dev.advance t ∧ d.coreUp = true ∧ d.mode ≠ 0 ∧ d.sched.st % 10000000 = 0) ∧
    (∃ (s : State) (t : Nat) (d : Dev), d = s.dev.advance t ∧ d.coreUp = true ∧ d.mode ≠ 0 ∧ d.sched.st % 100000000 = 0) :=
  ⟨⟨(st fun d => d.set Reg.SYS_MODE.MODE 1), 0, _, rfl, by decide +kernel, by decide +kernel, by decide +kernel⟩,
   ⟨(st fun d => d.set Reg.SYS_MODE.MODE 1), 0, _, rfl, by decide +kernel, by decide +kernel, by decide +kernel⟩,
   ⟨(st fun d => d.set Reg.SYS_MODE.MODE 1), 0, _, rfl, by decide +kernel, by decide +kernel, by decide +kernel⟩⟩

theorem witness_ScheduleCommandsComplete :
    (∃ (s : State) (t : Nat) (d : Dev) (task : Nat) (row : _) (x : _), d = s.dev.advance t ∧ d.coreUp = true ∧ d.image.tasks[task]? = some row ∧ d.fencedShot task row = some x) ∧
    (∃ (s : State) (t : Nat) (d : Dev) (op : Nat), d = s.dev.advance t ∧ d.coreUp = true ∧ (d.sched.inflight.any (fun e => e.1 = op && e.2 ≤ d.sched.st) = true)) ∧
    (∃ (s : State) (t : Nat) (d : Dev), d = s.dev.advance t ∧ d.coreUp = true ∧ d.flag Reg.SCHED_STATUS.CERT_OK = true ∧ d.running = false ∧ d.mode ≠ 0 ∧ d.sched.st % 100000000 = 0) ∧
    (∃ (s : State) (t : Nat) (d : Dev), d = s.dev.advance t ∧ d.coreUp = true ∧ d.running = true ∧ d.flag Reg.SYS_MODE.STARTED = false ∧ d.sched.startAt + 100000000 ≤ d.sched.st ∧ d.sched.st % 10000000 = 0) ∧
    (∃ (s : State) (t : Nat) (d : Dev), d = s.dev.advance t ∧ d.coreUp = true) ∧
    (∃ (s : State) (t : Nat) (d : Dev), d = s.dev.advance t ∧ d.coreUp = true ∧ d.flag Reg.SYS_EXPERT.UNLOCKED = true ∧ d.mode = 7) ∧
    (∃ (s : State) (t : Nat) (d : Dev), d = s.dev.advance t ∧ d.coreUp = true ∧ d.mode ≠ 0 ∧ d.flag Reg.SYS_MODEREQ.GO = false) :=
  ⟨⟨(slotSt .excursion id), 1000000, _, 0, (inSlot (slotSt .excursion id)).row, (inSlot (slotSt .excursion id)).shot, rfl, by decide +kernel, by decide +kernel, by decide +kernel⟩,
   ⟨(st fun d => { d with sched := { d.sched with inflight := [(3, 0)] } }), 0, _, 3, rfl, by decide +kernel, by decide +kernel⟩,
   ⟨(st fun d => (d.setB Reg.SCHED_STATUS.CERT_OK true).set Reg.SYS_MODE.MODE 1), 0, _, rfl, by decide +kernel, by decide +kernel, by decide +kernel, by decide +kernel, by decide +kernel⟩,
   ⟨(st fun d => d.setB Reg.SCHED_STATUS.RUNNING true), 100000000, _, rfl, by decide +kernel, by decide +kernel, by decide +kernel, by decide +kernel, by decide +kernel⟩,
   ⟨s0, 0, _, rfl, by decide +kernel⟩,
   ⟨(st fun d => (d.setB Reg.SYS_EXPERT.UNLOCKED true).set Reg.SYS_MODE.MODE 7), 0, _, rfl, by decide +kernel, by decide +kernel, by decide +kernel⟩,
   ⟨(st fun d => d.set Reg.SYS_MODE.MODE 1), 0, _, rfl, by decide +kernel, by decide +kernel, by decide +kernel⟩⟩

theorem witness_PeriodicTasksComplete :
    (∃ (s : State) (t : Nat) (d : Dev) (e : _), d = s.dev.advance t ∧ d.coreUp = true ∧ d.slotOf .excursion 0 = some e ∧ d.freeToRun e 0 = true) ∧
    (∃ (s : State) (t : Nat) (d : Dev) (e : _), d = s.dev.advance t ∧ d.coreUp = true ∧ d.slotOf .arrestAllocation 0 = some e ∧ d.freeToRun e 0 = true ∧ (d.view e.shot).alloc.detected.isSome = true) ∧
    (∃ (s : State) (t : Nat) (d : Dev) (sofs : List TxSof) (e : _), d = s.dev.advance t ∧ d.coreUp = true ∧ (d.noteSofs sofs).slotOf .arrestBuild 0 = some e ∧ (d.noteSofs sofs).freeToRun e 0 = true ∧ ((d.noteSofs sofs).view e.shot).alloc.detected.isSome = true) ∧
    (∃ (s : State) (t : Nat) (d : Dev) (channel : Nat) (e : _), d = s.dev.advance t ∧ d.coreUp = true ∧ d.slotOf .biquads channel = some e ∧ d.freeToRun e channel = true ∧ d.bqDue e.shot.rel channel = true) ∧
    (∃ (s : State) (t : Nat) (d : Dev) (e : _), d = s.dev.advance t ∧ d.coreUp = true ∧ d.slotOf .analogue 0 = some e ∧ d.freeToRun e 0 = true ∧ (d.view e.shot).flag Reg.SYS_MODE.STARTED = true) ∧
    (∃ (s : State) (t : Nat) (d : Dev) (e : _), d = s.dev.advance t ∧ d.coreUp = true ∧ d.slotOf .heartbeat 0 = some e ∧ d.freeToRun e 0 = true ∧ (d.view e.shot).beats = true) ∧
    (∃ (s : State) (t : Nat) (d : Dev) (rel : Nat) (e : _), d = s.dev.advance t ∧ d.coreUp = true ∧ d.slotOf .fusion 0 = some e ∧ d.freeToRun e 0 = true ∧ e.shot.rel = rel) ∧
    (∃ (s : State) (t : Nat) (d : Dev) (channel : Nat) (fault : ChainFault) (e : _) (m : _) (x : _), d = s.dev.advance t ∧ d.coreUp = true ∧ (d.slotWith .pid channel (fun e => d.pidSlot channel e.row) = some e) ∧ (if channel < 3 then d.loadInto e fault else (d, e)) = (m, x) ∧ m.freeToRun x channel = true) ∧
    (∃ (s : State) (t : Nat) (d : Dev) (e : _), d = s.dev.advance t ∧ d.coreUp = true ∧ d.slotOf .fallback 0 = some e ∧ d.freeToRun e 0 = true ∧ (d.view e.shot).allocates = true) ∧
    (∃ (s : State) (t : Nat) (d : Dev) (task : Nat) (row : _) (e : _), d = s.dev.advance t ∧ d.coreUp = true ∧ d.solvTask task = some row ∧ d.slotAt row.task = some e ∧ e.shot.done.contains 0 = false ∧ d.freeToRun e 0 = true ∧ (d.view e.shot).solves row = true ∧ d.ownsLanes task row = true) ∧
    (∃ (s : State) (t : Nat) (d : Dev) (task : Nat) (row : _) (run : _) (e : _), d = s.dev.advance t ∧ d.coreUp = true ∧ d.solvTask task = some row ∧ d.slotAt row.task = some e ∧ (d.slot task).run = some run ∧ d.mayIterate task e.fence row run = true) ∧
    (∃ (s : State) (t : Nat) (d : Dev) (e : _), d = s.dev.advance t ∧ d.coreUp = true ∧ d.slotOf .select 0 = some e ∧ d.freeToRun e 0 = true ∧ (d.view e.shot).allocates = true) ∧
    (∃ (s : State) (t : Nat) (d : Dev) (sofs : List TxSof) (e : _), d = s.dev.advance t ∧ d.coreUp = true ∧ (d.noteSofs sofs).slotOf .commandBuild 0 = some e ∧ (d.noteSofs sofs).freeToRun e 0 = true ∧ ((d.noteSofs sofs).view e.shot).sendsFrames = true) ∧
    (∃ (s : State) (t : Nat) (d : Dev) (sofs : List TxSof) (e : _), d = s.dev.advance t ∧ d.coreUp = true ∧ (d.noteSofs sofs).slotOf .jointBuild 0 = some e ∧ (d.noteSofs sofs).freeToRun e 0 = true ∧ d.image.alloc.chain.isSome = true ∧ ((d.noteSofs sofs).view e.shot).sendsJoints = true) ∧
    (∃ (s : State) (t : Nat) (d : Dev) (e : _), d = s.dev.advance t ∧ d.coreUp = true ∧ d.slotOf .mirror 0 = some e ∧ d.freeToRun e 0 = true ∧ (d.view e.shot).get Reg.RED_STATUS.ROLE = 3) ∧
    (∃ (s : State) (t : Nat) (d : Dev) (e : _) (k : _), d = s.dev.advance t ∧ d.coreUp = true ∧ d.slotOf .margins 0 = some e ∧ d.freeToRun e 0 = true ∧ d.solverKind 1 = some k ∧ (d.slot k).out.isSome = true) ∧
    (∃ (s : State) (t : Nat) (d : Dev) (e : _), d = s.dev.advance t ∧ d.coreUp = true ∧ d.slotOf .scan 0 = some e ∧ d.freeToRun e 0 = true ∧ (d.view e.shot).paramB P.CHK.BG_ENABLE = true) ∧
    (∃ (s : State) (t : Nat) (d : Dev) (x : _) (n : Dev), d = s.dev.advance t ∧ d.coreUp = true ∧ d.islandRuns = true ∧ lookup d.shots islandTask = some x ∧ d.sched.st ≤ x.rel + d.islandSlot ∧ (n = ({ d with shots := d.shots.filter (fun e => e.1 != islandTask), safe := { d.safe with beat := x.rel + d.islandSlot } } : Dev))) :=
  ⟨⟨(slotSt .excursion id), 0, _, (inSlot (slotSt .excursion id)), rfl, by decide +kernel, by decide +kernel, by decide +kernel⟩,
   ⟨(slotSt .arrestAllocation (fun d => { d with alloc := { d.alloc with detected := some ([], 0) } })), 0, _, (inSlot (slotSt .arrestAllocation (fun d => { d with alloc := { d.alloc with detected := some ([], 0) } }))), rfl, by decide +kernel, by decide +kernel, by decide +kernel, by decide +kernel⟩,
   ⟨(slotSt .arrestBuild (fun d => { d with alloc := { d.alloc with detected := some ([], 0) } })), 0, _, [], (inSlot (slotSt .arrestBuild (fun d => { d with alloc := { d.alloc with detected := some ([], 0) } }))), rfl, by decide +kernel, by decide +kernel, by decide +kernel, by decide +kernel⟩,
   ⟨(slotSt .biquads id), 0, _, 5, (inSlot (slotSt .biquads id)), rfl, by decide +kernel, by decide +kernel, by decide +kernel, by decide +kernel⟩,
   ⟨(slotSt .analogue (fun d => d.setB Reg.SYS_MODE.STARTED true)), 0, _, (inSlot (slotSt .analogue (fun d => d.setB Reg.SYS_MODE.STARTED true))), rfl, by decide +kernel, by decide +kernel, by decide +kernel, by decide +kernel⟩,
   ⟨(slotSt .heartbeat (fun d => { (d.set Reg.RED_STATUS.UNIT 0) with sched := { d.sched with st := 200000000 } })), 0, _, (inSlot (slotSt .heartbeat (fun d => { (d.set Reg.RED_STATUS.UNIT 0) with sched := { d.sched with st := 200000000 } }))), rfl, by decide +kernel, by decide +kernel, by decide +kernel, by decide +kernel⟩,
   ⟨(slotSt .fusion id), 0, _, 0, (inSlot (slotSt .fusion id)), rfl, by decide +kernel, by decide +kernel, by decide +kernel, by decide +kernel⟩,
   ⟨(slotSt .pid (fun d => d.setB (Reg.LOOP_PID.PID_CFG.RATE 2) true)), 0, _, 2, default, (inSlot (slotSt .pid (fun d => d.setB (Reg.LOOP_PID.PID_CFG.RATE 2) true))), ((slotSt .pid (fun d => d.setB (Reg.LOOP_PID.PID_CFG.RATE 2) true)).dev.advance 0), (inSlot (slotSt .pid (fun d => d.setB (Reg.LOOP_PID.PID_CFG.RATE 2) true))), rfl, by decide +kernel, by decide +kernel, by decide +kernel, by decide +kernel⟩,
   ⟨(slotSt .fallback (fun d => d.set Reg.SYS_MODE.MODE 5)), 0, _, (inSlot (slotSt .fallback (fun d => d.set Reg.SYS_MODE.MODE 5))), rfl, by decide +kernel, by decide +kernel, by decide +kernel, by decide +kernel⟩,
   ⟨(slotSt .qp (fun d => { (d.set Reg.SYS_MODE.MODE 3) with image := { d.image with alloc := { d.image.alloc with solver := [{ (default : SolvTask) with laneCount := 1 }] } }, sched := { d.sched with held := [((0x10, 0), default)] }, solv := { d.solv with slots := [{ (default : SolvSlot) with run := some default }] } })), 0, _, 0, { (default : SolvTask) with laneCount := 1 }, (inSlot (slotSt .qp (fun d => { (d.set Reg.SYS_MODE.MODE 3) with image := { d.image with alloc := { d.image.alloc with solver := [{ (default : SolvTask) with laneCount := 1 }] } }, sched := { d.sched with held := [((0x10, 0), default)] }, solv := { d.solv with slots := [{ (default : SolvSlot) with run := some default }] } }))), rfl, by decide +kernel, by decide +kernel, by decide +kernel, by decide +kernel, by decide +kernel, by decide +kernel, by decide +kernel⟩,
   ⟨(slotSt .qp (fun d => { (d.set Reg.SYS_MODE.MODE 5) with image := { d.image with alloc := { d.image.alloc with solver := [{ (default : SolvTask) with laneCount := 1 }] } }, solv := { d.solv with slots := [{ (default : SolvSlot) with run := some default }] } })), 0, _, 0, { (default : SolvTask) with laneCount := 1 }, default, (inSlot (slotSt .qp (fun d => { (d.set Reg.SYS_MODE.MODE 5) with image := { d.image with alloc := { d.image.alloc with solver := [{ (default : SolvTask) with laneCount := 1 }] } }, solv := { d.solv with slots := [{ (default : SolvSlot) with run := some default }] } }))), rfl, by decide +kernel, by decide +kernel, by decide +kernel, by decide +kernel, by decide +kernel⟩,
   ⟨(slotSt .select (fun d => d.set Reg.SYS_MODE.MODE 5)), 0, _, (inSlot (slotSt .select (fun d => d.set Reg.SYS_MODE.MODE 5))), rfl, by decide +kernel, by decide +kernel, by decide +kernel, by decide +kernel⟩,
   ⟨(slotSt .commandBuild (fun d => ((d.set Reg.SYS_MODE.MODE 5).setB Reg.SYS_MODE.STARTED true).set Reg.RED_STATUS.UNIT 0)), 0, _, [], (inSlot (slotSt .commandBuild (fun d => ((d.set Reg.SYS_MODE.MODE 5).setB Reg.SYS_MODE.STARTED true).set Reg.RED_STATUS.UNIT 0))), rfl, by decide +kernel, by decide +kernel, by decide +kernel, by decide +kernel⟩,
   ⟨(slotSt .jointBuild (fun d => { (((d.set Reg.SYS_MODE.MODE 5).setB Reg.SYS_MODE.STARTED true).setB Reg.SYS_MODE.COUPLED true).set Reg.RED_STATUS.UNIT 0 with image := { d.image with alloc := { d.image.alloc with chain := some default } } })), 0, _, [], (inSlot (slotSt .jointBuild (fun d => { (((d.set Reg.SYS_MODE.MODE 5).setB Reg.SYS_MODE.STARTED true).setB Reg.SYS_MODE.COUPLED true).set Reg.RED_STATUS.UNIT 0 with image := { d.image with alloc := { d.image.alloc with chain := some default } } }))), rfl, by decide +kernel, by decide +kernel, by decide +kernel, by decide +kernel, by decide +kernel⟩,
   ⟨(slotSt .mirror (fun d => d.set Reg.RED_STATUS.ROLE 3)), 0, _, (inSlot (slotSt .mirror (fun d => d.set Reg.RED_STATUS.ROLE 3))), rfl, by decide +kernel, by decide +kernel, by decide +kernel, by decide +kernel⟩,
   ⟨(slotSt .margins (fun d => { d with image := { d.image with alloc := { d.image.alloc with solver := [{ (default : SolvTask) with kind := 1 }] } }, solv := { d.solv with slots := [{ (default : SolvSlot) with out := some default }] } })), 0, _, (inSlot (slotSt .margins (fun d => { d with image := { d.image with alloc := { d.image.alloc with solver := [{ (default : SolvTask) with kind := 1 }] } }, solv := { d.solv with slots := [{ (default : SolvSlot) with out := some default }] } }))), 0, rfl, by decide +kernel, by decide +kernel, by decide +kernel, by decide +kernel, by decide +kernel⟩,
   ⟨(slotSt .scan (fun d => { d with params := { d.params with runtime := [(P.CHK.BG_ENABLE, 1)] } })), 0, _, (inSlot (slotSt .scan (fun d => { d with params := { d.params with runtime := [(P.CHK.BG_ENABLE, 1)] } }))), rfl, by decide +kernel, by decide +kernel, by decide +kernel, by decide +kernel⟩,
   ⟨(st fun d => let d : Dev := (d.setB Reg.SAFE_STATUS.SEAL_OK true).setB Reg.SYS_MODE.STARTED true; { d with shots := [(islandTask, d.snapshot 0)] }), 0, _, ((st fun d => (d.setB Reg.SAFE_STATUS.SEAL_OK true).setB Reg.SYS_MODE.STARTED true).dev.snapshot 0), _, rfl, by decide +kernel, by decide +kernel, by decide +kernel, by decide +kernel, rfl⟩⟩

theorem witness_IntegrityCommandsComplete :
    (∃ (s : State) (t : Nat) (d : Dev) (unit : Nat) (space : Nat) (n : Dev) (job : _), d = s.dev.advance t ∧ d.coreUp = true ∧ n = (d.set Reg.CHK_SCAN_CTRL.UNIT unit).set Reg.CHK_SCAN_CTRL.SPACE space ∧ d.chk.job = none ∧ job = ⟨unit % 4, space % 4, n.get Reg.CHK_SCAN_START.ADDR, n.get Reg.CHK_SCAN_LEN.LEN, n.get Reg.CHK_SCAN_STRIDE.STRIDE, n.word 0x50050⟩ ∧ ScanJob.legal job = true) ∧
    (∃ (s : State) (t : Nat) (d : Dev) (job : _), d = s.dev.advance t ∧ d.coreUp = true ∧ d.chk.job = some job ∧ d.scanSlotOpen = false) ∧
    (∃ (s : State) (t : Nat) (d : Dev), d = s.dev.advance t ∧ d.coreUp = true ∧ d.flag Reg.SYS_EXPERT.UNLOCKED = true) :=
  ⟨⟨(st fun d => (d.set Reg.CHK_SCAN_LEN.LEN 16).set Reg.CHK_SCAN_STRIDE.STRIDE 8), 0, _, 0, 1, _, ⟨0, 1, 0, 16, 8, 0⟩, rfl, by decide +kernel, rfl, by decide +kernel, by decide +kernel, by decide +kernel⟩,
   ⟨(st fun d => { d with chk := { d.chk with job := some ⟨0, 1, 0, 2, 1, 0⟩ } }), 0, _, ⟨0, 1, 0, 2, 1, 0⟩, rfl, by decide +kernel, by decide +kernel, by decide +kernel⟩,
   ⟨(st fun d => d.setB Reg.SYS_EXPERT.UNLOCKED true), 0, _, rfl, by decide +kernel, by decide +kernel⟩⟩

theorem witness_EntryCommandsComplete :
    (∃ (s : State) (t : Nat) (d : Dev) (port : Nat) (tArr : Nat) (chars : List Byte) (bad : Bool) (fill : Nat) (tov : _), d = s.dev.advance t ∧ d.coreUp = true ∧ port < 12 ∧ d.get (Reg.ENTRY_PORT.PORT_CFG.MODE port) = 0 ∧ tov = d.sourceTov (tArr / 10 * 10) (P.ENTRY.PORT_LAT port) ∧ ((d.onto tov).serialAdmit port tArr fill chars.length bad).1 = true) ∧
    (∃ (s : State) (t : Nat) (d : Dev) (port : Nat) (tArr : Nat) (bytes : List Byte) (bad : Bool) (fill : Nat) (tov : _), d = s.dev.advance t ∧ d.coreUp = true ∧ port < 12 ∧ d.get (Reg.ENTRY_PORT.PORT_CFG.MODE port) = 1 ∧ tov = d.sourceTov (tArr / 10 * 10) (P.ENTRY.PORT_LAT port) ∧ ((d.onto tov).serialAdmit port tArr fill bytes.length bad).1 = true) ∧
    (∃ (s : State) (t : Nat) (d : Dev) (b : LostByte) (n : Dev), d = s.dev.advance t ∧ d.coreUp = true ∧ b.port < 12 ∧ d.get (Reg.ENTRY_PORT.PORT_CFG.MODE b.port) ≠ 2 ∧ (d.entry.lost.getD b.port []).contains b.first = false ∧ (n = ((({ d with entry := { d.entry with lost := modAt d.entry.lost b.port (fun l => l ++ [b.first]) } } : Dev).showFill b.port 4096 0).inc (Reg.ENTRY_PORT.PORT_DROP.OVERFLOW b.port)).setB Reg.ENTRY_STATUS.OVF_STICKY true)) ∧
    (∃ (s : State) (t : Nat) (d : Dev) (port : Nat) (ingress : Nat) (m : Datagram) (tArr : _) (tov : _), d = s.dev.advance t ∧ d.coreUp = true ∧ port < 4 ∧ d.running = true ∧ d.joined port m.group = true ∧ tArr = (((ingress : Int) + d.paramInt (P.NET.ING_CORR port)) / 4).toNat ∧ tov = d.sourceTov tArr (P.ENTRY.NET_LAT port) ∧ ((d.onto tov).countArrival (12 + port) tArr).1 = true ∧ m.payload.length ≤ 1472 ∧ m.payload.take 6 = [0x55, 0x64, 0x50, 0x62, 0x43, 0x00]) ∧
    (∃ (s : State) (t : Nat) (d : Dev) (c : Nat), d = s.dev.advance t ∧ d.coreUp = true ∧ d.canActive c = true) ∧
    (∃ (s : State) (t : Nat) (d : Dev) (slot : Nat), d = s.dev.advance t ∧ d.coreUp = true ∧ slot < 64 ∧ d.windowOver slot = true) ∧
    (∃ (s : State) (t : Nat) (d : Dev) (n : Nat), d = s.dev.advance t ∧ d.coreUp = true ∧ n < 16 ∧ d.running = true ∧ (d.chan n).settleEnd ≤ d.sched.st) ∧
    (∃ (s : State) (t : Nat) (d : Dev) (p : Nat) (high : Bool) (hold : Nat), d = s.dev.advance t ∧ d.coreUp = true ∧ p < 8 ∧ d.running = true ∧ (d.afe.pulses.getD p default).cfg.getLsbD 0 = true ∧ (d.afe.pulses.getD p default).level ≠ high ∧ 10 * getBits (d.afe.pulses.getD p default).cfg 8 6 ≤ hold) :=
  ⟨⟨(st fun d => { (d.set (Reg.ENTRY_PORT.PORT_CFG.MODE 1) 0) with image := { d.image with entry := { d.image.entry with rates := [9, 9] } } }), 0, _, 1, default, [], false, default, _, rfl, by decide +kernel, by decide +kernel, by decide +kernel, rfl, by decide +kernel⟩,
   ⟨(st fun d => { (d.set (Reg.ENTRY_PORT.PORT_CFG.MODE 1) 1) with image := { d.image with entry := { d.image.entry with rates := [9, 9] } } }), 0, _, 1, default, [], false, default, _, rfl, by decide +kernel, by decide +kernel, by decide +kernel, rfl, by decide +kernel⟩,
   ⟨(st fun d => d.set (Reg.ENTRY_PORT.PORT_CFG.MODE 2) 0), 0, _, ⟨2, 0⟩, _, rfl, by decide +kernel, by decide +kernel, by decide +kernel, by decide +kernel, rfl⟩,
   ⟨(st fun d => { (d.setB Reg.SCHED_STATUS.RUNNING true) with image := { d.image with entry := { d.image.entry with rates := List.replicate 16 9, groups := [[1]] } } }), 0, _, default, default, ⟨1, [0x55, 0x64, 0x50, 0x62, 0x43, 0x00]⟩, _, _, rfl, by decide +kernel, by decide +kernel, by decide +kernel, by decide +kernel, rfl, rfl, by decide +kernel, by decide +kernel, by decide +kernel⟩,
   ⟨(st fun d => (d.set (Reg.CAN_CH.CH_STAT.STATE 1) 0).setB (Reg.CAN_CH.CH_STAT.SLEEP 1) false), 0, _, 1, rfl, by decide +kernel, by decide +kernel⟩,
   ⟨(st fun d => { d with entry := { d.entry with closes := [some 5] } }), 5, _, default, rfl, by decide +kernel, by decide +kernel, by decide +kernel⟩,
   ⟨(st fun d => d.setB Reg.SCHED_STATUS.RUNNING true), 0, _, 3, rfl, by decide +kernel, by decide +kernel, by decide +kernel, by decide +kernel⟩,
   ⟨(st fun d => { (d.setB Reg.SCHED_STATUS.RUNNING true) with afe := { d.afe with pulses := [⟨1, false, 0, 0, 0⟩] } }), 0, _, 0, true, default, rfl, by decide +kernel, by decide +kernel, by decide +kernel, by decide +kernel, by decide +kernel, by decide +kernel⟩⟩

theorem witness_GnssCommandsComplete :
    (∃ (s : State) (o : GnssEpoch) (d : Dev), d = s.dev.advance o.epoch ∧ d.coreUp = true ∧ d.flag Reg.GNSS_STATUS.RUNNING = true ∧ d.param P.GNSS.RATE ≠ 0 ∧ o.epoch % d.epochPeriod = 0) ∧
    (∃ (s : State) (t : Nat) (d : Dev) (output : Nat) (epoch : _), d = s.dev.advance t ∧ d.coreUp = true ∧ epoch = (d.sched.st - 1500000) / d.epochPeriod * d.epochPeriod ∧ d.running = true ∧ d.flag Reg.GNSS_STATUS.RUNNING = true ∧ d.seals output = true ∧ 1500000 ≤ d.sched.st ∧ d.outOpen output epoch = true) ∧
    (∃ (s : State) (t : Nat) (d : Dev), d = s.dev.advance t ∧ d.coreUp = true) ∧
    (∃ (s : State) (t : Nat) (d : Dev) (ant : Nat) (due : _), d = s.dev.advance t ∧ d.coreUp = true ∧ (d.ant ant).retryAt = some due ∧ due ≤ d.sched.st ∧ d.get (Reg.GNSS_ANT.STATE ant) = 3 ∧ (d.ant ant).biasOn = false) ∧
    (∃ (s : State) (t : Nat) (d : Dev), d = s.dev.advance t ∧ d.coreUp = true ∧ d.get (Reg.GNSS_ANT.STATE 0) = 3 ∧ (d.ant 0).biasOn = false) ∧
    (∃ (s : State) (t : Nat) (d : Dev) (first : GnssChannel) (second : Option GnssChannel), d = s.dev.advance t ∧ d.coreUp = true ∧ first.supported = true ∧ d.signalStopped first.signal = false ∧ d.inSearch first = true ∧ (∀ c ∈ second, first.otherBand c = true ∧ (d.showChannel first false).signalStopped c.signal = false)) ∧
    (∃ (s : State) (t : Nat) (d : Dev) (source : Nat) (udpPort : Nat), d = s.dev.advance t ∧ d.coreUp = true ∧ source < 16 ∧ d.get Reg.GNSS_CORR_CFG.SRC = source ∧ (source < 12 ∨ d.get Reg.GNSS_CORR_CFG.UDP_PORT = udpPort) ∧ (d.countArrival source t).1 = true) ∧
    (∃ (s : State) (t : Nat) (d : Dev) (w : Word) (n : Dev), d = s.dev.advance t ∧ d.coreUp = true ∧ d.get Reg.GNSS_CORR_CFG.SRC = 16 ∧ n = ({ d with gnss := { d.gnss with fifo := d.gnss.fifo ++ leBytes 4 w.toNat } } : Dev)) ∧
    (∃ (s : State) (t : Nat) (d : Dev), d = s.dev.advance t ∧ d.coreUp = true ∧ d.corrClosed = true) ∧
    (∃ (s : State) (t : Nat) (d : Dev), d = s.dev.advance t ∧ d.coreUp = true) ∧
    (∃ (s : State) (t : Nat) (d : Dev), d = s.dev.advance t ∧ d.coreUp = true ∧ d.get Reg.GNSS_STATUS.INTEG = 3 ∧ heldFor d.sched.st (nsOfSec (d.paramF P.GNSS.SPOOF_CLEAR)) d.gnss.passSince = true) ∧
    (∃ (s : State) (t : Nat) (d : Dev), d = s.dev.advance t ∧ d.coreUp = true ∧ (d.mode = 1 ∨ d.mode = 7)) ∧
    (∃ (s : State), s.dev.clk.phase = .dormant) ∧
    (∃ (s : State) (seconds : Nat) (renewed : List (Nat × Nat)) (began : _) (n : Dev), s.dev.clk.phase = .dormant ∧ s.dev.gnss.renewing = some began ∧ began ≤ seconds ∧ n = (if seconds ≤ began + 60 then (s.dev.caughtUp seconds).renewed renewed else s.dev)) :=
  ⟨⟨(st fun d => d.setB Reg.GNSS_STATUS.RUNNING true), default, _, rfl, by decide +kernel, by decide +kernel, by decide +kernel, by decide +kernel⟩,
   ⟨(st fun d => (d.setB Reg.SCHED_STATUS.RUNNING true).setB Reg.GNSS_STATUS.RUNNING true), 2000000, _, 2, _, rfl, by decide +kernel, rfl, by decide +kernel, by decide +kernel, by decide +kernel, by decide +kernel, by decide +kernel⟩,
   ⟨s0, 0, _, rfl, by decide +kernel⟩,
   ⟨(st fun d => { (d.set (Reg.GNSS_ANT.STATE 0) 3) with gnss := { d.gnss with ants := [⟨none, none, none, false, 1, some 0⟩] } }), 0, _, 0, 0, rfl, by decide +kernel, by decide +kernel, by decide +kernel, by decide +kernel, by decide +kernel⟩,
   ⟨(st fun d => { (d.set (Reg.GNSS_ANT.STATE 0) 3) with gnss := { d.gnss with ants := [⟨none, none, none, false, 1, none⟩] } }), 0, _, rfl, by decide +kernel, by decide +kernel, by decide +kernel⟩,
   ⟨(st fun d => d.set Reg.SYS_MODE.MODE 1), 0, _, default, none, rfl, by decide +kernel, by decide +kernel, by decide +kernel, by decide +kernel, by decide +kernel⟩,
   ⟨(st fun d => { (d.set Reg.GNSS_CORR_CFG.SRC 3) with image := { d.image with entry := { d.image.entry with rates := List.replicate 16 9 } } }), 0, _, 3, default, rfl, by decide +kernel, by decide +kernel, by decide +kernel, by decide +kernel, by decide +kernel⟩,
   ⟨(st fun d => d.set Reg.GNSS_CORR_CFG.SRC 16), 0, _, default, _, rfl, by decide +kernel, by decide +kernel, rfl⟩,
   ⟨(st fun d => { d with gnss := { d.gnss with corrAt := some 0 } }), 100000000000000, _, rfl, by decide +kernel, by decide +kernel⟩,
   ⟨s0, 0, _, rfl, by decide +kernel⟩,
   ⟨(st fun d => { (d.set Reg.GNSS_STATUS.INTEG 3) with gnss := { d.gnss with passSince := some 0 } }), 1000000000000, _, rfl, by decide +kernel, by decide +kernel, by decide +kernel⟩,
   ⟨(st fun d => d.set Reg.SYS_MODE.MODE 7), 0, _, rfl, by decide +kernel, by decide +kernel⟩,
   ⟨(st fun d => { d with clk := { d.clk with phase := .dormant } }), by decide +kernel⟩,
   ⟨(st fun d => { d with clk := { d.clk with phase := .dormant }, gnss := { d.gnss with renewing := some 0 } }), default, default, 0, _, by decide +kernel, by decide +kernel, by decide +kernel, rfl⟩⟩

theorem witness_TimeCommandsComplete :
    (∃ (s : State) (t : Nat) (d : Dev) (source : Nat) (m : SourceMeasure), d = s.dev.advance t ∧ d.coreUp = true ∧ source < 3 ∧ (source = 0 → d.flag Reg.GNSS_STATUS.TIME_OK = true) ∧ (d.measureSource source m).steadyLongEnough source = true ∧ ((d.measureSource source m).source source).qualified = false) ∧
    (∃ (s : State) (t : Nat) (d : Dev) (source : Nat), d = s.dev.advance t ∧ d.coreUp = true ∧ source < 3) ∧
    (∃ (s : State) (t : Nat) (d : Dev) (sec : _) (e : _), d = s.dev.advance t ∧ d.coreUp = true ∧ d.time.step = some (sec, e) ∧ (sec : Int) ≤ d.dtSec) ∧
    (∃ (s : State) (t : Nat) (d : Dev) (x : _), d = s.dev.advance t ∧ d.coreUp = true ∧ d.ppsAt = some x ∧ d.ppsEnabled = true ∧ (∀ l ∈ d.time.ppsLast, x.before (l.later 500000000) = false)) ∧
    (∃ (s : State) (t : Nat) (d : Dev) (k : _), d = s.dev.advance t ∧ d.coreUp = true ∧ k = d.get Reg.TIME_LEAP.PENDING ∧ k ≠ 0 ∧ (d.time.leapAt : Int) ≤ d.dtSec ∧ d.get Reg.TIME_STATUS.SRC = 3) ∧
    (∃ (s : State) (t : Nat) (d : Dev), d = s.dev.advance t ∧ d.coreUp = true ∧ d.mode = 7) ∧
    (∃ (s : State) (t : Nat) (d : Dev) (m : PtpMessage) (k : _), d = s.dev.advance t ∧ d.coreUp = true ∧ m.port < 4 ∧ d.flag (Reg.NET_PTP.PTP_CFG.EN m.port) = true ∧ m.udp = d.flag (Reg.NET_PTP.PTP_CFG.UDP m.port) ∧ d.domainIndex m.dom = some k) ∧
    (∃ (s : State) (t : Nat) (d : Dev) (port : Nat) (dom : Nat) (announce : Bool) (stamp : Int) (k : _) (at_ : _), d = s.dev.advance t ∧ d.coreUp = true ∧ port < 4 ∧ d.domainIndex dom = some k ∧ d.flag (Reg.NET_PTP.PTP_CFG.EN port) = true ∧ d.get (Reg.NET_PTP.PTP_CFG.ROLE port) ≠ 1 ∧ d.get (ptpState k port) = 6 ∧ d.flag Reg.TIME_STATUS.DT_VALID = true ∧ (announce = true ∨ ∀ a ∈ lookupAt d.net.syncAt (port, k), a + d.syncInterval ≤ d.sched.st) ∧ at_ = stamp + d.paramInt (P.NET.EGR_CORR port)) ∧
    (∃ (s : State) (t : Nat) (d : Dev) (port : Nat) (queue : Nat) (launch : Nat), d = s.dev.advance t ∧ d.coreUp = true ∧ port < 4 ∧ queue < 8 ∧ d.flag (Reg.NET_TXQ.QCFG.LAUNCH_EN port queue) = true ∧ d.sched.st < launch) ∧
    (∃ (s : State) (t : Nat) (d : Dev) (port : Nat) (queue : Nat) (launch : _), d = s.dev.advance t ∧ d.coreUp = true ∧ (d.net.waiting.find? (fun e => e.1 == port && e.2.1 == queue) = some (port, queue, launch)) ∧ launch ≤ d.sched.st) :=
  ⟨⟨(st fun d => { d with time := { d.time with sources := [default, { (default : SourceState) with steadySince := some 0 }] } }), 1000000000000, _, 1, default, rfl, by decide +kernel, by decide +kernel, by decide +kernel, by decide +kernel, by decide +kernel⟩,
   ⟨s0, 0, _, default, rfl, by decide +kernel, by decide +kernel⟩,
   ⟨(st fun d => { d with time := { d.time with step := some (0, 0) } }), 0, _, 0, 0, rfl, by decide +kernel, by decide +kernel, by decide +kernel⟩,
   ⟨(st fun d => d.setB Reg.TIME_STATUS.DT_VALID true), 0, _, ⟨0, some 0⟩, rfl, by decide +kernel, by decide +kernel, by decide +kernel, by decide +kernel⟩,
   ⟨(st fun d => (d.set Reg.TIME_LEAP.PENDING 1).set Reg.TIME_STATUS.SRC 3), 0, _, 1, rfl, by decide +kernel, by decide +kernel, by decide +kernel, by decide +kernel, by decide +kernel⟩,
   ⟨(st fun d => d.set Reg.SYS_MODE.MODE 7), 0, _, rfl, by decide +kernel, by decide +kernel⟩,
   ⟨(st fun d => d.setB (Reg.NET_PTP.PTP_CFG.EN 0) true), 0, _, default, 0, rfl, by decide +kernel, by decide +kernel, by decide +kernel, by decide +kernel, by decide +kernel⟩,
   ⟨(st fun d => (((d.setB (Reg.NET_PTP.PTP_CFG.EN 0) true).set (Reg.NET_PTP.PTP_CFG.ROLE 0) 0).set (Reg.NET_PTP.PTP_STATE.STATE_P 0) 6).setB Reg.TIME_STATUS.DT_VALID true), 0, _, default, default, default, default, 0, _, rfl, by decide +kernel, by decide +kernel, by decide +kernel, by decide +kernel, by decide +kernel, by decide +kernel, by decide +kernel, by decide +kernel, rfl⟩,
   ⟨(st fun d => d.setB (Reg.NET_TXQ.QCFG.LAUNCH_EN 1 2) true), 0, _, 1, 2, 9, rfl, by decide +kernel, by decide +kernel, by decide +kernel, by decide +kernel, by decide +kernel⟩,
   ⟨(st fun d => { d with net := { d.net with waiting := [(1, 2, 9)] } }), 9, _, 1, 2, 9, rfl, by decide +kernel, by decide +kernel, by decide +kernel⟩⟩

theorem witness_FusionCommandsComplete :
    (∃ (s : State) (t : Nat) (d : Dev), d = s.dev.advance t ∧ d.coreUp = true ∧ d.loopClosed = false) ∧
    (∃ (s : State) (t : Nat) (d : Dev), d = s.dev.advance t ∧ d.coreUp = true ∧ d.mode ≠ 5 ∧ d.mode ≠ 6 ∧ ((F64.ofInt 89).lt (F64.mk ((d.word 0xA0044) ++ (d.word 0xA0040))).abs) = false) ∧
    (∃ (s : State) (t : Nat) (d : Dev) (slot : Nat), d = s.dev.advance t ∧ d.coreUp = true ∧ slot < 28) ∧
    (∃ (s : State) (t : Nat) (d : Dev) (n : Dev), d = s.dev.advance t ∧ d.coreUp = true ∧ n = d.countDr ∧ n.flag Reg.FUS_STATUS.DR = true ∧ n.flag Reg.FUS_STATUS.DR_EXPIRED = false ∧ heldFor n.sched.st (n.paramNs P.FUS.DR_LIMIT) n.fus.drSince = true) ∧
    (∃ (s : State) (t : Nat) (d : Dev), d = s.dev.advance t ∧ d.coreUp = true ∧ heldFor d.sched.st 10000000000 d.fus.convSince = true) ∧
    (∃ (s : State) (t : Nat) (d : Dev) (slot : Nat), d = s.dev.advance t ∧ d.coreUp = true ∧ slot < 28 ∧ d.refState slot = 1 ∧ heldFor d.sched.st (d.paramNs P.FUS.READMIT_TIME) (d.ref slot).passSince = true) ∧
    (∃ (s : State) (t : Nat) (d : Dev) (slot : Nat), d = s.dev.advance t ∧ d.coreUp = true ∧ slot < 28 ∧ d.refState slot = 3 ∧ heldFor d.sched.st (d.paramNs P.FUS.SUSPECT_MAX) (d.ref slot).suspectSince = true) ∧
    (∃ (s : State) (t : Nat) (d : Dev) (n : Dev), d = s.dev.advance t ∧ d.coreUp = true ∧ d.fus.attPair = false ∧ heldFor d.sched.st 1000000000 d.fus.attSince = true ∧ (n = [20, 21, 22].foldl (fun d s => if d.refState s = 1 || d.refState s = 2 then d.moveRef s 3 2 else d) ({ d with fus := { d.fus with attPair := true } } : Dev))) ∧
    (∃ (s : State) (t : Nat) (d : Dev) (object : Nat) (u : _), d = s.dev.advance t ∧ d.coreUp = true ∧ object < 8 ∧ (d.obj object).lastAt = some u ∧ (d.get (Reg.FUS_OBJ.OBJ.STATE object) = 2 ∨ d.get (Reg.FUS_OBJ.OBJ.STATE object) = 3) ∧ (5000000000 : Int) ≤ (d.sched.st : Int) - u) :=
  ⟨⟨(st fun d => d.set Reg.SYS_MODE.MODE 1), 0, _, rfl, by decide +kernel, by decide +kernel⟩,
   ⟨(st fun d => d.set Reg.SYS_MODE.MODE 1), 0, _, rfl, by decide +kernel, by decide +kernel, by decide +kernel, by decide +kernel⟩,
   ⟨s0, 0, _, 4, rfl, by decide +kernel, by decide +kernel⟩,
   ⟨(st fun d => { (d.setB Reg.FUS_STATUS.DR true) with fus := { d.fus with drSince := some 0 } }), 100000000000000, _, _, rfl, by decide +kernel, rfl, by decide +kernel, by decide +kernel, by decide +kernel⟩,
   ⟨(st fun d => { d with fus := { d.fus with convSince := some 0 } }), 10000000000, _, rfl, by decide +kernel, by decide +kernel⟩,
   ⟨(st fun d => (d.set (Reg.FUS_REF.REF_STAT.STATE 0) 1).setRef 0 fun r => { r with passSince := some 0 }), 100000000000000, _, 0, rfl, by decide +kernel, by decide +kernel, by decide +kernel, by decide +kernel⟩,
   ⟨(st fun d => (d.set (Reg.FUS_REF.REF_STAT.STATE 0) 3).setRef 0 fun r => { r with suspectSince := some 0 }), 100000000000000, _, 0, rfl, by decide +kernel, by decide +kernel, by decide +kernel, by decide +kernel⟩,
   ⟨(st fun d => { d with fus := { d.fus with attSince := some 0 } }), 1000000000, _, _, rfl, by decide +kernel, by decide +kernel, by decide +kernel, rfl⟩,
   ⟨(st fun d => (d.set (Reg.FUS_OBJ.OBJ.STATE 0) 2).setObj 0 { (d.obj 0) with lastAt := some 0 }), 5000000000, _, 0, 0, rfl, by decide +kernel, by decide +kernel, by decide +kernel, by decide +kernel, by decide +kernel⟩⟩

theorem witness_AllocationCommandsComplete :
    (∃ (s : State) (t : Nat) (d : Dev), d = s.dev.advance t ∧ d.coreUp = true) ∧
    (∃ (s : State) (t : Nat) (d : Dev) (n : Dev), d = s.dev.advance t ∧ d.coreUp = true ∧ d.coupled = true ∧ d.coupleCause = 0 ∧ d.flag Reg.ALLOC_STATUS.COUPLE_HELD = true ∧ n = ({ d with alloc := { d.alloc with coupleOk := since d.sched.st true d.alloc.coupleOk } } : Dev) ∧ heldFor n.sched.st (n.paramNs P.ALLOC.COUPLE_RESUME) n.alloc.coupleOk = true) ∧
    (∃ (s : State) (t : Nat) (d : Dev), d = s.dev.advance t ∧ d.coreUp = true ∧ (d.mode = 1 ∨ d.mode = 2 ∨ d.mode = 7)) :=
  ⟨⟨s0, 0, _, rfl, by decide +kernel⟩,
   ⟨(st fun d => { ((((d.set Reg.SYS_MODE.MODE 5).setB Reg.SYS_MODE.COUPLED true).setB Reg.FUS_STATUS.CONVERGED true).setB Reg.ALLOC_STATUS.COUPLE_HELD true) with alloc := { d.alloc with coupleOk := some 0 } }), 1000000000000, _, _, rfl, by decide +kernel, by decide +kernel, by decide +kernel, by decide +kernel, rfl, by decide +kernel⟩,
   ⟨(st fun d => d.set Reg.SYS_MODE.MODE 2), 0, _, rfl, by decide +kernel, by decide +kernel⟩⟩

theorem witness_LoopCommandsComplete :
    (∃ (s : State) (t : Nat) (d : Dev) (channel : Nat) (on : Bool), d = s.dev.advance t ∧ d.coreUp = true ∧ channel < 96 ∧ (d.mode = 1 ∨ d.mode = 7) ∧ on = true) ∧
    (∃ (s : State) (t : Nat) (d : Dev) (channel : Nat) (on : Bool), d = s.dev.advance t ∧ d.coreUp = true ∧ channel < 96 ∧ (d.mode = 1 ∨ d.mode = 7) ∧ on = false) ∧
    (∃ (s : State) (t : Nat) (d : Dev) (channel : Nat) (on : Bool) (n : Dev), d = s.dev.advance t ∧ d.coreUp = true ∧ 3 ≤ channel ∧ channel < 16 ∧ (d.mode = 1 ∨ d.mode = 7) ∧ on = true ∧ d.chanOpen true channel = false ∧ n = (d.setB (Reg.LOOP_PID.CTRL.OPEN channel) true).setStat true channel 0 1) ∧
    (∃ (s : State) (t : Nat) (d : Dev) (channel : Nat) (on : Bool) (n : Dev), d = s.dev.advance t ∧ d.coreUp = true ∧ 3 ≤ channel ∧ channel < 16 ∧ (d.mode = 1 ∨ d.mode = 7) ∧ on = false ∧ d.chanOpen true channel = true ∧ n = (d.setB (Reg.LOOP_PID.CTRL.OPEN channel) false).setStat true channel 0 0) ∧
    (∃ (s : State) (t : Nat) (d : Dev) (w : Word) (pid : _) (c : _) (b : _) (i : _), d = s.dev.advance t ∧ d.coreUp = true ∧ d.cwSel = (pid, c, b, i) ∧ d.blendTarget pid c b = false ∧ (d.stat pid c 1 == b && (!d.chanOpen pid c || d.stat pid c 2 == 1)) = false ∧ i < bankWords pid ∧ ((pid || i != 0) && (F32.mk w).bad) = false ∧ c < (if pid then 16 else 96)) ∧
    (∃ (s : State) (t : Nat) (d : Dev), d = s.dev.advance t ∧ d.coreUp = true) ∧
    (∃ (s : State) (t : Nat) (d : Dev) (pid : _) (c : _) (b : _) (i : _), d = s.dev.advance t ∧ d.coreUp = true ∧ d.cwSel = (pid, c, b, i) ∧ c < (if pid then 16 else 96) ∧ d.blendTarget pid c b = false ∧ judgeBank pid (d.pidStep c) (d.bank pid c b) ≠ 1) ∧
    (∃ (s : State) (t : Nat) (d : Dev) (pid : _) (c : _) (b : _) (i : _) (n : Dev) (w : _), d = s.dev.advance t ∧ d.coreUp = true ∧ d.cwSel = (pid, c, b, i) ∧ c < (if pid then 16 else 96) ∧ d.blendTarget pid c b = false ∧ w = d.bank pid c b ∧ judgeBank pid (d.pidStep c) w = 1 ∧ n = d.set Reg.LOOP_CW_VAL.RESULT 1) ∧
    (∃ (s : State) (t : Nat) (d : Dev) (pid : Bool) (channel : Nat) (bank : Nat) (lenM1 : Nat) (n : Dev), d = s.dev.advance t ∧ d.coreUp = true ∧ channel < (if pid then 16 else 96) ∧ n = (d.set ⟨statAt pid channel - 4, 2, 1⟩ (bank % 2)).set ⟨statAt pid channel - 4, 3, 12⟩ (lenM1 % 4096) ∧ n.stat pid channel 2 ≠ 1) ∧
    (∃ (s : State) (t : Nat) (d : Dev) (count : Nat) (hdgMode : Bool) (n : Dev), d = s.dev.advance t ∧ d.coreUp = true ∧ n = (d.set Reg.LOOP_PATH_CTRL.COUNT count).setB Reg.LOOP_PATH_CTRL.HDG_MODE hdgMode) ∧
    (∃ (s : State) (t : Nat) (d : Dev), d = s.dev.advance t ∧ d.coreUp = true) ∧
    (∃ (s : State) (t : Nat) (d : Dev) (u : Nat), d = s.dev.advance t ∧ d.coreUp = true ∧ u < 8) ∧
    (∃ (s : State) (t : Nat) (d : Dev) (u : Nat), d = s.dev.advance t ∧ d.coreUp = true ∧ u < 8 ∧ d.get (Reg.LOOP_TR.STAT.STATE u) = 1) ∧
    (∃ (s : State) (t : Nat) (d : Dev) (u : Nat), d = s.dev.advance t ∧ d.coreUp = true ∧ u < 8 ∧ (d.get (Reg.LOOP_TR.STAT.STATE u) = 1 ∨ d.get (Reg.LOOP_TR.STAT.STATE u) = 2)) :=
  ⟨⟨(st fun d => d.set Reg.SYS_MODE.MODE 7), 0, _, 9, true, rfl, by decide +kernel, by decide +kernel, by decide +kernel, by decide +kernel⟩,
   ⟨(st fun d => d.set Reg.SYS_MODE.MODE 7), 0, _, 9, false, rfl, by decide +kernel, by decide +kernel, by decide +kernel, by decide +kernel⟩,
   ⟨(st fun d => d.set Reg.SYS_MODE.MODE 7), 0, _, 9, true, _, rfl, by decide +kernel, by decide +kernel, by decide +kernel, by decide +kernel, by decide +kernel, by decide +kernel, rfl⟩,
   ⟨(st fun d => (d.set Reg.SYS_MODE.MODE 7).setStat true 9 0 1), 0, _, 9, false, _, rfl, by decide +kernel, by decide +kernel, by decide +kernel, by decide +kernel, by decide +kernel, by decide +kernel, rfl⟩,
   ⟨(st fun d => (d.set Reg.LOOP_CW_SEL.BANK 1).set Reg.LOOP_CW_SEL.CHAN 4), 0, _, 1, false, 4, 1, 0, rfl, by decide +kernel, by decide +kernel, by decide +kernel, by decide +kernel, by decide +kernel, by decide +kernel, by decide +kernel⟩,
   ⟨s0, 0, _, rfl, by decide +kernel⟩,
   ⟨s0, 0, _, false, 0, 0, 0, rfl, by decide +kernel, by decide +kernel, by decide +kernel, by decide +kernel, by decide +kernel⟩,
   ⟨(st fun d => (d.set Reg.LOOP_CW_SEL.BANK 1).setBank false 0 1 ([1, 0xC2C80000, 0x42C80000, 0x3F800000] ++ List.replicate 48 0)), 0, _, false, 0, 1, 0, _, _, rfl, by decide +kernel, by decide +kernel, by decide +kernel, by decide +kernel, rfl, by decide +kernel, rfl⟩,
   ⟨s0, 0, _, true, 7, default, default, _, rfl, by decide +kernel, by decide +kernel, rfl, by decide +kernel⟩,
   ⟨s0, 0, _, default, default, _, rfl, by decide +kernel, rfl⟩,
   ⟨s0, 0, _, rfl, by decide +kernel⟩,
   ⟨s0, 0, _, 3, rfl, by decide +kernel, by decide +kernel⟩,
   ⟨(st fun d => d.set (Reg.LOOP_TR.STAT.STATE 3) 1), 0, _, 3, rfl, by decide +kernel, by decide +kernel, by decide +kernel⟩,
   ⟨(st fun d => d.set (Reg.LOOP_TR.STAT.STATE 3) 2), 0, _, 3, rfl, by decide +kernel, by decide +kernel, by decide +kernel⟩⟩

theorem witness_BusCommandsComplete :
    (∃ (s : State) (t : Nat) (d : Dev) (f : TxSof) (b : _), d = s.dev.advance t ∧ d.coreUp = true ∧ d.canSends f.ctrl = true ∧ d.goneAt f = none ∧ (d.noteSof f).onBus f = some b ∧ b.cancel = false) ∧
    (∃ (s : State) (t : Nat) (d : Dev) (f : TxSof) (code : Nat) (b : _) (n : Dev), d = s.dev.advance t ∧ d.coreUp = true ∧ d.canSends f.ctrl = true ∧ d.goneAt f = none ∧ (d.noteSof f).onBus f = some b ∧ code % 7 ≠ 0 ∧ n = (d.noteSof f).txFailed f.ctrl b) ∧
    (∃ (s : State) (t : Nat) (d : Dev) (c : Nat) (code : Nat) (dataPhase : Bool), d = s.dev.advance t ∧ d.coreUp = true ∧ d.canActive c = true ∧ ((d.set (Reg.CAN_CH.CH_LASTERR.CODE c) (code % 7)).setB (Reg.CAN_CH.CH_LASTERR.DATA_PHASE c) dataPhase).flag (Reg.CAN_CH.CH_STAT.LISTENING c) = false) ∧
    (∃ (s : State) (t : Nat) (d : Dev) (c : Nat), d = s.dev.advance t ∧ d.coreUp = true ∧ c < 6 ∧ d.get (Reg.CAN_CH.CH_STAT.STATE c) = 2) ∧
    (∃ (s : State) (t : Nat) (d : Dev) (c : Nat), d = s.dev.advance t ∧ d.coreUp = true ∧ c < 6 ∧ d.get (Reg.CAN_CH.CH_STAT.STATE c) = 3) ∧
    (∃ (s : State) (t : Nat) (d : Dev) (c : Nat) (on : Bool), d = s.dev.advance t ∧ d.coreUp = true ∧ c < 6 ∧ d.mode = 7 ∧ on = true) ∧
    (∃ (s : State) (t : Nat) (d : Dev) (c : Nat) (on : Bool), d = s.dev.advance t ∧ d.coreUp = true ∧ c < 6 ∧ on = false) ∧
    (∃ (s : State) (t : Nat) (d : Dev) (c : Nat) (buf : Nat) (dlc : Nat) (n : Dev) (b : _) (id : _) (xtd : _) (fd : _), d = s.dev.advance t ∧ d.coreUp = true ∧ c < 6 ∧ n = ((d.set (Reg.CAN_HTX.HTX_CTRL.BUF c) buf).set (Reg.CAN_HTX.HTX_CTRL.DLC c) dlc).showHtx c ∧ n.framesOff = false ∧ b = n.get (Reg.CAN_HTX.HTX_CTRL.BUF c) ∧ id = n.get (Reg.CAN_HTX.HTX_ID.ID c) ∧ xtd = n.flag (Reg.CAN_HTX.HTX_ID.XTD c) ∧ fd = n.flag (Reg.CAN_HTX.HTX_ID.FD c) ∧ (xtd = true ∨ id < 2048) ∧ n.idRefused id xtd = false ∧ n.txBuf c (.host b) = none) ∧
    (∃ (s : State) (t : Nat) (d : Dev) (c : Nat) (buf : Nat) (sofs : List TxSof) (n : Dev) (k : _) (b : _) (m : Dev), d = s.dev.advance t ∧ d.coreUp = true ∧ c < 6 ∧ n = ((d.noteSofs sofs).set (Reg.CAN_HTX.HTX_CTRL.BUF c) buf).showHtx c ∧ k = TxKey.host (n.get (Reg.CAN_HTX.HTX_CTRL.BUF c)) ∧ n.txBuf c k = some b ∧ b.sof = none ∧ m = ((n.dropBuf c k).inc (Reg.CAN_CH.CH_TXCNT.CANCELLED c)).txResult c k 2) ∧
    (∃ (s : State) (t : Nat) (d : Dev) (c : Nat) (dominant : Nat) (frame : Option (Nat × Word)), d = s.dev.advance t ∧ c < 6 ∧ d.canWakes c dominant frame = true ∧ d.bitAt Reg.CLK_WAKE_EN.EN 0 = true ∧ d.clk.phase = .dormant) ∧
    (∃ (s : State) (t : Nat) (d : Dev) (thr : Nat) (a : _) (n : Dev), d = s.dev.advance t ∧ d.coreUp = true ∧ thr < 16 ∧ (d.thr thr).since = some a ∧ (d.thr thr).episode = false ∧ max a ((d.thr thr).fbAt.getD 0) + nsOfMs (d.paramF P.OUT.FB_TIMEOUT) ≤ d.sched.st ∧ (n = ((d.setThr thr (fun e => { e with episode := true })).inc (Reg.OUT_THR.TH_CNT.FBTO thr)).setB Reg.OUT_STATUS.FBTO_STICKY true)) :=
  ⟨⟨(st fun d => { ((d.set (Reg.CAN_CH.CH_STAT.STATE 1) 0).setB (Reg.CAN_CH.CH_STAT.SLEEP 1) false) with out := { d.out with can := [default, { (default : CanCtl) with bufs := [⟨.host 0, default, some 7, false, none, 0⟩] }] } }), 0, _, ⟨1, .host 0, 7⟩, ⟨.host 0, default, some 7, false, none, 0⟩, rfl, by decide +kernel, by decide +kernel, by decide +kernel, by decide +kernel, by decide +kernel⟩,
   ⟨(st fun d => { ((d.set (Reg.CAN_CH.CH_STAT.STATE 1) 0).setB (Reg.CAN_CH.CH_STAT.SLEEP 1) false) with out := { d.out with can := [default, { (default : CanCtl) with bufs := [⟨.host 0, default, some 7, false, none, 0⟩] }] } }), 0, _, ⟨1, .host 0, 7⟩, 3, ⟨.host 0, default, some 7, false, none, 0⟩, _, rfl, by decide +kernel, by decide +kernel, by decide +kernel, by decide +kernel, by decide +kernel, rfl⟩,
   ⟨(st fun d => { ((d.set (Reg.CAN_CH.CH_STAT.STATE 1) 0).setB (Reg.CAN_CH.CH_STAT.SLEEP 1) false) with out := { d.out with can := [default, { (default : CanCtl) with bufs := [⟨.host 0, default, none, false, none, 0⟩] }] } }), 0, _, 1, 3, default, rfl, by decide +kernel, by decide +kernel, by decide +kernel⟩,
   ⟨(st fun d => d.set (Reg.CAN_CH.CH_STAT.STATE 1) 2), 0, _, 1, rfl, by decide +kernel, by decide +kernel, by decide +kernel⟩,
   ⟨(st fun d => d.set (Reg.CAN_CH.CH_STAT.STATE 1) 3), 0, _, 1, rfl, by decide +kernel, by decide +kernel, by decide +kernel⟩,
   ⟨(st fun d => d.set Reg.SYS_MODE.MODE 7), 0, _, 1, true, rfl, by decide +kernel, by decide +kernel, by decide +kernel, by decide +kernel⟩,
   ⟨s0, 0, _, 1, false, rfl, by decide +kernel, by decide +kernel, by decide +kernel⟩,
   ⟨(st fun d => (d.set (Reg.CAN_HTX.HTX_CTRL.BUF 1) 2).set (Reg.CAN_HTX.HTX_ID.ID 1) 0x300), 0, _, 1, 2, 8, _, 2, 0x300, false, false, rfl, by decide +kernel, by decide +kernel, rfl, by decide +kernel, by decide +kernel, by decide +kernel, by decide +kernel, by decide +kernel, by decide +kernel, by decide +kernel, by decide +kernel⟩,
   ⟨(st fun d => { ((d.set (Reg.CAN_CH.CH_STAT.STATE 1) 0).setB (Reg.CAN_CH.CH_STAT.SLEEP 1) false) with out := { d.out with can := [default, { (default : CanCtl) with bufs := [⟨.host 0, default, none, false, none, 0⟩] }] } }), 0, _, 1, 0, [], _, _, ⟨.host 0, default, none, false, none, 0⟩, _, rfl, by decide +kernel, by decide +kernel, rfl, rfl, by decide +kernel, by decide +kernel, rfl⟩,
   ⟨(st fun d => { ((d.set (Reg.CAN_CH.CH_CFG.WAKE 1) 1).setBitAt Reg.CLK_WAKE_EN.EN 0 true) with clk := { d.clk with phase := .dormant } }), 0, _, 1, 1000000, none, rfl, by decide +kernel, by decide +kernel, by decide +kernel, by decide +kernel⟩,
   ⟨(st fun d => d.setThr 0 fun e => { e with since := some 0 }), 1000000000, _, 0, 0, _, rfl, by decide +kernel, by decide +kernel, by decide +kernel, by decide +kernel, by decide +kernel, rfl⟩⟩

theorem witness_RedundancyCommandsComplete :
    (∃ (s : State) (t : Nat) (d : Dev) (l : Nat), d = s.dev.advance t ∧ d.coreUp = true ∧ l < 2) ∧
    (∃ (s : State) (t : Nat) (d : Dev) (l : Nat) (a : _), d = s.dev.advance t ∧ d.coreUp = true ∧ l < 2 ∧ (d.link l).validAt = some a ∧ a + d.linkTimeout ≤ d.sched.st) ∧
    (∃ (s : State) (t : Nat) (d : Dev) (l : Nat), d = s.dev.advance t ∧ d.coreUp = true ∧ l < 2) ∧
    (∃ (s : State) (t : Nat) (d : Dev) (done : Bool) (p : _) (m : _), d = s.dev.advance t ∧ d.coreUp = true ∧ d.flag Reg.RED_STATUS.SYNC = true ∧ done = true ∧ d.red.mirrorPrev = some p ∧ d.red.mirror = some m) ∧
    (∃ (s : State) (t : Nat) (d : Dev), d = s.dev.advance t ∧ d.coreUp = true) ∧
    (∃ (s : State) (t : Nat) (d : Dev), d = s.dev.advance t ∧ d.coreUp = true) ∧
    (∃ (s : State) (t : Nat) (d : Dev), d = s.dev.advance t ∧ d.coreUp = true) ∧
    (∃ (s : State) (t : Nat) (d : Dev), d = s.dev.advance t ∧ d.coreUp = true) ∧
    (∃ (s : State) (t : Nat) (d : Dev) (a : _) (n : Dev), d = s.dev.advance t ∧ d.coreUp = true ∧ d.red.revertAt = some a ∧ a + 50000000 ≤ d.sched.st ∧ d.get Reg.RED_ECHO.OWN = 0 ∧ n = ({ d with red := { d.red with holds := false, revertAt := none } } : Dev)) ∧
    (∃ (s : State) (t : Nat) (d : Dev), d = s.dev.advance t ∧ d.coreUp = true ∧ d.mode = 7 ∧ d.red.drill = none ∧ d.drillReady = true) ∧
    (∃ (s : State) (t : Nat) (d : Dev) (r : _), d = s.dev.advance t ∧ d.coreUp = true ∧ d.red.drill = some r) ∧
    (∃ (s : State) (t : Nat) (d : Dev) (r : _), d = s.dev.advance t ∧ d.coreUp = true ∧ d.red.drill = some r) ∧
    (∃ (s : State) (t : Nat) (d : Dev), d = s.dev.advance t ∧ d.coreUp = true) :=
  ⟨⟨s0, 0, _, 1, rfl, by decide +kernel, by decide +kernel⟩,
   ⟨(st fun d => d.setLink 1 fun x => { x with validAt := some 0 }), 1000000000, _, 1, 0, rfl, by decide +kernel, by decide +kernel, by decide +kernel, by decide +kernel⟩,
   ⟨s0, 0, _, 1, rfl, by decide +kernel, by decide +kernel⟩,
   ⟨(st fun d => { (d.setB Reg.RED_STATUS.SYNC true) with red := { d.red with mirrorPrev := some default, mirror := some default } }), 0, _, true, default, default, rfl, by decide +kernel, by decide +kernel, by decide +kernel, by decide +kernel, by decide +kernel⟩,
   ⟨s0, 0, _, rfl, by decide +kernel⟩,
   ⟨s0, 0, _, rfl, by decide +kernel⟩,
   ⟨s0, 0, _, rfl, by decide +kernel⟩,
   ⟨s0, 0, _, rfl, by decide +kernel⟩,
   ⟨(st fun d => { d with red := { d.red with revertAt := some 0 } }), 50000000, _, 0, _, rfl, by decide +kernel, by decide +kernel, by decide +kernel, by decide +kernel, rfl⟩,
   ⟨(st fun d => (d.set Reg.SYS_MODE.MODE 7).set Reg.RED_STATUS.UNIT 0), 0, _, rfl, by decide +kernel, by decide +kernel, by decide +kernel, by decide +kernel⟩,
   ⟨(st fun d => { d with red := { d.red with drill := some ⟨0, 4, [], 0, true⟩ } }), 0, _, ⟨0, 4, [], 0, true⟩, rfl, by decide +kernel, by decide +kernel⟩,
   ⟨(st fun d => { d with red := { d.red with drill := some ⟨0, 4, [], 0, true⟩ } }), 0, _, ⟨0, 4, [], 0, true⟩, rfl, by decide +kernel, by decide +kernel⟩,
   ⟨s0, 0, _, rfl, by decide +kernel⟩⟩

theorem witness_SafetyCommandsComplete :
    (∃ (s : State) (t : Nat) (d : Dev) (n : Nat), d = s.dev.advance t ∧ d.safeUp = true ∧ n < 8) ∧
    (∃ (s : State) (t : Nat) (d : Dev) (n : Nat) (m : Dev), d = s.dev.advance t ∧ d.safeUp = true ∧ n < 8 ∧ heldFor d.sched.st (nsOfMs (d.sealedF P.SAFE.IN_DISC)) (d.safeIn n).diffSince = true ∧ d.flag (Reg.SAFE_IN.IN_STAT.DISC n) = false ∧ (m = (d.setB (Reg.SAFE_IN.IN_STAT.DISC n) true).setIn n fun y => { y with bothLow := false })) ∧
    (∃ (s : State) (t : Nat) (d : Dev), d = s.dev.advance t ∧ d.coreUp = true ∧ d.sealedVal P.SAFE.STOP_AUTORESET = 1 ∧ d.safe.stops.any d.autoresetDue = true) ∧
    (∃ (s : State) (t : Nat) (d : Dev), d = s.dev.advance t ∧ d.coreUp = true ∧ d.stopHolds = false ∧ (eight.any (fun f => d.flag (Reg.SAFE_FN.FN_STAT.ACTIVE f) && d.inhibits f) = false)) ∧
    (∃ (s : State) (t : Nat) (d : Dev), d = s.dev.advance t ∧ d.coreUp = true ∧ (d.mode = 1 ∨ d.mode = 7)) ∧
    (∃ (s : State) (t : Nat) (d : Dev) (l : _), d = s.dev.advance t ∧ d.coreUp = true ∧ d.mode = 7 ∧ d.safe.load = none ∧ (l = eight.filter fun n => d.sealedVal (P.SAFE.OUT_THRMASK n) != 0)) ∧
    (∃ (s : State) (t : Nat) (d : Dev) (l : _), d = s.dev.advance t ∧ d.coreUp = true ∧ d.safe.load = some l ∧ d.loadEnd l ≤ d.sched.st) ∧
    (∃ (s : State) (t : Nat) (d : Dev), d = s.dev.advance t ∧ d.coreUp = true ∧ (d.mode = 1 ∨ d.mode = 7)) ∧
    (∃ (s : State) (t : Nat) (d : Dev) (n : Nat) (chB : Bool) (low : Bool) (high : Bool) (u : _), d = s.dev.advance t ∧ d.coreUp = true ∧ n < 8 ∧ d.testDue n (d.sched.st - 500000) chB = true ∧ (d.safeOut n).demandAt = none ∧ (d.safeOut n).onSince = some u ∧ u ≤ d.sched.st - 500000 ∧ low = true ∧ high = true) ∧
    (∃ (s : State) (t : Nat) (d : Dev), d = s.dev.advance t ∧ d.safeUp = true ∧ d.flag Reg.SAFE_STATUS.SEAL_OK = true ∧ 2 ≤ d.missedBeats) ∧
    (∃ (s : State) (t : Nat) (d : Dev), d = s.dev.advance t ∧ d.coreUp = true) ∧
    (∃ (s : State) (t : Nat) (d : Dev) (f : Nat), d = s.dev.advance t ∧ d.coreUp = true ∧ f < 8 ∧ d.flag Reg.SAFE_STATUS.SEAL_OK = true ∧ d.get (Reg.SAFE_FN.FN_CFG.REACT f) = 2 ∧ nsOfSec (d.sealedF (P.SAFE.FN_ESC f)) ≠ 0 ∧ d.flag (Reg.SAFE_FN.FN_STAT.ACTIVE f) = true ∧ heldFor d.sched.st (nsOfSec (d.sealedF (P.SAFE.FN_ESC f))) (d.safeFn f).since = true ∧ d.flag (Reg.SAFE_FN.FN_STAT.ESCALATED f) = false) ∧
    (∃ (s : State) (t : Nat) (d : Dev) (n : Nat) (m : Dev), d = s.dev.advance t ∧ d.coreUp = true ∧ n < 8 ∧ 60000000000 < d.deferNs n ∧ d.flag (Reg.SAFE_OUT.OUT_STAT.DEFER_FAULT n) = false ∧ m = (d.setB (Reg.SAFE_OUT.OUT_STAT.DEFER_FAULT n) true).openPairs) :=
  ⟨⟨s0, 0, _, 2, rfl, by decide +kernel, by decide +kernel⟩,
   ⟨(st fun d => d.setIn 2 fun y => { y with diffSince := some 0 }), 10000000000, _, 2, _, rfl, by decide +kernel, by decide +kernel, by decide +kernel, by decide +kernel, rfl⟩,
   ⟨(st fun d => { d with safe := { d.safe with stops := [⟨1, 0, 1, some 0, true⟩] }, params := { d.params with sealedVals := [(P.SAFE.STOP_AUTORESET, 1)] } }), 100000000, _, rfl, by decide +kernel, by decide +kernel, by decide +kernel⟩,
   ⟨s0, 0, _, rfl, by decide +kernel, by decide +kernel, by decide +kernel⟩,
   ⟨(st fun d => d.set Reg.SYS_MODE.MODE 7), 0, _, rfl, by decide +kernel, by decide +kernel⟩,
   ⟨(st fun d => d.set Reg.SYS_MODE.MODE 7), 0, _, _, rfl, by decide +kernel, by decide +kernel, by decide +kernel, rfl⟩,
   ⟨(st fun d => { d with safe := { d.safe with load := some ⟨0, [], [], []⟩ } }), 1000000000, _, ⟨0, [], [], []⟩, rfl, by decide +kernel, by decide +kernel, by decide +kernel⟩,
   ⟨(st fun d => d.set Reg.SYS_MODE.MODE 7), 0, _, rfl, by decide +kernel, by decide +kernel⟩,
   ⟨(st fun d => d.setOut 0 fun y => { y with onSince := some 0 }), 500000, _, 0, false, true, true, 0, rfl, by decide +kernel, by decide +kernel, by decide +kernel, by decide +kernel, by decide +kernel, by decide +kernel, by decide +kernel, by decide +kernel⟩,
   ⟨(st fun d => { (d.setB Reg.SAFE_STATUS.SEAL_OK true) with clk := { d.clk with standbyAt := some 0 } }), 5000000, _, rfl, by decide +kernel, by decide +kernel, by decide +kernel⟩,
   ⟨s0, 0, _, rfl, by decide +kernel⟩,
   ⟨(st fun d => { (((d.setB Reg.SAFE_STATUS.SEAL_OK true).set (Reg.SAFE_FN.FN_CFG.REACT 1) 2).setB (Reg.SAFE_FN.FN_STAT.ACTIVE 1) true).setFn 1 (fun x => { x with since := some 0 }) with params := { d.params with sealedVals := [(P.SAFE.FN_ESC 1, 0x3F800000)] } }), 1000000000, _, 1, rfl, by decide +kernel, by decide +kernel, by decide +kernel, by decide +kernel, by decide +kernel, by decide +kernel, by decide +kernel, by decide +kernel⟩,
   ⟨(st fun d => d.setOut 2 fun y => { y with deferFrom := some 0, onSince := some 0 }), 60000000001, _, 2, _, rfl, by decide +kernel, by decide +kernel, by decide +kernel, by decide +kernel, rfl⟩⟩

theorem witness_RecorderCommandsComplete :
    (∃ (s : State) (t : Nat) (d : Dev), d = s.dev.advance t ∧ d.coreUp = true ∧ d.flag Reg.REC_STATUS.FROZEN = false) ∧
    (∃ (s : State) (t : Nat) (d : Dev), d = s.dev.advance t ∧ d.coreUp = true ∧ d.onNand = true ∧ d.recorder.openBatch ≠ [] ∧ d.batchDue = true) ∧
    (∃ (s : State) (t : Nat) (d : Dev), d = s.dev.advance t ∧ d.coreUp = true ∧ d.recorder.hoursAt + 600000 ≤ d.oph) ∧
    (∃ (s : State) (t : Nat) (d : Dev), d = s.dev.advance t ∧ d.coreUp = true ∧ d.recorder.copying = false) ∧
    (∃ (s : State) (t : Nat) (d : Dev), d = s.dev.advance t ∧ d.coreUp = true ∧ d.recorder.copying = true) ∧
    (∃ (s : State) (t : Nat) (d : Dev) (n : Dev), d = s.dev.advance t ∧ d.coreUp = true ∧ d.flag Reg.REC_STATUS.PROFILE = true ∧ d.flag Reg.REC_STATUS.FROZEN = false ∧ n = ((d.set Reg.REC_FREEZE_STAT.RESULT 0).set Reg.REC_FREEZE_STAT.END 0).setB Reg.REC_STATUS.FROZEN true) ∧
    (∃ (s : State) (t : Nat) (d : Dev), d = s.dev.advance t ∧ d.coreUp = true ∧ d.flag Reg.REC_STATUS.FROZEN = true) ∧
    (∃ (s : State) (t : Nat) (d : Dev), d = s.dev.advance t ∧ d.coreUp = true ∧ d.flag Reg.REC_STATUS.FROZEN = true ∧ d.recorder.freezeAt + d.paramNs P.REC.FREEZE_MAX ≤ d.sched.st) ∧
    (∃ (s : State) (t : Nat) (d : Dev) (n : Dev), d = s.dev.advance t ∧ d.coreUp = true ∧ n = ({ d with recorder := { d.recorder with nonce := some (Config.nonce d.recorder.nonces, d.sched.st), nonces := d.recorder.nonces + 1 } } : Dev)) ∧
    (∃ (s : State) (t : Nat) (d : Dev) (replace : Bool) (n : Dev), d = s.dev.advance t ∧ d.coreUp = true ∧ n = d.setB Reg.REC_CLR_CTRL.REPLACE replace ∧ d.recorder.clearing = none ∧ n.clearResult = 0) ∧
    (∃ (s : State) (t : Nat) (d : Dev) (c : _), d = s.dev.advance t ∧ d.coreUp = true ∧ d.recorder.clearing = some c) ∧
    (∃ (s : State) (t : Nat) (d : Dev), d = s.dev.advance t ∧ d.coreUp = true ∧ d.flag Reg.SYS_EXPERT.UNLOCKED = true ∧ d.mode = 7 ∧ d.recorder.key = none) ∧
    (∃ (s : State) (t : Nat) (d : Dev), d = s.dev.advance t ∧ d.coreUp = true ∧ d.mode = 7 ∧ d.flag Reg.SYS_EXPERT.UNLOCKED = true ∧ d.flag Reg.NAND_STATUS.PRESENT = true) ∧
    (∃ (s : State) (t : Nat) (d : Dev), d = s.dev.advance t ∧ d.coreUp = true ∧ d.flag Reg.NAND_STATUS.SCRUBBING = false ∧ d.onNand = true ∧ d.flag Reg.REC_STATUS.FROZEN = false) ∧
    (∃ (s : State) (t : Nat) (d : Dev), d = s.dev.advance t ∧ d.coreUp = true ∧ (d.paramF P.NAND.SCRUB_DAYS).le d.scrubAge = true ∧ d.onNand = true ∧ d.flag Reg.REC_STATUS.FROZEN = false) ∧
    (∃ (s : State) (t : Nat) (d : Dev) (reads : List BlockRead) (quiet : _) (n : Dev), d = s.dev.advance t ∧ d.coreUp = true ∧ d.flag Reg.NAND_STATUS.SCRUBBING = true ∧ d.flag Reg.REC_STATUS.FROZEN = false ∧ (quiet = ((d.blocksWhere fun b => b.holds && !b.grownBad).filter fun i => !reads.any fun r => r.block = i).map (⟨·, 0, []⟩)) ∧ (n = ((((reads ++ quiet).foldl (fun d r => Dev.judgeBlock true (d.blockRead r) r) d).setB Reg.NAND_STATUS.SCRUBBING false).incWrap Reg.NAND_SCRUB.PASSES).setBitAt Reg.NAND_STATUS.STICKY 1 true)) ∧
    (∃ (s : State) (t : Nat) (d : Dev) (m : _) (l : _), d = s.dev.advance t ∧ d.coreUp = true ∧ d.nand.moving = m :: l ∧ d.flag Reg.REC_STATUS.FROZEN = false) ∧
    (∃ (s : State) (t : Nat) (d : Dev), d = s.dev.advance t ∧ d.coreUp = true ∧ d.onNand = true ∧ d.flag Reg.REC_STATUS.FROZEN = false ∧ d.param P.NAND.WL_SPREAD < d.get Reg.NAND_EC_MAX.EC - d.get Reg.NAND_EC_MIN.EC) :=
  ⟨⟨s0, 0, _, rfl, by decide +kernel, by decide +kernel⟩,
   ⟨(st fun d => { ((d.setB Reg.REC_STATUS.PROFILE true).setB Reg.NAND_STATUS.FORMATTED true) with recorder := { d.recorder with openBatch := [default] } }), 100000000, _, rfl, by decide +kernel, by decide +kernel, by decide +kernel, by decide +kernel⟩,
   ⟨s0, 600000000000, _, rfl, by decide +kernel, by decide +kernel⟩,
   ⟨s0, 0, _, rfl, by decide +kernel, by decide +kernel⟩,
   ⟨(st fun d => { d with recorder := { d.recorder with copying := true } }), 0, _, rfl, by decide +kernel, by decide +kernel⟩,
   ⟨(st fun d => d.setB Reg.REC_STATUS.PROFILE true), 0, _, _, rfl, by decide +kernel, by decide +kernel, by decide +kernel, rfl⟩,
   ⟨(st fun d => d.setB Reg.REC_STATUS.FROZEN true), 0, _, rfl, by decide +kernel, by decide +kernel⟩,
   ⟨(st fun d => d.setB Reg.REC_STATUS.FROZEN true), 100000000000000, _, rfl, by decide +kernel, by decide +kernel, by decide +kernel⟩,
   ⟨s0, 0, _, _, rfl, by decide +kernel, rfl⟩,
   ⟨(st fun d => { ((List.range 8).zip [0xADDBA376, 0xFA7F6F4A, 0x484C5279, 0xA7739615, 0x449B2721, 0xD8846AE4, 0xC6320E31, 0x3B15BACF]).foldl (fun d e => d.setWord (0x120080 + 4 * e.1) e.2) ((d.set Reg.SYS_MODE.MODE 1).set Reg.RED_STATUS.UNIT 0) with recorder := { d.recorder with key := some (List.replicate 32 0), nonce := some ((List.range 32).map (BitVec.ofNat 8), 0) } }), 0, _, false, _, rfl, by decide +kernel, rfl, by decide +kernel, by decide +kernel⟩,
   ⟨(st fun d => { d with recorder := { d.recorder with clearing := some (0, 0, false) } }), 0, _, (0, 0, false), rfl, by decide +kernel, by decide +kernel⟩,
   ⟨(st fun d => (d.setB Reg.SYS_EXPERT.UNLOCKED true).set Reg.SYS_MODE.MODE 7), 0, _, rfl, by decide +kernel, by decide +kernel, by decide +kernel, by decide +kernel⟩,
   ⟨(st fun d => ((d.setB Reg.SYS_EXPERT.UNLOCKED true).set Reg.SYS_MODE.MODE 7).setB Reg.NAND_STATUS.PRESENT true), 0, _, rfl, by decide +kernel, by decide +kernel, by decide +kernel, by decide +kernel⟩,
   ⟨(st fun d => ((d.setB Reg.REC_STATUS.PROFILE true).setB Reg.NAND_STATUS.PRESENT true).setB Reg.NAND_STATUS.FORMATTED true), 0, _, rfl, by decide +kernel, by decide +kernel, by decide +kernel, by decide +kernel⟩,
   ⟨(st fun d => ((d.setB Reg.REC_STATUS.PROFILE true).setB Reg.NAND_STATUS.PRESENT true).setB Reg.NAND_STATUS.FORMATTED true), 10000000000000000, _, rfl, by decide +kernel, by decide +kernel, by decide +kernel, by decide +kernel⟩,
   ⟨(st fun d => d.setB Reg.NAND_STATUS.SCRUBBING true), 0, _, [], _, _, rfl, by decide +kernel, by decide +kernel, by decide +kernel, rfl, rfl⟩,
   ⟨(st fun d => { d with nand := { d.nand with moving := [(0, 1, 0)] } }), 0, _, (0, 1, 0), [], rfl, by decide +kernel, by decide +kernel, by decide +kernel⟩,
   ⟨(st fun d => (((d.setB Reg.REC_STATUS.PROFILE true).setB Reg.NAND_STATUS.PRESENT true).setB Reg.NAND_STATUS.FORMATTED true).set Reg.NAND_EC_MAX.EC 100000), 0, _, rfl, by decide +kernel, by decide +kernel, by decide +kernel, by decide +kernel⟩⟩

theorem witness_CellarCommandsComplete :
    (∃ (s : State) (t : Nat) (d : Dev) (target : Nat) (src : Nat) (activate : Bool) (n : Dev), d = s.dev.advance t ∧ (d.coreUp || d.clk.phase = .halted) = true ∧ (d.coreUp && d.mode = 0) = false ∧ src % 8 ≠ 5 ∧ src % 8 ≠ 7 ∧ n = (((d.set Reg.IMG_RACK.TARGET (target % 8)).setB Reg.IMG_RACK.ACTIVATE activate).set Reg.IMG_RACK.SRC (src % 8)) ∧ d.img.racking = none ∧ target % 8 ≠ 0 ∧ target % 8 ≤ 4 ∧ target % 8 ≠ n.dir.active ∧ (n.sourceSet (src % 8)).isSome = true) ∧
    (∃ (s : State) (t : Nat) (d : Dev) (r : _), d = s.dev.advance t ∧ (d.coreUp || d.clk.phase = .halted) = true ∧ d.img.racking = some r) ∧
    (∃ (s : State) (t : Nat) (d : Dev), d = s.dev.advance t ∧ (d.coreUp || d.clk.phase = .halted) = true ∧ d.img.submitted = none) ∧
    (∃ (s : State) (t : Nat) (d : Dev) (b : _), d = s.dev.advance t ∧ (d.coreUp || d.clk.phase = .halted) = true ∧ d.img.submitted = some b) ∧
    (∃ (s : State) (t : Nat) (d : Dev) (slot : Nat) (n : Dev), d = s.dev.advance t ∧ (d.coreUp || d.clk.phase = .halted) = true ∧ d.flag Reg.SYS_EXPERT.UNLOCKED = true ∧ d.mode = 7 ∧ d.img.keys.getD (slot % 4) none = none ∧ n = d.opened.set Reg.IMG_ACCKEY_CTRL.SLOT (slot % 4) ∧ n.mode = 7) ∧
    (∃ (s : State) (t : Nat) (d : Dev) (slot : Nat) (n : Dev), d = s.dev.advance t ∧ (d.coreUp || d.clk.phase = .halted) = true ∧ d.flag Reg.SYS_EXPERT.UNLOCKED = true ∧ d.mode = 7 ∧ n = d.opened.set Reg.IMG_ACCKEY_CTRL.SLOT (slot % 4) ∧ n.mode = 7) ∧
    (∃ (s : State) (t : Nat) (d : Dev), d = s.dev.advance t ∧ d.coreUp = true ∧ d.kgDue = true ∧ d.dir.knownGood ≠ d.get Reg.IMG_STATUS.BOOTED ∧ d.bootedHolds = true) :=
  ⟨⟨(st fun d => d.set Reg.SYS_MODE.MODE 1), 0, _, 1, 0, false, _, rfl, by decide +kernel, by decide +kernel, by decide +kernel, by decide +kernel, rfl, by decide +kernel, by decide +kernel, by decide +kernel, by decide +kernel, by decide +kernel⟩,
   ⟨(st fun d => { d with img := { d.img with racking := some ⟨0, 1, false, 1, false, none⟩ } }), 0, _, ⟨0, 1, false, 1, false, none⟩, rfl, by decide +kernel, by decide +kernel⟩,
   ⟨s0, 0, _, rfl, by decide +kernel, by decide +kernel⟩,
   ⟨(st fun d => { d with img := { d.img with submitted := some [] } }), 0, _, [], rfl, by decide +kernel, by decide +kernel⟩,
   ⟨(st fun d => (d.setB Reg.SYS_EXPERT.UNLOCKED true).set Reg.SYS_MODE.MODE 7), 0, _, 1, _, rfl, by decide +kernel, by decide +kernel, by decide +kernel, by decide +kernel, rfl, by decide +kernel⟩,
   ⟨(st fun d => (d.setB Reg.SYS_EXPERT.UNLOCKED true).set Reg.SYS_MODE.MODE 7), 0, _, 1, _, rfl, by decide +kernel, by decide +kernel, by decide +kernel, rfl, by decide +kernel⟩,
   ⟨kgSt, 10000000000000000, _, rfl, by decide +kernel, by decide +kernel, kgDev_kg, kgDev_holds⟩⟩

theorem witness_ParameterCommandsComplete :
    (∃ (s : State) (t : Nat) (d : Dev) (lo : Word) (r : _) (q : _), d = s.dev.advance t ∧ (d.coreUp || d.clk.phase = .halted) = true ∧ d.paramRow (d.get Reg.PARAM_INDEX.INDEX) = some r ∧ q = (if r.type == .fp64 then d.params.dataHi ++ lo else lo.setWidth 64) ∧ d.paramError (d.get Reg.PARAM_INDEX.INDEX) q = 0) ∧
    (∃ (s : State) (t : Nat) (d : Dev) (n : Dev), d = s.dev.advance t ∧ (d.coreUp || d.clk.phase = .halted) = true ∧ d.params.commit = none ∧ n = (d.set Reg.PARAM_COMMIT.OP 0).set Reg.PARAM_COMMIT.INDEX (d.get Reg.PARAM_COMMIT.INDEX % 65536)) ∧
    (∃ (s : State) (t : Nat) (d : Dev) (n : Dev), d = s.dev.advance t ∧ (d.coreUp || d.clk.phase = .halted) = true ∧ d.params.commit = none ∧ n = (d.set Reg.PARAM_COMMIT.OP 3).set Reg.PARAM_COMMIT.INDEX (d.get Reg.PARAM_COMMIT.INDEX % 65536)) ∧
    (∃ (s : State) (t : Nat) (d : Dev) (index : Nat) (n : Dev), d = s.dev.advance t ∧ (d.coreUp || d.clk.phase = .halted) = true ∧ d.params.commit = none ∧ isSafeParam (index % 65536) = false ∧ (d.paramRow (index % 65536)).isSome = true ∧ n = (d.set Reg.PARAM_COMMIT.OP 1).set Reg.PARAM_COMMIT.INDEX (index % 65536)) ∧
    (∃ (s : State) (t : Nat) (d : Dev) (index : Nat) (n : Dev), d = s.dev.advance t ∧ (d.coreUp || d.clk.phase = .halted) = true ∧ d.params.commit = none ∧ isSafeParam (index % 65536) = false ∧ (d.paramRow (index % 65536)).isSome = true ∧ n = (d.set Reg.PARAM_COMMIT.OP 2).set Reg.PARAM_COMMIT.INDEX (index % 65536)) ∧
    (∃ (s : State) (t : Nat) (d : Dev) (c : _) (vals : _), d = s.dev.advance t ∧ (d.coreUp || d.clk.phase = .halted) = true ∧ d.params.commit = some c ∧ c.captured = some vals) ∧
    (∃ (s : State) (t : Nat) (d : Dev), d = s.dev.advance t ∧ (d.coreUp || d.clk.phase = .halted) = true ∧ d.params.snapping = false) ∧
    (∃ (s : State) (t : Nat) (d : Dev), d = s.dev.advance t ∧ (d.coreUp || d.clk.phase = .halted) = true ∧ d.params.snapping = true) ∧
    (∃ (s : State) (t : Nat) (d : Dev), d = s.dev.advance t ∧ (d.coreUp || d.clk.phase = .halted) = true ∧ d.bulkEntries.any malformed = false ∧ (∀ e ∈ d.bulkEntries, d.paramError e.1 e.2 = 0)) :=
  ⟨⟨(st fun d => d.set Reg.PARAM_INDEX.INDEX P.TIME.PPS_HOLDOVER), 0, _, 1, _, _, rfl, by decide +kernel, rfl, rfl, by decide +kernel⟩,
   ⟨s0, 0, _, _, rfl, by decide +kernel, by decide +kernel, rfl⟩,
   ⟨s0, 0, _, _, rfl, by decide +kernel, by decide +kernel, rfl⟩,
   ⟨s0, 0, _, P.IMG.KG_DWELL, _, rfl, by decide +kernel, by decide +kernel, by decide +kernel, by decide +kernel, rfl⟩,
   ⟨s0, 0, _, P.IMG.KG_DWELL, _, rfl, by decide +kernel, by decide +kernel, by decide +kernel, by decide +kernel, rfl⟩,
   ⟨(st fun d => { d with params := { d.params with commit := some ⟨0, 0, 0, some []⟩ } }), 0, _, ⟨0, 0, 0, some []⟩, [], rfl, by decide +kernel, by decide +kernel, by decide +kernel⟩,
   ⟨s0, 0, _, rfl, by decide +kernel, by decide +kernel⟩,
   ⟨(st fun d => { d with params := { d.params with snapping := true } }), 0, _, rfl, by decide +kernel, by decide +kernel⟩,
   ⟨s0, 0, _, rfl, by decide +kernel, by decide +kernel, by decide +kernel⟩⟩

theorem witness_ClockCommandsComplete :
    (∃ (s : State) (t : Nat) (d : Dev) (ref : Nat) (n : Dev), d = s.dev.advance t ∧ d.coreUp = true ∧ n = d.refHere (ref % 2) false ∧ n.get Reg.CLK_STATUS.REF = ref % 2 ∧ n.refPresent (1 - ref % 2) = true) ∧
    (∃ (s : State) (t : Nat) (d : Dev) (ref : Nat) (n : Dev), d = s.dev.advance t ∧ d.coreUp = true ∧ n = d.refHere (ref % 2) false ∧ n.get Reg.CLK_STATUS.REF = ref % 2 ∧ n.refPresent (1 - ref % 2) = false) ∧
    (∃ (s : State) (t : Nat) (d : Dev) (ref : Nat) (ofs : Int) (n : Dev), d = s.dev.advance t ∧ d.coreUp = true ∧ d.refMayQualify (ref % 2) = true ∧ n = (((d.refHere (ref % 2) true).setBitAt ⟨0x10000, 3, 2⟩ (ref % 2) true).setInt Reg.CLK_REF.EXT_OFS ofs) ∧ n.get Reg.CLK_STATUS.REF ≠ ref % 2 ∧ n.refPresent (n.get Reg.CLK_STATUS.REF) = true ∧ n.param P.CLK.REF_PRIO ≠ ref % 2) ∧
    (∃ (s : State) (t : Nat) (d : Dev) (ref : Nat) (ofs : Int) (n : Dev), d = s.dev.advance t ∧ d.coreUp = true ∧ d.refMayQualify (ref % 2) = true ∧ n = (((d.refHere (ref % 2) true).setBitAt ⟨0x10000, 3, 2⟩ (ref % 2) true).setInt Reg.CLK_REF.EXT_OFS ofs) ∧ n.get Reg.CLK_STATUS.REF ≠ ref % 2 ∧ n.refPresent (n.get Reg.CLK_STATUS.REF) = false) ∧
    (∃ (s : State) (t : Nat) (d : Dev) (ofs : Int) (n : Dev), d = s.dev.advance t ∧ d.coreUp = true ∧ n = d.setInt Reg.CLK_REF.EXT_OFS ofs ∧ n.refOk 0 = true ∧ n.refOk 1 = true ∧ ((n.paramF P.CLK.REF_TOL).lt ((F64.ofRatio ofs 100).abs)) = true) ∧
    (∃ (s : State) (t : Nat) (d : Dev) (n : Dev), d = s.dev.advance t ∧ d.coreUp = true ∧ d.flag Reg.CLK_STATUS.LOCKED = true ∧ n = ((((({ d with clk := { d.clk with unlockAt := d.sched.st } } : Dev).setB Reg.CLK_STATUS.LOCKED false).setB Reg.CLK_STATUS.HOLD true).setB Reg.CLK_STATUS.UNLOCK_STICKY true).raise 11 [0x10000, 0x10008]).uncover 0) ∧
    (∃ (s : State) (t : Nat) (d : Dev) (ok : Bool), d = s.dev.advance t ∧ d.coreUp = true ∧ ok = true ∧ d.flag Reg.CLK_STATUS.LOCKED = false ∧ d.refPresent (d.get Reg.CLK_STATUS.REF) = true ∧ (d.sched.st - d.clk.unlockAt) % 10000000 = 0 ∧ d.sched.st ≠ d.clk.unlockAt) ∧
    (∃ (s : State) (t : Nat) (d : Dev) (count : Nat) (spacing : Nat) (lens : List Nat) (n : Dev) (x : _), d = s.dev.advance t ∧ d.coreUp = true ∧ d.flag Reg.SYS_EXPERT.UNLOCKED = true ∧ count % 64 ≠ 0 ∧ spacing % 256 ≠ 0 ∧ n = (d.opened.set Reg.CLK_XPULSE.COUNT (count % 64)).set Reg.CLK_XPULSE.SPACING (spacing % 256) ∧ n.mode = 7 ∧ x = crossBurst (count % 64) (spacing % 256) lens ∧ x.lost = false) ∧
    (∃ (s : State) (t : Nat) (d : Dev) (n : Dev) (r : _), d = s.dev.advance t ∧ d.coreUp = true ∧ d.flag Reg.SYS_EXPERT.UNLOCKED = true ∧ n = d.opened ∧ n.mode = 7 ∧ r = 1 - n.get Reg.CLK_STATUS.REF ∧ n.refOk r = true) :=
  ⟨⟨(st fun d => { (d.set Reg.CLK_STATUS.REF 0) with clk := { d.clk with extPresent := true } }), 0, _, 0, _, rfl, by decide +kernel, rfl, by decide +kernel, by decide +kernel⟩,
   ⟨(st fun d => { (d.set Reg.CLK_STATUS.REF 0) with clk := { d.clk with extPresent := false } }), 0, _, 0, _, rfl, by decide +kernel, rfl, by decide +kernel, by decide +kernel⟩,
   ⟨(st fun d => { (d.set Reg.CLK_STATUS.REF 1) with clk := { d.clk with extPresent := true }, params := { d.params with runtime := [(P.CLK.REF_PRIO, 1)] } }), 1000000000000, _, 0, 0, _, rfl, by decide +kernel, by decide +kernel, rfl, by decide +kernel, by decide +kernel, by decide +kernel⟩,
   ⟨(st fun d => { (d.set Reg.CLK_STATUS.REF 1) with clk := { d.clk with extPresent := false } }), 1000000000000, _, 0, 0, _, rfl, by decide +kernel, by decide +kernel, rfl, by decide +kernel, by decide +kernel⟩,
   ⟨(st fun d => d.set ⟨0x10000, 3, 2⟩ 3), 0, _, 1000000, _, rfl, by decide +kernel, rfl, by decide +kernel, by decide +kernel, by decide +kernel⟩,
   ⟨(st fun d => d.setB Reg.CLK_STATUS.LOCKED true), 0, _, _, rfl, by decide +kernel, by decide +kernel, rfl⟩,
   ⟨(st fun d => { ((d.setB Reg.CLK_STATUS.LOCKED false).set Reg.CLK_STATUS.REF 0) with clk := { d.clk with tcxoPresent := true } }), 10000000, _, true, rfl, by decide +kernel, by decide +kernel, by decide +kernel, by decide +kernel, by decide +kernel, by decide +kernel⟩,
   ⟨(st fun d => (d.setB Reg.SYS_EXPERT.UNLOCKED true).set Reg.SYS_MODE.MODE 7), 0, _, 1, 9, [], _, _, rfl, by decide +kernel, by decide +kernel, by decide +kernel, by decide +kernel, rfl, by decide +kernel, rfl, by decide +kernel⟩,
   ⟨(st fun d => ((d.setB Reg.SYS_EXPERT.UNLOCKED true).set Reg.SYS_MODE.MODE 7).set ⟨0x10000, 3, 2⟩ 3), 0, _, _, _, rfl, by decide +kernel, by decide +kernel, rfl, by decide +kernel, rfl, by decide +kernel⟩⟩

theorem witness_PowerCommandsComplete :
    (∃ (s : State) (t : Nat) (d : Dev) (domain : Nat), d = s.dev.advance t ∧ d.coreUp = true ∧ 1 ≤ domain ∧ domain ≤ 6) ∧
    (∃ (s : State), s.dev.clk.phase ≠ .aonLost ∧ s.dev.clk.phase ≠ .resetHeld) ∧
    (∃ (s : State) (t : Nat) (d : Dev), d = s.dev.advance t) ∧
    (∃ (s : State), s.dev.clk.phase = .aonLost ∧ s.dev.clk.vinHere = true) ∧
    (∃ (s : State) (t : Nat) (d : Dev), d = s.dev.advance t ∧ d.clk.phase ≠ .aonLost) ∧
    (∃ (s : State), s.dev.clk.phase = .resetHeld ∧ s.dev.clk.vinHere = true) ∧
    (∃ (s : State) (t : Nat) (d : Dev) (w : Word), d = s.dev.advance t ∧ d.coreUp = true ∧ w = 0x8000005A ∧ d.clk.shutdown = none) ∧
    (∃ (s : State) (t : Nat) (d : Dev), d = s.dev.advance t ∧ d.coreUp = true) ∧
    (∃ (s : State) (t : Nat) (d : Dev), d = s.dev.advance t ∧ d.coreUp = true) ∧
    (∃ (s : State) (t : Nat) (d : Dev), d = s.dev.advance t ∧ d.bitAt Reg.CLK_WAKE_EN.EN 2 = true ∧ d.clk.phase = .dormant) ∧
    (∃ (s : State) (t : Nat) (d : Dev), d = s.dev.advance t ∧ d.bitAt Reg.CLK_WAKE_EN.EN 3 = true ∧ d.clk.phase = .dormant) ∧
    (∃ (s : State) (t : Nat) (d : Dev), d = s.dev.advance t ∧ d.get Reg.CLK_WAKE_TIMER.SECONDS ≠ 0 ∧ d.bitAt Reg.CLK_WAKE_EN.EN 4 = true ∧ d.clk.phase = .dormant ∧ d.clk.stopAt.getD 0 + 1000000000 * d.get Reg.CLK_WAKE_TIMER.SECONDS ≤ d.sched.st) ∧
    (∃ (s : State), s.dev.clk.phase = .tripped) ∧
    (∃ (s : State) (t : Nat) (n : Dev), n = ({ (s.dev.advance t).setVin false with clk := { ((s.dev.advance t).setVin false).clk with vinLost := true } } : Dev) ∧ n.clk.phase ≠ .aonLost ∧ n.clk.phase ≠ .resetHeld) :=
  ⟨⟨s0, 0, _, 3, rfl, by decide +kernel, by decide +kernel, by decide +kernel⟩,
   ⟨s0, by decide +kernel, by decide +kernel⟩,
   ⟨s0, 0, _, rfl⟩,
   ⟨(st fun d => { d with clk := { d.clk with phase := .aonLost, vinHere := true } }), by decide +kernel, by decide +kernel⟩,
   ⟨s0, 0, _, rfl, by decide +kernel⟩,
   ⟨(st fun d => { d with clk := { d.clk with phase := .resetHeld, vinHere := true } }), by decide +kernel, by decide +kernel⟩,
   ⟨s0, 0, _, 0x8000005A, rfl, by decide +kernel, by decide +kernel, by decide +kernel⟩,
   ⟨s0, 0, _, rfl, by decide +kernel⟩,
   ⟨s0, 0, _, rfl, by decide +kernel⟩,
   ⟨(st fun d => { (d.setBitAt Reg.CLK_WAKE_EN.EN 2 true) with clk := { d.clk with phase := .dormant } }), 0, _, rfl, by decide +kernel, by decide +kernel⟩,
   ⟨(st fun d => { (d.setBitAt Reg.CLK_WAKE_EN.EN 3 true) with clk := { d.clk with phase := .dormant } }), 0, _, rfl, by decide +kernel, by decide +kernel⟩,
   ⟨(st fun d => { ((d.setBitAt Reg.CLK_WAKE_EN.EN 4 true).set Reg.CLK_WAKE_TIMER.SECONDS 5) with clk := { d.clk with phase := .dormant } }), 5000000000, _, rfl, by decide +kernel, by decide +kernel, by decide +kernel, by decide +kernel⟩,
   ⟨(st fun d => { d with clk := { d.clk with phase := .tripped } }), by decide +kernel⟩,
   ⟨s0, 0, _, rfl, by decide +kernel, by decide +kernel⟩⟩

theorem witness_ShutdownCommandsComplete :
    (∃ (s : State) (t : Nat) (d : Dev) (w : Word) (sofs : List TxSof) (n : Dev), d = s.dev.advance t ∧ d.coreUp = true ∧ w = 0x800000A5 ∧ n = d.noteSofs sofs ∧ (n.mode = 1 ∨ n.mode = 7) ∧ n.clk.shutdown = none) ∧
    (∃ (s : State) (t : Nat) (d : Dev) (sofs : List TxSof) (n : Dev), d = s.dev.advance t ∧ d.coreUp = true ∧ n = d.noteSofs sofs ∧ n.clk.phase ≠ .enteringDormant ∧ n.mode ≠ 0 ∧ n.clk.shutdown = none) ∧
    (∃ (s : State) (t : Nat) (d : Dev) (sofs : List TxSof) (n : Dev), d = s.dev.advance t ∧ d.coreUp = true ∧ n = d.noteSofs sofs ∧ n.clk.phase = .enteringDormant) ∧
    (∃ (s : State) (t : Nat) (d : Dev) (e : _), d = s.dev.advance t ∧ d.coreUp = true ∧ d.clk.shutdown = some e) ∧
    (∃ (s : State) (t : Nat) (d : Dev) (n : Dev), d = s.dev.advance t ∧ d.coreUp = true ∧ n = d.set Reg.SYS_RECOVER.RUNG 1 ∧ n.bist.level = 0 ∧ n.mode ≠ 0) ∧
    (∃ (s : State) (t : Nat) (d : Dev) (block : Nat) (n : Dev) (m : Dev), d = s.dev.advance t ∧ d.coreUp = true ∧ n = (d.set Reg.SYS_RECOVER.BLOCK (block % 256)).set Reg.SYS_RECOVER.RUNG 2 ∧ n.bist.level ≤ 1 ∧ n.mode ≠ 0 ∧ m = n.setB Reg.SYS_RECOVER.REFUSED false ∧ m.blockResettable (block % 256) = true ∧ m.clk.shutdown = none) ∧
    (∃ (s : State) (t : Nat) (d : Dev) (key : Nat) (n : Dev) (m : Dev), d = s.dev.advance t ∧ d.coreUp = true ∧ key = 0x5A ∧ n = d.set Reg.SYS_RECOVER.RUNG 3 ∧ n.bist.level ≤ 3 ∧ n.mode ≠ 0 ∧ m = n.setB Reg.SYS_RECOVER.REFUSED false ∧ m.clk.shutdown = none) ∧
    (∃ (s : State) (t : Nat) (d : Dev) (key : Nat) (count : _) (n : Dev) (m : Dev) (dk : Dev), d = s.dev.advance t ∧ d.coreUp = true ∧ key = 0x5A ∧ n = d.set Reg.SYS_RECOVER.RUNG 4 ∧ n.bist.level ≤ 4 ∧ n.mode ≠ 0 ∧ m = n.setB Reg.SYS_RECOVER.REFUSED false ∧ m.clk.shutdown = none ∧ m.clk.cycleReq = false ∧ dk = ((((m.levelAtRestart 4).set Reg.SYS_RECOVER.LEVEL 4).holdPower.endFreeze 0).drain count []).closeBatch) ∧
    (∃ (s : State) (t : Nat) (d : Dev) (inp : StartIn) (n : Dev), d = s.dev.advance t ∧ d.coreUp = true ∧ d.clk.phase = .cycling ∧ n = d.start 3 0 true inp ∧ d.clk.cycleAt + d.paramNs P.SYS.CYCLE_WAIT ≤ d.sched.st) ∧
    (∃ (s : State) (t : Nat) (d : Dev), d = s.dev.advance t ∧ d.coreUp = true ∧ d.bist.level ≠ 0) ∧
    (∃ (s : State) (t : Nat) (d : Dev) (n : Dev), d = s.dev.advance t ∧ d.coreUp = true ∧ d.flag Reg.SYS_EXPERT.UNLOCKED = true ∧ d.opened.mode = 7 ∧ n = (((d.opened.clearSecrets.setB Reg.BIST_XSCAN.SCAN_EN true).setB Reg.BIST_STATUS.SCAN_OPEN true).setB Reg.CLK_CTRL.FULL_NEXT true)) :=
  ⟨⟨(st fun d => d.set Reg.SYS_MODE.MODE 7), 0, _, 0x800000A5, [], _, rfl, by decide +kernel, by decide +kernel, rfl, by decide +kernel, by decide +kernel⟩,
   ⟨(st fun d => d.set Reg.SYS_MODE.MODE 5), 0, _, [], _, rfl, by decide +kernel, rfl, by decide +kernel, by decide +kernel, by decide +kernel⟩,
   ⟨(st fun d => { d with clk := { d.clk with phase := .enteringDormant } }), 0, _, [], _, rfl, by decide +kernel, rfl, by decide +kernel⟩,
   ⟨(st fun d => { d with clk := { d.clk with shutdown := some (0, 0) } }), 0, _, (0, 0), rfl, by decide +kernel, by decide +kernel⟩,
   ⟨(st fun d => d.set Reg.SYS_MODE.MODE 1), 0, _, _, rfl, by decide +kernel, rfl, by decide +kernel, by decide +kernel⟩,
   ⟨(st fun d => d.set Reg.SYS_MODE.MODE 1), 0, _, 0x0D, _, _, rfl, by decide +kernel, rfl, by decide +kernel, by decide +kernel, rfl, by decide +kernel, by decide +kernel⟩,
   ⟨(st fun d => d.set Reg.SYS_MODE.MODE 1), 0, _, 0x5A, _, _, rfl, by decide +kernel, by decide +kernel, rfl, by decide +kernel, by decide +kernel, rfl, by decide +kernel⟩,
   ⟨(st fun d => d.set Reg.SYS_MODE.MODE 1), 0, _, 0x5A, 3, _, _, _, rfl, by decide +kernel, by decide +kernel, rfl, by decide +kernel, by decide +kernel, rfl, by decide +kernel, by decide +kernel, rfl⟩,
   ⟨(st fun d => { d with clk := { d.clk with phase := .cycling } }), 100000000000000, _, default, _, rfl, by decide +kernel, by decide +kernel, rfl, by decide +kernel⟩,
   ⟨(st fun d => { d with bist := { d.bist with level := 2 } }), 0, _, rfl, by decide +kernel, by decide +kernel⟩,
   ⟨(st fun d => (d.setB Reg.SYS_EXPERT.UNLOCKED true).set Reg.SYS_MODE.MODE 7), 0, _, _, rfl, by decide +kernel, by decide +kernel, by decide +kernel, rfl⟩⟩

theorem witness_HostCommandsComplete :
    (∃ (s : State) (t : Nat) (d : Dev), d = s.dev.advance t ∧ d.coreUp = true) ∧
    (∃ (s : State) (t : Nat) (d : Dev), d = s.dev.advance t ∧ d.coreUp = true ∧ d.host.expertAt + 1800000000000 ≤ d.sched.st ∧ d.flag Reg.SYS_EXPERT.UNLOCKED = true) ∧
    (∃ (s : State) (t : Nat) (d : Dev), d = s.dev.advance t ∧ (d.coreUp || d.clk.phase = .halted) = true) ∧
    (∃ (s : State) (t : Nat) (d : Dev) (addr : Nat) (bytes : List Byte), d = s.dev.advance t ∧ (d.coreUp || d.clk.phase = .halted) = true ∧ (∀ k < bytes.length, d.bar2Cause (addr + k) = 0)) ∧
    (∃ (s : State) (t : Nat) (d : Dev) (addr : Nat) (words : List Word) (check : Nat), d = s.dev.advance t ∧ (d.coreUp || d.clk.phase = .halted) = true ∧ spiCount words.length = true ∧ (crc16 (spiHead 0x02 addr words)).toNat = check ∧ addr % 4 = 0) ∧
    (∃ (s : State) (t : Nat) (d : Dev) (addr : Nat) (n : Nat), d = s.dev.advance t ∧ (d.coreUp || d.clk.phase = .halted) = true ∧ spiCount n = true ∧ addr % 4 = 0) ∧
    (∃ (s : State) (t : Nat) (d : Dev) (addr : Nat) (words : List Word) (check : Nat), d = s.dev.advance t ∧ (d.coreUp || d.clk.phase = .halted) = true ∧ spiCount words.length = true ∧ (crc16 (spiHead 0x12 addr words)).toNat = check) ∧
    (∃ (s : State) (t : Nat) (d : Dev) (n : Nat), d = s.dev.advance t ∧ (d.coreUp || d.clk.phase = .halted) = true ∧ spiCount n = true) ∧
    (∃ (s : State) (t : Nat) (d : Dev), d = s.dev.advance t ∧ (d.coreUp || d.clk.phase = .halted) = true) ∧
    (∃ (s : State) (t : Nat) (d : Dev) (b : Nat) (w : Word) (n : Dev), d = s.dev.advance t ∧ d.coreUp = true ∧ b < 3 ∧ n = d.setWord (0x20000 + 4 * b) (d.word (0x20000 + 4 * b) &&& ~~~(w &&& ~~~(d.raisedNow b)))) ∧
    (∃ (s : State) (t : Nat) (d : Dev) (n : Nat) (m : Dev), d = s.dev.advance t ∧ d.coreUp = true ∧ d.flag Reg.SYS_EXPERT.UNLOCKED = true ∧ m = d.opened.set Reg.EVT_FORCE.EVENT n ∧ m.mode = 7 ∧ n % 128 ≤ 95 ∧ n % 128 ≠ 31) ∧
    (∃ (s : State) (t : Nat) (d : Dev) (width : Nat) (speed : Nat) (master : Bool) (n : Dev), d = s.dev.advance t ∧ (d.coreUp || d.clk.phase = .halted) = true ∧ n = ((((d.setB Reg.HOST_STATUS.LINK_UP true).set Reg.HOST_STATUS.WIDTH width).set Reg.HOST_STATUS.SPEED speed).setB Reg.HOST_STATUS.MASTER master)) ∧
    (∃ (s : State) (t : Nat) (d : Dev), d = s.dev.advance t ∧ (d.coreUp || d.clk.phase = .halted) = true) ∧
    (∃ (s : State) (t : Nat) (d : Dev), d = s.dev.advance t ∧ (d.coreUp || d.clk.phase = .halted) = true) ∧
    (∃ (s : State) (t : Nat) (d : Dev) (port : Nat) (up : Bool), d = s.dev.advance t ∧ d.coreUp = true ∧ port < 4 ∧ d.bitAt Reg.NET_LINK.UP port ≠ up) ∧
    (∃ (s : State) (t : Nat) (d : Dev) (addr : Nat) (r : _), d = s.dev.advance t ∧ (d.coreUp || d.clk.phase = .halted) = true ∧ addr % 4 = 0 ∧ d.serves addr = true ∧ addr ≠ 0x1C ∧ regRow addr = some r ∧ r.fields.any FieldRow.writable = true) ∧
    (∃ (s : State) (t : Nat) (d : Dev), d = s.dev.advance t ∧ (d.coreUp || d.clk.phase = .halted) = true) ∧
    (∃ (s : State) (t : Nat) (d : Dev), d = s.dev.advance t ∧ (d.coreUp || d.clk.phase = .halted) = true) :=
  ⟨⟨s0, 0, _, rfl, by decide +kernel⟩,
   ⟨(st fun d => d.setB Reg.SYS_EXPERT.UNLOCKED true), 1800000000000, _, rfl, by decide +kernel, by decide +kernel, by decide +kernel⟩,
   ⟨s0, 0, _, rfl, by decide +kernel⟩,
   ⟨s0, 0, _, 0x03900000, [1, 2], rfl, by decide +kernel, by decide +kernel⟩,
   ⟨s0, 0, _, 0x18, [1], (crc16 (spiHead 0x02 0x18 [1])).toNat, rfl, by decide +kernel, by decide +kernel, by decide +kernel, by decide +kernel⟩,
   ⟨s0, 0, _, 4, 2, rfl, by decide +kernel, by decide +kernel, by decide +kernel⟩,
   ⟨s0, 0, _, 0x03900000, [1], (crc16 (spiHead 0x12 0x03900000 [1])).toNat, rfl, by decide +kernel, by decide +kernel, by decide +kernel⟩,
   ⟨s0, 0, _, 2, rfl, by decide +kernel, by decide +kernel⟩,
   ⟨s0, 0, _, rfl, by decide +kernel⟩,
   ⟨s0, 0, _, 1, default, _, rfl, by decide +kernel, by decide +kernel, rfl⟩,
   ⟨(st fun d => (d.setB Reg.SYS_EXPERT.UNLOCKED true).set Reg.SYS_MODE.MODE 7), 0, _, 5, _, rfl, by decide +kernel, by decide +kernel, rfl, by decide +kernel, by decide +kernel, by decide +kernel⟩,
   ⟨s0, 0, _, default, default, default, _, rfl, by decide +kernel, rfl⟩,
   ⟨s0, 0, _, rfl, by decide +kernel⟩,
   ⟨s0, 0, _, rfl, by decide +kernel⟩,
   ⟨s0, 0, _, 2, true, rfl, by decide +kernel, by decide +kernel, by decide +kernel⟩,
   ⟨s0, 0, _, 0x18, _, rfl, by decide +kernel, by decide +kernel, by decide +kernel, by decide +kernel, rfl, by decide +kernel⟩,
   ⟨s0, 0, _, rfl, by decide +kernel⟩,
   ⟨s0, 0, _, rfl, by decide +kernel⟩⟩

theorem witness_MonitorCommandsComplete :
    (∃ (s : State) (t : Nat) (d : Dev), d = s.dev.advance t ∧ d.coreUp = true) ∧
    (∃ (s : State) (t : Nat) (d : Dev), d = s.dev.advance t ∧ (d.coreUp || d.clk.phase = .halted) = true) :=
  ⟨⟨s0, 0, _, rfl, by decide +kernel⟩,
   ⟨s0, 0, _, rfl, by decide +kernel⟩⟩



/-! ## Witnesses of the other statements -/

theorem witness_StepTakesFront : ∃ s : State, s.pending = [] := ⟨s0, rfl⟩

theorem witness_FactorySlotKept : ∃ s s' : State, SlotF VintageSet.made s ∧ step s = .next s' ∧ s.pending ≠ [] :=
  ⟨{ s0 with pending := [.schedHwmClr 0] }, _, rfl, rfl, by decide⟩

/-- A device whose key slot 3 holds a key and is revoked. -/
def keyed : State :=
  { st (fun d => { d with img := { d.img with keys := [none, none, none, some [1]], revoked := 8 } }) with pending := [.schedHwmClr 0] }

theorem witness_EnrolledKeyKept : ∃ s' : State, KeyHeld 3 [1] keyed ∧ step keyed = .next s' := ⟨_, rfl, rfl⟩

theorem witness_RevocationKept : ∃ s' : State, Revoked 3 keyed ∧ step keyed = .next s' := ⟨_, by unfold Revoked; decide, rfl⟩

theorem witness_PairsOfASet : ∃ (v : VintageSet) (a b : Component) (ra rb : Word × Word), v.components[2]? = some a ∧ v.components[3]? = some b ∧
    a.partners[3]? = some ra ∧ b.partners[2]? = some rb := ⟨VintageSet.made, _, _, _, _, rfl, rfl, rfl, rfl⟩

theorem witness_SealIsIntact : ∃ s k : Nat, (s, k) ≠ (0, 0) := ⟨0, 1, by decide⟩

theorem witness_ModeRequestWrite : ∃ (a b : State),
    (a.dev.coreUp = true ∧ a.dev.mode ≠ 0 ∧ a.dev.host.causes = none ∧ a.dev.flag Reg.SYS_MODEREQ.GO = false) ∧
    (b.dev.coreUp = true ∧ b.dev.mode ≠ 0 ∧ b.dev.host.causes = none ∧ b.dev.flag Reg.SYS_MODEREQ.GO = true) :=
  ⟨st fun d => d.set Reg.SYS_MODE.MODE 1, st fun d => (d.set Reg.SYS_MODE.MODE 1).setB Reg.SYS_MODEREQ.GO true,
    ⟨rfl, by decide +kernel, rfl, by decide +kernel⟩, rfl, by decide +kernel, rfl, by decide +kernel⟩

theorem witness_HighWaterMarkClear : s0.dev.coreUp = true := rfl

/-- An output and a datum of the sensor entry held under operation id 255, whose retire-by time has come. -/
def retireSt : State := st fun d =>
  let p : Packet := { (default : Packet) with tag := { (default : Packet).tag with opId := 255 } }
  { d with
    sched := { d.sched with inflight := [(255, 0)], held := [((0x10, 0), p)] }
    entry := { d.entry with slots := [some p] }
    image := { d.image with entry := { d.image.entry with ops := [([255], 0)] } } }

theorem witness_OperationIdForceRetired : ∃ (s : State) (op : Nat), s.dev.coreUp = true ∧
    s.dev.sched.inflight.any (fun x => x.1 = op && x.2 ≤ s.dev.sched.st) = true ∧
    op ∈ s.dev.image.entry.ops.flatMap (fun o => o.1) ∧ (s.dev.sched.held.filter fun x => x.2.tag.opId.toNat == op) ≠ [] :=
  ⟨retireSt, 255, rfl, by decide +kernel, by decide +kernel, by decide +kernel⟩

theorem witness_ExpertUnlock :
    (∃ a : State, a.dev.coreUp = true ∧ lookup a.dev.host.keyAt 1 = some 0 ∧ 0 ≤ a.dev.sched.st ∧ a.dev.sched.st < 0 + 1000000) ∧
    (∃ a : State, a.dev.coreUp = true ∧ lookup a.dev.host.keyAt 1 = some 0 ∧ 0 + 1000000 ≤ a.dev.sched.st) ∧
    (s0.dev.coreUp = true ∧ lookup s0.dev.host.keyAt 1 = none) :=
  ⟨⟨st fun d => { (d.advance 999999) with host := { d.host with keyAt := [(1, 0)] } }, rfl, rfl, by decide, by decide⟩,
    ⟨st fun d => { (d.advance 1000000) with host := { d.host with keyAt := [(1, 0)] } }, rfl, rfl, by decide⟩, rfl, rfl⟩

theorem witness_ExpertRelock : ∃ (a b : State), (a.dev.coreUp = true ∧ a.dev.host.expertAt + 1800000000000 ≤ a.dev.sched.st) ∧
    (b.dev.coreUp = true ∧ b.dev.sched.st < b.dev.host.expertAt + 1800000000000) :=
  ⟨st fun d => d.advance 1800000000000, s0, ⟨rfl, by decide⟩, rfl, by decide⟩

/-- The device unlocked for expert access, in M7. -/
def expertM7 : State := st fun d => (d.set Reg.SYS_MODE.MODE 7).setB Reg.SYS_EXPERT.UNLOCKED true

theorem witness_EventForced : ∃ (a b : State) (n : Nat),
    (a.dev.coreUp = true ∧ a.dev.host.causes = none ∧ a.dev.flag Reg.SYS_EXPERT.UNLOCKED = true ∧ a.dev.mode = 7 ∧ n < 96 ∧ n ≠ 31) ∧
    (b.dev.coreUp = true ∧ b.dev.host.causes = none ∧ b.dev.flag Reg.SYS_EXPERT.UNLOCKED = true ∧ b.dev.mode ≠ 7) :=
  ⟨expertM7, st fun d => d.setB Reg.SYS_EXPERT.UNLOCKED true, 95, ⟨rfl, rfl, by decide +kernel, by decide +kernel, by decide, by decide⟩,
    rfl, rfl, by decide +kernel, by decide +kernel⟩

theorem witness_EventSignalled : ∃ n : Nat, n < 96 := ⟨95, by decide⟩

theorem witness_EventStatusCleared : s0.dev.coreUp = true ∧ 2 < 3 := ⟨rfl, by decide⟩

theorem witness_LowWordLatchesHigh : ∃ (s : State) (a : Nat), s.dev.coreUp = true ∧ a % 4 = 0 ∧ latchedBy a = [a + 4] ∧
    lookup s.dev.host.latched a = none := ⟨s0, 0x90008, rfl, by decide, by decide +kernel, rfl⟩

theorem witness_UnmappedRegister : ∃ (s : State) (a : Nat), (s.dev.coreUp || s.dev.clk.phase = .halted) = true ∧ s.dev.host.causes = none ∧
    a % 4 = 0 ∧ a < 2 ^ 32 ∧ regRow a = none ∧ lookup s.dev.host.latched a = none :=
  ⟨s0, 0xFFFFFFFC, rfl, rfl, by decide, by decide, by decide +kernel, rfl⟩

theorem witness_ReservedBitsReadZero : ∃ (a i : Nat) (r : RegRow), regRow a = some r ∧ r.known.getLsbD i = false :=
  ⟨0x30008, 31, _, rfl, by decide +kernel⟩

theorem witness_Bar2StoresBytes : ∃ (s : State) (a : Nat) (b c : Byte), (s.dev.coreUp || s.dev.clk.phase = .halted) = true ∧
    s.dev.host.causes = none ∧ (∀ i < [b, c].length, bar2Region (a + i) = .staging) ∧ s.dev.img.racking = none :=
  ⟨s0, 0x038FFFFE, 1, 2, rfl, rfl, by decide +kernel, rfl⟩

theorem witness_Bar2ReadOnlyRegion : ∃ (s : State) (a b : Nat), s.dev.coreUp = true ∧ s.dev.host.causes = none ∧ bar2Region a = .readOnly ∧
    bar2Region b = .none ∧ b < 2 ^ 32 := ⟨s0, 0x03B00000, 0xFFFFFFFF, rfl, rfl, by decide +kernel, by decide +kernel, by decide⟩

theorem witness_SpiWrongCrc : ∃ (s : State) (w : Word) (check : Nat), (s.dev.coreUp || s.dev.clk.phase = .halted) = true ∧ 1 ≤ [w].length ∧
    [w].length ≤ 64 ∧ (crc16 (spiHead 0x02 4 [w])).toNat ≠ check ∧ (crc16 (spiHead 0x12 4 [w])).toNat ≠ check :=
  ⟨s0, 0, 65536, rfl, by decide, by decide, by decide +kernel, by decide +kernel⟩

theorem witness_TimeSetInM7 : ∃ (a b : State), (a.dev.coreUp = true ∧ a.dev.host.causes = none ∧ a.dev.mode = 7) ∧
    (b.dev.coreUp = true ∧ b.dev.host.causes = none ∧ b.dev.mode ≠ 7) := ⟨expertM7, s0, ⟨rfl, rfl, by decide +kernel⟩, rfl, rfl, by decide +kernel⟩

theorem witness_ScheduleTimeShown : s0.dev.coreUp = true ∧ ∃ c now : Nat, c ≤ now ∧ now < c + 2 ^ 32 :=
  ⟨rfl, 4294967295, 8589934590, by decide, by decide⟩

/-- The device with a parameter selected. -/
def param (i : Nat) : State := st fun d => d.set Reg.PARAM_INDEX.INDEX i

theorem witness_ParameterWriteWaits :
    ((param 65535).dev.paramRow ((param 65535).dev.get Reg.PARAM_INDEX.INDEX) = none) ∧
    (∃ r, (param P.SAFE.STOP_AUTORESET).dev.paramRow ((param P.SAFE.STOP_AUTORESET).dev.get Reg.PARAM_INDEX.INDEX) = some r ∧ isSafeParam P.SAFE.STOP_AUTORESET = true) ∧
    (∃ r, s0.dev.paramRow 0x0400 = some r ∧ isSafeParam 0x0400 = false ∧ r.expert = false ∧ r.type.bad 60 = false ∧ s0.dev.allows 0x0400 r 60 = true ∧
      s0.dev.allows 0x0400 r 59 = false) ∧
    (∃ r, s0.dev.paramRow P.CLK.REF_TOL = some r ∧ isSafeParam P.CLK.REF_TOL = false ∧ r.type.bad 0x7F800000 = true) ∧
    s0.dev.host.causes = none :=
  ⟨by decide +kernel, ⟨_, rfl, by decide⟩, ⟨_, rfl, by decide, by decide, by decide +kernel, by decide +kernel, by decide +kernel⟩,
    ⟨_, rfl, by decide, by decide +kernel⟩, rfl⟩

theorem witness_BulkApplyAllOrNothing : s0.dev.bulkEntries.any malformed = false ∧ (∀ y ∈ s0.dev.bulkEntries, s0.dev.paramError y.1 y.2 = 0) ∧
    s0.dev.host.causes = none := ⟨by decide +kernel, by decide +kernel, rfl⟩

theorem witness_KeyEnrolment : (expertM7.dev.flag Reg.SYS_EXPERT.UNLOCKED = true ∧ expertM7.dev.mode = 7 ∧ expertM7.dev.img.keys[3]? = some none) ∧
    s0.dev.flag Reg.SYS_EXPERT.UNLOCKED = false ∧ s0.dev.mode ≠ 7 ∧ s0.dev.host.causes = none :=
  ⟨⟨by decide +kernel, by decide +kernel, rfl⟩, by decide +kernel, by decide +kernel, rfl⟩

theorem witness_ScanJobStart : ∃ (a b : State), (a.dev.coreUp = true ∧ a.dev.host.causes = none ∧ a.dev.chk.job = none ∧
      a.dev.get Reg.CHK_SCAN_LEN.LEN = 2 ^ 28 ∧ a.dev.get Reg.CHK_SCAN_STRIDE.STRIDE = 8) ∧
    (b.dev.coreUp = true ∧ b.dev.host.causes = none ∧ b.dev.chk.job.isSome = true) :=
  ⟨st fun d => d.set Reg.CHK_SCAN_LEN.LEN (2 ^ 28), st fun d => { d with chk := { d.chk with job := some default } },
    ⟨rfl, rfl, rfl, by decide +kernel, by decide +kernel⟩, rfl, rfl, rfl⟩

theorem witness_BiquadOpened : ∃ (a b : State), (a.dev.coreUp = true ∧ a.dev.host.causes = none ∧ a.dev.mode = 7) ∧
    (b.dev.coreUp = true ∧ b.dev.host.causes = none ∧ ¬ (b.dev.mode = 1 ∨ b.dev.mode = 7)) :=
  ⟨expertM7, st fun d => d.set Reg.SYS_MODE.MODE 2, ⟨rfl, rfl, by decide +kernel⟩, rfl, rfl, by decide +kernel⟩

/-- The device with a coefficient selected: of a PID or a biquad, its channel, bank and word. -/
def coef (pid : Bool) (c b i : Nat) (f : Dev → Dev) : State := st fun d =>
  f ((((d.setB Reg.LOOP_CW_SEL.KIND pid).set Reg.LOOP_CW_SEL.CHAN c).set Reg.LOOP_CW_SEL.BANK b).set Reg.LOOP_CW_SEL.WORD i)

theorem witness_CoefficientWritten :
    (let a := (coef true 16 0 0 id).dev; a.cwSel = (true, 16, 0, 0) ∧ a.coreUp = true ∧ a.host.causes = none) ∧
    (let a := (coef true 0 1 0 fun d => d.setStat true 0 2 1).dev; a.cwSel = (true, 0, 1, 0) ∧ a.stat true 0 2 = 1 ∧ a.stat true 0 1 ≠ 1) ∧
    (let a := (coef false 0 0 0 id).dev; a.cwSel = (false, 0, 0, 0) ∧ a.stat false 0 2 = 0 ∧ a.stat false 0 1 = 0 ∧
      a.chanOpen false 0 = false) ∧
    (let a := (coef false 0 1 63 id).dev; a.cwSel = (false, 0, 1, 63) ∧ a.stat false 0 2 = 0 ∧ a.stat false 0 1 ≠ 1 ∧ bankWords false ≤ 63) ∧
    (let a := (coef true 15 1 0 id).dev; a.cwSel = (true, 15, 1, 0) ∧ a.stat true 15 2 = 0 ∧ a.stat true 15 1 ≠ 1 ∧ 0 < bankWords true ∧
      ((true || (0 : Nat) != 0) && (F32.mk 0x7FC00000).bad) = true) ∧
    (let a := (coef false 95 1 50 id).dev; a.cwSel = (false, 95, 1, 50) ∧ a.stat false 95 2 = 0 ∧ a.stat false 95 1 ≠ 1 ∧ 50 < bankWords false ∧
      ((false || (50 : Nat) != 0) && (F32.mk 0x3F800000).bad) = false ∧ 95 < a.loop.bq.length) := by decide +kernel

/-- M7, with a frame of controller 5 on the bus beside one that waits. -/
def listenSt : State := st fun d => let d : Dev := d.set Reg.SYS_MODE.MODE 7
  { d with out := { d.out with can := [default, default, default, default, default,
      { (default : CanCtl) with bufs := [⟨.host 0, default, some 7, false, none, 0⟩, ⟨.host 1, default, none, false, none, 0⟩] }] } }

theorem witness_ListenOnlyInM7 : (∃ (a b : State), (a.dev.coreUp = true ∧ a.dev.host.causes = none ∧ a.dev.mode = 7) ∧
    (b.dev.coreUp = true ∧ b.dev.host.causes = none ∧ b.dev.mode ≠ 7)) ∧
    (listenSt.dev.coreUp = true ∧ listenSt.dev.host.causes = none ∧ listenSt.dev.mode = 7 ∧
      (listenSt.dev.can 5).bufs.map (fun b => b.sof) = [some 7, none]) :=
  ⟨witness_TimeSetInM7, rfl, rfl, by decide +kernel, rfl⟩

theorem witness_FreezeAndThaw : ∃ (a b : State),
    (a.dev.flag Reg.REC_STATUS.PROFILE = true ∧ a.dev.flag Reg.REC_STATUS.FROZEN = false ∧ a.dev.loop.due = [] ∧
      stagingBytes a.dev.recorder.staging + 52 ≤ stagingSize) ∧
    (b.dev.flag Reg.REC_STATUS.FROZEN = true ∧ b.dev.loop.due = [] ∧ stagingBytes b.dev.recorder.staging + 52 ≤ stagingSize) :=
  ⟨st fun d => d.setB Reg.REC_STATUS.PROFILE true, st fun d => d.setB Reg.REC_STATUS.FROZEN true,
    ⟨by decide +kernel, by decide +kernel, rfl, by decide +kernel⟩, by decide +kernel, rfl, by decide +kernel⟩

/-- The device with the origin's latitude at 90 degrees. -/
def pole : State := st fun d => d.setWord 0xA0044 0x40568000

theorem witness_OriginAndFilterReset : (pole.dev.mode ≠ 5 ∧ pole.dev.mode ≠ 6 ∧
      (F64.ofInt 89).lt (F64.mk (pole.dev.word 0xA0044 ++ pole.dev.word 0xA0040)).abs = true) ∧
    (s0.dev.mode ≠ 5 ∧ s0.dev.mode ≠ 6 ∧ (F64.ofInt 89).lt (F64.mk (s0.dev.word 0xA0044 ++ s0.dev.word 0xA0040)).abs = false) ∧
    (∃ s : State, s.dev.mode = 5 ∧ 4 ≤ s.dev.mode ∧ s.dev.mode ≤ 6) :=
  ⟨⟨by decide +kernel, by decide +kernel, by decide +kernel⟩, ⟨by decide +kernel, by decide +kernel, by decide +kernel⟩,
    st fun d => d.set Reg.SYS_MODE.MODE 5, by decide +kernel, by decide +kernel, by decide +kernel⟩

theorem witness_ArrestCleared : s0.dev.coreUp = true := rfl

theorem witness_ColdRestartDiscards : ∃ (a b : State), (a.dev.coreUp = true ∧ a.dev.host.causes = none ∧ a.dev.mode = 7) ∧
    (b.dev.coreUp = true ∧ b.dev.host.causes = none ∧ ¬ (b.dev.mode = 1 ∨ b.dev.mode = 7)) := witness_BiquadOpened

theorem witness_LadderRefused : ∃ s : State, s.dev.coreUp = true ∧ s.dev.host.causes = none ∧ 4 < s.dev.bist.level :=
  ⟨st fun d => { d with bist := { d.bist with level := 5 } }, rfl, rfl, by decide⟩

/-! ## Well-formedness: an ill-formed command for each check, refused; and the same commands in range -/

theorem test_ill_formed_1 : ([
    .taskFence 0 1024 false false default 0 0 default,
    .taskFence 0 0 false false (some ⟨0, [⟨0xEF, 0, [], 0, [], default⟩], []⟩) 0 0 default,
    .taskFence 0 0 false false (some ⟨0, [⟨0x100, 0, [], 0, [], default⟩], []⟩) 0 0 default,
    .taskFence 0 0 false false (some ⟨0, [], [(0x7F, List.replicate 16 0)]⟩) 0 0 default,
    .taskFence 0 0 false false (some ⟨0, [], [(0x100, List.replicate 16 0)]⟩) 0 0 default,
    .taskFence 0 0 false false (some ⟨0, [], [(0x80, List.replicate 12 0)]⟩) 0 0 default,
    .taskFence 0 0 false false (some ⟨0, [], [(0x80, List.replicate 1028 0)]⟩) 0 0 default,
    .taskFence 0 0 false false (some ⟨0, [], [(0x80, List.replicate 18 0)]⟩) 0 0 default,
    .operationIdForceRetire 0 256,
    .modeRequestSubmit 0 8 false false false 0 0,
    .modeRequestSubmit 0 0 false false false 256 0,
    .modeRequestSubmit 0 0 false false false 0 2,
    .thrusterLoopRun 0 96 default,
    .analogueOutputWrite 0 8 default default,
    .positionPidRun 0 16 default,
    .solverPress 0 8 default,
    .solverIteration 0 8 false default,
    .thrustCommandBuild 0 16 default default,
    .safetyEvaluation 0 [⟨8, 0, 0, 0, 0⟩],
    .safetyEvaluation 0 [⟨0, 0, 0, 0, 256⟩],
    .schedXinjGo 0 1024 0,
    .schedXinjGo 0 0 2,
    .scanJobStart 0 4 0 0,
    .scanJobStart 0 0 4 0,
    .scanJobStart 0 0 0 2,
    .scanJobComplete 0 [(1, 1), (0, 1)],
    .scanJobComplete 0 [(0, 1), (0, 1)],
    .scanJobComplete 0 [(0, 0)],
    .lineageLookup 0 256 0 0 0,
    .lineageLookup 0 0 256 0 0,
    .lineageLookup 0 0 0 256 0,
    .lineageLookup 0 0 0 0 2,
    .serialSentenceReceived 0 12 0 default false 0,
    .serialBinaryFrameReceived 0 12 0 [0] false 0,
    .serialFifoOverflow 0 ⟨12, 0⟩,
    .netDatagramReceived 0 4 0 default,
    .canFrameReceived 0 6 default false,
    .slotTimeout 0 64,
    .afeSettlingEnd 0 16,
    .pulseEdge 0 8 false 0] : List Instr).all (fun c => !c.wf) = true := by decide +kernel

theorem test_ill_formed_2 : ([
    .gnssEpochDrop 0 3,
    .antBiasRetry 0 2,
    .gnssCorrFifoWrite 0 default 2,
    .spoofAck 0 2,
    .coldRestart 0 2,
    .timeSourceQualified 0 3 default,
    .timeSourceLost 0 3,
    .timeSet 0 2,
    .ptpSyncTransmit 0 4 0 false default,
    .ptpSyncTransmit 0 0 2 false default,
    .launchFrameAtHead 0 4 0 0 false,
    .launchFrameAtHead 0 0 8 0 false,
    .launchTimeReached 0 4 0 false,
    .launchTimeReached 0 0 8 false,
    .filterReset 0 2,
    .originSet 0 2,
    .anchorSet 0 28,
    .readmitTimeExpiry 0 28,
    .suspectMaxExpiry 0 28,
    .trackCoastTimer 0 8,
    .wsDiscard 0 2,
    .biquadOpen 0 96 false 0,
    .biquadOpen 0 0 false 2,
    .pidOpen 0 16 false 0,
    .pidOpen 0 0 false 2,
    .coefficientWrite 0 default 2,
    .bankRequest 0 false 0 2 0,
    .bankRequest 0 false 0 0 4096,
    .bankRequest 0 false 96 0 0,
    .bankRequest 0 true 16 0 0,
    .pathCommit 0 64 false false,
    .traceArm 0 8,
    .traceForce 0 8,
    .traceStop 0 8,
    .canRecover 0 6,
    .canBusoffRecoveryComplete 0 6,
    .canListen 0 6 false 0,
    .canListen 0 0 false 2,
    .hostTxGo 0 2 0 0 0,
    .hostTxGo 0 0 6 0 0] : List Instr).all (fun c => !c.wf) = true := by decide +kernel

theorem test_ill_formed_3 : ([
    .hostTxGo 0 0 0 16 0,
    .hostTxGo 0 0 0 0 16,
    .hostTxCancel 0 6 0 default,
    .hostTxCancel 0 0 16 default,
    .canWake 0 6 0 default default,
    .feedbackTimeout 0 16,
    .coruzFrameReceived 0 2 default,
    .coruzLinkTimeout 0 2,
    .coruzBlockLockLoss 0 2,
    .drillGo 0 2,
    .safeInputChange 0 8 false false,
    .safeInputDiscrepancy 0 8,
    .inhReset 0 2,
    .outReset 0 2 0,
    .loadtest 0 2,
    .instSel 0 8 0,
    .instSel 0 0 2,
    .safeOutTestPulse 0 8 false false false,
    .sealSwitchRead 0 (4096, 0) default,
    .sealSwitchRead 0 (0, 4096) default,
    .sealSwitchRead 0 default (4096, 0),
    .sealSwitchRead 0 default (0, 4096),
    .safeEscalation 0 8,
    .testDeferFault 0 8,
    .recordReadGo 0 2,
    .freeze 0 2,
    .clearSubmit 0 false 2,
    .clearKeyEnrol 0 2,
    .nandFormat 0 2 default,
    .scrubNow 0 2,
    .rackingGo 0 8 0 false 0,
    .rackingGo 0 0 8 false 0,
    .rackingGo 0 0 0 false 2,
    .acceptanceSubmit 0 2,
    .acckeyEnrol 0 4 0,
    .acckeyEnrol 0 0 2,
    .acckeyRevoke 0 4 0,
    .acckeyRevoke 0 0 2,
    .paramDataWrite 0 default 2,
    .paramCommitAll 0 2] : List Instr).all (fun c => !c.wf) = true := by decide +kernel

theorem test_ill_formed_4 : ([
    .paramCommitIndex 0 65536 0,
    .paramCommitIndex 0 0 2,
    .paramClearMaskBit 0 65536 0,
    .paramClearMaskBit 0 0 2,
    .paramClearAllMask 0 2,
    .paramBulkSnap 0 2,
    .paramBulkApply 0 2,
    .refLoss 0 2,
    .refQualified 0 2 default,
    .domainPowerFail 0 7 false default,
    .deviceReset 0 default 2 default,
    .xpulseBurst 0 64 0 default 0,
    .xpulseBurst 0 0 256 default 0,
    .xpulseBurst 0 0 0 default 2,
    .forceRefSwitch 0 2,
    .shutdownRequest 0 default 2 default,
    .recoverRung1 0 2,
    .recoverBlockReset 0 256 0,
    .recoverBlockReset 0 0 2,
    .recoverDeviceReset 0 256 0 default,
    .recoverDeviceReset 0 0 2 default,
    .recoverPowerCycle 0 256 0 0,
    .recoverPowerCycle 0 0 0 2,
    .scanEnable 0 2,
    .expertKeyWrite 0 default 2,
    .bar2Write 0 2 0 [0],
    .bar2Write 0 0 0 [],
    .bar2Write 0 0 67108864 [0],
    .bar2Write 0 0 0 (List.replicate 257 0),
    .spiWriteBar0 0 0 [0] 65536 default,
    .spiWriteBar0 0 0 [] 0 default,
    .spiWriteBar0 0 0 (List.replicate 65 0) 0 default,
    .spiReadBar0 0 0 0,
    .spiReadBar0 0 0 65,
    .spiWriteBar2 0 0 [0] 65536,
    .spiWriteBar2 0 0 [] 0,
    .spiWriteBar2 0 0 (List.replicate 65 0) 0,
    .spiReadBar2 0 0 0,
    .spiReadBar2 0 0 65,
    .evtStatusClear 0 3 default] : List Instr).all (fun c => !c.wf) = true := by decide +kernel

theorem test_ill_formed_5 : ([
    .evtForce 0 128 0,
    .evtForce 0 0 2,
    .msixSendEnable 0 3 0 false 0,
    .msixSendEnable 0 0 4 false 0,
    .msixSendEnable 0 0 0 false 16,
    .ethLinkChange 0 4 false,
    .registerWrite 0 2 0 default default,
    .registerWrite 0 0 2 default default,
    .registerWrite 0 0 16777216 default default,
    .latchedLowWordRead 0 2,
    .latchedLowWordRead 0 16777216,
    .readClearRegisterRead 0 2,
    .readClearRegisterRead 0 16777216,
    .canRxError 0 6 0 0 false] : List Instr).all (fun c => !c.wf) = true := by decide +kernel

theorem test_well_formed_1 : ([
    .taskFence 0 0 false false (some ⟨0, [⟨0xFF, 0, [], 0, [], default⟩], [(0xFF, List.replicate 1024 0)]⟩) 0 0 default,
    .taskFence 0 0 false false default 0 0 default,
    .operationIdForceRetire 0 0,
    .modeRequestSubmit 0 0 false false false 0 0,
    .thrusterLoopRun 0 0 default,
    .analogueOutputWrite 0 0 default default,
    .positionPidRun 0 0 default,
    .solverPress 0 0 default,
    .solverIteration 0 0 false default,
    .thrustCommandBuild 0 0 default default,
    .safetyEvaluation 0 [⟨7, 0, 0, 0, 255⟩],
    .safetyEvaluation 0 default,
    .schedXinjGo 0 0 0,
    .scanJobStart 0 0 0 0,
    .scanJobComplete 0 [(0, 1), (1, 1)],
    .scanJobComplete 0 default,
    .lineageLookup 0 0 0 0 0,
    .serialSentenceReceived 0 0 0 default false 0,
    .serialBinaryFrameReceived 0 0 0 [0] false 0,
    .serialFifoOverflow 0 default,
    .netDatagramReceived 0 0 0 default,
    .canFrameReceived 0 0 default false,
    .slotTimeout 0 0,
    .afeSettlingEnd 0 0,
    .pulseEdge 0 0 false 0,
    .gnssEpochDrop 0 0,
    .antBiasRetry 0 0,
    .gnssCorrFifoWrite 0 default 0,
    .spoofAck 0 0,
    .coldRestart 0 0,
    .timeSourceQualified 0 0 default,
    .timeSourceLost 0 0,
    .timeSet 0 0,
    .ptpSyncTransmit 0 0 0 false default,
    .launchFrameAtHead 0 0 0 0 false,
    .launchTimeReached 0 0 0 false,
    .filterReset 0 0,
    .originSet 0 0,
    .anchorSet 0 0,
    .readmitTimeExpiry 0 0] : List Instr).all Instr.wf = true := by decide +kernel

theorem test_well_formed_2 : ([
    .suspectMaxExpiry 0 0,
    .trackCoastTimer 0 0,
    .wsDiscard 0 0,
    .biquadOpen 0 0 false 0,
    .pidOpen 0 0 false 0,
    .coefficientWrite 0 default 0,
    .bankRequest 0 false 0 0 0,
    .pathCommit 0 0 false false,
    .traceArm 0 0,
    .traceForce 0 0,
    .traceStop 0 0,
    .canRecover 0 0,
    .canBusoffRecoveryComplete 0 0,
    .canListen 0 0 false 0,
    .hostTxGo 0 0 0 0 0,
    .hostTxCancel 0 0 0 default,
    .canWake 0 0 0 default default,
    .feedbackTimeout 0 0,
    .coruzFrameReceived 0 0 default,
    .coruzLinkTimeout 0 0,
    .coruzBlockLockLoss 0 0,
    .drillGo 0 0,
    .safeInputChange 0 0 false false,
    .safeInputDiscrepancy 0 0,
    .inhReset 0 0,
    .outReset 0 0 0,
    .loadtest 0 0,
    .instSel 0 0 0,
    .safeOutTestPulse 0 0 false false false,
    .sealSwitchRead 0 (4095, 4095) (4095, 4095),
    .sealSwitchRead 0 default default,
    .safeEscalation 0 0,
    .testDeferFault 0 0,
    .recordReadGo 0 0,
    .freeze 0 0,
    .clearSubmit 0 false 0,
    .clearKeyEnrol 0 0,
    .nandFormat 0 0 default,
    .scrubNow 0 0,
    .rackingGo 0 0 0 false 0] : List Instr).all Instr.wf = true := by decide +kernel

theorem test_well_formed_3 : ([
    .acceptanceSubmit 0 0,
    .acckeyEnrol 0 0 0,
    .acckeyRevoke 0 0 0,
    .paramDataWrite 0 default 0,
    .paramCommitAll 0 0,
    .paramCommitIndex 0 0 0,
    .paramClearMaskBit 0 0 0,
    .paramClearAllMask 0 0,
    .paramBulkSnap 0 0,
    .paramBulkApply 0 0,
    .refLoss 0 0,
    .refQualified 0 0 default,
    .domainPowerFail 0 0 false default,
    .deviceReset 0 default 0 default,
    .xpulseBurst 0 0 0 default 0,
    .forceRefSwitch 0 0,
    .shutdownRequest 0 default 0 default,
    .recoverRung1 0 0,
    .recoverBlockReset 0 0 0,
    .recoverDeviceReset 0 0 0 default,
    .recoverPowerCycle 0 0 0 0,
    .scanEnable 0 0,
    .expertKeyWrite 0 default 0,
    .bar2Write 0 0 0 [0],
    .spiWriteBar0 0 0 [0] 0 default,
    .spiReadBar0 0 0 1,
    .spiWriteBar2 0 0 [0] 0,
    .spiReadBar2 0 0 1,
    .evtStatusClear 0 0 default,
    .evtForce 0 0 0,
    .msixSendEnable 0 0 0 false 0,
    .ethLinkChange 0 0 false,
    .registerWrite 0 0 0 default default,
    .latchedLowWordRead 0 0,
    .readClearRegisterRead 0 0,
    .canRxError 0 0 0 0 false] : List Instr).all Instr.wf = true := by decide +kernel

/-! ## Single steps, with results taken from the rules -/

/-- The state after a command, the state itself where none follows. -/
def ran (c : Instr) (s : State) : State :=
  match step { s with pending := [c] } with
  | .next t => t
  | _ => s

/-- R119 gives this value. -/
theorem test_crc32c : crc32c ([0x31, 0x32, 0x33, 0x34, 0x35, 0x36, 0x37, 0x38, 0x39] : List Byte) = 0xE3069283 := by decide +kernel

/-- The table of commands gives no row bits. -/
theorem test_no_word_spells_a_command : decodeTableWord 32 0x14 = none := rfl

/-- R505: the two keys, 1 ms less 1 ns apart, unlock. -/
theorem test_unlock_inside : (ran (.expertKeyWrite 1000004 0xC31E 0) (ran (.expertKeyWrite 5 0xB45C 0) s0)).dev.flag Reg.SYS_EXPERT.UNLOCKED = true := by
  decide +kernel

/-- R505: exactly 1 ms apart they do not. -/
theorem test_unlock_outside : (ran (.expertKeyWrite 1000005 0xC31E 0) (ran (.expertKeyWrite 5 0xB45C 0) s0)).dev.flag Reg.SYS_EXPERT.UNLOCKED = false := by
  decide +kernel

/-- R507: a write to an address with no register has cause 7. -/
theorem test_no_register : (ran (.registerWrite 0 1 0x1FC 7 default) s0).dev.get Reg.HOST_WERR.CAUSE = 7 := by decide +kernel

/-- R9, R507: a 1 in a reserved bit is dropped with cause 5, and the other fields are written. -/
theorem test_reserved_bit : (let d := (ran (.registerWrite 0 0 0x170000 0x80000400 default) s0).dev
    (d.get Reg.HOST_WERR.CAUSE, d.get Reg.PARAM_INDEX.INDEX)) = (5, 0x400) := by decide +kernel

/-- R36, R507: a request in M1 waits, and a second one before the boundary is reported as busy. -/
theorem test_mode_request_busy : (let d := (ran (.modeRequestSubmit 2 3 false false false 8 0) (ran (.modeRequestSubmit 1 2 false false false 7 0)
      (st fun d => d.set Reg.SYS_MODE.MODE 1))).dev
    (d.get Reg.SYS_MODEREQ.TARGET, d.get Reg.SYS_MODEREQ.SEQ, d.get Reg.HOST_WERR.CAUSE)) = (2, 7, 9) := by decide +kernel

/-- R510: a link that comes up is told of by E94. -/
theorem test_link_up : eventSet 94 (ran (.ethLinkChange 0 3 true) s0).dev = true := by decide +kernel

/-- R22: SCHED_FRAME counts minor frames of 1 ms modulo 65,536. -/
theorem test_frame_number : ((st fun d => d.advance 65537000000).dev.hostWord 0x30004).toNat % 65536 = 1 := by decide +kernel

/-- R8: the high word that the low word's read latched is answered although time has moved on. -/
theorem test_latched_high : (ran (.latchedLowWordRead 4294967296 0x9000C) (ran (.latchedLowWordRead 4294967295 0x90008) s0)).dev.host.readOut = 0 := by
  decide +kernel

/-- R89: slot F holds a set at reset. -/
theorem test_factory_slot : (s0.dev.img.sets.getD 0 none).isSome = true := rfl

/-- RFC 8032, 7.1, test 1: the signature of the empty message verifies. -/
theorem test_ed25519 : ed25519 (beBytes 32 0xd75a980182b10ab7d54bfed3c964073a0ee172f3daa62325af021a68f707511a) []
    (beBytes 32 0xe5564300c360ac729086e2cc806e828a84877f1eb8e5d974d873e06522490155
      ++ beBytes 32 0x5fb8821590a33bacc61e39701cf9b46bd25bf5f0595bbe24655141438e7a100b) = true := by
  decide +kernel

end Sys2Proof.Tests
end

section
/-! The state at reset, and what the host reads: reserved bits, and the high word of a pair (R8, R9, R89). -/
namespace Sys2Proof.Machine
open Sys2Proof Sys2Proof.Safety

/-- An empty register file reads the reset word at every address (R12). -/
@[simp] theorem RegFile.read_nil (a : Nat) : RegFile.read [] a = regReset a := rfl

/-- Settles O3: nothing differs from its reset word at reset, and slot F of the cellar holds the factory set. -/
theorem resetState : Obligations.ResetState :=
  ⟨rfl, rfl, rfl, RegFile.read_nil⟩

/-- What the host reads of a register has no bit outside the register's fields (R9). -/
theorem hostWord_and_known (d : Dev) (a : Nat) (r : RegRow) (hr : regRow a = some r) : d.hostWord a &&& r.known = d.hostWord a := by
  unfold Dev.hostWord
  rw [hr]
  split
  · exact BitVec.zero_and
  · rw [BitVec.and_assoc, BitVec.and_self]

/-- Settles O21: every read is masked with the bits of the register's fields. -/
theorem reservedBitsReadZero : Obligations.ReservedBitsReadZero := by
  intro d a i r hr hi
  rw [← hostWord_and_known d a r hr, BitVec.getLsbD_and, hi, Bool.and_false]

/-- The read of a low word holds its high word for the read that follows (R8). -/
theorem lookup_latched_hostRead (d : Dev) (a b : Nat) (hl : latchedBy a = [b]) (h : lookup d.host.latched a = none) :
    lookup (d.hostRead a).host.latched b = some (d.hostWord b) := by
  obtain ⟨-, -, -, latched⟩ := hostRead_readOut d a h
  rw [latched, hl]
  simp [lookup]

/-- Settles O19: the high word waits in the latch, which no passing of time changes, until it is read. -/
theorem lowWordLatchesHigh : Obligations.LowWordLatchesHigh := by
  intro s t t2 a d hd hu _ hl hn
  obtain ⟨readOut, img, clk, -⟩ := hostRead_readOut d a hn
  have hu2 : ((d.hostRead a).advance t2).coreUp = true := by
    rw [Dev.advance_coreUp, coreUp_of_clk clk, hu]
  have hr := hostRead_latched ((d.hostRead a).advance t2) (a + 4) (d.hostWord (a + 4)) (lookup_latched_hostRead d a (a + 4) hl hn)
  exact ⟨d.hostRead a, run_host s t _ d _ hd (by simp [hu]) rfl img, readOut, _,
    run_host _ t2 _ _ _ rfl (by simp [hu2]) hr rfl, rfl⟩

end Sys2Proof.Machine
end

section
/-! How a command of the host answers where nothing refuses it (R8, R11, R500 to R512): one law for each command. -/
namespace Sys2Proof.Machine
open Sys2Proof Sys2Proof.Safety

/-- A command that needs the CORE domain, while it is up, answers its effect, with what no command may undo kept. -/
theorem run_up_after (s : State) (t : Nat) (f : Dev → Dev) (d e : Dev) (hd : d = s.dev.advance t) (hu : d.coreUp = true) (he : f d = e) :
    s.run (fun x => (x.advance t).whenUp f) = .next (after s e) := by
  subst hd he
  rw [State.run_eq, State.apply, Dev.whenUp, if_pos hu]
  rfl

/-- A command that the boot loader serves as well answers its effect, with what no command may undo kept. -/
theorem run_host_after (s : State) (t : Nat) (f : Dev → Dev) (d e : Dev) (hd : d = s.dev.advance t)
    (hu : (d.coreUp || d.clk.phase = .halted) = true) (he : f d = e) :
    s.run (fun x => (x.advance t).whenHost f) = .next (after s e) :=
  run_hostKeep s t f d _ hd hu (by rw [he, hd]; rfl)

/-- While the device is unlocked, a write to an expert page acts and restarts the idle time (R506). -/
theorem expert_unlocked (d : Dev) (port addr : Nat) (f : Dev → Dev) (h : d.flag Reg.SYS_EXPERT.UNLOCKED = true) :
    d.expert port addr f = f d.opened := if_pos h

/-- In M7 an event that the manual lets be forced is signalled and recorded with the forced mark (R512). -/
theorem forceEvent_m7 (d : Dev) (n port : Nat) (hm : d.mode = 7) (hn : n ≤ 95) (h31 : n ≠ 31) :
    d.forceEvent n port = Dev.flushTrace 24 ((d.signal n).record (evtType n) (recordBody n (evtBlock n) 0x8000 []) none) :=
  if_neg (by simp [hm, h31]; omega)

/-- Where no byte of a write into BAR2 is refused, every byte is stored and nothing is reported (R501). -/
theorem bar2HostWrite_free (d : Dev) (a : Nat) (bs : List Byte) (port : Nat) (h : ∀ k < bs.length, d.bar2Cause (a + k) = 0) :
    d.bar2HostWrite a bs port = ((List.range bs.length).zip bs).foldl (fun n e => n.bar2Write (a + e.1) [e.2]) d := by
  have free : ∀ e ∈ (List.range bs.length).zip bs, d.bar2Cause (a + e.1) = 0 := fun e he =>
    h e.1 (List.mem_range.mp (List.of_mem_zip he).1)
  have causes : (((List.range bs.length).zip bs).map fun e => d.bar2Cause (a + e.1)).filter (· != 0) = [] := by
    simpa only [List.filter_eq_nil_iff, List.forall_mem_map, bne_iff_ne, ne_eq, not_not] using free
  unfold Dev.bar2HostWrite
  simp only [causes]
  exact List.foldl_ext _ _ d fun n e he => if_pos (free e he)

/-- An SPI write of 1 to 64 words with the right CRC takes effect (R502). -/
theorem spiWrite_rightCrc (d : Dev) (command addr : Nat) (words : List Word) (check : Nat) (f : Dev → Dev)
    (hn : spiCount words.length = true) (hc : (crc16 (spiHead command addr words)).toNat = check) :
    d.spiWrite command addr words check f = f { d with host := { d.host with spiOk := true } } := by
  rw [Dev.spiWrite, hn, if_pos hc]
  rfl

/-- A write to a register that answers and has a field that a write can change is carried out (R11, R504). -/
theorem hostWrite_served (d : Dev) (a : Nat) (w : Word) (port : Nat) (x : WriteIn) (r : RegRow) (hs : d.serves a = true)
    (ha : a ≠ 0x1C) (hr : regRow a = some r) (hw : r.fields.any FieldRow.writable = true) :
    d.hostWrite a w port x = d.writeReg r a w port x := by
  rw [Dev.hostWrite, hs, if_neg (by decide), if_neg ha, hr]
  exact if_pos hw

section
variable {s : State} {t : Nat} {d : Dev} (hd : d = s.dev.advance t)
include hd

/-! ## Commands that need the CORE domain -/

section
variable (hu : d.coreUp = true)
include hu

theorem exec_expertKeyWrite (w : Word) (port : Nat) :
    exec (.expertKeyWrite t w port) s = .next (after s (d.keyWrite w (port % 2))) :=
  run_up_after s t _ d _ hd hu rfl

theorem exec_expertIdleLapse (hi : d.host.expertAt + 1800000000000 ≤ d.sched.st) (hx : d.flag Reg.SYS_EXPERT.UNLOCKED = true) :
    exec (.expertIdleLapse t) s
      = .next (after s ((d.setB Reg.SYS_EXPERT.UNLOCKED false).note 0x01 0x00 (0x100 + 1) [d.word 0x1C])) :=
  run_up_after s t _ d _ hd hu ((if_pos hi).trans (if_pos hx))

theorem exec_evtStatusClear (b : Nat) (w : Word) (hb : b < 3) :
    exec (.evtStatusClear t b w) s = .next (after s (d.evtClear b w)) :=
  run_up_after s t _ d _ hd hu (if_pos hb)

theorem exec_evtForce (n port : Nat) (hx : d.flag Reg.SYS_EXPERT.UNLOCKED = true) (m : Dev)
    (hm : m = d.opened.set Reg.EVT_FORCE.EVENT n) (h7 : m.mode = 7) (hn : n % 128 ≤ 95) (h31 : n % 128 ≠ 31) :
    exec (.evtForce t n port) s = .next (after s (Dev.flushTrace 24
      ((m.signal (n % 128)).record (evtType (n % 128)) (recordBody (n % 128) (evtBlock (n % 128)) 0x8000 []) none))) := by
  subst hm
  exact run_up_after s t _ d _ hd hu ((expert_unlocked d port _ _ hx).trans (forceEvent_m7 _ _ port h7 hn h31))

theorem exec_ethLinkChange (port : Nat) (up : Bool) (hp : port < 4) (hc : d.bitAt Reg.NET_LINK.UP port ≠ up) :
    exec (.ethLinkChange t port up) s = .next (after s ((d.setBitAt Reg.NET_LINK.UP port up).raise 94 [0x160000])) :=
  run_up_after s t _ d _ hd hu (if_pos (by simp [hp, hc]))

end

/-! ## Commands that the boot loader serves as well -/

section
variable (hu : (d.coreUp || d.clk.phase = .halted) = true)
include hu

theorem exec_bar0Malformed :
    exec (.bar0Malformed t) s = .next (after s ((d.inc Reg.HOST_PCIE_ERR.BAR0_FORM).raise 95 [0x150000, 0x150004])) :=
  run_host_after s t _ d _ hd hu rfl

theorem exec_bar2Write (port addr : Nat) (bytes : List Byte) (h : ∀ k < bytes.length, d.bar2Cause (addr + k) = 0) :
    exec (.bar2Write t port addr bytes) s
      = .next (after s (((List.range bytes.length).zip bytes).foldl (fun n e => n.bar2Write (addr + e.1) [e.2]) d)) :=
  run_host_after s t _ d _ hd hu (bar2HostWrite_free d addr bytes (port % 2) h)

theorem exec_spiWriteBar0 (addr : Nat) (words : List Word) (check : Nat) (x : WriteIn) (hn : spiCount words.length = true)
    (hc : (crc16 (spiHead 0x02 addr words)).toNat = check) (ha : addr % 4 = 0) :
    exec (.spiWriteBar0 t addr words check x) s
      = .next (after s (({ d with host := { d.host with spiOk := true } } : Dev).spiBurst addr words x)) :=
  run_host_after s t _ d _ hd hu ((spiWrite_rightCrc d _ addr words check _ hn hc).trans (if_pos ha))

theorem exec_spiReadBar0 (addr n : Nat) (hn : spiCount n = true) :
    exec (.spiReadBar0 t addr n) s = .next (after s (d.spiRead0 addr n)) :=
  run_host_after s t _ d _ hd hu (if_pos hn)

theorem exec_spiWriteBar2 (addr : Nat) (words : List Word) (check : Nat) (hn : spiCount words.length = true)
    (hc : (crc16 (spiHead 0x12 addr words)).toNat = check) :
    exec (.spiWriteBar2 t addr words check) s = .next (after s (({ d with host := { d.host with spiOk := true } } : Dev).bar2HostWrite
      addr (words.flatMap fun w => leBytes 4 w.toNat) 1)) :=
  run_host_after s t _ d _ hd hu (spiWrite_rightCrc d _ addr words check _ hn hc)

theorem exec_spiReadBar2 (addr n : Nat) (hn : spiCount n = true) :
    exec (.spiReadBar2 t addr n) s = .next (after s (d.spiReturn ((List.range (4 * n)).map fun k => d.bar2Read (addr + k)))) :=
  run_host_after s t _ d _ hd hu (if_pos hn)

theorem exec_spiStatus :
    exec (.spiStatus t) s
      = .next (after s ({ d with host := { d.host with spiOut := leBytes 1 d.spiByte, spiCrc := false } } : Dev)) :=
  run_host_after s t _ d _ hd hu rfl

theorem exec_msixSendEnable (width speed : Nat) (master : Bool) (masks : Nat) :
    exec (.msixSendEnable t width speed master masks) s = .next (after s (d.sendEnable width speed master masks)) :=
  run_host_after s t _ d _ hd hu rfl

theorem exec_pcieError (uncorrectable : Bool) :
    exec (.pcieError t uncorrectable) s = .next (after s
      ((d.inc (if uncorrectable then Reg.HOST_PCIE_ERR.UNCORR else Reg.HOST_PCIE_ERR.CORR)).raise 95 [0x150000, 0x150004])) :=
  run_host_after s t _ d _ hd hu rfl

theorem exec_pcieLinkLoss :
    exec (.pcieLinkLoss t) s = .next (after s
      (((d.setB Reg.HOST_STATUS.LINK_UP false).set Reg.HOST_STATUS.WIDTH 0).set Reg.HOST_STATUS.SPEED 0)) :=
  run_host_after s t _ d _ hd hu rfl

theorem exec_registerWrite (port addr : Nat) (w : Word) (x : WriteIn) (r : RegRow) (ha : addr % 4 = 0) (hs : d.serves addr = true)
    (hk : addr ≠ 0x1C) (hr : regRow addr = some r) (hw : r.fields.any FieldRow.writable = true) :
    exec (.registerWrite t port addr w x) s = .next (after s (d.writeReg r addr w (port % 2) x)) :=
  run_host_after s t _ d _ hd hu ((if_pos ha).trans (hostWrite_served d addr w (port % 2) x r hs hk hr hw))

theorem exec_latchedLowWordRead (addr : Nat) : exec (.latchedLowWordRead t addr) s = .next (after s (d.hostRead addr)) :=
  run_host_after s t _ d _ hd hu rfl

theorem exec_readClearRegisterRead (addr : Nat) : exec (.readClearRegisterRead t addr) s = .next (after s (d.hostRead addr)) :=
  run_host_after s t _ d _ hd hu rfl

end
end

/-- Settles O59, by the law of each command. -/
theorem hostCommandsComplete : Obligations.HostCommandsComplete :=
  ⟨fun _ _ _ w port hd hu => exec_expertKeyWrite hd hu w port,
   fun _ _ _ hd hu => exec_expertIdleLapse hd hu,
   fun _ _ _ hd hu => exec_bar0Malformed hd hu,
   fun _ _ _ port addr bytes hd hu => exec_bar2Write hd hu port addr bytes,
   fun _ _ _ addr words check x hd hu => exec_spiWriteBar0 hd hu addr words check x,
   fun _ _ _ addr n hd hu hn _ => exec_spiReadBar0 hd hu addr n hn,
   fun _ _ _ addr words check hd hu => exec_spiWriteBar2 hd hu addr words check,
   fun _ _ _ addr n hd hu => exec_spiReadBar2 hd hu addr n,
   fun _ _ _ hd hu => exec_spiStatus hd hu,
   fun _ _ _ b w _ hd hu hb hn => hn ▸ exec_evtStatusClear hd hu b w hb,
   fun _ _ _ n port m hd hu hx => exec_evtForce hd hu n port hx m,
   fun _ _ _ width speed master masks _ hd hu hn => hn ▸ exec_msixSendEnable hd hu width speed master masks,
   fun _ _ _ uncorrectable hd hu => exec_pcieError hd hu uncorrectable,
   fun _ _ _ hd hu => exec_pcieLinkLoss hd hu,
   fun _ _ _ port up hd hu => exec_ethLinkChange hd hu port up,
   fun _ _ _ port addr w x r hd hu ha hs hk hr => exec_registerWrite hd hu port addr w x r ha hs hk hr,
   fun _ _ _ addr hd hu => exec_latchedLowWordRead hd hu addr,
   fun _ _ _ addr hd hu => exec_readClearRegisterRead hd hu addr⟩

end Sys2Proof.Machine
end

section
/-! How the boundaries of minor frames, major frames and hyperframes answer (R22). -/
namespace Sys2Proof.Machine
open Sys2Proof Sys2Proof.Safety

/-- Where the SOF of a frame is noted, schedule time stands still. -/
@[simp] theorem Dev.noteSof_sched (d : Dev) (s : TxSof) : (d.noteSof s).sched = d.sched := by
  unfold Dev.noteSof
  split
  case h_1 => rfl
  case h_2 =>
    split
    · rfl
    · exact Dev.set_sched _ _ _

/-- Noting the SOFs up to now leaves it to schedule time whether a boundary is reached. -/
@[simp] theorem Dev.noteSofs_sched (d : Dev) (sofs : List TxSof) : (d.noteSofs sofs).sched = d.sched := by
  induction sofs generalizing d with
  | nil => rfl
  | cons s sofs ih => exact (ih (d.noteSof s)).trans (d.noteSof_sched s)

section
variable {s : State} {t : Nat} {d : Dev} (hd : d = s.dev.advance t) (hu : d.coreUp = true)
include hd hu

theorem exec_minorFrameBoundary (ins : List AfeIn) (levels : Nat) (back : List (Bool × Bool)) (stall : Bool)
    (h : d.sched.st % 1000000 = 0) :
    exec (.minorFrameBoundary t ins levels back stall) s = .next (after s (d.minorFrame ins levels back stall).resample) :=
  run_up_after s t _ d _ hd hu (if_pos h)

/-- The SOFs up to now are noted before the boundary's work, and do not move schedule time off the boundary. -/
theorem exec_majorFrameBoundary (strap : Nat) (sofs : List TxSof) (h : d.sched.st % 10000000 = 0) :
    exec (.majorFrameBoundary t strap sofs) s = .next (after s ((d.noteSofs sofs).majorFrame strap).resample) :=
  have reached : (d.noteSofs sofs).sched.st % 10000000 = 0 := by rw [Dev.noteSofs_sched, h]
  run_up_after s t _ d _ hd hu (if_pos reached)

theorem exec_hyperframeBoundary (ddr sram : Nat) (h : d.sched.st % 100000000 = 0) :
    exec (.hyperframeBoundary t ddr sram) s = .next (after s (d.hyperFrame ddr sram).resample) :=
  run_up_after s t _ d _ hd hu (if_pos h)

end

/-- Settles O40, by the law of each boundary. A boundary answers so in M0 as well: what mode M0 leaves out is decided within its
work (`Dev.minorFrame`, `Dev.majorFrame`, `Dev.hyperFrame`), so the hypothesis on the mode is not used. -/
theorem frameBoundariesComplete : Obligations.FrameBoundariesComplete :=
  ⟨fun _ _ _ ins levels back stall hd hu _ => exec_minorFrameBoundary hd hu ins levels back stall,
   fun _ _ _ strap sofs hd hu _ => exec_majorFrameBoundary hd hu strap sofs,
   fun _ _ _ ddr sram hd hu _ => exec_hyperframeBoundary hd hu ddr sram⟩

end Sys2Proof.Machine
end

section
/-! How a step takes the queue, and how a mode request is taken or reported (R36, R507). -/
namespace Sys2Proof.Machine
open Sys2Proof Sys2Proof.Safety

/-! ## One step of the queue -/

theorem step_of_pending_nil (s : State) (h : s.pending = []) : step s = .next s := by
  unfold step
  rw [h]

theorem step_of_pending_cons (c : Instr) (s : State) (rest : List Instr) (h : s.pending = c :: rest) :
    step s = exec c { s with pending := rest } := by
  unfold step
  rw [h]

/-- Settles O1: a step looks at the front of the queue and at nothing else. -/
theorem stepTakesFront : Obligations.StepTakesFront :=
  ⟨fun c s => step_of_pending_cons c { s with pending := c :: s.pending } s.pending rfl, step_of_pending_nil⟩

/-! ## A word written whole, read by its fields -/

/-- A field of a register whose whole word is written as a number. -/
theorem Dev.get_setWord_ofNat (d : Dev) (x : Field) (v : Nat) (h : x.lo + x.width ≤ 32) :
    (d.setWord x.addr (BitVec.ofNat 32 v)).get x = v / 2 ^ x.lo % 2 ^ x.width := by
  rw [Dev.get_eq_word, Dev.word_setWord_same, getBits_ofNat _ _ _ h]

/-- A one-bit field of a register whose whole word is written as a number. -/
theorem Dev.flag_setWord_ofNat (d : Dev) (x : Field) (v : Nat) (b : Bool) (h : x.lo + x.width ≤ 32)
    (hb : v / 2 ^ x.lo % 2 ^ x.width = bit b) : (d.setWord x.addr (BitVec.ofNat 32 v)).flag x = b := by
  rw [Dev.flag, Dev.get_setWord_ofNat d x v h, hb, bit_ne]

/-! ## SYS_MODEREQ -/

/-- SYS_MODEREQ as the submitting write leaves it, as a number (R36): the request's fields and GO, and the outcome of the last one cleared. -/
def requestWord (target : Nat) (coupled track follow : Bool) (seq : Nat) : Nat :=
  target + 16 * bit coupled + 32 * bit track + 64 * bit follow + 256 * seq + 2147483648

section
variable (d : Dev) (target : Nat) (coupled track follow : Bool) (seq : Nat)

/-- Outside M0 a request is loaded where none is pending. -/
theorem requestWrite_idle (port : Nat) (hm : d.mode ≠ 0) (hg : d.flag Reg.SYS_MODEREQ.GO = false) :
    d.requestWrite target coupled track follow seq port
      = d.setWord 0x14 (BitVec.ofNat 32 (requestWord target coupled track follow seq)) :=
  (if_neg hm).trans (if_neg (by simp [hg]))

/-- Outside M0 a request is reported as busy while another is pending (R507, log 24). -/
theorem requestWrite_busy (port : Nat) (hm : d.mode ≠ 0) (hg : d.flag Reg.SYS_MODEREQ.GO = true) :
    d.requestWrite target coupled track follow seq port = d.reportWrite 9 port 0 0x14 false :=
  (if_neg hm).trans (if_pos hg)

/-- In every mode, M0 as well, a write of SYS_MODEREQ leaves the cellar. -/
theorem requestWrite_img (port : Nat) (hc : d.host.causes = none) :
    (d.requestWrite target coupled track follow seq port).img = d.img := by
  unfold Dev.requestWrite
  split
  · rfl
  · split
    · rw [(report_only d 9 port 0 0x14 false hc).2]
    · exact Dev.setWord_img _ _ _

/-- Every field of SYS_MODEREQ after the submitting write, and the frame: no other register changes (R36). -/
theorem setWord_requestWord (e : Dev) (ht : target < 8) (hs : seq < 256)
    (he : e = d.setWord 0x14 (BitVec.ofNat 32 (requestWord target coupled track follow seq))) :
    e.get Reg.SYS_MODEREQ.TARGET = target ∧ e.flag Reg.SYS_MODEREQ.COUPLED = coupled ∧
      e.flag Reg.SYS_MODEREQ.TRACK_TARGET = track ∧ e.flag Reg.SYS_MODEREQ.FOLLOW = follow ∧
      e.get Reg.SYS_MODEREQ.SEQ = seq ∧ e.get Reg.SYS_MODEREQ.REASON = 0 ∧
      e.flag Reg.SYS_MODEREQ.ACCEPTED = false ∧ e.flag Reg.SYS_MODEREQ.REFUSED = false ∧
      e.flag Reg.SYS_MODEREQ.GO = true ∧ RegsOnly [0x14] d e := by
  subst he
  have field (x : Field) (ha : x.addr = 0x14) (h : x.lo + x.width ≤ 32) :=
    ha ▸ Dev.get_setWord_ofNat d x (requestWord target coupled track follow seq) h
  have flag (x : Field) (b : Bool) (ha : x.addr = 0x14) (h : x.lo + x.width ≤ 32) :=
    ha ▸ Dev.flag_setWord_ofNat d x (requestWord target coupled track follow seq) b h
  refine ⟨(field _ rfl (by decide)).trans ?_, flag _ _ rfl (by decide) ?_, flag _ _ rfl (by decide) ?_, flag _ _ rfl (by decide) ?_,
    (field _ rfl (by decide)).trans ?_, (field _ rfl (by decide)).trans ?_, flag _ _ rfl (by decide) ?_, flag _ _ rfl (by decide) ?_,
    flag _ _ rfl (by decide) ?_, (RegsOnly.refl _ d).setWord _ _ (List.mem_singleton_self _)⟩
  all_goals
    have hc := bit_lt coupled
    have hk := bit_lt track
    have hf := bit_lt follow
    have bit_false : bit false = 0 := rfl
    have bit_true : bit true = 1 := rfl
    simp only [requestWord]
    omega

end

/-- While the CORE domain is up, a command that submits a request writes SYS_MODEREQ. -/
theorem exec_modeRequestSubmit {s : State} {t : Nat} {d : Dev} (hd : d = s.dev.advance t) (hu : d.coreUp = true)
    (hc : d.host.causes = none) (target : Nat) (coupled track follow : Bool) (seq port : Nat) (ht : target < 8) (hs : seq < 256) :
    exec (.modeRequestSubmit t target coupled track follow seq port) s
      = .next { s with dev := d.requestWrite target coupled track follow seq port } :=
  run_up s t _ d _ hd hu (by rw [Nat.mod_eq_of_lt ht, Nat.mod_eq_of_lt hs]) (requestWrite_img d target coupled track follow seq port hc)

/-- Settles O11: outside M0 the write loads the request where GO is 0, and is reported where GO is 1. -/
theorem modeRequestWrite : Obligations.ModeRequestWrite := by
  intro s t target coupled track follow seq port d hd hu hm hc ht hs hp
  refine ⟨d.requestWrite target coupled track follow seq port, exec_modeRequestSubmit hd hu hc target coupled track follow seq port ht hs,
    fun idle => ?_, fun busy => ?_⟩
  · exact setWord_requestWord d target coupled track follow seq _ ht hs (requestWrite_idle d target coupled track follow seq port hm idle)
  · rw [requestWrite_busy d target coupled track follow seq port hm busy]
    exact reported d 9 port 0 0x14 hc (by decide) hp (by decide) (by decide)

end Sys2Proof.Machine
end

section
/-! Frames one after another: what writes registers and what tells of events, taken together. -/
namespace Sys2Proof.Safety
open Sys2Proof Sys2Proof.Machine

theorem ToldOnly.mono {l m : List Nat} {a b : Dev} (h : ToldOnly l a b) (hm : ∀ x ∈ l, x ∈ m) : ToldOnly m a b :=
  ⟨fun x hx => h.1 x (fun k => hx (hm x k)), h.2⟩

theorem ToldOnly.trans {l : List Nat} {a b c : Dev} (h : ToldOnly l a b) (k : ToldOnly l b c) : ToldOnly l a c := by
  refine ⟨fun x hl ht => (k.1 x hl ht).trans (h.1 x hl ht), ?_⟩
  have grafts : graft b c = graft (graft a b) c := congrArg (fun x => graft x c) h.2
  exact k.2.trans grafts

theorem ToldOnly.get {l : List Nat} {a b : Dev} (h : ToldOnly l a b) (x : Field) (hl : x.addr ∉ l) (ht : x.addr ∉ tellRegs) :
    b.get x = a.get x := by
  rw [Dev.get_eq_word, Dev.get_eq_word, h.1 _ hl ht]

/-- Registers alone are written. -/
theorem RegsOnly.told {l : List Nat} {a b : Dev} (h : RegsOnly l a b) : ToldOnly l a b := (Told.refl b).after h

/-- The schedule beside its registers is not part of the frame. -/
theorem ToldOnly.withSched {l : List Nat} {a b : Dev} (h : ToldOnly l a b) (x : SchedState) :
    ToldOnly l { a with sched := x } { b with sched := x } :=
  ⟨h.1, congrArg (fun d : Dev => { d with sched := x }) h.2⟩

/-- Nor are the tasks in their slots. -/
theorem ToldOnly.withShots {l : List Nat} {a b : Dev} (h : ToldOnly l a b) (x : List (Nat × Shot)) :
    ToldOnly l { a with shots := x } { b with shots := x } :=
  ⟨h.1, congrArg (fun d : Dev => { d with shots := x }) h.2⟩

end Sys2Proof.Safety
end

section
/-! What a fence hit does (R71): its registers, the count for the canary, and E2. -/
namespace Sys2Proof.Machine
open Sys2Proof Sys2Proof.Safety

/-- The registers that a fence hit of a task writes. -/
def fenceRegs (task : Nat) : List Nat := [0x30000, 0x30014, 0x30018, 0x3001C, 0x3010C + 0x10 * task]

section
variable (d : Dev) (task kind resource : Nat) (ts : Word)

/-- What a fence hit shows in registers, before it counts for the canary and tells of itself. -/
def Dev.fenceShown : Dev :=
  ((((((d.set Reg.SCHED_FENCE_LAST.TASK task).set Reg.SCHED_FENCE_LAST.KIND kind).set Reg.SCHED_FENCE_LAST.RESOURCE resource).set
    Reg.SCHED_FENCE_TS.TS ts.toNat).inc Reg.SCHED_FENCE_CNT.COUNT).inc (Reg.SCHED_TASK.TASK_OBS.FENCE_HITS task)).setB
    Reg.SCHED_STATUS.FENCE_STICKY true

/-- The schedule after a fence hit: one hit more in this hyperframe, judged against the threshold of the canary. -/
def Dev.fenceCounted : SchedState := { d.sched with
  hyperHits := d.sched.hyperHits + 1
  hitsFault := d.sched.hitsFault || d.param P.SCHED.FENCE_PERSIST ≤ d.sched.hyperHits + 1 }

theorem fenceHit_eq : d.fenceHit task kind resource ts
    = ({ d.fenceShown task kind resource ts with sched := d.fenceCounted } : Dev).raise 2 [0x30014, 0x30018] := rfl

/-- A fence hit tells of what it has shown and counted. -/
theorem fenceHit_told : Told { d.fenceShown task kind resource ts with sched := d.fenceCounted } (d.fenceHit task kind resource ts) := by
  rw [fenceHit_eq]
  exact (Told.refl _).raise 2 _ (by decide)

theorem fenceShown_only : RegsOnly (fenceRegs task) d (d.fenceShown task kind resource ts) :=
  (((((((RegsOnly.refl _ d).set _ _ (by simp [fenceRegs])).set _ _ (by simp [fenceRegs])).set _ _ (by simp [fenceRegs])).set _ _
    (by simp [fenceRegs])).set _ _ (by simp [fenceRegs])).set _ _ (by simp [fenceRegs])).setB _ _ (by simp [fenceRegs])

theorem fenceHit_sched : (d.fenceHit task kind resource ts).sched = d.fenceCounted := (fenceHit_told d task kind resource ts).sched

/-- A fence hit changes its registers, the counts of the hyperframe, and what tells of it. -/
theorem fenceHit_only : ToldOnly (fenceRegs task) { d with sched := d.fenceCounted } (d.fenceHit task kind resource ts) :=
  ((fenceShown_only d task kind resource ts).told.withSched d.fenceCounted).trans
    ((fenceHit_told d task kind resource ts).only.mono (by simp))

theorem fenceHit_event : eventSet 2 (d.fenceHit task kind resource ts) = true := by
  rw [fenceHit_eq]
  exact eventSet_raise _ 2 _ (by decide)

/-- SCHED_FENCE_LAST names the kind of the last hit. -/
theorem fenceHit_kind (hk : kind < 16) : (d.fenceHit task kind resource ts).get Reg.SCHED_FENCE_LAST.KIND = kind := by
  have hits : Reg.SCHED_FENCE_LAST.KIND.addr ≠ (Reg.SCHED_TASK.TASK_OBS.FENCE_HITS task).addr := by dsimp only; omega
  calc (d.fenceHit task kind resource ts).get Reg.SCHED_FENCE_LAST.KIND
      = (d.fenceShown task kind resource ts).get Reg.SCHED_FENCE_LAST.KIND :=
        (fenceHit_told d task kind resource ts).get _ (by decide)
    _ = (((d.set Reg.SCHED_FENCE_LAST.TASK task).set Reg.SCHED_FENCE_LAST.KIND kind).set Reg.SCHED_FENCE_LAST.RESOURCE resource).get
          Reg.SCHED_FENCE_LAST.KIND := by
        rw [Dev.fenceShown, Dev.setB, Dev.get_set_other _ _ _ _ (by decide), Dev.inc, Dev.get_set_other _ _ _ _ hits, Dev.inc,
          Dev.get_set_other _ _ _ _ (by decide), Dev.get_set_other _ _ _ _ (by decide)]
    _ = kind := by
        rw [Dev.get_set_apart _ _ _ _ (by rfl) (by decide) (by decide), Dev.get_set_same' _ _ _ (by decide) hk]

/-- A fence hit leaves a flag of SCHED_STATUS other than its own. -/
theorem fenceHit_status (x : Field) (ha : x.addr = 0x30000) (hw : x.lo + x.width ≤ 32) (hd : x.lo + x.width ≤ 3 ∨ 4 ≤ x.lo) :
    (d.fenceHit task kind resource ts).flag x = d.flag x := by
  have hits : x.addr ≠ (Reg.SCHED_TASK.TASK_OBS.FENCE_HITS task).addr := by rw [ha]; dsimp only; omega
  have last : x.addr ≠ 0x30014 := by rw [ha]; decide
  rw [(fenceHit_told d task kind resource ts).flag x (by rw [ha]; decide)]
  show (d.fenceShown task kind resource ts).flag x = d.flag x
  rw [Dev.fenceShown, Dev.setB, Dev.flag_set_apart _ _ _ _ ha hw hd, Dev.inc, Dev.flag_set_other _ _ _ _ hits, Dev.inc,
    Dev.flag_set_other _ _ _ _ (by rw [ha]; decide), Dev.flag_set_other _ _ _ _ (by rw [ha]; decide), Dev.flag_set_other _ _ _ _ last,
    Dev.flag_set_other _ _ _ _ last, Dev.flag_set_other _ _ _ _ last]

end

end Sys2Proof.Machine
end

section
/-! A forced retirement (R73): the data held under the id go, the retirement is counted and shown, and a fence hit of kind 1 follows. -/
namespace Sys2Proof.Machine
open Sys2Proof Sys2Proof.Safety

/-- The retirement of one id in flight takes it out of flight and shows the pool (R25). -/
theorem opRetire_one (d : Dev) (op : Nat) (h : d.inFlight op = true) :
    d.opRetire [op]
      = ({ d with sched := { d.sched with inflight := d.sched.inflight.filter fun x => x.1 != op } } : Dev).showPool := by
  have kept : (fun x : Nat × Nat => !([op].contains x.1)) = fun x => x.1 != op := by
    funext x
    simp only [List.contains_cons, List.contains_nil, Bool.or_false, bne]
  rw [Dev.opRetire, if_neg (by simp [h]), kept]

/-- An id whose retire-by time has come is in flight. -/
theorem inFlight_of_due {d : Dev} {op : Nat} (h : d.sched.inflight.any (fun x => x.1 = op && x.2 ≤ d.sched.st) = true) :
    d.inFlight op = true := by
  obtain ⟨x, hx, due⟩ := List.any_eq_true.mp h
  refine List.any_eq_true.mpr ⟨x, hx, ?_⟩
  simp only [Bool.and_eq_true, decide_eq_true_eq] at due
  simp [due.1]

/-- The structure image alone says which task holds an id. -/
theorem holderOf_of_image {a b : Dev} (h : a.image = b.image) (op : Nat) : a.holderOf op = b.holderOf op := by
  rw [Dev.holderOf, Dev.holderOf, h]

section
variable (d : Dev) (op : Nat)

/-- The device without the id and the data held under it, before any register shows it. -/
def Dev.opGone : Dev :=
  { d.discardOp op with sched := { (d.discardOp op).sched with inflight := d.sched.inflight.filter fun x => x.1 != op } }

/-- The device with the forced retirement counted and shown, before its fence hit. -/
def Dev.forceShown : Dev :=
  (((d.discardOp op).opRetire [op]).inc Reg.SCHED_FORCERET_CNT.COUNT).setB Reg.SCHED_STATUS.FORCE_RET true

/-- The fence hit of a forced retirement, of the task that holds the id. -/
def Dev.forceHit : Dev := (d.forceShown op).fenceHit (d.holderOf op).1 1 (d.holderOf op).2 (d.forceShown op).ts32

/-- FORCE_RET stands, and is not among what the fence hit writes. -/
theorem forceHit_flag : (d.forceHit op).flag Reg.SCHED_STATUS.FORCE_RET = true := by
  rw [Dev.forceHit, fenceHit_status _ _ _ _ _ _ rfl (by decide) (by decide)]
  exact Dev.flag_setB_same _ _ _ rfl (by decide)

variable {d op} (h : d.sched.inflight.any (fun x => x.1 = op && x.2 ≤ d.sched.st) = true)
include h

/-- The retirement shows the pool of operation ids without the id. -/
theorem discardOp_opRetire : (d.discardOp op).opRetire [op] = (d.opGone op).showPool :=
  opRetire_one (d.discardOp op) op (inFlight_of_due h)

/-- The pool shown writes its own registers, and tells where it runs low. -/
theorem opRetire_only : ToldOnly [0x30000, 0x30008] (d.opGone op) ((d.discardOp op).opRetire [op]) := by
  rw [discardOp_opRetire h]
  obtain ⟨b, shown, told⟩ := showPool_told (d.opGone op)
  exact told.after shown

theorem forceShown_only : ToldOnly [0x30000, 0x30008, 0x30020] (d.opGone op) (d.forceShown op) :=
  ((opRetire_only h).mono (by simp)).trans (((RegsOnly.refl _ _).set _ _ (by simp)).setB _ _ (by simp)).told

theorem forceShown_sched : (d.forceShown op).sched = (d.opGone op).sched := by rw [(forceShown_only h).2]; rfl

theorem forceShown_image : (d.forceShown op).image = d.image := by rw [(forceShown_only h).2]; rfl

/-- A forced retirement is counted, up to 65,535. -/
theorem forceShown_count :
    (d.forceShown op).get Reg.SCHED_FORCERET_CNT.COUNT = min 65535 (d.get Reg.SCHED_FORCERET_CNT.COUNT + 1) := by
  have same : ((d.discardOp op).opRetire [op]).word 0x30020 = d.word 0x30020 := (opRetire_only h).1 0x30020 (by decide) (by decide)
  rw [Dev.forceShown, Dev.setB, Dev.get_set_other _ _ _ _ (by decide), inc_count _ _ (by decide), Dev.get_eq_word, same]
  rfl

/-- The fence hit leaves the count of forced retirements. -/
theorem forceHit_count : (d.forceHit op).get Reg.SCHED_FORCERET_CNT.COUNT = min 65535 (d.get Reg.SCHED_FORCERET_CNT.COUNT + 1) := by
  have apart : Reg.SCHED_FORCERET_CNT.COUNT.addr ∉ fenceRegs (d.holderOf op).1 := by simp [fenceRegs]; omega
  rw [Dev.forceHit, (fenceHit_only ..).get _ apart (by decide)]
  exact forceShown_count h

/-- A forced retirement ends with the inputs of that time taken anew (log 128). -/
theorem forceRetire_due : d.forceRetire op = (d.forceHit op).resample := by
  rw [Dev.forceHit, ← holderOf_of_image (forceShown_image h) op]
  exact if_neg (by simp [h])

theorem forceHit_sched : (d.forceHit op).sched = { (d.opGone op).sched with
    hyperHits := d.sched.hyperHits + 1, hitsFault := (d.forceHit op).sched.hitsFault } := by
  rw [show (d.forceHit op).sched = (d.forceShown op).fenceCounted from fenceHit_sched .., Dev.fenceCounted, forceShown_sched h]
  rfl

/-- The frame of a forced retirement: the registers of the retirement and of the hit, and what tells of events. -/
theorem forceHit_only : ToldOnly [0x30000, 0x30008, 0x30014, 0x30018, 0x3001C, 0x30020, 0x3010C + 0x10 * (d.holderOf op).1]
    { d.opGone op with sched := (d.forceHit op).sched } (d.forceHit op) := by
  have hit := fenceHit_only (d.forceShown op) (d.holderOf op).1 1 (d.holderOf op).2 (d.forceShown op).ts32
  rw [← fenceHit_sched (d.forceShown op) (d.holderOf op).1 1 (d.holderOf op).2 (d.forceShown op).ts32] at hit
  exact (((forceShown_only h).withSched _).mono (by simp)).trans (hit.mono (by simp [fenceRegs]))

end

/-! Taking the inputs anew writes no register and touches only the tasks in their slots. -/

@[simp] theorem Dev.resample_get (d : Dev) (x : Field) : d.resample.get x = d.get x := rfl
@[simp] theorem Dev.resample_flag (d : Dev) (x : Field) : d.resample.flag x = d.flag x := rfl
@[simp] theorem eventSet_resample (d : Dev) (n : Nat) : eventSet n d.resample = eventSet n d := rfl
@[simp] theorem Dev.resample_entry (d : Dev) : d.resample.entry = d.entry := rfl
@[simp] theorem Dev.resample_solv (d : Dev) : d.resample.solv = d.solv := rfl
@[simp] theorem Dev.resample_alloc (d : Dev) : d.resample.alloc = d.alloc := rfl
@[simp] theorem Dev.resample_img (d : Dev) : d.resample.img = d.img := rfl

/-- The inputs taken anew are the same where only the tasks in their slots differ. -/
theorem resample_shots_of_shots (d : Dev) (l : List (Nat × Shot)) (h : d.shots = l) :
    (Dev.resample { d.resample with shots := l }).shots = d.resample.shots := by
  subst h
  rfl

/-- Settles O13, from the registers that the retirement and its fence hit show, and the frame of both. -/
theorem operationIdForceRetired : Obligations.OperationIdForceRetired := by
  intro s t op d mine hd hu due hm
  subst hm
  have frame := forceHit_only due
  have entry : (d.forceHit op).entry = (d.opGone op).entry := by rw [frame.2]; rfl
  have solv : (d.forceHit op).solv = (d.opGone op).solv := by rw [frame.2]; rfl
  have alloc : (d.forceHit op).alloc = (d.opGone op).alloc := by rw [frame.2]; rfl
  have shots : (d.forceHit op).shots = d.shots := by rw [frame.2]; rfl
  refine ⟨(d.forceHit op).resample, run_up s t _ d _ hd hu (forceRetire_due due) ?img,
    ?count, ?flag, ?kind, ?event, ?sched, ?entry, ?solv, ?alloc, ?shots, ?frame⟩
  case img => rw [Dev.resample_img, frame.2]; rfl
  case count => rw [Dev.resample_get]; exact forceHit_count due
  case flag => rw [Dev.resample_flag]; exact forceHit_flag d op
  case kind => rw [Dev.resample_get]; exact fenceHit_kind _ _ 1 _ _ (by decide)
  case event => rw [eventSet_resample]; exact fenceHit_event ..
  case sched => rw [Dev.resample_sched]; exact forceHit_sched due
  case entry =>
    rw [Dev.resample_entry, entry]
    simp only [← List.contains_iff_mem]
    rfl
  case solv => rw [Dev.resample_solv, solv]; rfl
  case alloc =>
    rintro keep rfl
    rw [Dev.resample_alloc, alloc]
    simp only [← List.contains_iff_mem]
    rfl
  case shots => exact (resample_shots_of_shots _ _ shots).symm
  case frame =>
    rw [Dev.resample_entry, Dev.resample_solv, Dev.resample_alloc, Dev.resample_sched, entry, solv, alloc]
    exact frame.withShots (d.forceHit op).resample.shots

end Sys2Proof.Machine
end

section
/-! How the schedule's own commands answer where the conditions of their rules hold (R36, R43, R62, R68, R73, R80, R83). -/
namespace Sys2Proof.Machine
open Sys2Proof Sys2Proof.Safety

/-- An effect that leaves the cellar as it is is kept whole. -/
theorem after_of_img {s : State} {t : Nat} {d e : Dev} (hd : d = s.dev.advance t) (he : e.img = d.img) : after s e = { s with dev := e } := by
  rw [after, Dev.keep_of_img (he.trans (by rw [hd, Dev.advance_img]))]

section
variable {s : State} {t : Nat} {d : Dev} (hd : d = s.dev.advance t) (hu : d.coreUp = true)
include hd hu

theorem exec_schedHwmClr :
    exec (.schedHwmClr t) s = .next (after s (d.set Reg.SCHED_INFLIGHT.HWM (d.get Reg.SCHED_INFLIGHT.COUNT))) :=
  run_up_after s t _ d _ hd hu rfl

theorem exec_taskFence (task : Nat) (inFact waited : Bool) (done : Option CustomerEnd) (rel fence : Nat) (alarms : List (Nat × Word))
    (row : TaskRow) (x : Shot) (hr : d.image.tasks[task]? = some row) (hx : d.fencedShot task row = some x) :
    exec (.taskFence t task inFact waited done rel fence alarms) s
      = .next (after s ((alarms.foldl (fun d e => d.alarm e.1 e.2) (d.showJitter rel fence)).taskFence task row x inFact waited done)) :=
  run_up_after s t _ d _ hd hu (by dsimp only; rw [hr]; dsimp only; rw [hx])

theorem exec_operationIdForceRetire (op : Nat) : exec (.operationIdForceRetire t op) s = .next (after s (d.forceRetire op)) :=
  run_up_after s t _ d _ hd hu rfl

theorem exec_scheduleStart (hc : d.flag Reg.SCHED_STATUS.CERT_OK = true) (hr : d.running = false) (hm : d.mode ≠ 0)
    (h : d.sched.st % 100000000 = 0) : exec (.scheduleStart t) s = .next (after s d.scheduleStart) :=
  run_up_after s t _ d _ hd hu (if_pos (by simp [hc, hr, hm, h]))

theorem exec_standbyReached (hr : d.running = true) (hn : d.flag Reg.SYS_MODE.STARTED = false)
    (hs : d.sched.startAt + 100000000 ≤ d.sched.st) (h : d.sched.st % 10000000 = 0) :
    exec (.standbyReached t) s = .next (after s d.standbyReached) :=
  run_up_after s t _ d _ hd hu (if_pos (by simp [hr, hn, hs, h]))

/-- In M7, while the device is unlocked, the injection is armed for the task. -/
theorem exec_schedXinjGo (task port : Nat) (hx : d.flag Reg.SYS_EXPERT.UNLOCKED = true) (h7 : d.mode = 7) :
    exec (.schedXinjGo t task port) s
      = .next (after s ((d.opened.set Reg.SCHED_XINJ.TASK task).setB Reg.SCHED_XINJ.GO true)) :=
  have m7 : (d.opened.set Reg.SCHED_XINJ.TASK task).mode = 7 := (Dev.get_set_other d.opened _ _ _ (by decide)).trans h7
  run_up_after s t _ d _ hd hu ((expert_unlocked d port _ _ hx).trans (if_pos m7))

/-- Outside M0 a mode request is loaded where none is pending, whatever its numbers: its fields take them cut to their widths. -/
theorem exec_modeRequestSubmit_idle (target : Nat) (coupled track follow : Bool) (seq port : Nat) (hm : d.mode ≠ 0)
    (hg : d.flag Reg.SYS_MODEREQ.GO = false) :
    exec (.modeRequestSubmit t target coupled track follow seq port) s
      = .next (after s (d.setWord 0x14 (BitVec.ofNat 32 (requestWord (target % 8) coupled track follow (seq % 256))))) :=
  run_up_after s t _ d _ hd hu (requestWrite_idle d (target % 8) coupled track follow (seq % 256) port hm hg)

end

/-- Settles O12: HWM takes COUNT, which is as wide, and COUNT stands beside it in the register. -/
theorem highWaterMarkClear : Obligations.HighWaterMarkClear := by
  intro s t d hd hu
  refine ⟨_, by rw [exec_schedHwmClr hd hu, after_of_img hd (Dev.set_img ..)], ?_, ?_, (RegsOnly.refl _ d).set _ _ (List.mem_singleton_self _)⟩
  · exact Dev.get_set_same' d _ _ (by decide) (Dev.get_lt d Reg.SCHED_INFLIGHT.COUNT)
  · exact Dev.get_set_apart d _ _ _ (by rfl) (by decide) (by decide)

/-- Settles O41, by the law of each command. -/
theorem scheduleCommandsComplete : Obligations.ScheduleCommandsComplete :=
  ⟨fun _ _ _ task inFact waited done rel fence alarms row x hd hu => exec_taskFence hd hu task inFact waited done rel fence alarms row x,
   fun _ _ _ op hd hu _ => exec_operationIdForceRetire hd hu op,
   fun _ _ _ hd hu => exec_scheduleStart hd hu,
   fun _ _ _ hd hu => exec_standbyReached hd hu,
   fun _ _ _ hd hu => exec_schedHwmClr hd hu,
   fun _ _ _ task port hd hu => exec_schedXinjGo hd hu task port,
   fun _ _ _ target coupled track follow seq port hd hu => exec_modeRequestSubmit_idle hd hu target coupled track follow seq port⟩

end Sys2Proof.Machine
end

section
/-! How the periodic tasks answer in their slots, where nothing keeps them from running (R59, R63, R74, R80). -/
namespace Sys2Proof.Machine
open Sys2Proof Sys2Proof.Safety

section
variable {s : State} {t : Nat} {d : Dev} (hd : d = s.dev.advance t) (hu : d.coreUp = true)
include hd hu

/-- A command that runs a channel of a role's task, the task in its slot and free to run: the task's work on the inputs of its release. -/
theorem run_inSlot {r : TaskRole} {c : Nat} {e : InSlot} (f : Dev → Dev → Dev) (hs : d.slotOf r c = some e)
    (hf : d.freeToRun e c = true) :
    s.run (fun x => (x.advance t).whenUp fun d => d.runOf r c f) = .next (after s (d.perform e c f)) :=
  run_up_after s t _ d _ hd hu (d.runOf_slot r c e f hs hf)

/-- The same of a task that sends frames, whose command notes the starts of frames first. -/
theorem run_inSlot_noteSofs {r : TaskRole} {c : Nat} {e : InSlot} (sofs : List TxSof) (f : Dev → Dev → Dev)
    (hs : (d.noteSofs sofs).slotOf r c = some e) (hf : (d.noteSofs sofs).freeToRun e c = true) :
    s.run (fun x => (x.advance t).whenUp fun d => (d.noteSofs sofs).runOf r c f) = .next (after s ((d.noteSofs sofs).perform e c f)) :=
  run_up_after s t _ d _ hd hu ((d.noteSofs sofs).runOf_slot r c e f hs hf)

theorem exec_thrustCommandBuild (thr : Nat) (fault : ChainFault) (sofs : List TxSof) (e : InSlot)
    (hs : (d.noteSofs sofs).slotOf .commandBuild 0 = some e) (hf : (d.noteSofs sofs).freeToRun e 0 = true) :
    exec (.thrustCommandBuild t thr fault sofs) s
      = .next (after s (Dev.finishCut ((d.noteSofs sofs).perform e 0 fun v d => d.commandBuild v thr fault))) :=
  run_up_after s t _ d _ hd hu (congrArg Dev.finishCut ((d.noteSofs sofs).runOf_slot .commandBuild 0 e _ hs hf))

/-- A biquad channel runs in the minor frames that its divisor gives. -/
theorem exec_thrusterLoopRun (channel : Nat) (fault : ChainFault) (e : InSlot) (hs : d.slotOf .biquads channel = some e)
    (hf : d.freeToRun e channel = true) (due : d.bqDue e.shot.rel channel = true) :
    exec (.thrusterLoopRun t channel fault) s = .next (after s (d.perform e channel fun v d => d.bqRun v channel fault)) :=
  run_up_after s t _ d _ hd hu (by rw [hs]; exact (if_pos due).trans (d.runIn_free e channel _ hf))

theorem exec_fusionUpdate (rel : Nat) (fault : ChainFault) (e : InSlot) (hs : d.slotOf .fusion 0 = some e)
    (hf : d.freeToRun e 0 = true) (hr : e.shot.rel = rel) :
    exec (.fusionUpdate t rel fault) s = .next (after s (d.perform e 0 fun v d => d.fusionRun v rel fault)) :=
  run_up_after s t _ d _ hd hu (by rw [hs]; exact (if_pos hr).trans (d.runIn_free e 0 _ hf))

/-- A PID channel runs on the device with the mirror loaded, where one is due. -/
theorem exec_positionPidRun (channel : Nat) (fault : ChainFault) (e : InSlot) (m : Dev) (x : InSlot)
    (hs : d.slotWith .pid channel (fun e => d.pidSlot channel e.row) = some e)
    (hm : (if channel < 3 then d.loadInto e fault else (d, e)) = (m, x)) (hf : m.freeToRun x channel = true) :
    exec (.positionPidRun t channel fault) s = .next (after s (m.perform x channel fun v d => d.pidRun v channel fault)) :=
  run_up_after s t _ d _ hd hu (by rw [hs]; dsimp only; rw [hm]; exact m.runIn_free x channel _ hf)

theorem exec_solverPress (task : Nat) (fault : ChainFault) (row : SolvTask) (e : InSlot) (ht : d.solvTask task = some row)
    (hs : d.slotAt row.task = some e) (hn : e.shot.done.contains 0 = false) (hf : d.freeToRun e 0 = true) :
    exec (.solverPress t task fault) s = .next (after s (d.perform e 0 fun v d => d.press v task fault)) :=
  run_up_after s t _ d _ hd hu (by rw [ht]; exact d.runTask_slot row.task 0 e _ hs hn hf)

theorem exec_solverIteration (task : Nat) (sram : Bool) (fault : ChainFault) (row : SolvTask) (e : InSlot)
    (ht : d.solvTask task = some row) (hs : d.slotAt row.task = some e) :
    exec (.solverIteration t task sram fault) s = .next (after s (d.within e fun _ d => d.solverIterate task e.fence sram fault)) :=
  run_up_after s t _ d _ hd hu (by rw [ht, Option.bind_some, hs])

/-- The safety island evaluates between its release and its fence, and its slot ends with that. -/
theorem exec_safetyEvaluation (bad : List Handover) (x : Shot) (hr : d.islandRuns = true) (hs : lookup d.shots islandTask = some x)
    (hx : d.sched.st ≤ x.rel + d.islandSlot) (n : Dev)
    (hn : n = { d with shots := d.shots.filter (fun e => e.1 != islandTask), safe := { d.safe with beat := x.rel + d.islandSlot } }) :
    exec (.safetyEvaluation t bad) s = .next (after s (n.evaluate (n.view x) x.rel bad)) := by
  subst hn
  exact run_up_after s t _ d _ hd hu ((if_neg (by simp [hr])).trans (by rw [hs]; exact if_pos hx))

end

/-- Settles O42: the tasks of a role by the law of a task in its slot, the others by their own. What a task does where the mode, its channel
or the gate of an iteration gives it no work is decided within its work, so those hypotheses are not used. -/
theorem periodicTasksComplete : Obligations.PeriodicTasksComplete :=
  ⟨fun _ _ _ _ _ hd hu => run_inSlot hd hu _,
   fun _ _ _ _ _ hd hu hs hf _ => run_inSlot hd hu _ hs hf,
   fun _ _ _ _ sofs _ hd hu hs hf _ => run_inSlot_noteSofs hd hu sofs _ hs hf,
   fun _ _ _ channel fault e hd hu => exec_thrusterLoopRun hd hu channel fault e,
   fun _ _ _ _ _ _ _ hd hu hs hf _ => run_inSlot hd hu _ hs hf,
   fun _ _ _ _ _ hd hu hs hf _ => run_inSlot hd hu _ hs hf,
   fun _ _ _ rel fault e hd hu => exec_fusionUpdate hd hu rel fault e,
   fun _ _ _ channel fault e m x hd hu => exec_positionPidRun hd hu channel fault e m x,
   fun _ _ _ _ _ hd hu hs hf _ => run_inSlot hd hu _ hs hf,
   fun _ _ _ task fault row e hd hu ht hs hn hf _ _ => exec_solverPress hd hu task fault row e ht hs hn hf,
   fun _ _ _ task sram fault row _ e hd hu ht hs _ _ => exec_solverIteration hd hu task sram fault row e ht hs,
   fun _ _ _ _ _ hd hu hs hf _ => run_inSlot hd hu _ hs hf,
   fun _ _ _ thr fault sofs e hd hu hs hf _ => exec_thrustCommandBuild hd hu thr fault sofs e hs hf,
   fun _ _ _ _ sofs _ hd hu hs hf _ _ => run_inSlot_noteSofs hd hu sofs _ hs hf,
   fun _ _ _ _ _ hd hu hs hf _ => run_inSlot hd hu _ hs hf,
   fun _ _ _ _ _ _ hd hu hs hf _ _ => run_inSlot hd hu _ hs hf,
   fun _ _ _ _ _ hd hu hs hf _ => run_inSlot hd hu _ hs hf,
   fun _ _ _ bad x n hd hu hr hs hx => exec_safetyEvaluation hd hu bad x hr hs hx n⟩

end Sys2Proof.Machine
end

section
/-! What no step undoes: slot F of the cellar, a written key slot, a revocation (R89, R103). -/
namespace Sys2Proof.Machine
open Sys2Proof Sys2Proof.Safety

/-- Every step, the idle one as well, ends in the device that some effect left, with what no command may undo kept. -/
theorem step_keeps {s s' : State} (h : step s = .next s') : ∃ e : Dev, s'.dev = s.dev.keep e := by
  obtain ⟨f, hf | rfl⟩ := step_apply s s' h
  · exact ⟨_, hf⟩
  · exact ⟨s'.dev, (Dev.keep_of_img rfl).symm⟩

/-- Settles O4: the first element of the sets is kept from before every command. -/
theorem factorySlotKept : Obligations.FactorySlotKept := by
  intro v s s' held h
  obtain ⟨e, he⟩ := step_keeps h
  rw [SlotF, he]
  exact keepFirst_zero _ _ _ held

/-- Settles O5: what is written in the list of keys is kept from before every command. -/
theorem enrolledKeyKept : Obligations.EnrolledKeyKept := by
  intro i k s s' held h
  obtain ⟨e, he⟩ := step_keeps h
  rw [KeyHeld, he]
  exact keepWritten_get _ _ _ _ held

/-- The mask of revoked slots only grows. -/
theorem Dev.keep_revoked_testBit (a b : Dev) (i : Nat) :
    (a.keep b).img.revoked.testBit i = (a.img.revoked.testBit i || b.img.revoked.testBit i) :=
  Nat.testBit_or ..

/-- Settles O6: the mask after a command holds every bit of the mask before it. -/
theorem revocationKept : Obligations.RevocationKept := by
  intro i s s' revoked h
  obtain ⟨e, he⟩ := step_keeps h
  rw [Revoked, he, Dev.keep_revoked_testBit, revoked, Bool.true_or]

end Sys2Proof.Machine
end

section
/-! The pairs of a vintage set (R93). -/
namespace Sys2Proof.Machine
open Sys2Proof

/-- Both directions of a pair that is in range, for components and ranges that the set holds. -/
theorem VintageSet.inRange_iff {v : VintageSet} {a b : Component} {i j : Nat} {ra rb : Word × Word}
    (ha : v.components[i]? = some a) (hb : v.components[j]? = some b) (hra : a.partners[j]? = some ra) (hrb : b.partners[i]? = some rb) :
    v.inRange (i, j) = true ↔ (ra.1 ≤ b.vintage ∧ b.vintage ≤ ra.2) ∧ (rb.1 ≤ a.vintage ∧ a.vintage ≤ rb.2) := by
  simp only [VintageSet.inRange, List.getD_eq_getElem?_getD, ha, hb, hra, hrb, Option.getD_some, Bool.and_eq_true, decide_eq_true_eq,
    and_assoc]

/-- The listed pairs are the pairs of two different kinds, each named once. -/
theorem mem_setPairs (i j : Nat) : (i, j) ∈ setPairs ↔ i < j ∧ j < 4 := by
  simp only [setPairs, List.mem_cons, List.not_mem_nil, or_false, Prod.mk.injEq]
  omega

/-- Settles O7: ranges by the definition of a pair in range, pairs by the list of the six. -/
theorem pairsOfASet : Obligations.PairsOfASet := by
  refine ⟨fun v a b i j ra rb => VintageSet.inRange_iff, fun v => ?_⟩
  simp only [List.all_eq_true, Prod.forall, mem_setPairs, and_imp]

end Sys2Proof.Machine
end

section
/-! Parameters at a major-frame boundary (R108). -/
namespace Sys2Proof.Machine
open Sys2Proof

/-- The runtime writes registered before now, which a boundary now makes effective (R108). -/
def Dev.dueWrites (d : Dev) : List (Nat × Nat × Quad) := d.params.waiting.filter fun x => x.1 < d.sched.st

/-- A boundary puts the last due write of each index into the runtime layer, leaves the other writes waiting, and changes beside that only
the history and the commit that captures its values. -/
theorem paramApply_params (d : Dev) : ∃ h c, d.paramApply.params = { d.params with
    waiting := d.params.waiting.filter fun x => d.sched.st ≤ x.1
    runtime := (lastWrites d.dueWrites).foldl (fun r e => update r e.1 e.2) d.params.runtime
    history := h, commit := c } := by
  unfold Dev.paramApply
  extract_lets now due l replaced p a b
  have applied (c : Option CommitJob) : ({ b.params with commit := c } : ParamState)
      = { a.params with runtime := l.foldl (fun r e => update r e.1 e.2) a.params.runtime, commit := c } := by
    rw [show b.params = _ from paramEffect_fold l a]
  split
  · split
    · exact ⟨_, _, applied _⟩
    · exact ⟨_, _, applied b.params.commit⟩
  · exact ⟨_, _, applied b.params.commit⟩

/-- What the runtime layer holds for an index once the last write of each index is put into it. -/
theorem lookup_lastWrites (l : List (Nat × Nat × Quad)) (r : List (Nat × Quad)) (i : Nat) :
    lookup ((lastWrites l).foldl (fun r e => update r e.1 e.2) r) i
      = match (l.filter (fun x => x.2.1 == i)).getLast? with
        | some x => some x.2.2
        | none => lookup r i := by
  rw [lookup_updates _ _ (lastWrites_nodup l)]
  have find := lastWrites_find l i
  cases hg : (l.filter (fun x => x.2.1 == i)).getLast? with
  | none =>
    have none_put : (lastWrites l).find? (fun e => e.1 == i) = none := by simpa only [hg, Option.map_none, Option.map_eq_none_iff] using find
    rw [none_put]
  | some x =>
    obtain ⟨e, put, he⟩ : ∃ e, (lastWrites l).find? (fun e => e.1 == i) = some e ∧ e.2 = x.2.2 := by
      simpa only [hg, Option.map_some, Option.map_eq_some_iff] using find
    rw [put]
    exact congrArg some he

/-- Settles O29, from what a boundary changes of the parameters. -/
theorem parameterTakesEffect : Obligations.ParameterTakesEffect := by
  intro d
  obtain ⟨h, c, hp⟩ := paramApply_params d
  have due (i : Nat) : d.dueWrites.filter (fun x => x.2.1 == i)
      = d.params.waiting.filter (fun x => decide (x.1 < d.sched.st) && x.2.1 == i) := by
    rw [Dev.dueWrites, List.filter_filter]
    simp only [Bool.and_comm]
  rw [hp]
  refine ⟨rfl, fun i => ?_, rfl, rfl, rfl, rfl⟩
  rw [← due]
  exact lookup_lastWrites _ _ i

end Sys2Proof.Machine
end

section
/-! A runtime write of a parameter, alone or as an entry of a bulk apply: its checks, its refusal, its waiting (R108, R117, R539). -/
namespace Sys2Proof.Machine
open Sys2Proof Sys2Proof.Safety

/-! ## The checks, in the order of R539 -/

section
variable {d : Dev} {i : Nat} {q : Quad}

theorem paramError_no_index (h : d.paramRow i = none) : d.paramError i q = 1 := by
  rw [Dev.paramError, h]

variable {r : ParamRow} (hr : d.paramRow i = some r)
include hr

theorem paramError_safe (hs : isSafeParam i = true) : d.paramError i q = 5 := by
  rw [Dev.paramError, hr]
  exact if_pos hs

section
variable (hs : isSafeParam i = false)
include hs

theorem paramError_expert (hx : r.expert = true) (hu : d.flag Reg.SYS_EXPERT.UNLOCKED = false) : d.paramError i q = 3 := by
  simp [Dev.paramError, hr, hs, hx, hu]

variable (hx : r.expert = true → d.flag Reg.SYS_EXPERT.UNLOCKED = true)
include hx

/-- Past the check of the level, the value decides (R539). -/
theorem paramError_value : d.paramError i q = if r.type.bad q then 4 else if !d.allows i r q then 2 else 0 := by
  have level : ¬ (r.expert && !d.flag Reg.SYS_EXPERT.UNLOCKED) = true := by
    simpa using hx
  rw [Dev.paramError, hr]
  exact (if_neg (by simp [hs])).trans (if_neg level)

theorem paramError_bad (hb : r.type.bad q = true) : d.paramError i q = 4 :=
  (paramError_value hr hs hx).trans (if_pos hb)

variable (hb : r.type.bad q = false)
include hb

theorem paramError_outside (ha : d.allows i r q = false) : d.paramError i q = 2 := by
  rw [paramError_value hr hs hx, hb, ha]
  rfl

theorem paramError_none (ha : d.allows i r q = true) : d.paramError i q = 0 := by
  rw [paramError_value hr hs hx, hb, ha]
  rfl

end

end

/-- Every code of a refusal fits in PARAM_STATUS.ERR. -/
theorem paramError_lt (d : Dev) (i : Nat) (q : Quad) : d.paramError i q < 6 := by
  unfold Dev.paramError
  split
  · decide
  · split_ifs <;> decide

/-! ## A write through PARAM_DATA_LO -/

/-- The value that a write of PARAM_DATA_LO submits for a row of the parameter table (R117). -/
def Dev.dataWord (d : Dev) (r : ParamRow) (lo : Word) : Quad := if r.type = .fp64 then d.params.dataHi ++ lo else lo.setWidth 64

section
variable {d : Dev} {lo : Word} {port : Nat}

/-- A write that selects no parameter is refused, whatever its value (R539). -/
theorem paramDataWrite_no_index (h : d.paramRow (d.get Reg.PARAM_INDEX.INDEX) = none) :
    d.paramDataWrite lo port = (d.set Reg.PARAM_STATUS.ERR 1).reportWrite 8 port 0 0x170004 false := by
  simp only [Dev.paramDataWrite, paramError_no_index h]
  rfl

variable {r : ParamRow} (hr : d.paramRow (d.get Reg.PARAM_INDEX.INDEX) = some r)
include hr

/-- A write that selects a parameter is refused or waits, as the checks of its value find. -/
theorem paramDataWrite_index : d.paramDataWrite lo port =
    if d.paramError (d.get Reg.PARAM_INDEX.INDEX) (d.dataWord r lo) = 0 then
      d.paramWait (d.get Reg.PARAM_INDEX.INDEX) (d.dataWord r lo)
    else (d.set Reg.PARAM_STATUS.ERR (d.paramError (d.get Reg.PARAM_INDEX.INDEX) (d.dataWord r lo))).reportWrite 8 port 0 0x170004 false := by
  simp only [Dev.paramDataWrite, hr, beq_iff_eq]
  rfl

theorem paramDataWrite_waits (h : d.paramError (d.get Reg.PARAM_INDEX.INDEX) (d.dataWord r lo) = 0) :
    d.paramDataWrite lo port = d.paramWait (d.get Reg.PARAM_INDEX.INDEX) (d.dataWord r lo) :=
  (paramDataWrite_index hr).trans (if_pos h)

theorem paramDataWrite_refused {err : Nat} (h : d.paramError (d.get Reg.PARAM_INDEX.INDEX) (d.dataWord r lo) = err) (h0 : err ≠ 0)
    (hc : d.host.causes = none) (hp : port < 2) : ParamRefused err port d (d.paramDataWrite lo port) := by
  have fits := paramError_lt d (d.get Reg.PARAM_INDEX.INDEX) (d.dataWord r lo)
  rw [paramDataWrite_index hr, h, if_neg h0]
  exact prefused d err port hc hp (by omega)

end

/-- A write of a parameter leaves the cellar. -/
theorem paramDataWrite_img (d : Dev) (lo : Word) (port : Nat) (hc : d.host.causes = none) : (d.paramDataWrite lo port).img = d.img :=
  ite_keeps Dev.img _ rfl
    ((img_of (report_only (d.set Reg.PARAM_STATUS.ERR _) 8 port 0 0x170004 false hc)).trans (Dev.set_img ..))

/-- Settles O27: the checks in the order of R539, each refusal in the frame of a report, and the write that waits. -/
theorem parameterWriteWaits : Obligations.ParameterWriteWaits := by
  intro s t port lo d hd hu hc hp
  refine ⟨d.paramDataWrite lo port, run_host s t _ d _ hd hu rfl (paramDataWrite_img d lo port hc), fun h => ?_, ?_⟩
  · rw [paramDataWrite_no_index h]
    exact prefused d 1 port hc hp (by decide)
  · rintro _ r q rfl hr rfl
    refine ⟨fun hs => ?_, fun hs hx hu => ?_, fun hs hx => ⟨fun hb => ?_, fun hb ha => ?_, fun hb ha => ?_⟩⟩
    · exact paramDataWrite_refused hr (paramError_safe hr hs) (by decide) hc hp
    · exact paramDataWrite_refused hr (paramError_expert hr hs hx hu) (by decide) hc hp
    · exact paramDataWrite_refused hr (paramError_bad hr hs hx hb) (by decide) hc hp
    · exact paramDataWrite_refused hr (paramError_outside hr hs hx hb ha) (by decide) hc hp
    · exact paramDataWrite_waits hr (paramError_none hr hs hx hb ha)

/-! ## A bulk apply -/

/-- A set doorbell bit reads 1. -/
theorem doorbell_bit (d : Dev) (i : Nat) (hi : i < 10) : (d.doorbell i).bitAt Reg.HOST_DB_OUT.DONE i = true := by
  rw [Dev.bitAt, (Told.doorbell d i).get _ (by decide)]
  exact (Dev.bitAt_setBitAt d Reg.HOST_DB_OUT.DONE i i true (by decide) hi hi).trans (if_pos rfl)

/-- A doorbell is told of by E17 (R517). -/
theorem eventSet_doorbell (d : Dev) (i : Nat) : eventSet 17 (d.doorbell i) = true := eventSet_raise _ 17 _ (by decide)

@[simp] theorem Dev.doorbell_params (d : Dev) (i : Nat) : (d.doorbell i).params = d.params := (Told.doorbell d i).params

@[simp] theorem Dev.doorbell_img (d : Dev) (i : Nat) : (d.doorbell i).img = d.img := (Told.doorbell d i).img

/-- A doorbell leaves a field of every register but HOST_DB_OUT and those that tell. -/
theorem Dev.doorbell_get (d : Dev) (i : Nat) (x : Field) (h : x.addr ≠ 0x150020) (ht : x.addr ∉ tellRegs) :
    (d.doorbell i).get x = d.get x :=
  ((Told.doorbell d i).get x ht).trans (Dev.get_set_other d _ x _ h)

/-- The code of a bulk apply: 6 for a malformed area, else the code of the first entry refused, 0 where none is (R539). -/
def Dev.bulkError (d : Dev) : Nat :=
  if d.bulkEntries.any malformed then 6 else ((d.bulkEntries.map fun e => d.paramError e.1 e.2).find? (· != 0)).getD 0

section
variable {d : Dev}

theorem bulkError_malformed (h : d.bulkEntries.any malformed = true) : d.bulkError = 6 := if_pos h

section
variable (h : d.bulkEntries.any malformed = false)
include h

theorem bulkError_first {l m : List (Nat × Quad)} {x : Nat × Quad} (hl : d.bulkEntries = l ++ x :: m)
    (before : ∀ y ∈ l, d.paramError y.1 y.2 = 0) (hx : d.paramError x.1 x.2 ≠ 0) : d.bulkError = d.paramError x.1 x.2 := by
  have none_before : (l.map fun e => d.paramError e.1 e.2).find? (· != 0) = none := by
    simpa using before
  rw [Dev.bulkError, if_neg (by simp [h]), hl, List.map_append, List.find?_append, none_before, List.map_cons,
    List.find?_cons_of_pos (by simpa using hx)]
  rfl

theorem bulkError_none (all : ∀ y ∈ d.bulkEntries, d.paramError y.1 y.2 = 0) : d.bulkError = 0 := by
  have none_refused : (d.bulkEntries.map fun e => d.paramError e.1 e.2).find? (· != 0) = none := by
    simpa using all
  rw [Dev.bulkError, if_neg (by simp [h]), none_refused]
  rfl

end

theorem bulkError_lt : d.bulkError < 7 := by
  unfold Dev.bulkError
  split
  · decide
  · cases hf : (d.bulkEntries.map fun e => d.paramError e.1 e.2).find? (· != 0) with
    | none => decide
    | some e =>
      obtain ⟨x, -, rfl⟩ := List.mem_map.mp (List.mem_of_find?_eq_some hf)
      exact (paramError_lt d x.1 x.2).trans (by decide)

end

/-- A bulk apply before its doorbell: every entry waits, or the apply is refused and reported. -/
def Dev.bulkDone (d : Dev) (port : Nat) : Dev :=
  if d.bulkError = 0 then { d with params := { d.params with waiting := d.params.waiting ++ d.bulkEntries.map fun y => (d.sched.st, y.1, y.2) } }
  else (d.set Reg.PARAM_STATUS.ERR d.bulkError).reportWrite 8 port 0 0x170024 false

theorem bulkApply_eq (d : Dev) (port : Nat) : d.bulkApply port = (d.bulkDone port).doorbell 6 := by
  rw [Dev.bulkDone, ← paramWait_fold]
  rfl

section
variable (d : Dev) (port : Nat)

theorem bulkDone_taken (h : d.bulkError = 0) : d.bulkDone port = { d with
    params := { d.params with waiting := d.params.waiting ++ d.bulkEntries.map fun y => (d.sched.st, y.1, y.2) } } := if_pos h

/-- A refused apply shows its code and leaves the parameters (R117). -/
theorem bulkDone_refused (h : d.bulkError ≠ 0) (hc : d.host.causes = none) :
    (d.bulkDone port).get Reg.PARAM_STATUS.ERR = d.bulkError ∧ RegsOnly (0x170010 :: reportRegs) d (d.bulkDone port) := by
  have shown : RegsOnly (0x170010 :: reportRegs) d (d.set Reg.PARAM_STATUS.ERR d.bulkError) := (RegsOnly.refl _ d).set _ _ (by decide)
  have report := report_only (d.set Reg.PARAM_STATUS.ERR d.bulkError) 8 port 0 0x170024 false hc
  have fits := bulkError_lt (d := d)
  rw [Dev.bulkDone, if_neg h]
  refine ⟨?_, shown.trans (report.mono fun _ => List.mem_cons_of_mem _)⟩
  rw [report.get _ (by decide)]
  exact Dev.get_set_same' d _ _ (by decide) (by simp only; omega)

/-- An apply changes the parameters, the code and the registers of a report. -/
theorem bulkDone_only (hc : d.host.causes = none) :
    RegsOnly (0x170010 :: reportRegs) { d with params := (d.bulkDone port).params } (d.bulkDone port) := by
  by_cases h : d.bulkError = 0
  · rw [bulkDone_taken d port h]
    exact RegsOnly.refl _ _
  · obtain ⟨-, only⟩ := bulkDone_refused d port h hc
    have params : (d.bulkDone port).params = d.params := by rw [only.2]
    rw [params]
    exact only

/-- The frame of an apply with its doorbell and its event. -/
theorem bulkApply_only (hc : d.host.causes = none) :
    ToldOnly (0x150020 :: 0x170010 :: reportRegs) { d with params := (d.bulkDone port).params } (d.bulkApply port) := by
  rw [bulkApply_eq]
  exact Told.after (((bulkDone_only d port hc).mono fun _ => List.mem_cons_of_mem _).set _ _ (by decide)) (Told.doorbell _ 6)

/-- What a refused apply shows with its doorbell, and the parameters it leaves. -/
theorem bulkApply_refused (h : d.bulkError ≠ 0) (hc : d.host.causes = none) :
    (d.bulkApply port).get Reg.PARAM_STATUS.ERR = d.bulkError ∧ (d.bulkApply port).params = d.params := by
  obtain ⟨code, only⟩ := bulkDone_refused d port h hc
  rw [bulkApply_eq, Dev.doorbell_get _ _ _ (by decide) (by decide), Dev.doorbell_params]
  exact ⟨code, by rw [only.2]⟩

end

/-- Settles O28, by the code of the apply: 6, that of the first entry refused, or 0. -/
theorem bulkApplyAllOrNothing : Obligations.BulkApplyAllOrNothing := by
  intro s t port d hd hu hc hp
  have only := bulkApply_only d port hc
  have params : (d.bulkApply port).params = (d.bulkDone port).params := by rw [bulkApply_eq, Dev.doorbell_params]
  refine ⟨d.bulkApply port, run_host s t _ d _ hd hu rfl (by rw [only.2]; rfl), fun h => ?malformed, fun h l x m hl before hx => ?refused,
    fun h all => ?taken, ?bit, ?event, ?frame⟩
  case malformed =>
    rw [← bulkError_malformed h]
    exact bulkApply_refused d port (by rw [bulkError_malformed h]; decide) hc
  case refused =>
    have code := bulkError_first h hl before hx
    rw [← code] at hx ⊢
    exact bulkApply_refused d port hx hc
  case taken => rw [params, bulkDone_taken d port (bulkError_none h all)]
  case bit => rw [bulkApply_eq]; exact doorbell_bit _ 6 (by decide)
  case event => rw [bulkApply_eq]; exact eventSet_doorbell _ 6
  case frame => rw [params]; exact only

end Sys2Proof.Machine
end

section
/-! Enrolling an integrator key (R103, R116). -/
namespace Sys2Proof.Machine
open Sys2Proof Sys2Proof.Safety

/-- Showing the key slots and the directory writes registers of the IMG page only. -/
theorem showKeys_showDir_frame (n : Dev) : (∀ x, x / 0x10000 ≠ 4 → n.showKeys.showDir.word x = n.word x) ∧
    n.showKeys.showDir = { n with regs := n.showKeys.showDir.regs } := by
  obtain ⟨dirWords, dirRest⟩ := showDir_only n.showKeys
  obtain ⟨keyWords, -⟩ := showKeys_only n
  refine ⟨fun x hx => ?_, dirRest⟩
  rw [dirWords x (by omega), keyWords x (by simp only [List.mem_singleton]; omega)]

/-- The directory shows nothing in IMG_ACCKEY_CTRL. -/
theorem showDir_bitAt_enrolled (n : Dev) (i : Nat) :
    n.showDir.bitAt Reg.IMG_ACCKEY_CTRL.ENROLLED i = n.bitAt Reg.IMG_ACCKEY_CTRL.ENROLLED i := by
  rw [Dev.bitAt_eq, Dev.bitAt_eq, (showDir_only n).1 _ (by decide)]

/-- A key put into its slot. -/
def Dev.withKey (d : Dev) (slot : Nat) (key : List Byte) : Dev :=
  { d with img := { d.img with keys := setAt d.img.keys slot (some key) } }

section
variable {d : Dev} {slot : Nat} (port : Nat) (hs : slot < 4)
include hs

/-- An empty slot takes the key of the data registers, and ENROLLED shows it. -/
theorem acckeyEnrol_taken (h7 : d.mode = 7) (he : d.img.keys[slot]? = some none) (e : Dev) (hk : e = d.acckeyEnrol slot port) :
    e.img = { d.img with keys := setAt d.img.keys slot (some (keyData d)) } ∧
      e.bitAt Reg.IMG_ACCKEY_CTRL.ENROLLED slot = true ∧
      (∀ x, x / 0x10000 ≠ 4 → e.word x = d.word x) ∧ e = { d with regs := e.regs, img := e.img } := by
  have empty : d.img.keys.getD slot none = none := by rw [List.getD_eq_getElem?_getD, he]; rfl
  obtain ⟨m, only, done⟩ := acckeyEnrol_done d slot port hs h7 (by rw [empty]; rfl)
  have shown : e = (m.withKey slot (keyData d)).showKeys.showDir := by
    rw [hk, ← keyData_only d m only]
    exact done
  obtain ⟨words, rest⟩ := only
  obtain ⟨showWords, showRest⟩ := showKeys_showDir_frame (m.withKey slot (keyData d))
  rw [← shown] at showWords showRest
  have img : (m.withKey slot (keyData d)).img = (d.withKey slot (keyData d)).img := by rw [rest]; rfl
  refine ⟨?_, ?_, fun x hx => ?_, ?_⟩
  · rw [showRest]
    exact img
  · rw [shown, showDir_bitAt_enrolled]
    refine showKeys_enrolled _ slot hs ?_
    rw [img, Dev.withKey, setAt_getD _ _ _ he]
    rfl
  · exact (showWords x hx).trans (words x (by simp only [List.mem_singleton]; omega))
  · have kept : ({ m with regs := e.regs, img := e.img } : Dev) = { d with regs := e.regs, img := e.img } :=
      congrArg (fun x : Dev => { x with regs := e.regs, img := e.img }) rest
    rw [← kept, showRest]
    rfl

/-- In another mode, or where the slot is written, the enrolment is reported with cause 8 (log 24). -/
theorem acckeyEnrol_reported (h : d.mode ≠ 7 ∨ (d.img.keys.getD slot none).isSome = true) (hc : d.host.causes = none) (hp : port < 2) :
    Reported 8 port 0 0x48020 d (d.acckeyEnrol slot port) ∧ RegsOnly (0x48020 :: reportRegs) d (d.acckeyEnrol slot port) := by
  rw [acckeyEnrol_refused d slot port hs h]
  exact reported_after (l := [0x48020]) ((RegsOnly.refl _ d).set _ _ (by decide)) (by decide) 8 port 0 0x48020 hc (by decide) hp
    (by decide) (by decide)

end

/-- While the device is locked, a write to an expert page is reported with cause 2 (R506). -/
theorem expert_locked (d : Dev) (port addr : Nat) (f : Dev → Dev) (h : d.flag Reg.SYS_EXPERT.UNLOCKED = false) :
    d.expert port addr f = d.reportWrite 2 port 0 addr false := if_neg (by simp [h])

/-- Settles O30: an enrolment acts on the device whose idle time restarts, is taken or reported there, and is reported at once while the
device is locked. -/
theorem keyEnrolment : Obligations.KeyEnrolment := by
  intro s t slot port d hd hu hc hp hs
  refine ⟨d.keep (d.expert port 0x48020 fun d => d.acckeyEnrol slot port), run_hostKeep s t _ d _ hd hu rfl,
    fun hx h7 empty => ?taken, fun hx h => ?refused, fun hx => ?locked⟩
  case taken =>
    rw [expert_unlocked d port _ _ hx]
    obtain ⟨img, enrolled, words, rest⟩ := acckeyEnrol_taken (d := d.opened) port hs h7 empty _ rfl
    rw [keep_key d _ slot _ empty img]
    refine ⟨img, ?_, enrolled, words, rest⟩
    rw [KeyHeld, img]
    exact (keepWritten_setAt _ _ _ empty).2
  case refused =>
    obtain ⟨told, only⟩ := acckeyEnrol_reported (d := d.opened) port hs h hc hp
    have img : (d.opened.acckeyEnrol slot port).img = d.img := (img_of only).trans rfl
    rw [expert_unlocked d port _ _ hx, Dev.keep_of_img img]
    exact ⟨told, only⟩
  case locked =>
    obtain ⟨told, only⟩ := reported d 2 port 0 0x48020 hc (by decide) hp (by decide) (by decide)
    rw [expert_locked d port _ _ hx, Dev.keep_of_img (img_of only)]
    exact ⟨told, only⟩

end Sys2Proof.Machine
end

section
/-! How the cellar's commands answer where nothing refuses them (R100, R102 to R105). -/
namespace Sys2Proof.Machine
open Sys2Proof Sys2Proof.Safety

/-- The racking that a GO write starts, its first step before it (R104, R105, R114). -/
def Dev.rackStarted (n : Dev) (src target : Nat) (activate : Bool) : Dev :=
  (({ n with img := { n.img with racking := some ⟨src, target, activate, 1, false, none⟩ } } : Dev).setB
    Reg.IMG_RACK_RES.BUSY true).set Reg.IMG_RACK_RES.STEP 0

section
variable {d n : Dev} {target src : Nat} {activate : Bool} (port : Nat) (hm : (d.coreUp && d.mode = 0) = false)
  (h5 : src % 8 ≠ 5) (h7 : src % 8 ≠ 7)
  (hn : n = ((d.set Reg.IMG_RACK.TARGET (target % 8)).setB Reg.IMG_RACK.ACTIVATE activate).set Reg.IMG_RACK.SRC (src % 8))
  (free : d.img.racking = none) (h0 : target % 8 ≠ 0) (h4 : target % 8 ≤ 4) (ha : target % 8 ≠ n.dir.active)
  (there : (n.sourceSet (src % 8)).isSome = true)
include hm h5 h7 hn free h0 h4 ha there

/-- A racking that nothing refuses starts with the fields of its write (R104, R114). -/
theorem rackGo_starts : d.rackGo target src activate port = n.rackStarted (src % 8) (target % 8) activate := by
  have found : ¬ (n.sourceSet (src % 8)).isNone = true := by
    rw [Option.isNone_iff_eq_none]
    exact Option.isSome_iff_ne_none.mp there
  have legal : ¬ (target % 8 = 0 || 4 < target % 8 || target % 8 = n.dir.active) = true := by
    simp only [h0, ha, decide_false, Bool.or_false, Bool.false_or, decide_eq_true_eq]
    omega
  subst hn
  have mode : ((d.set Reg.IMG_RACK.TARGET (target % 8)).setB Reg.IMG_RACK.ACTIVATE activate).mode = d.mode :=
    (Dev.get_set_other _ _ _ _ (by decide)).trans (Dev.get_set_other _ _ _ _ (by decide))
  have allowed : ¬ ((d.coreUp && d.mode = 0) || src % 8 = 5 || src % 8 = 7) = true := by
    simp only [hm, h5, h7, decide_false, Bool.or_false, Bool.false_eq_true, not_false_eq_true]
  have idle : ¬ d.img.racking.isSome = true := by simp [free]
  rw [← mode] at allowed
  exact (if_neg allowed).trans ((if_neg idle).trans ((if_neg legal).trans (if_neg found)))

theorem exec_rackingGo {s : State} {t : Nat} (hd : d = s.dev.advance t) (hu : (d.coreUp || d.clk.phase = .halted) = true) :
    exec (.rackingGo t target src activate port) s = .next (after s (n.rackStarted (src % 8) (target % 8) activate)) :=
  run_host_after s t _ d _ hd hu (rackGo_starts port hm h5 h7 hn free h0 h4 ha there)

end

/-- A directory in which slot `n` becomes known-good, and the slot known-good before it RACKED (R100). -/
def Directory.toKnownGood (n : Nat) (x : Directory) : Directory :=
  let old : SlotState := (x.slots.getD x.knownGood DirSlot.empty).state
  let y : Directory := if old == SlotState.knownGood then x.mark x.knownGood .racked else x
  { (if n = 0 then y else y.mark n .knownGood) with knownGood := n }

/-- The dwell past, the pointer moves to the slot in use, and the slot that it leaves becomes RACKED (R100). -/
theorem knownGood_moves {d : Dev} (due : d.kgDue = true) (hk : d.dir.knownGood ≠ d.get Reg.IMG_STATUS.BOOTED)
    (holds : d.bootedHolds = true) :
    d.knownGood = d.dirChange (Directory.toKnownGood (d.get Reg.IMG_STATUS.BOOTED)) :=
  if_neg (by simp [due, hk, holds])

section
variable {s : State} {t : Nat} {d : Dev} (hd : d = s.dev.advance t)
include hd

theorem exec_knownGoodDwell (hu : d.coreUp = true) (due : d.kgDue = true) (hk : d.dir.knownGood ≠ d.get Reg.IMG_STATUS.BOOTED)
    (holds : d.bootedHolds = true) :
    exec (.knownGoodDwell t) s = .next (after s (d.dirChange (Directory.toKnownGood (d.get Reg.IMG_STATUS.BOOTED)))) :=
  run_up_after s t _ d _ hd hu (knownGood_moves due hk holds)

variable (hu : (d.coreUp || d.clk.phase = .halted) = true)
include hu

theorem exec_rackingStepComplete (fail : Bool) : exec (.rackingStepComplete t fail) s = .next (after s (d.rackAdvance fail)) :=
  run_host_after s t _ d _ hd hu rfl

theorem exec_acceptanceSubmit (port : Nat) (free : d.img.submitted = none) :
    exec (.acceptanceSubmit t port) s
      = .next (after s { d with img := { d.img with submitted := some (d.host.bar2.readAll 0x03900000 128) } }) :=
  run_host_after s t _ d _ hd hu (if_neg (by simp [free]))

theorem exec_acceptanceVerifyComplete : exec (.acceptanceVerifyComplete t) s = .next (after s d.acceptDone) :=
  run_host_after s t _ d _ hd hu rfl

section
variable {slot : Nat} (port : Nat) {n : Dev} (hx : d.flag Reg.SYS_EXPERT.UNLOCKED = true)
  (hn : n = d.opened.set Reg.IMG_ACCKEY_CTRL.SLOT (slot % 4)) (h7 : n.mode = 7)
include hx hn h7

theorem exec_acckeyEnrol (empty : d.img.keys.getD (slot % 4) none = none) :
    exec (.acckeyEnrol t slot port) s = .next (after s ({ n with img := { n.img with
      keys := setAt n.img.keys (slot % 4) (some (bytesOf ((List.range 8).map fun i => n.word (0x48000 + 4 * i)))) } } : Dev).showKeys.showDir) := by
  subst hn
  have free : ¬ ((d.opened.set Reg.IMG_ACCKEY_CTRL.SLOT (slot % 4)).mode != 7 || (d.img.keys.getD (slot % 4) none).isSome) = true := by
    rw [h7, empty]
    decide
  exact run_host_after s t _ d _ hd hu ((expert_unlocked d port _ _ hx).trans (if_neg free))

theorem exec_acckeyRevoke :
    exec (.acckeyRevoke t slot port) s = .next (after s ({ n with img := { n.img with
      revoked := n.img.revoked ||| 2 ^ (slot % 4) } } : Dev).showKeys.showDir) := by
  subst hn
  have m7 : ¬ ((d.opened.set Reg.IMG_ACCKEY_CTRL.SLOT (slot % 4)).mode != 7) = true := by simp [h7]
  exact run_host_after s t _ d _ hd hu ((expert_unlocked d port _ _ hx).trans (if_neg m7))

end

end

/-- Settles O54, by the law of each command. -/
theorem cellarCommandsComplete : Obligations.CellarCommandsComplete :=
  ⟨fun _ _ _ _ _ _ port _ hd hu hm h5 h7 hn free h0 h4 ha there => exec_rackingGo port hm h5 h7 hn free h0 h4 ha there hd hu,
   fun _ _ _ fail _ hd hu _ => exec_rackingStepComplete hd hu fail,
   fun _ _ _ port hd hu free => exec_acceptanceSubmit hd hu port free,
   fun _ _ _ _ hd hu _ => exec_acceptanceVerifyComplete hd hu,
   fun _ _ _ _ port _ hd hu hx _ empty hn h7 => exec_acckeyEnrol hd hu port hx hn h7 empty,
   fun _ _ _ _ port _ hd hu hx _ hn h7 => exec_acckeyRevoke hd hu port hx hn h7,
   fun _ _ _ hd hu due hk holds => exec_knownGoodDwell hd hu due hk holds⟩

end Sys2Proof.Machine
end

section
/-! How the parameter commands answer where nothing refuses them (R108, R110, R117, R517). -/
namespace Sys2Proof.Machine
open Sys2Proof Sys2Proof.Safety

/-- The commit that a GO write starts: BUSY, and the values not captured yet (R110). -/
def Dev.commitStarted (n : Dev) (op index : Nat) : Dev :=
  { n.setB Reg.PARAM_COMMIT_RES.BUSY true with params := { n.params with commit := some ⟨n.sched.st, op, index, none⟩ } }

/-- A commit starts where none runs and, where its operation names an index, that index may be in the overlay (R110, R117). -/
theorem commitGo_starts {d n : Dev} {op index : Nat} (port : Nat) (free : d.params.commit = none)
    (legal : ((op % 4 = 1 || op % 4 = 2) && (isSafeParam (index % 65536) || (d.paramRow (index % 65536)).isNone)) = false)
    (hn : n = (d.set Reg.PARAM_COMMIT.OP (op % 4)).set Reg.PARAM_COMMIT.INDEX (index % 65536)) :
    d.commitGo op index port = n.commitStarted (op % 4) (index % 65536) := by
  subst hn
  have idle : ¬ d.params.commit.isSome = true := by simp [free]
  exact (if_neg idle).trans (if_neg (Bool.eq_false_iff.mp legal))

section
variable {s : State} {t : Nat} {d : Dev} (hd : d = s.dev.advance t) (hu : (d.coreUp || d.clk.phase = .halted) = true)
include hd hu

theorem exec_paramDataWrite {lo : Word} (port : Nat) {r : ParamRow} {q : Quad}
    (hr : d.paramRow (d.get Reg.PARAM_INDEX.INDEX) = some r) (hq : q = if r.type == .fp64 then d.params.dataHi ++ lo else lo.setWidth 64)
    (h : d.paramError (d.get Reg.PARAM_INDEX.INDEX) q = 0) :
    exec (.paramDataWrite t lo port) s = .next (after s (d.paramWait (d.get Reg.PARAM_INDEX.INDEX) q)) := by
  have submitted : q = d.dataWord r lo := by simpa only [Dev.dataWord, beq_iff_eq] using hq
  subst submitted
  exact run_host_after s t _ d _ hd hu (paramDataWrite_waits hr h)

section
variable (port : Nat) {n : Dev} (free : d.params.commit = none)
include free

theorem exec_paramCommitAll
    (hn : n = (d.set Reg.PARAM_COMMIT.OP 0).set Reg.PARAM_COMMIT.INDEX (d.get Reg.PARAM_COMMIT.INDEX % 65536)) :
    exec (.paramCommitAll t port) s = .next (after s (n.commitStarted 0 (d.get Reg.PARAM_COMMIT.INDEX % 65536))) :=
  run_host_after s t _ d _ hd hu (commitGo_starts (op := 0) port free rfl hn)

theorem exec_paramClearAllMask
    (hn : n = (d.set Reg.PARAM_COMMIT.OP 3).set Reg.PARAM_COMMIT.INDEX (d.get Reg.PARAM_COMMIT.INDEX % 65536)) :
    exec (.paramClearAllMask t port) s = .next (after s (n.commitStarted 3 (d.get Reg.PARAM_COMMIT.INDEX % 65536))) :=
  run_host_after s t _ d _ hd hu (commitGo_starts (op := 3) port free rfl hn)

variable {index : Nat} (hs : isSafeParam (index % 65536) = false) (hr : (d.paramRow (index % 65536)).isSome = true)
include hs hr

theorem exec_paramCommitIndex (hn : n = (d.set Reg.PARAM_COMMIT.OP 1).set Reg.PARAM_COMMIT.INDEX (index % 65536)) :
    exec (.paramCommitIndex t index port) s = .next (after s (n.commitStarted 1 (index % 65536))) :=
  run_host_after s t _ d _ hd hu (commitGo_starts (op := 1) port free (by simp [hs, hr]) hn)

theorem exec_paramClearMaskBit (hn : n = (d.set Reg.PARAM_COMMIT.OP 2).set Reg.PARAM_COMMIT.INDEX (index % 65536)) :
    exec (.paramClearMaskBit t index port) s = .next (after s (n.commitStarted 2 (index % 65536))) :=
  run_host_after s t _ d _ hd hu (commitGo_starts (op := 2) port free (by simp [hs, hr]) hn)

end

theorem exec_paramCommitComplete (fail : Bool) : exec (.paramCommitComplete t fail) s = .next (after s (d.commitDone fail)) :=
  run_host_after s t _ d _ hd hu rfl

theorem exec_paramBulkSnap (port : Nat) (free : d.params.snapping = false) :
    exec (.paramBulkSnap t port) s = .next (after s { d with params := { d.params with snapping := true } }) :=
  run_host_after s t _ d _ hd hu (if_neg (by simp [free]))

theorem exec_paramBulkSnapComplete (runs : d.params.snapping = true) :
    exec (.paramBulkSnapComplete t) s = .next (after s
      ((({ d with params := { d.params with snapping := false } } : Dev).bar2Write 0x03A00000 d.snapBytes).doorbell 5)) :=
  run_host_after s t _ d _ hd hu (if_pos runs)

theorem exec_paramBulkApply (port : Nat) (h : d.bulkEntries.any malformed = false) (all : ∀ e ∈ d.bulkEntries, d.paramError e.1 e.2 = 0) :
    exec (.paramBulkApply t port) s = .next (after s ((d.bulkEntries.foldl (fun d e => d.paramWait e.1 e.2) d).doorbell 6)) :=
  run_host_after s t _ d _ hd hu (by rw [bulkApply_eq, bulkDone_taken d port (bulkError_none h all), paramWait_fold])

end

/-- Settles O55, by the law of each command. -/
theorem parameterCommandsComplete : Obligations.ParameterCommandsComplete :=
  ⟨fun _ _ _ _ port _ _ hd hu hr hq h => exec_paramDataWrite hd hu port hr hq h,
   fun _ _ _ port _ hd hu free hn => exec_paramCommitAll hd hu port free hn,
   fun _ _ _ port _ hd hu free hn => exec_paramClearAllMask hd hu port free hn,
   fun _ _ _ _ port _ hd hu free hs hr hn => exec_paramCommitIndex hd hu port free hs hr hn,
   fun _ _ _ _ port _ hd hu free hs hr hn => exec_paramClearMaskBit hd hu port free hs hr hn,
   fun _ _ _ fail _ _ hd hu _ _ => exec_paramCommitComplete hd hu fail,
   fun _ _ _ port hd hu free => exec_paramBulkSnap hd hu port free,
   fun _ _ _ hd hu runs => exec_paramBulkSnapComplete hd hu runs,
   fun _ _ _ port hd hu h all => exec_paramBulkApply hd hu port h all⟩

end Sys2Proof.Machine
end

section
/-! The check units, and the check value and the seal of a tag (R24, R119, R127, R129). -/
namespace Sys2Proof.Machine
open Sys2Proof

/-- Settles O8: three units are fixed, and every other unit is the programmable one. -/
theorem checkUnits : Obligations.CheckUnits := fun _ => ⟨rfl, rfl, rfl, rfl⟩

/-- The words of a tag that a check covers, laid end to end: tag bits [95:32], then [23:8] (R24). -/
theorem checkBytes_eq (payload : List Word) (tov : Word) (frame alive : BitVec 16) (source kind : BitVec 8) :
    checkBytes payload tov frame alive source kind = payload.flatMap (fun w => leBytes 4 w.toNat)
      ++ leBytes 8 (alive.toNat + 2 ^ 16 * frame.toNat + 2 ^ 32 * tov.toNat) ++ leBytes 2 (kind.toNat + 2 ^ 8 * source.toNat) := by
  have upper : leBytes 8 (alive.toNat + 2 ^ 16 * frame.toNat + 2 ^ 32 * tov.toNat)
      = leBytes 2 alive.toNat ++ (leBytes 2 frame.toNat ++ leBytes 4 tov.toNat) := by
    rw [← leBytes_add 2 4 _ _ frame.isLt, ← leBytes_add 2 6 _ _ alive.isLt]
    congr 1
    omega
  rw [upper]
  simp [checkBytes]

/-- Settles O9: the two ranges of tag bits are the fields of the tag laid end to end, and hold neither the flags nor the operation id. -/
theorem checkValueOfATag : Obligations.CheckValueOfATag := by
  refine ⟨by decide +kernel, fun p => ?_, fun _ _ _ => rfl⟩
  rw [Packet.calc, checkBytes_eq]
  rfl

section
variable (d : Dev) (source kind op : Nat) (flags : BitVec 8) (lineage : Word) (tov : Int) (payload : List Word)

/-- The check that a seal writes is the check value of what it seals. -/
theorem seal_calc : (d.seal source kind op flags lineage tov payload).1.calc
    = (d.seal source kind op flags lineage tov payload).1.tag.check :=
  rfl

theorem seal_alive : (d.seal source kind op flags lineage tov payload).1.tag.alive = BitVec.ofNat 16 (d.nextAlive source kind) := rfl

theorem seal_nextAlive_same :
    (d.seal source kind op flags lineage tov payload).2.nextAlive source kind = (d.nextAlive source kind + 1) % 65536 := by
  rw [Dev.nextAlive, Dev.seal]
  dsimp only
  rw [List.find?_cons_of_pos (by simp)]

theorem seal_nextAlive_other {s k : Nat} (h : (s, k) ≠ (source, kind)) :
    (d.seal source kind op flags lineage tov payload).2.nextAlive s k = d.nextAlive s k := by
  have found : (d.seal source kind op flags lineage tov payload).2.sched.aliveOut.find? (fun e => e.1 == (s, k))
      = d.sched.aliveOut.find? (fun e => e.1 == (s, k)) := by
    rw [Dev.seal]
    dsimp only
    rw [List.find?_cons_of_neg (by simpa using h.symm), List.find?_filter]
    refine List.find?_congr fun e _ => ?_
    by_cases he : e.1 = (s, k)
    · simp [he, h]
    · simp [he]
  rw [Dev.nextAlive, found, Dev.nextAlive]

end

/-- Settles O10: the check is computed from what the packet carries, without its flags and operation id, and the stream's count is put in
place of its last. -/
theorem sealIsIntact : Obligations.SealIsIntact := fun d source kind op flags lineage tov payload =>
  have intact := beq_iff_eq.mpr (seal_calc d source kind op flags lineage tov payload)
  ⟨intact, by rw [seal_alive, BitVec.toNat_ofNat], seal_nextAlive_same d source kind op flags lineage tov payload,
   fun _ _ other => seal_nextAlive_other d source kind op flags lineage tov payload other, fun _ _ => intact⟩

end Sys2Proof.Machine
end

section
/-! Starting a scan job (R130, R132, R134, R507), and how the commands of the integrity block answer (R130, R135, R505). -/
namespace Sys2Proof.Safety
open Sys2Proof Sys2Proof.Machine

/-- The check block beside its registers is not part of the frame. -/
theorem RegsOnly.withChk {l : List Nat} {a b : Dev} (h : RegsOnly l a b) (x : ChkState) :
    RegsOnly l { a with chk := x } { b with chk := x } :=
  ⟨h.1, congrArg (fun d : Dev => { d with chk := x }) h.2⟩

end Sys2Proof.Safety

namespace Sys2Proof.Machine
open Sys2Proof Sys2Proof.Safety

/-- The limits of R130, one by one. -/
theorem ScanJob.legal_iff (j : ScanJob) : j.legal = true ↔
    j.space < 3 ∧ j.start % 8 = 0 ∧ j.stride % 8 = 0 ∧ 8 ≤ j.stride ∧ j.len % 8 = 0 ∧ 8 ≤ j.len ∧ j.len ≤ 2 ^ 28 := by
  simp [ScanJob.legal, and_assoc]

/-- CHK_SCAN_CTRL takes the unit and the space of the write that starts a job. -/
def Dev.scanChosen (d : Dev) (unit space : Nat) : Dev := (d.set Reg.CHK_SCAN_CTRL.UNIT unit).set Reg.CHK_SCAN_CTRL.SPACE space

/-- The job that the registers of the scan engine describe, on a unit and a space (R130). -/
def Dev.scanJob (d : Dev) (unit space : Nat) : ScanJob :=
  ⟨unit, space, d.get Reg.CHK_SCAN_START.ADDR, d.get Reg.CHK_SCAN_LEN.LEN, d.get Reg.CHK_SCAN_STRIDE.STRIDE, d.word 0x50050⟩

/-- A job starts: the engine holds it, SCAN_BUSY is set and RESULT says busy. -/
def Dev.scanStarted (n : Dev) (j : ScanJob) : Dev :=
  (({ n with chk := { n.chk with job := some j } } : Dev).setB Reg.CHK_STATUS.SCAN_BUSY true).set Reg.CHK_SCAN_RES.RESULT 1

/-- A write of GO that starts no job: RESULT shows why, and the write is reported. -/
def Dev.scanReported (n : Dev) (result cause port : Nat) : Dev :=
  (n.set Reg.CHK_SCAN_RES.RESULT result).reportWrite cause port 0 0x50040 false

section
variable (d : Dev) (unit space port : Nat)

theorem scanChosen_only : RegsOnly [0x50040] d (d.scanChosen unit space) :=
  ((RegsOnly.refl _ d).set _ _ (by decide)).set _ _ (by decide)

/-- The fields of a job stand in other registers than its unit and its space. -/
theorem scanJob_scanChosen (u p : Nat) : (d.scanChosen unit space).scanJob u p = d.scanJob u p := by
  have only := scanChosen_only d unit space
  rw [Dev.scanJob, only.get _ (by decide), only.get _ (by decide), only.get _ (by decide), only.1 _ (by decide), Dev.scanJob]

theorem scanGo_busy (h : d.chk.job.isSome = true) : d.scanGo unit space port = (d.scanChosen unit space).scanReported 1 9 port := if_pos h

section
variable (idle : d.chk.job = none)
include idle

theorem scanGo_legal (legal : (d.scanJob (unit % 4) (space % 4)).legal = true) :
    d.scanGo unit space port = (d.scanChosen unit space).scanStarted (d.scanJob (unit % 4) (space % 4)) := by
  rw [← scanJob_scanChosen d unit space] at legal ⊢
  exact (if_neg (by simp [idle])).trans (if_pos legal)

theorem scanGo_illegal (illegal : ¬ (d.scanJob (unit % 4) (space % 4)).legal = true) :
    d.scanGo unit space port = ((d.scanChosen unit space).scanReported 3 8 port).doorbell 7 := by
  rw [← scanJob_scanChosen d unit space] at illegal
  exact (if_neg (by simp [idle])).trans (if_neg illegal)

end

/-- The report of a write of GO comes after its RESULT. -/
theorem scanReported_only (result cause : Nat) (hc : d.host.causes = none) :
    RegsOnly reportRegs ((d.scanChosen unit space).set Reg.CHK_SCAN_RES.RESULT result)
      ((d.scanChosen unit space).scanReported result cause port) :=
  report_only _ cause port 0 0x50040 false hc

/-- What a write of GO that starts no job shows, and its frame. -/
theorem scanReported_says {result cause : Nat} (hr : result < 4) (hc : d.host.causes = none) (h1 : cause < 16) (h2 : port < 2)
    (e : Dev) (he : e = (d.scanChosen unit space).scanReported result cause port) :
    e.get Reg.CHK_SCAN_RES.RESULT = result ∧ Reported cause port 0 0x50040 d e ∧ RegsOnly (0x50040 :: 0x50054 :: reportRegs) d e := by
  subst he
  have shown : RegsOnly [0x50040, 0x50054] d ((d.scanChosen unit space).set Reg.CHK_SCAN_RES.RESULT result) :=
    ((scanChosen_only d unit space).mono (by simp)).set _ _ (by decide)
  refine ⟨?_, reported_after shown (by decide) cause port 0 0x50040 hc h1 h2 (by decide) (by decide)⟩
  rw [(scanReported_only d unit space port result cause hc).get _ (by decide)]
  exact Dev.get_set_same' _ _ _ (by decide) hr

/-- What a job that starts shows, and its frame. -/
theorem scanStarted_says (j : ScanJob) (e : Dev) (he : e = (d.scanChosen unit space).scanStarted j) :
    e.chk = { d.chk with job := some j } ∧ e.flag Reg.CHK_STATUS.SCAN_BUSY = true ∧ e.get Reg.CHK_SCAN_RES.RESULT = 1 ∧
      RegsOnly [0x50000, 0x50040, 0x50054] { d with chk := e.chk } e := by
  subst he
  refine ⟨rfl, ?_, Dev.get_set_same' _ _ _ (by decide) (by decide), ?_⟩
  · rw [Dev.scanStarted, Dev.flag_set_other _ _ _ _ (by decide)]
    exact Dev.flag_setB_same _ _ _ rfl (by decide)
  · exact ((((scanChosen_only d unit space).mono (by simp)).withChk _).setB _ _ (by decide)).set _ _ (by decide)

/-- A doorbell leaves every register but HOST_DB_OUT and those that tell. -/
theorem doorbell_word (i a : Nat) (h : a ≠ 0x150020) (ht : a ∉ tellRegs) : (d.doorbell i).word a = d.word a :=
  ((Told.doorbell d i).word a ht).trans (Dev.word_set_other d _ a _ h)

/-- What a job that breaks a limit shows with its doorbell, and its frame. -/
theorem scanRefused_says (hc : d.host.causes = none) (hp : port < 2)
    (e : Dev) (he : e = ((d.scanChosen unit space).scanReported 3 8 port).doorbell 7) :
    e.get Reg.CHK_SCAN_RES.RESULT = 3 ∧ Reported 8 port 0 0x50040 d e ∧ e.bitAt Reg.HOST_DB_OUT.DONE 7 = true ∧
      ToldOnly (0x50040 :: 0x50054 :: 0x150020 :: reportRegs) d e := by
  subst he
  obtain ⟨result, told, only⟩ := scanReported_says d unit space port (result := 3) (cause := 8) (by decide) hc (by decide) hp _ rfl
  refine ⟨?_, told.of_words (fun _ _ => rfl) fun x hx => ?_, doorbell_bit _ 7 (by decide), ?_⟩
  · rw [Dev.doorbell_get _ _ _ (by decide) (by decide), result]
  · have apart : ∀ x ∈ reportRegs, x ≠ 0x150020 ∧ x ∉ tellRegs := by decide
    exact doorbell_word _ 7 x (apart x hx).1 (apart x hx).2
  · exact Told.after ((only.mono (by simp +contextual)).set _ _ (by decide)) (Told.doorbell _ 7)

/-- A write of GO leaves the cellar. -/
theorem scanGo_img (hc : d.host.causes = none) : (d.scanGo unit space port).img = d.img := by
  have reports (result cause : Nat) : ((d.scanChosen unit space).scanReported result cause port).img = d.img :=
    (img_of (scanReported_only d unit space port result cause hc)).trans rfl
  by_cases busy : d.chk.job.isSome = true
  · rw [scanGo_busy d unit space port busy, reports]
  · have idle : d.chk.job = none := by simpa using busy
    by_cases legal : (d.scanJob (unit % 4) (space % 4)).legal = true
    · rw [scanGo_legal d unit space port idle legal]
      rfl
    · rw [scanGo_illegal d unit space port idle legal, Dev.doorbell_img, reports]

end

/-- Settles O31: a write of GO finds the engine busy, starts the job that the registers describe, or refuses it. -/
theorem scanJobStart : Obligations.ScanJobStart := by
  intro s t unit space port j d hd hu hc hp hunit hspace hj
  have job : d.scanJob (unit % 4) (space % 4) = j := by rw [Nat.mod_eq_of_lt hunit, Nat.mod_eq_of_lt hspace, hj, Dev.scanJob]
  have chosen : j.space = space := by rw [hj]
  refine ⟨d.scanGo unit space port, run_up s t _ d _ hd hu rfl (scanGo_img d unit space port hc), fun busy => ?busy,
    fun idle => ⟨fun limits => ?legal, fun limits => ?illegal⟩⟩
  case busy => exact scanReported_says d unit space port (by decide) hc (by decide) hp _ (scanGo_busy d unit space port busy)
  case legal =>
    rw [← chosen, ← ScanJob.legal_iff, ← job] at limits
    rw [← job]
    exact scanStarted_says d unit space _ _ (scanGo_legal d unit space port idle limits)
  case illegal =>
    rw [← chosen, ← ScanJob.legal_iff, ← job] at limits
    exact scanRefused_says d unit space port hc hp _ (scanGo_illegal d unit space port idle limits)

section
variable {s : State} {t : Nat} {d : Dev} (hd : d = s.dev.advance t) (hu : d.coreUp = true)
include hd hu

/-- Where no job runs, the engine starts the job that the registers describe, its unit and space cut to their fields' widths. -/
theorem exec_scanJobStart_legal (unit space port : Nat) (idle : d.chk.job = none)
    (legal : (d.scanJob (unit % 4) (space % 4)).legal = true) : exec (.scanJobStart t unit space port) s
      = .next (after s ((d.scanChosen unit space).scanStarted (d.scanJob (unit % 4) (space % 4)))) :=
  run_up_after s t _ d _ hd hu (scanGo_legal d unit space port idle legal)

theorem exec_scanJobComplete (mem : Memory) : exec (.scanJobComplete t mem) s = .next (after s (d.scanDone mem)) :=
  run_up_after s t _ d _ hd hu rfl

theorem exec_lineageLookup (resource op nth port : Nat) (hx : d.flag Reg.SYS_EXPERT.UNLOCKED = true) :
    exec (.lineageLookup t resource op nth port) s = .next (after s (d.opened.lineageLookup resource op nth)) :=
  run_up_after s t _ d _ hd hu (expert_unlocked d port _ _ hx)

end

/-- Settles O43, by the law of each command. -/
theorem integrityCommandsComplete : Obligations.IntegrityCommandsComplete := by
  refine ⟨fun s t d unit space port n job hd hu hn idle hj legal => ?start, fun _ _ _ mem _ hd hu _ _ => exec_scanJobComplete hd hu mem,
    fun _ _ _ resource op nth port hd hu => exec_lineageLookup hd hu resource op nth port⟩
  have described : job = d.scanJob (unit % 4) (space % 4) := by
    rw [hj, hn, ← scanJob_scanChosen d unit space]
    rfl
  rw [described] at legal
  rw [described, hn]
  exact exec_scanJobStart_legal hd hu unit space port idle legal

end Sys2Proof.Machine
end

section
/-! How arrivals at the entry ports answer where nothing refuses them (R142 to R145, R151, R158, R159, R351): one law for each command. -/
namespace Sys2Proof.Machine
open Sys2Proof Sys2Proof.Safety

/-- Two computations about a time of validity are one where they agree on the device that they begin on. -/
theorem about_congr (d : Dev) (tov : Int) (f g : Dev → Dev) (h : f (d.onto tov) = g (d.onto tov)) : d.about tov f = d.about tov g := by
  rw [Dev.about, Dev.about, h]

/-- An arrival that is admitted is taken by the device as the admission leaves it. -/
theorem about_admitted (d : Dev) (tov : Int) (judge : Dev → Bool × Dev) (take drop : Dev → Dev) (h : (judge (d.onto tov)).1 = true) :
    d.about tov (fun d => if (judge d).1 then take (judge d).2 else drop (judge d).2) = d.about tov fun d => take (judge d).2 :=
  about_congr d tov _ _ (if_pos h)

/-- The loss of a byte is noted for its sentence, the FIFO shown full, and the overflow counted (R144). -/
def Dev.byteLost (d : Dev) (b : LostByte) : Dev :=
  ((({ d with entry := { d.entry with lost := modAt d.entry.lost b.port (fun l => l ++ [b.first]) } } : Dev).showFill
    b.port 4096 0).inc (Reg.ENTRY_PORT.PORT_DROP.OVERFLOW b.port)).setB Reg.ENTRY_STATUS.OVF_STICKY true

/-- The time at which a datagram arrives, in ns: its ingress timestamp with the port's correction (R145, R209). -/
def Dev.ingressNs (d : Dev) (port ingress : Nat) : Nat := (((ingress : Int) + d.paramInt (P.NET.ING_CORR port)) / 4).toNat

section
variable {s : State} {t : Nat} {d : Dev} (hd : d = s.dev.advance t) (hu : d.coreUp = true)
include hd hu

theorem exec_serialSentenceReceived (port tArr : Nat) (chars : List Byte) (bad : Bool) (fill : Nat) {tov : Int} (hp : port < 12)
    (text : d.get (Reg.ENTRY_PORT.PORT_CFG.MODE port) = 0) (ht : tov = d.sourceTov (tArr / 10 * 10) (P.ENTRY.PORT_LAT port))
    (admitted : ((d.onto tov).serialAdmit port tArr fill chars.length bad).1 = true) :
    exec (.serialSentenceReceived t port tArr chars bad fill) s
      = .next (after s (d.about tov fun d => (d.serialAdmit port tArr fill chars.length bad).2.serialText port tArr chars)) := by
  subst ht
  exact run_up_after s t _ d _ hd hu ((if_neg (by simp [hp, text])).trans
    (about_admitted d _ (fun d => d.serialAdmit port tArr fill chars.length bad) (fun d => d.serialText port tArr chars) id admitted))

theorem exec_serialBinaryFrameReceived (port tArr : Nat) (bytes : List Byte) (bad : Bool) (fill : Nat) {tov : Int} (hp : port < 12)
    (binary : d.get (Reg.ENTRY_PORT.PORT_CFG.MODE port) = 1) (ht : tov = d.sourceTov (tArr / 10 * 10) (P.ENTRY.PORT_LAT port))
    (admitted : ((d.onto tov).serialAdmit port tArr fill bytes.length bad).1 = true) :
    exec (.serialBinaryFrameReceived t port tArr bytes bad fill) s
      = .next (after s (d.about tov fun d => (d.serialAdmit port tArr fill bytes.length bad).2.serialBinary port tArr 0 0 bytes)) := by
  subst ht
  exact run_up_after s t _ d _ hd hu ((if_neg (by simp [hp, binary])).trans
    (about_admitted d _ (fun d => d.serialAdmit port tArr fill bytes.length bad) (fun d => d.serialBinary port tArr 0 0 bytes) id admitted))

theorem exec_serialFifoOverflow (b : LostByte) (hp : b.port < 12) (on : d.get (Reg.ENTRY_PORT.PORT_CFG.MODE b.port) ≠ 2)
    (first : (d.entry.lost.getD b.port []).contains b.first = false) :
    exec (.serialFifoOverflow t b) s
      = .next (after s ((d.byteLost b).about ((d.byteLost b).sourceTov (b.first / 10 * 10) (P.ENTRY.PORT_LAT b.port)) fun d =>
          (d.uncover 3).raiseSub 33 b.port [0x60000, 0x60110 + 0x20 * b.port])) :=
  run_up_after s t _ d _ hd hu ((if_neg (by simp [hp, on])).trans (if_neg (ne_true_of_eq_false first)))

/-- A datagram within the rate and of the size, with the header of R145, is taken sentence by sentence. -/
theorem exec_netDatagramReceived (port ingress : Nat) (m : Datagram) {tov : Int} (hp : port < 4) (runs : d.running = true)
    (member : d.joined port m.group = true) (ht : tov = d.sourceTov (d.ingressNs port ingress) (P.ENTRY.NET_LAT port))
    (admitted : ((d.onto tov).countArrival (12 + port) (d.ingressNs port ingress)).1 = true) (size : m.payload.length ≤ 1472)
    (header : m.payload.take 6 = [0x55, 0x64, 0x50, 0x62, 0x43, 0x00]) :
    exec (.netDatagramReceived t port ingress m) s
      = .next (after s (d.about tov fun e => (linesOf (m.payload.drop 6)).foldl
          (fun e l => e.netSentence port (d.ingressNs port ingress) l) (e.countArrival (12 + port) (d.ingressNs port ingress)).2)) := by
  subst ht
  have within := ne_true_of_eq_false (congrArg not admitted)
  exact run_up_after s t _ d _ hd hu ((if_neg (by simp [hp, runs, member])).trans
    (about_congr d _ _ _ ((if_neg within).trans ((if_neg (by omega)).trans (if_neg (by simp [header]))))))

theorem exec_canFrameReceived (c : Nat) (f : RxFrame) (waits : Bool) (active : d.canActive c = true) :
    exec (.canFrameReceived t c f waits) s = .next (after s (d.canReceived c f waits)) :=
  run_up_after s t _ d _ hd hu (if_pos active)

theorem exec_slotTimeout (slot : Nat) (hs : slot < 64) (ended : d.windowOver slot = true) :
    exec (.slotTimeout t slot) s = .next (after s ((d.closeWindow slot).refTimeout slot)) :=
  run_up_after s t _ d _ hd hu (if_pos (by simp [hs, ended]))

theorem exec_afeSettlingEnd (n : Nat) (hn : n < 16) (runs : d.running = true) (settled : (d.chan n).settleEnd ≤ d.sched.st) :
    exec (.afeSettlingEnd t n) s = .next (after s (d.setB (Reg.AFE_CH.CH_STAT.SETTLING n) false)) :=
  run_up_after s t _ d _ hd hu ((if_pos (by simp [hn, runs])).trans (if_pos settled))

/-- An edge acts by the rules of R159, whether it passes the filter or not. -/
theorem exec_pulseEdge (p : Nat) (high : Bool) (hold : Nat) (hp : p < 8) :
    exec (.pulseEdge t p high hold) s = .next (after s (d.pulseEdge p t high hold)) :=
  run_up_after s t _ d _ hd hu (if_pos hp)

end

/-- Settles O44, by the law of each command. -/
theorem entryCommandsComplete : Obligations.EntryCommandsComplete :=
  ⟨fun _ _ _ port tArr chars bad fill _ hd hu => exec_serialSentenceReceived hd hu port tArr chars bad fill,
   fun _ _ _ port tArr bytes bad fill _ hd hu => exec_serialBinaryFrameReceived hd hu port tArr bytes bad fill,
   fun _ _ _ b _ hd hu hp on first hn => hn ▸ exec_serialFifoOverflow hd hu b hp on first,
   fun _ _ _ port ingress m _ _ hd hu hp runs member hArr => hArr ▸ exec_netDatagramReceived hd hu port ingress m hp runs member,
   fun _ _ _ c f waits hd hu => exec_canFrameReceived hd hu c f waits,
   fun _ _ _ slot hd hu => exec_slotTimeout hd hu slot,
   fun _ _ _ n hd hu => exec_afeSettlingEnd hd hu n,
   fun _ _ _ p high hold hd hu hp _ _ _ _ => exec_pulseEdge hd hu p high hold hp⟩

end Sys2Proof.Machine
end

section
/-! A cold restart of the receiver (R188, R507): what it discards, and its refusal outside M1 and M7. -/
namespace Sys2Proof.Machine
open Sys2Proof Sys2Proof.Safety

/-- A reset of a range of addresses drops the listed words of the range and no others. -/
theorem RegFile.find_resetRange (m : RegFile) (lo hi a : Nat) :
    RegFile.find (m.resetRange lo hi) a = if lo ≤ a ∧ a < hi then none else RegFile.find m a := by
  induction m with
  | nil => simp [RegFile.resetRange, RegFile.find]
  | cons e m ih =>
    obtain ⟨b, v⟩ := e
    unfold RegFile.resetRange at ih ⊢
    by_cases kept : b < lo ∨ hi ≤ b
    · rw [List.filter_cons_of_pos (by simpa using kept), RegFile.find, RegFile.find, ih]
      grind
    · rw [List.filter_cons_of_neg (by simpa using kept), RegFile.find, ih]
      grind

/-- A register of the range reads its reset word. -/
theorem RegFile.read_resetRange_inside (m : RegFile) {lo hi a : Nat} (hl : lo ≤ a) (hh : a < hi) :
    (m.resetRange lo hi).read a = regReset a := by
  rw [RegFile.read, RegFile.find_resetRange, if_pos ⟨hl, hh⟩, Option.getD_none]

/-- A register outside the range stays. -/
theorem RegFile.read_resetRange_outside (m : RegFile) {lo hi a : Nat} (h : ¬ (lo ≤ a ∧ a < hi)) :
    (m.resetRange lo hi).read a = m.read a := by
  rw [RegFile.read, RegFile.find_resetRange, if_neg h, RegFile.read]

/-- The device after a cold restart: what the receiver has decoded, solved and predicted is gone, and its channels are idle (R188). -/
def Dev.restartedCold (d : Dev) : Dev := { d with
  regs := d.regs.resetRange 0x81000 0x81F00
  gnss := { d.gnss with ephemerides := [], almanac := false, almanacTainted := false, position := none, predicted := [] } }

/-- In M1 and M7 a cold restart is carried out. -/
theorem coldRestart_allowed (d : Dev) (port : Nat) (hm : d.mode = 1 ∨ d.mode = 7) : d.coldRestart port = d.restartedCold :=
  if_pos (by simpa using hm)

/-- In every other mode a cold restart is reported with cause 8 (R507). -/
theorem coldRestart_refused (d : Dev) (port : Nat) (hm : ¬ (d.mode = 1 ∨ d.mode = 7)) :
    d.coldRestart port = d.reportWrite 8 port 0 0x80050 false :=
  if_neg (by simpa using hm)

/-- A cold restart leaves the cellar as it is, carried out or refused. -/
theorem coldRestart_img (d : Dev) (port : Nat) (hc : d.host.causes = none) : (d.coldRestart port).img = d.img := by
  by_cases hm : d.mode = 1 ∨ d.mode = 7
  · rw [coldRestart_allowed d port hm]
    rfl
  · rw [coldRestart_refused d port hm, img_of (report_only d 8 port 0 0x80050 false hc)]

/-- Settles O38, by the mode: the restart is carried out, or its write is reported. -/
theorem coldRestartDiscards : Obligations.ColdRestartDiscards := by
  intro s t port d hd hu hc hp
  refine ⟨d.coldRestart port, run_up s t _ d _ hd hu rfl (coldRestart_img d port hc), fun hm => ?_, fun hm => ?_⟩
  · rw [coldRestart_allowed d port hm]
    exact ⟨rfl, fun _ => RegFile.read_resetRange_inside d.regs, fun _ => RegFile.read_resetRange_outside d.regs, rfl⟩
  · rw [coldRestart_refused d port hm]
    exact reported d 8 port 0 0x80050 hc (by decide) hp (by decide) (by decide)

end Sys2Proof.Machine
end

section
/-! How the commands of the GNSS baseband answer where the conditions of their rules hold (R169, R171, R173, R174, R178, R179, R182, R184,
R186, R188): one law for each command. -/
namespace Sys2Proof.Machine
open Sys2Proof Sys2Proof.Safety

/-- A command that acts whatever domains are up answers its effect, with what no command may undo kept. -/
theorem run_after (s : State) (f : Dev → Dev) (e : Dev) (he : f s.dev = e) : s.run f = .next (after s e) := by
  rw [State.run_eq, State.apply, he]
  rfl

/-- An antenna's bias is switched on again, and the retry counted (R169). -/
def Dev.biasRetried (d : Dev) (a : Nat) : Dev :=
  (d.setAnt a (fun x => { x with biasOn := true, tries := x.tries + 1, retryAt := none, highSince := none })).inc
    (Reg.GNSS_ANT.RETRIES a)

/-- A shorted antenna is retried while its bias is off (R169). -/
theorem retryAnt_shorted (d : Dev) (a : Nat) (short : d.get (Reg.GNSS_ANT.STATE a) = 3) (off : (d.ant a).biasOn = false) :
    d.retryAnt a = d.biasRetried a :=
  if_pos (by simp [short, off])

/-- A satellite found where the engine searches is handed to tracking, with the other band's signal where one is handed over (R171). -/
theorem acquired_inSearch (d : Dev) (first : GnssChannel) (second : Option GnssChannel) (supported : first.supported = true)
    (runs : d.signalStopped first.signal = false) (found : d.inSearch first = true)
    (other : ∀ c ∈ second, first.otherBand c = true ∧ (d.showChannel first false).signalStopped c.signal = false) :
    d.acquired first second
      = second.elim (d.showChannel first false) fun c => (d.showChannel first false).showChannel c false := by
  refine (if_neg (by simp [supported, runs, found])).trans ?_
  cases second with
  | none => rfl
  | some c =>
    obtain ⟨band, runs'⟩ := other c rfl
    exact if_pos (by simp [band, runs'])

/-- Spoofing is left for the state that interference alone decides, which the receiver notes (R184). -/
def Dev.spoofingLeft (d : Dev) : Dev := { d.enterIntegrity (d.get Reg.GNSS_STATUS.JAM) with
  gnss := { (d.enterIntegrity (d.get Reg.GNSS_STATUS.JAM)).gnss with left := true } }

/-- Confirmed spoofing is left once the clear time has run (R184). -/
theorem spoofAck_cleared (d : Dev) (port : Nat) (confirmed : d.get Reg.GNSS_STATUS.INTEG = 3)
    (clear : heldFor d.sched.st (nsOfSec (d.paramF P.GNSS.SPOOF_CLEAR)) d.gnss.passSince = true) :
    d.spoofAck port = d.spoofingLeft :=
  if_pos (by simp [confirmed, clear])

/-! ## Commands that need the CORE domain -/

section
variable {s : State} {t : Nat} {d : Dev} (hd : d = s.dev.advance t) (hu : d.coreUp = true)
include hd hu

theorem exec_gnssEpochDrop (output : Nat) {epoch : Nat} (he : epoch = (d.sched.st - 1500000) / d.epochPeriod * d.epochPeriod)
    (runs : d.running = true) (receives : d.flag Reg.GNSS_STATUS.RUNNING = true) (sealing : d.seals output = true)
    (late : 1500000 ≤ d.sched.st) (unsealed : d.outOpen output epoch = true) :
    exec (.gnssEpochDrop t output) s = .next (after s (d.dropEpoch output epoch)) := by
  subst he
  exact run_up_after s t _ d _ hd hu (if_pos (by simp [runs, receives, sealing, late, unsealed]))

theorem exec_antBiasMeasure (a b : AntMeasure) :
    exec (.antBiasMeasure t a b) s = .next (after s ((d.measureAnt 0 a).measureAnt 1 b)) :=
  run_up_after s t _ d _ hd hu rfl

theorem exec_antBiasRetry (ant : Nat) {due : Nat} (timer : (d.ant ant).retryAt = some due) (expired : due ≤ d.sched.st)
    (short : d.get (Reg.GNSS_ANT.STATE ant) = 3) (off : (d.ant ant).biasOn = false) :
    exec (.antBiasRetry t ant) s = .next (after s (d.biasRetried ant)) :=
  run_up_after s t _ d _ hd hu (by
    rw [timer]
    exact (if_pos expired).trans (retryAnt_shorted d ant short off))

/-- A retry at once acts on both antennas, each as it stands. -/
theorem exec_antRetry : exec (.antRetry t) s = .next (after s ((d.retryAnt 0).retryAnt 1)) :=
  run_up_after s t _ d _ hd hu rfl

theorem exec_acquisitionComplete (first : GnssChannel) (second : Option GnssChannel) (supported : first.supported = true)
    (runs : d.signalStopped first.signal = false) (found : d.inSearch first = true)
    (other : ∀ c ∈ second, first.otherBand c = true ∧ (d.showChannel first false).signalStopped c.signal = false) :
    exec (.acquisitionComplete t first second) s = .next (after s
      (second.elim (d.showChannel first false) fun c => (d.showChannel first false).showChannel c false)) :=
  run_up_after s t _ d _ hd hu (acquired_inSearch d first second supported runs found other)

/-- Correction frames within the rate, by the path that is selected, are taken: one frame of a serial port, or those of a datagram. -/
theorem exec_rtcmFrameReceived (source udpPort : Nat) (frame : List Byte) (hs : source < 16)
    (path : d.get Reg.GNSS_CORR_CFG.SRC = source) (port : source < 12 ∨ d.get Reg.GNSS_CORR_CFG.UDP_PORT = udpPort)
    (admitted : (d.countArrival source t).1 = true) :
    exec (.rtcmFrameReceived t source udpPort frame) s = .next (after s
      (if source < 12 then (d.countArrival source t).2.rtcmFrame t frame
        else (d.countArrival source t).2.rtcmFrames t frame (frame.length + 1))) :=
  run_up_after s t _ d _ hd hu ((if_neg (by simp [path, hs])).trans
    ((if_neg (by simpa using fun twelve => port.resolve_left (Nat.not_lt.mpr twelve))).trans (if_pos admitted)))

theorem exec_gnssCorrFifoWrite (w : Word) (port : Nat) {n : Dev} (path : d.get Reg.GNSS_CORR_CFG.SRC = 16)
    (hn : n = { d with gnss := { d.gnss with fifo := d.gnss.fifo ++ leBytes 4 w.toNat } }) :
    exec (.gnssCorrFifoWrite t w port) s = .next (after s (n.fifoFrames n.gnss.fifo.length)) := by
  subst hn
  exact run_up_after s t _ d _ hd hu (if_neg (by simp [path]))

theorem exec_correctionAgeExpiry (rest : FixEvidence) (closed : d.corrClosed = true) :
    exec (.correctionAgeExpiry t rest) s
      = .next (after s (d.takeFix (d.fixType rest).1 (d.get Reg.GNSS_FIX.ANT) (d.fixType rest).2)) :=
  run_up_after s t _ d _ hd hu (if_pos closed)

theorem exec_interferenceTimer (l1 l5 : ChainNoise) :
    exec (.interferenceTimer t l1 l5) s = .next (after s (d.judgeJam l1 l5).jamState) :=
  run_up_after s t _ d _ hd hu rfl

theorem exec_spoofAck (port : Nat) (confirmed : d.get Reg.GNSS_STATUS.INTEG = 3)
    (clear : heldFor d.sched.st (nsOfSec (d.paramF P.GNSS.SPOOF_CLEAR)) d.gnss.passSince = true) :
    exec (.spoofAck t port) s = .next (after s d.spoofingLeft) :=
  run_up_after s t _ d _ hd hu (spoofAck_cleared d port confirmed clear)

theorem exec_coldRestart_allowed (port : Nat) (hm : d.mode = 1 ∨ d.mode = 7) :
    exec (.coldRestart t port) s = .next (after s d.restartedCold) :=
  run_up_after s t _ d _ hd hu (coldRestart_allowed d port hm)

end

/-- The command of an epoch gives its own time; a multiple of the period takes the receiver through R173 to R185. -/
theorem exec_gnssEpoch {s : State} {d : Dev} (o : GnssEpoch) (hd : d = s.dev.advance o.epoch) (hu : d.coreUp = true)
    (receives : d.flag Reg.GNSS_STATUS.RUNNING = true) (rate : d.param P.GNSS.RATE ≠ 0) (onGrid : o.epoch % d.epochPeriod = 0) :
    exec (.gnssEpoch o) s = .next (after s (d.about o.epoch fun d => d.gnssEpoch o)) :=
  run_up_after s o.epoch _ d _ hd hu (if_pos (by simp [receives, rate, onGrid]))

/-! ## Commands in M0 -/

section
variable {s : State} (dormant : s.dev.clk.phase = .dormant)
include dormant

theorem exec_gnssDormantBurst (seconds : Nat) (position : Option (Quad × Quad × Quad)) (used decoded expired : List (Nat × Nat))
    (inp : StartIn) :
    exec (.gnssDormantBurst seconds position used decoded expired inp) s
      = .next (after s (s.dev.burst seconds position used decoded expired inp)) :=
  run_after s _ _ (if_pos dormant)

/-- A renewal under way ends, with the satellites completed last where they count within its 60 s. -/
theorem exec_ephemerisRenewalComplete (seconds : Nat) (renewed : List (Nat × Nat)) {began : Nat} {n : Dev}
    (running : s.dev.gnss.renewing = some began) (later : began ≤ seconds)
    (hn : n = if seconds ≤ began + 60 then (s.dev.caughtUp seconds).renewed renewed else s.dev) :
    exec (.ephemerisRenewalComplete seconds renewed) s
      = .next (after s { n with gnss := { n.gnss with renewing := none } }) := by
  subst hn
  exact run_after s _ _ (by
    rw [dormant, running]
    exact if_pos later)

end

/-- Settles O45, by the law of each command. -/
theorem gnssCommandsComplete : Obligations.GnssCommandsComplete :=
  ⟨fun _ o _ => exec_gnssEpoch o,
   fun _ _ _ output _ hd hu => exec_gnssEpochDrop hd hu output,
   fun _ _ _ a b hd hu => exec_antBiasMeasure hd hu a b,
   fun _ _ _ ant _ hd hu => exec_antBiasRetry hd hu ant,
   fun _ _ _ hd hu _ _ => exec_antRetry hd hu,
   fun _ _ _ first second hd hu => exec_acquisitionComplete hd hu first second,
   fun _ _ _ source udpPort frame hd hu => exec_rtcmFrameReceived hd hu source udpPort frame,
   fun _ _ _ w port _ hd hu => exec_gnssCorrFifoWrite hd hu w port,
   fun _ _ _ rest hd hu => exec_correctionAgeExpiry hd hu rest,
   fun _ _ _ l1 l5 hd hu => exec_interferenceTimer hd hu l1 l5,
   fun _ _ _ port hd hu => exec_spoofAck hd hu port,
   fun _ _ _ port hd hu => exec_coldRestart_allowed hd hu port,
   fun _ seconds position used decoded expired inp dormant =>
     exec_gnssDormantBurst dormant seconds position used decoded expired inp,
   fun _ seconds renewed _ _ dormant => exec_ephemerisRenewalComplete dormant seconds renewed⟩

end Sys2Proof.Machine
end

section
/-! How the host reads schedule time, and how a capture of its low word extends to the whole of it (R22, R194, R211). -/
namespace Sys2Proof.Machine
open Sys2Proof Sys2Proof.Safety

/-- TS32 of a schedule time is its low word (R194). -/
theorem ts32Of_natCast (t : Nat) : ts32Of (t : Int) = BitVec.ofNat 32 t := BitVec.ofInt_natCast 32 t

/-- A capture less than 2^32 ns old lies before the present by the difference of their low words (R194). -/
theorem sub_ts32Of (c now : Nat) (past : c ≤ now) (young : now < c + 2 ^ 32) :
    now - (BitVec.ofNat 32 now - ts32Of c).toNat = c := by
  have age : (BitVec.ofNat 32 now - ts32Of c).toNat = now - c := by
    rw [ts32Of_natCast, BitVec.toNat_sub, BitVec.toNat_ofNat, BitVec.toNat_ofNat]
    omega
  rw [age, Nat.sub_sub_self past]

section
variable {d : Dev} (hu : d.coreUp = true)
include hu

/-- The high word of schedule time, in either register that shows it (R194, R211). -/
theorem hostWord_st_high {a : Nat} (ha : a = 0xC ∨ a = 0x9000C) :
    d.hostWord a = (BitVec.ofNat 64 d.sched.st).extractLsb' 32 32 := by
  rw [hostWord_live d a _ 0xFFFFFFFF#32 (serves_core d hu a) (by rcases ha with rfl | rfl <;> decide +kernel)
    (if_pos (by simpa using ha)), and_ones]

/-- TIME_ST_LO shows the low word of schedule time (R211). -/
theorem hostWord_st_low : d.hostWord 0x90008 = BitVec.ofNat 32 d.sched.st := by
  rw [hostWord_live d _ _ 0xFFFFFFFF#32 (serves_core d hu _) (by decide +kernel) rfl, and_ones]
  exact BitVec.eq_of_toNat_eq (by simp [BitVec.extractLsb'_toNat])

/-- The bits above the low word. -/
theorem hostWord_st_high_toNat {a : Nat} (ha : a = 0xC ∨ a = 0x9000C) : (d.hostWord a).toNat = d.sched.st / 2 ^ 32 % 2 ^ 32 := by
  rw [hostWord_st_high hu ha, BitVec.extractLsb'_toNat, BitVec.toNat_ofNat, Nat.shiftRight_eq_div_pow]
  omega

/-- SCHED_FRAME shows the number of the minor frame, modulo 65,536 (R22). -/
theorem hostWord_frame16 : (d.hostWord 0x30004).toNat % 2 ^ 16 = d.sched.st / 1000000 % 65536 := by
  rw [hostWord_live d _ _ 0xFFFFFF#32 (serves_core d hu _) (by decide +kernel) rfl, BitVec.toNat_and]
  have mask : (0xFFFFFF#32).toNat = 2 ^ 24 - 1 := rfl
  rw [mask, Nat.and_two_pow_sub_one_eq_mod, BitVec.toNat_ofNat]
  omega

end

/-- Settles O26: every register that shows schedule time is read live, and two words of 32 bits make one of 64. -/
theorem scheduleTimeShown : Obligations.ScheduleTimeShown := by
  intro d hu
  have low : d.ts32 = d.hostWord 0x90008 := (ts32Of_natCast d.sched.st).trans (hostWord_st_low hu).symm
  have lowNat : (d.hostWord 0x90008).toNat = d.sched.st % 2 ^ 32 := by rw [hostWord_st_low hu, BitVec.toNat_ofNat]
  refine ⟨lowNat, hostWord_st_high_toNat hu (.inr rfl), (hostWord_st_high hu (.inl rfl)).trans (hostWord_st_high hu (.inr rfl)).symm,
    low, hostWord_frame16 hu, ?_, sub_ts32Of⟩
  rintro now rfl
  rw [low, lowNat, hostWord_st_high_toNat hu (.inl rfl)]
  omega

end Sys2Proof.Machine
end

section
/-! How device time moves by a step, and how host software sets it (R197, R453, R507). -/
namespace Sys2Proof.Machine
open Sys2Proof Sys2Proof.Safety

/-! ## A step of device time -/

/-- Beside the shift itself, a step of device time only tells: its event, and the record of the discontinuity (R453). -/
theorem moveDt_told (d : Dev) (e : Int) {event : Nat} (hn : event < 96) (cause : Nat) : Told (d.shiftDt e) (d.moveDt e event cause) := by
  unfold Dev.moveDt
  exact ((Told.refl _).signal event hn).record _ _ _

theorem eventSet_moveDt (d : Dev) (e : Int) {event : Nat} (hn : event < 96) (cause : Nat) :
    eventSet event (d.moveDt e event cause) = true := by
  unfold Dev.moveDt
  exact ((Told.refl _).record _ _ _).eventSet event hn (eventSet_signal _ event hn)

theorem moveDt_dtQ (d : Dev) (e : Int) {event : Nat} (hn : event < 96) (cause : Nat) : (d.moveDt e event cause).dtQ = d.dtQ + e := by
  have told := moveDt_told d e hn cause
  unfold Dev.dtQ
  rw [told.sched, told.time]
  exact (Int.add_assoc _ _ _).symm

/-! ## TIME_CTRL.SET -/

/-- TIME_STATUS once host software has set device time: it is valid, and a step was made. -/
def Dev.stepShown (d : Dev) : Dev := (d.setB Reg.TIME_STATUS.DT_VALID true).setB Reg.TIME_STATUS.STEP_STICKY true

/-- The step in quarter-ns from device time to the TIME_SET registers. -/
def Dev.hostStep (d : Dev) : Int := 4 * ((d.get Reg.TIME_SET_SEC.SEC : Int) * 1000000000 + d.get Reg.TIME_SET_NS.NS) - d.dtQ

theorem timeSet_m7 {d : Dev} (port : Nat) (m7 : d.mode = 7) : d.timeSet port = d.stepShown.moveDt d.hostStep 42 1 :=
  if_neg (by simp [m7])

theorem timeSet_refused {d : Dev} (port : Nat) (hm : d.mode ≠ 7) : d.timeSet port = d.reportWrite 8 port 0 0x90030 false :=
  if_pos (bne_iff_ne.mpr hm)

/-- The status shows the step and the shift moves device time, in either order. -/
theorem stepShown_shiftDt (d : Dev) (e : Int) : RegsOnly [0x90000] (d.shiftDt e) (d.stepShown.shiftDt e) :=
  ((RegsOnly.refl _ (d.shiftDt e)).setB Reg.TIME_STATUS.DT_VALID true (by decide)).setB Reg.TIME_STATUS.STEP_STICKY true (by decide)

theorem stepShown_valid (d : Dev) : d.stepShown.flag Reg.TIME_STATUS.DT_VALID = true :=
  (Dev.flag_set_apart (d.setB Reg.TIME_STATUS.DT_VALID true) Reg.TIME_STATUS.STEP_STICKY Reg.TIME_STATUS.DT_VALID _ rfl (by decide)
    (by decide)).trans (Dev.flag_setB_same d Reg.TIME_STATUS.DT_VALID true rfl (by decide))

/-- Neither a step nor a report touches the cellar. -/
theorem timeSet_img {d : Dev} (port : Nat) (hc : d.host.causes = none) : (d.timeSet port).img = d.img := by
  by_cases hm : d.mode = 7
  · rw [timeSet_m7 port hm]
    exact (moveDt_told d.stepShown d.hostStep (by decide) 1).img
  · rw [timeSet_refused port hm]
    exact img_of (report_only d 8 port 0 0x90030 false hc)

theorem exec_timeSet {s : State} {t : Nat} {d : Dev} (hd : d = s.dev.advance t) (hu : d.coreUp = true) (port : Nat) :
    exec (.timeSet t port) s = .next (after s (d.timeSet port)) :=
  run_up_after s t _ d _ hd hu rfl

/-- Settles O25: in M7 the step is the difference from the TIME_SET registers, and beside the shift by it only TIME_STATUS and what tells
of the step change. -/
theorem timeSetInM7 : Obligations.TimeSetInM7 := by
  intro s t port d hd hu hc hp
  refine ⟨d.timeSet port, by rw [exec_timeSet hd hu, after_of_img hd (timeSet_img port hc)], fun m7 => ?_, fun hm => ?_⟩
  · rw [timeSet_m7 port m7]
    have told := moveDt_told d.stepShown d.hostStep (event := 42) (by decide) 1
    have time : (d.stepShown.moveDt d.hostStep 42 1).time = (d.shiftDt d.hostStep).time := told.time
    have step : (d.shiftDt d.hostStep).time.offset - d.time.offset = d.hostStep := add_sub_cancel_left ..
    refine ⟨?_, ?_, eventSet_moveDt _ _ (by decide) 1, ?_, ?_⟩
    · rw [moveDt_dtQ _ _ (by decide)]
      exact add_sub_cancel d.dtQ _
    · rw [told.flag _ (by decide)]
      exact stepShown_valid d
    · rw [time, step]
      rfl
    · rw [time]
      exact told.after (stepShown_shiftDt d d.hostStep)
  · rw [timeSet_refused port hm]
    exact reported d 8 port 0 0x90030 hc (by decide) hp (by decide) (by decide)

end Sys2Proof.Machine
end

section
/-! How the commands of device time and of the network answer where the conditions of their rules hold (R197, R199, R203, R205, R206, R207,
R210): one law for each command. -/
namespace Sys2Proof.Machine
open Sys2Proof Sys2Proof.Safety

/-- The scheduled step is taken off the schedule, and the offset before it kept for its edge (R203, R204). -/
def Dev.stepTaken (d : Dev) (sec : Nat) : Dev :=
  { (d.setB Reg.TIME_STATUS.STEP_PEND false).setB Reg.TIME_STATUS.STEP_STICKY true with
    time := { d.time with step := none, stepped := some (d.time.offset, sec) } }

/-- PPS_OUT rises, with the captured time of its edge (R205). -/
def Dev.ppsRisen (d : Dev) (x : Stamp) : Dev :=
  { d.set Reg.TIME_PPS_TS.TS d.ts32.toNat with time := { d.time with ppsHigh := true, ppsLast := some x } }

/-- The announced leap second is counted and no longer pending (R206). -/
def Dev.leapCounted (d : Dev) : Dev :=
  (d.setInt Reg.TIME_LEAP.OFFSET (d.getInt Reg.TIME_LEAP.OFFSET + (if d.get Reg.TIME_LEAP.PENDING = 1 then 1 else -1))).set
    Reg.TIME_LEAP.PENDING 0

/-- The Announce, or the Sync with its follow-up, that a master transmits (R207, R208). -/
def Dev.masterSends (d : Dev) (port dom k : Nat) (announce : Bool) (at_ : Int) : Dev :=
  { d with net := { d.net with
      ptp := if announce then [d.ptpSend port dom .announce at_] else [d.ptpSend port dom .sync at_, d.ptpSend port dom .syncFollow at_]
      syncAt := if announce then d.net.syncAt else ((port, k), d.sched.st) :: d.net.syncAt.filter (fun e => e.1 != (port, k)) } }

/-- The frame at the head of a queue waits for its launch time (R210). -/
def Dev.launchWaits (d : Dev) (port queue launch : Nat) : Dev :=
  { d.unwait port queue with net := { (d.unwait port queue).net with
      waiting := (port, queue, launch) :: (d.unwait port queue).net.waiting } }

theorem leapCounted_src (d : Dev) : d.leapCounted.get Reg.TIME_STATUS.SRC = d.get Reg.TIME_STATUS.SRC :=
  (Dev.get_set_other _ _ _ _ (by decide)).trans (Dev.get_set_other _ _ _ _ (by decide))

section
variable {s : State} {t : Nat} {d : Dev} (hd : d = s.dev.advance t) (hu : d.coreUp = true)
include hd hu

/-! ## Sources, steps, PPS and leap seconds -/

theorem exec_timeSourceQualified {source : Nat} (m : SourceMeasure) (hs : source < 3)
    (offers : source = 0 → d.flag Reg.GNSS_STATUS.TIME_OK = true) (steady : (d.measureSource source m).steadyLongEnough source = true)
    (fresh : ((d.measureSource source m).source source).qualified = false) :
    exec (.timeSourceQualified t source m) s = .next (after s ((d.measureSource source m).qualifySource source)) :=
  run_up_after s t _ d _ hd hu ((if_neg (by simpa [hs] using offers)).trans (if_pos (by simp [steady, fresh])))

theorem exec_timeSourceLost {source : Nat} (hs : source < 3) : exec (.timeSourceLost t source) s = .next (after s (d.loseSource source)) :=
  run_up_after s t _ d _ hd hu (if_pos hs)

theorem exec_timeStepApply {sec : Nat} {e : Int} (scheduled : d.time.step = some (sec, e)) (reached : (sec : Int) ≤ d.dtSec) :
    exec (.timeStepApply t) s = .next (after s ((d.stepTaken sec).moveDt e 42 2)) :=
  run_up_after s t _ d _ hd hu (by
    rw [scheduled]
    exact if_neg (not_lt.mpr reached))

theorem exec_ppsEdge {x : Stamp} (edge : d.ppsAt = some x) (may : d.ppsEnabled = true)
    (apart : ∀ l ∈ d.time.ppsLast, x.before (l.later 500000000) = false) :
    exec (.ppsEdge t) s = .next (after s (d.ppsRisen x)) :=
  run_up_after s t _ d _ hd hu (by
    rw [edge]
    refine if_neg ?_
    cases last : d.time.ppsLast with
    | none => simp [may]
    | some l => simp [may, apart l last])

/-- Without a selected source the leap second is counted in TIME_LEAP alone. -/
theorem exec_leapSecondApply (announced : d.get Reg.TIME_LEAP.PENDING ≠ 0) (reached : (d.time.leapAt : Int) ≤ d.dtSec)
    (free : d.get Reg.TIME_STATUS.SRC = 3) : exec (.leapSecondApply t) s = .next (after s d.leapCounted) := by
  have src : d.leapCounted.get Reg.TIME_STATUS.SRC = 3 := (leapCounted_src d).trans free
  refine run_up_after s t _ d _ hd hu ((if_neg (by simpa [announced] using reached)).trans ?_)
  unfold Dev.leapCounted at src ⊢
  simp only [src]

/-! ## PTP -/

theorem exec_ptpMessageReceived (m : PtpMessage) {k : Nat} (hp : m.port < 4) (on : d.flag (Reg.NET_PTP.PTP_CFG.EN m.port) = true)
    (transport : m.udp = d.flag (Reg.NET_PTP.PTP_CFG.UDP m.port)) (tracked : d.domainIndex m.dom = some k) :
    exec (.ptpMessageReceived t m) s = .next (after s (d.ptpMessage k m)) :=
  run_up_after s t _ d _ hd hu ((if_pos (by simp [hp, on, transport])).trans (by rw [tracked]))

theorem exec_ptpSyncTransmit {port dom k : Nat} (announce : Bool) (stamp : Int) (hp : port < 4) (tracked : d.domainIndex dom = some k)
    (on : d.flag (Reg.NET_PTP.PTP_CFG.EN port) = true) (role : d.get (Reg.NET_PTP.PTP_CFG.ROLE port) ≠ 1)
    (master : d.get (ptpState k port) = 6) (valid : d.flag Reg.TIME_STATUS.DT_VALID = true)
    (due : announce = true ∨ ∀ a ∈ lookupAt d.net.syncAt (port, k), a + d.syncInterval ≤ d.sched.st) :
    exec (.ptpSyncTransmit t port dom announce stamp) s
      = .next (after s (d.masterSends port dom k announce (stamp + d.paramInt (P.NET.EGR_CORR port)))) :=
  run_up_after s t _ d _ hd hu (by
    rw [tracked]
    refine if_pos ?_
    rcases due with rfl | interval
    · simp [hp, on, role, master, valid]
    · cases last : lookupAt d.net.syncAt (port, k) with
      | none => simp [hp, on, role, master, valid]
      | some a => simp [hp, on, role, master, valid, interval a last])

/-! ## Launch-time queues -/

theorem exec_launchFrameAtHead {port queue launch : Nat} (busy : Bool) (hp : port < 4) (hq : queue < 8)
    (honours : d.flag (Reg.NET_TXQ.QCFG.LAUNCH_EN port queue) = true) (early : d.sched.st < launch) :
    exec (.launchFrameAtHead t port queue launch busy) s = .next (after s (d.launchWaits port queue launch)) :=
  run_up_after s t _ d _ hd hu ((if_neg (by simp [hp, hq])).trans ((if_neg (by simp [honours])).trans (if_pos early)))

theorem exec_launchTimeReached {port queue launch : Nat} (busy : Bool)
    (waits : d.net.waiting.find? (fun e => e.1 == port && e.2.1 == queue) = some (port, queue, launch)) (due : launch ≤ d.sched.st) :
    exec (.launchTimeReached t port queue busy) s = .next (after s ((d.unwait port queue).offerFrame port queue busy true)) :=
  run_up_after s t _ d _ hd hu (by
    rw [waits]
    exact if_neg (not_lt.mpr due))

end

/-- Settles O46, by the law of each command. -/
theorem timeCommandsComplete : Obligations.TimeCommandsComplete :=
  ⟨fun _ _ _ _ m hd hu => exec_timeSourceQualified hd hu m,
   fun _ _ _ _ hd hu => exec_timeSourceLost hd hu,
   fun _ _ _ _ _ hd hu => exec_timeStepApply hd hu,
   fun _ _ _ _ hd hu => exec_ppsEdge hd hu,
   fun _ _ _ _ hd hu pending => pending ▸ exec_leapSecondApply hd hu,
   fun _ _ _ port hd hu m7 => timeSet_m7 port m7 ▸ exec_timeSet hd hu port,
   fun _ _ _ m _ hd hu => exec_ptpMessageReceived hd hu m,
   fun _ _ _ _ _ announce stamp _ _ hd hu hp tracked on role master valid due stamped =>
     stamped ▸ exec_ptpSyncTransmit hd hu announce stamp hp tracked on role master valid due,
   fun _ _ _ _ _ _ busy hd hu => exec_launchFrameAtHead hd hu busy,
   fun _ _ _ _ _ busy _ hd hu => exec_launchTimeReached hd hu busy⟩

end Sys2Proof.Machine
end

section
/-! A request to move the fusion's origin, and one to reset its filter (R221, R226, R507): refused by the mode or by the latitude, or taken
for the next major-frame boundary. -/
namespace Sys2Proof.Machine
open Sys2Proof Sys2Proof.Safety

/-- A request through FUS_CTRL that is refused: RESULT shows why, and the write is reported. -/
def Dev.fusRefused (d : Dev) (result port : Nat) : Dev := (d.set Reg.FUS_CTRL_RES.RESULT result).reportWrite 8 port 0 0xA0054 false

/-- A request through FUS_CTRL that is taken: the fusion block notes it, and RESULT shows that it waits. -/
def Dev.fusWaits (d : Dev) (f : FusState) : Dev := { d.set Reg.FUS_CTRL_RES.RESULT 1 with fus := f }

/-- The latitude of the requested origin lies outside 89 degrees. -/
def Dev.originBeyond (d : Dev) : Bool := (F64.ofInt 89).lt (F64.mk (d.word 0xA0044 ++ d.word 0xA0040)).abs

theorem loopClosed_iff (d : Dev) : d.loopClosed = true ↔ 4 ≤ d.mode ∧ d.mode ≤ 6 := by
  simp [Dev.loopClosed]

section
variable (d : Dev) (port : Nat)

/-- A refused request is reported once its RESULT is shown, and no more follows. -/
theorem fusRefused_only (result : Nat) (hc : d.host.causes = none) :
    RegsOnly reportRegs (d.set Reg.FUS_CTRL_RES.RESULT result) (d.fusRefused result port) :=
  report_only _ 8 port 0 0xA0054 false hc

/-- What a refused request shows, and its frame. -/
theorem fusRefused_says {result : Nat} (hr : result < 256) (hc : d.host.causes = none) (hp : port < 2) :
    (d.fusRefused result port).get Reg.FUS_CTRL_RES.RESULT = result ∧ Reported 8 port 0 0xA0054 d (d.fusRefused result port) ∧
      RegsOnly (0xA0058 :: reportRegs) d (d.fusRefused result port) := by
  have shown : RegsOnly [0xA0058] d (d.set Reg.FUS_CTRL_RES.RESULT result) := (RegsOnly.refl _ d).set _ _ (by decide)
  refine ⟨?_, reported_after shown (by decide) 8 port 0 0xA0054 hc (by decide) hp (by decide) (by decide)⟩
  rw [(fusRefused_only d port result hc).get _ (by decide)]
  exact Dev.get_set_same' _ _ _ (by decide) hr

/-- What a request that waits shows, and its frame. -/
theorem fusWaits_says (f : FusState) :
    (d.fusWaits f).fus = f ∧ (d.fusWaits f).get Reg.FUS_CTRL_RES.RESULT = 1 ∧
      RegsOnly [0xA0058] { d with fus := (d.fusWaits f).fus } (d.fusWaits f) :=
  ⟨rfl, Dev.get_set_same' d _ 1 (by decide) (by decide),
    (RegsOnly.refl _ ({ d with fus := f } : Dev)).set Reg.FUS_CTRL_RES.RESULT 1 (by decide)⟩

/-! ## ORIGIN_SET -/

/-- In M5 and M6 the position is held relative to the origin, so it must not move (R221). -/
theorem originSet_positionHeld (hm : d.mode = 5 ∨ d.mode = 6) : d.originSet port = d.fusRefused 2 port := if_pos (by simpa using hm)

section
variable (h5 : d.mode ≠ 5) (h6 : d.mode ≠ 6)
include h5 h6

theorem originSet_beyond (beyond : d.originBeyond = true) : d.originSet port = d.fusRefused 3 port :=
  (if_neg (by simp [h5, h6])).trans (if_pos beyond)

theorem originSet_within (within : d.originBeyond = false) : d.originSet port = d.fusWaits { d.fus with originDue := true } :=
  (if_neg (by simp [h5, h6])).trans (if_neg (ne_true_of_eq_false within))

end

/-! ## FILTER_RESET -/

theorem filterReset_closed (closed : d.loopClosed = true) : d.filterReset port = d.fusRefused 2 port := if_pos closed

theorem filterReset_open (isOpen : d.loopClosed = false) : d.filterReset port = d.fusWaits { d.fus with resetDue := true } :=
  if_neg (ne_true_of_eq_false isOpen)

/-! ## Neither touches the cellar -/

section
variable (hc : d.host.causes = none)
include hc

theorem fusRefused_img (result : Nat) : (d.fusRefused result port).img = d.img := (img_of (fusRefused_only d port result hc)).trans rfl

theorem originSet_img : (d.originSet port).img = d.img := by
  by_cases hm : d.mode = 5 ∨ d.mode = 6
  · rw [originSet_positionHeld d port hm, fusRefused_img d port hc]
  · obtain ⟨h5, h6⟩ := not_or.mp hm
    cases latitude : d.originBeyond with
    | true => rw [originSet_beyond d port h5 h6 latitude, fusRefused_img d port hc]
    | false =>
      rw [originSet_within d port h5 h6 latitude]
      rfl

theorem filterReset_img : (d.filterReset port).img = d.img := by
  cases loop : d.loopClosed with
  | true => rw [filterReset_closed d port loop, fusRefused_img d port hc]
  | false =>
    rw [filterReset_open d port loop]
    rfl

end

end

/-- Settles O36: each request is refused with the code of its cause and reported, or waits, by the mode and the latitude. -/
theorem originAndFilterReset : Obligations.OriginAndFilterReset := by
  intro s t port d hd hu hc hp
  refine ⟨⟨d.originSet port, run_up s t _ d _ hd hu rfl (originSet_img d port hc),
      fun positionHeld => ?positionHeld, fun h5 h6 beyond => ?beyond, fun h5 h6 within => ?within⟩,
    ⟨d.filterReset port, run_up s t _ d _ hd hu rfl (filterReset_img d port hc), fun closed => ?closed, fun notClosed => ?isOpen⟩⟩
  case positionHeld =>
    rw [originSet_positionHeld d port positionHeld]
    exact fusRefused_says d port (by decide) hc hp
  case beyond =>
    rw [originSet_beyond d port h5 h6 beyond]
    exact fusRefused_says d port (by decide) hc hp
  case within =>
    rw [originSet_within d port h5 h6 within]
    exact fusWaits_says d _
  case closed =>
    rw [filterReset_closed d port ((loopClosed_iff d).mpr closed)]
    exact fusRefused_says d port (by decide) hc hp
  case isOpen =>
    rw [filterReset_open d port (eq_false_of_ne_true (mt (loopClosed_iff d).mp notClosed))]
    exact fusWaits_says d _

end Sys2Proof.Machine
end

section
/-! How the commands and the timers of the fusion answer where the conditions of their rules hold (R220, R221, R226 to R229, R235, R240):
one law for each command. -/
namespace Sys2Proof.Machine
open Sys2Proof Sys2Proof.Safety

/-- Dead reckoning has expired: FUS_STATUS and SYS_MODE show it, and E49 is raised (R235). -/
def Dev.drExpired (d : Dev) : Dev :=
  ((d.setB Reg.FUS_STATUS.DR_EXPIRED true).setBitAt Reg.SYS_MODE.STATES 11 true).raise 49 [0xA0000, 0xA0004]

/-- The MRUs that disagree are held, and those in use become SUSPECT with cause 2 (R228). -/
def Dev.mruPairHeld (d : Dev) : Dev :=
  [20, 21, 22].foldl (fun d s => if d.refState s = 1 || d.refState s = 2 then d.moveRef s 3 2 else d)
    ({ d with fus := { d.fus with attPair := true } } : Dev)

/-- The attitude is degraded by the disagreement, and E48 is raised (R228). -/
def Dev.attitudeDegraded (d : Dev) : Dev := ((d.setAttDeg true).setB Reg.FUS_STATUS.DISAGREE_STICKY true).raise 48 (refCaps 20)

/-- The dead-reckoning limit is judged on the device whose dead-reckoning time has been counted. -/
theorem judgeDr_expired {d : Dev} (dr : d.countDr.flag Reg.FUS_STATUS.DR = true)
    (fresh : d.countDr.flag Reg.FUS_STATUS.DR_EXPIRED = false)
    (held : heldFor d.countDr.sched.st (d.countDr.paramNs P.FUS.DR_LIMIT) d.countDr.fus.drSince = true) :
    d.judgeDr = d.countDr.drExpired :=
  if_pos (by simp [dr, fresh, held])

theorem readmitCheck_passed {d : Dev} {slot : Nat} (readmitting : d.refState slot = 1)
    (held : heldFor d.sched.st (d.paramNs P.FUS.READMIT_TIME) (d.ref slot).passSince = true) :
    d.readmitCheck slot = d.moveRef slot 2 0 :=
  if_pos (by simp [readmitting, held])

theorem suspectCheck_rejected {d : Dev} {slot : Nat} (suspect : d.refState slot = 3)
    (held : heldFor d.sched.st (d.paramNs P.FUS.SUSPECT_MAX) (d.ref slot).suspectSince = true) :
    d.suspectCheck slot = d.moveRef slot 4 (d.get (Reg.FUS_REF.REF_STAT.CAUSE slot)) :=
  if_pos (by simp [suspect, held])

theorem holdPair_apart {d : Dev} (fresh : d.fus.attPair = false) (held : heldFor d.sched.st 1000000000 d.fus.attSince = true) :
    d.holdPair = d.mruPairHeld.attitudeDegraded :=
  if_neg (by simp [fresh, held])

section
variable {s : State} {t : Nat} {d : Dev} (hd : d = s.dev.advance t) (hu : d.coreUp = true)
include hd hu

/-! ## Requests for the next boundary -/

theorem exec_filterReset_open (port : Nat) (isOpen : d.loopClosed = false) :
    exec (.filterReset t port) s = .next (after s (d.fusWaits { d.fus with resetDue := true })) :=
  run_up_after s t _ d _ hd hu (filterReset_open d port isOpen)

theorem exec_originSet_within (port : Nat) (h5 : d.mode ≠ 5) (h6 : d.mode ≠ 6) (within : d.originBeyond = false) :
    exec (.originSet t port) s = .next (after s (d.fusWaits { d.fus with originDue := true })) :=
  run_up_after s t _ d _ hd hu (originSet_within d port h5 h6 within)

theorem exec_anchorSet {slot : Nat} (hs : slot < 28) : exec (.anchorSet t slot) s = .next (after s (d.anchorSetWrite slot)) :=
  run_up_after s t _ d _ hd hu (if_pos hs)

/-! ## Timers -/

theorem exec_drLimitExpired (dr : d.countDr.flag Reg.FUS_STATUS.DR = true) (fresh : d.countDr.flag Reg.FUS_STATUS.DR_EXPIRED = false)
    (held : heldFor d.countDr.sched.st (d.countDr.paramNs P.FUS.DR_LIMIT) d.countDr.fus.drSince = true) :
    exec (.drLimitExpired t) s = .next (after s d.countDr.drExpired) :=
  run_up_after s t _ d _ hd hu (judgeDr_expired dr fresh held)

theorem exec_convergenceTimer (held : heldFor d.sched.st 10000000000 d.fus.convSince = true) :
    exec (.convergenceTimer t) s = .next (after s (d.setB Reg.FUS_STATUS.CONVERGED true)) :=
  run_up_after s t _ d _ hd hu (if_pos held)

theorem exec_readmitTimeExpiry {slot : Nat} (hs : slot < 28) (readmitting : d.refState slot = 1)
    (held : heldFor d.sched.st (d.paramNs P.FUS.READMIT_TIME) (d.ref slot).passSince = true) :
    exec (.readmitTimeExpiry t slot) s = .next (after s (d.moveRef slot 2 0)) :=
  run_up_after s t _ d _ hd hu ((if_pos hs).trans (readmitCheck_passed readmitting held))

theorem exec_suspectMaxExpiry {slot : Nat} (hs : slot < 28) (suspect : d.refState slot = 3)
    (held : heldFor d.sched.st (d.paramNs P.FUS.SUSPECT_MAX) (d.ref slot).suspectSince = true) :
    exec (.suspectMaxExpiry t slot) s = .next (after s (d.moveRef slot 4 (d.get (Reg.FUS_REF.REF_STAT.CAUSE slot)))) :=
  run_up_after s t _ d _ hd hu ((if_pos hs).trans (suspectCheck_rejected suspect held))

theorem exec_attitudeDisagreeTimer (fresh : d.fus.attPair = false) (held : heldFor d.sched.st 1000000000 d.fus.attSince = true) :
    exec (.attitudeDisagreeTimer t) s = .next (after s d.mruPairHeld.attitudeDegraded) :=
  run_up_after s t _ d _ hd hu (holdPair_apart fresh held)

/-- The timer follows the object's state whatever its age: COASTING, LOST or as it was. -/
theorem exec_trackCoastTimer {object : Nat} (ho : object < 8) : exec (.trackCoastTimer t object) s = .next (after s (d.ageObj object)) :=
  run_up_after s t _ d _ hd hu (if_pos ho)

end

/-- Settles O47, by the law of each command. -/
theorem fusionCommandsComplete : Obligations.FusionCommandsComplete :=
  ⟨fun _ _ _ port hd hu => exec_filterReset_open hd hu port,
   fun _ _ _ port hd hu => exec_originSet_within hd hu port,
   fun _ _ _ _ hd hu => exec_anchorSet hd hu,
   fun _ _ _ _ hd hu counted => counted ▸ exec_drLimitExpired hd hu,
   fun _ _ _ hd hu => exec_convergenceTimer hd hu,
   fun _ _ _ _ hd hu => exec_readmitTimeExpiry hd hu,
   fun _ _ _ _ hd hu => exec_suspectMaxExpiry hd hu,
   fun _ _ _ _ hd hu fresh held pair => pair ▸ exec_attitudeDisagreeTimer hd hu fresh held,
   fun _ _ _ _ _ hd hu ho _ _ _ => exec_trackCoastTimer hd hu ho⟩

end Sys2Proof.Machine
end

section
/-! ARREST_CLR and what it leaves (R272), and how the commands of the allocation answer (R272, R276, R303). -/
namespace Sys2Proof.Safety
open Sys2Proof Sys2Proof.Machine

/-- The allocation beside its registers is not part of the frame. -/
theorem RegsOnly.withAlloc {l : List Nat} {a b : Dev} (h : RegsOnly l a b) (x : AllocState) :
    RegsOnly l { a with alloc := x } { b with alloc := x } :=
  ⟨h.1, congrArg (fun d : Dev => { d with alloc := x }) h.2⟩

end Sys2Proof.Safety

namespace Sys2Proof.Machine
open Sys2Proof Sys2Proof.Safety

/-! ## ARREST_CLR -/

/-- The allocation once the arrested thrusters are returned: none is arrested, and no mask counts as handed over (R272). -/
def AllocState.released (a : AllocState) : AllocState := { a with arrested := 0, lastMask := none }

/-- The device with its arrest registers cleared: STATE, MASK and ARREST (R272). -/
def Dev.arrestUnshown (d : Dev) : Dev :=
  ((d.set Reg.ALLOC_ARREST.STATE 0).set Reg.ALLOC_ARREST.MASK 0).setB Reg.ALLOC_STATUS.ARREST false

/-- ARREST_CLR clears what the registers show of the arrest and returns the thrusters. -/
theorem arrestClr_eq (d : Dev) : d.arrestClr = { d.arrestUnshown with alloc := d.alloc.released } := rfl

section
variable (d : Dev)

theorem arrestUnshown_state : d.arrestUnshown.get Reg.ALLOC_ARREST.STATE = 0 := by
  rw [Dev.arrestUnshown, Dev.setB, Dev.get_set_other _ _ _ _ (by decide),
    Dev.get_set_apart _ Reg.ALLOC_ARREST.MASK Reg.ALLOC_ARREST.STATE _ rfl (by decide) (by decide),
    Dev.get_set_same _ _ _ (by decide), Nat.zero_mod]

theorem arrestUnshown_mask : d.arrestUnshown.get Reg.ALLOC_ARREST.MASK = 0 := by
  rw [Dev.arrestUnshown, Dev.setB, Dev.get_set_other _ _ _ _ (by decide), Dev.get_set_same _ _ _ (by decide), Nat.zero_mod]

theorem arrestUnshown_arrest : d.arrestUnshown.flag Reg.ALLOC_STATUS.ARREST = false :=
  Dev.flag_setB_same _ _ _ rfl (by decide)

/-- ARREST_STICKY stands beside ARREST in the same register, and stays. -/
theorem arrestUnshown_sticky : d.arrestUnshown.flag Reg.ALLOC_STATUS.ARREST_STICKY = d.flag Reg.ALLOC_STATUS.ARREST_STICKY := by
  rw [Dev.arrestUnshown, Dev.setB,
    Dev.flag_set_apart _ Reg.ALLOC_STATUS.ARREST Reg.ALLOC_STATUS.ARREST_STICKY _ rfl (by decide) (by decide),
    Dev.flag_set_other _ _ _ _ (by decide), Dev.flag_set_other _ _ _ _ (by decide)]

/-- Two registers at most differ: ALLOC_STATUS and ALLOC_ARREST. -/
theorem arrestUnshown_regsOnly : RegsOnly [0xB0000, 0xB0030] d d.arrestUnshown :=
  (((RegsOnly.refl _ d).set _ _ (by decide)).set _ _ (by decide)).setB _ _ (by decide)

end

/-- Settles O37: the fields of the two registers one by one, and the frame of both, to which the mode belongs. -/
theorem arrestCleared : Obligations.ArrestCleared := by
  intro s t d hd hu
  have frame := arrestUnshown_regsOnly d
  refine ⟨{ d.arrestUnshown with alloc := d.alloc.released }, run_up s t _ d _ hd hu (arrestClr_eq d) rfl, ?_⟩
  exact ⟨arrestUnshown_state d, arrestUnshown_mask d, arrestUnshown_arrest d, arrestUnshown_sticky d, rfl,
    frame.get Reg.SYS_MODE.MODE (by decide), frame.withAlloc _⟩

/-! ## The commands -/

/-- The device with the time counted for which coupling could have held, as the judgement takes it (R276). -/
def Dev.countCouple (d : Dev) : Dev := { d with alloc := { d.alloc with coupleOk := since d.sched.st true d.alloc.coupleOk } }

/-- The hold of coupling ended: COUPLE_HELD falls, its cause is cleared, and the count starts afresh (R276). -/
def Dev.coupleResumed (d : Dev) : Dev :=
  { ((d.setHeld false).set Reg.ALLOC_COUPLE_CAUSE.CAUSE 0) with alloc := { d.alloc with coupleOk := none } }

/-- A hold whose conditions have held again for the resume time ends (R276). -/
theorem judgeCouple_resumed {d : Dev} (coupled : d.coupled = true) (clear : d.coupleCause = 0)
    (holding : d.flag Reg.ALLOC_STATUS.COUPLE_HELD = true)
    (waited : heldFor d.countCouple.sched.st (d.countCouple.paramNs P.ALLOC.COUPLE_RESUME) d.countCouple.alloc.coupleOk = true) :
    d.judgeCouple = d.countCouple.coupleResumed :=
  (if_neg (by simp [coupled])).trans ((if_neg (by simp [clear])).trans ((if_pos holding).trans (if_pos waited)))

/-- In M1, M2 and M7 every warm start is discarded (R303). -/
theorem wsDiscard_allowed {d : Dev} (port : Nat) (hm : d.mode = 1 ∨ d.mode = 2 ∨ d.mode = 7) : d.wsDiscard port = d.discardWarm :=
  if_pos (by simpa [or_assoc] using hm)

section
variable {s : State} {t : Nat} {d : Dev} (hd : d = s.dev.advance t) (hu : d.coreUp = true)
include hd hu

theorem exec_arrestClr : exec (.arrestClr t) s = .next (after s { d.arrestUnshown with alloc := d.alloc.released }) :=
  run_up_after s t _ d _ hd hu (arrestClr_eq d)

theorem exec_coupleResumeTimer (coupled : d.coupled = true) (clear : d.coupleCause = 0)
    (holding : d.flag Reg.ALLOC_STATUS.COUPLE_HELD = true)
    (waited : heldFor d.countCouple.sched.st (d.countCouple.paramNs P.ALLOC.COUPLE_RESUME) d.countCouple.alloc.coupleOk = true) :
    exec (.coupleResumeTimer t) s = .next (after s d.countCouple.coupleResumed) :=
  run_up_after s t _ d _ hd hu (judgeCouple_resumed coupled clear holding waited)

theorem exec_wsDiscard (port : Nat) (hm : d.mode = 1 ∨ d.mode = 2 ∨ d.mode = 7) :
    exec (.wsDiscard t port) s = .next (after s d.discardWarm) :=
  run_up_after s t _ d _ hd hu (wsDiscard_allowed port hm)

end

/-- Settles O48, by the law of each command. -/
theorem allocationCommandsComplete : Obligations.AllocationCommandsComplete :=
  ⟨fun _ _ _ hd hu => exec_arrestClr hd hu,
   fun _ _ _ _ hd hu coupled clear holding counted waited => by
    subst counted
    exact exec_coupleResumeTimer hd hu coupled clear holding waited,
   fun _ _ _ port hd hu => exec_wsDiscard hd hu port⟩

end Sys2Proof.Machine
end

section
/-! The coefficient window and the opening of biquad channels (R315, R329, R330, R336). -/
namespace Sys2Proof.Machine
open Sys2Proof Sys2Proof.Safety

/-! ## Opening and closing a biquad channel -/

section
variable (d : Dev) (c port : Nat)

/-- A biquad channel with OPEN written and its status told (R315). -/
def Dev.bqOpened : Dev := (d.setB (Reg.LOOP_BQ.CTRL.OPEN c) true).setStat false c 0 1

/-- A biquad channel with OPEN cleared and its closing done (R315). -/
def Dev.bqShut : Dev := (d.setB (Reg.LOOP_BQ.CTRL.OPEN c) false).bqClose c

theorem bqOpen_on (hm : d.mode = 1 ∨ d.mode = 7) : d.bqOpen c true port = d.bqOpened c :=
  if_pos (by simpa using hm)

theorem bqOpen_off (hm : d.mode = 1 ∨ d.mode = 7) : d.bqOpen c false port = d.bqShut c :=
  if_pos (by simpa using hm)

theorem bqOpen_refused (on : Bool) (hm : ¬ (d.mode = 1 ∨ d.mode = 7)) :
    d.bqOpen c on port = d.loopRefuseWrite (0x1004 + 0x20 * c) 4 8 port :=
  if_neg (by simpa using hm)

/-- OPEN and OPENED of a channel are in two registers. -/
theorem bqOpened_flag : (d.bqOpened c).flag (Reg.LOOP_BQ.CTRL.OPEN c) = true := by
  have apart : (Reg.LOOP_BQ.CTRL.OPEN c).addr ≠ statAt false c := by simp [statAt]
  rw [Dev.bqOpened, Dev.setStat, Dev.flag_set_other _ _ _ _ apart]
  exact Dev.flag_setB_same _ _ _ rfl (Nat.zero_le _)

theorem bqOpened_chanOpen : (d.bqOpened c).chanOpen false c = true :=
  beq_iff_eq.mpr (stat_setStat _ false c 0 1 (by decide) (by decide))

theorem bqOpened_only : RegsOnly [0xD1004 + 0x20 * c, 0xD1008 + 0x20 * c] d (d.bqOpened c) :=
  ((RegsOnly.refl _ d).setB _ _ (by simp)).set _ _ (by simp [statAt])

/-- A channel that is not open has nothing to close. -/
theorem bqClose_closed (h : d.chanOpen false c = false) : d.bqClose c = d := if_pos (by simp [h])

/-- A channel that is open takes the steady state of its latest input, and its two flags fall. -/
theorem bqClose_open (h : d.chanOpen false c = true) : ∃ f,
    d.bqClose c = ((d.setBq c f).setStat false c 0 0).setB (Reg.LOOP_BQ.CTRL.OPEN c) false :=
  ⟨_, if_neg (by simp [h])⟩

theorem bqShut_flag : (d.bqShut c).flag (Reg.LOOP_BQ.CTRL.OPEN c) = false := by
  unfold Dev.bqShut
  cases h : (d.setB (Reg.LOOP_BQ.CTRL.OPEN c) false).chanOpen false c with
  | false => rw [bqClose_closed _ _ h]; exact Dev.flag_setB_same _ _ _ rfl (Nat.zero_le _)
  | true =>
    obtain ⟨f, hf⟩ := bqClose_open _ _ h
    rw [hf]
    exact Dev.flag_setB_same _ _ _ rfl (Nat.zero_le _)

theorem bqShut_chanOpen : (d.bqShut c).chanOpen false c = false := by
  unfold Dev.bqShut
  cases h : (d.setB (Reg.LOOP_BQ.CTRL.OPEN c) false).chanOpen false c with
  | false => rw [bqClose_closed _ _ h, h]
  | true =>
    obtain ⟨f, hf⟩ := bqClose_open _ _ h
    have apart : statAt false c ≠ (Reg.LOOP_BQ.CTRL.OPEN c).addr := by simp [statAt]
    rw [hf, Dev.chanOpen, Dev.stat, Dev.setB, Dev.get_set_other _ _ _ _ apart]
    exact beq_eq_false_iff_ne.mpr (by rw [← Dev.stat, stat_setStat _ false c 0 0 (by decide) (by decide)]; decide)

theorem bqShut_bq_other (k : Nat) (hk : k ≠ c) : (d.bqShut c).bq k = d.bq k := by
  unfold Dev.bqShut
  cases h : (d.setB (Reg.LOOP_BQ.CTRL.OPEN c) false).chanOpen false c with
  | false => rw [bqClose_closed _ _ h]; rfl
  | true =>
    obtain ⟨f, hf⟩ := bqClose_open _ _ h
    rw [hf]
    exact modAt_getD_other d.loop.bq c k f default hk

/-- Closing changes the channels and the two registers of this one. -/
theorem bqShut_only : RegsOnly [0xD1004 + 0x20 * c, 0xD1008 + 0x20 * c]
    { d with loop := { d.loop with bq := (d.bqShut c).loop.bq } } (d.bqShut c) := by
  unfold Dev.bqShut
  cases h : (d.setB (Reg.LOOP_BQ.CTRL.OPEN c) false).chanOpen false c with
  | false =>
    rw [bqClose_closed _ _ h]
    exact (RegsOnly.refl _ d).setB _ _ (by simp)
  | true =>
    obtain ⟨f, hf⟩ := bqClose_open _ _ h
    rw [hf]
    exact (((RegsOnly.refl _ (d.setBq c f)).setB (Reg.LOOP_BQ.CTRL.OPEN c) false (by simp)).set ⟨statAt false c, 0, 1⟩ 0
      (by simp [statAt])).setB (Reg.LOOP_BQ.CTRL.OPEN c) false (by simp)

theorem bqOpen_img (on : Bool) (hc : d.host.causes = none) (hp : port < 2) (hk : c < 96) : (d.bqOpen c on port).img = d.img := by
  by_cases hm : d.mode = 1 ∨ d.mode = 7
  · cases on with
    | true => rw [bqOpen_on d c port hm]; rfl
    | false => rw [bqOpen_off d c port hm, img_of (bqShut_only d c)]
  · rw [bqOpen_refused d c port on hm]
    obtain ⟨-, -, -, -, frame⟩ := loopRefused d (0x1004 + 0x20 * c) 4 8 port hc hp (by omega) (by decide) (by decide)
    exact img_of frame

end

/-- A command that opens or closes a channel that exists. -/
theorem exec_biquadOpen {s : State} {t : Nat} {d : Dev} (hd : d = s.dev.advance t) (hu : d.coreUp = true) {c : Nat} (on : Bool)
    (port : Nat) (hk : c < 96) : exec (.biquadOpen t c on port) s = .next (after s (d.bqOpen c on port)) :=
  run_up_after s t _ d _ hd hu (if_pos hk)

/-- Settles O32, from what the open, the shut and the refused channel say. -/
theorem biquadOpened : Obligations.BiquadOpened := by
  intro s t c port d hd hu hc hp hk
  have answers (on : Bool) : exec (.biquadOpen t c on port) s = .next { s with dev := d.bqOpen c on port } := by
    rw [exec_biquadOpen hd hu on port hk, after_of_img hd (bqOpen_img d c port on hc hp hk)]
  refine ⟨⟨_, answers true, fun hm => ?_⟩, ⟨_, answers false, fun hm => ?_⟩, fun on hm => ⟨_, answers on, ?_⟩⟩
  · rw [bqOpen_on d c port hm]
    exact ⟨bqOpened_flag d c, bqOpened_chanOpen d c, bqOpened_only d c⟩
  · rw [bqOpen_off d c port hm]
    exact ⟨bqShut_flag d c, bqShut_chanOpen d c, bqShut_bq_other d c, bqShut_only d c⟩
  · rw [bqOpen_refused d c port on hm]
    obtain ⟨sticky, offset, cause, -, frame⟩ :=
      loopRefused d (0x1004 + 0x20 * c) 4 8 port hc hp (by omega) (by decide) (by decide)
    exact ⟨sticky, offset, cause, frame⟩

/-! ## Writing a coefficient -/

section
variable {d : Dev} {pid : Bool} {c b i : Nat} (w : Word) (port : Nat) (sel : d.cwSel = (pid, c, b, i))

/-- The device with a word of a bank stored and the bank's validation cleared (R330). -/
def Dev.coefStored (d : Dev) (pid : Bool) (c b i : Nat) (w : Word) : Dev :=
  (d.setBank pid c b (setAt (d.bank pid c b) i w)).setStat pid c (6 + b) 0

include sel

theorem cwWrite_noChannel (hc : (if pid then 16 else 96) ≤ c) :
    d.cwWrite w port = (d.reportWrite 8 port 0 0xD0014 false).cwAdvance := by
  unfold Dev.cwWrite
  rw [sel]
  exact congrArg Dev.cwAdvance (if_pos hc)

theorem cwWrite_blendTarget (hc : c < (if pid then 16 else 96)) (target : d.blendTarget pid c b = true) :
    d.cwWrite w port = (d.loopRefuseWrite 0x14 2 8 port).cwAdvance := by
  unfold Dev.cwWrite
  rw [sel]
  exact congrArg Dev.cwAdvance ((if_neg (Nat.not_le.mpr hc)).trans (if_pos target))

theorem cwWrite_activeClosed (hc : c < (if pid then 16 else 96)) (free : d.blendTarget pid c b = false)
    (held : (d.stat pid c 1 == b && (!d.chanOpen pid c || d.stat pid c 2 == 1)) = true) :
    d.cwWrite w port = (d.loopRefuseWrite 0x14 1 4 port).cwAdvance := by
  unfold Dev.cwWrite
  rw [sel]
  exact congrArg Dev.cwAdvance ((if_neg (Nat.not_le.mpr hc)).trans ((if_neg (Bool.not_eq_true _ ▸ free)).trans (if_pos held)))

section
variable (hc : c < (if pid then 16 else 96)) (free : d.blendTarget pid c b = false)
  (may : (d.stat pid c 1 == b && (!d.chanOpen pid c || d.stat pid c 2 == 1)) = false)
include hc free may

/-- A write to a bank that may be written is judged by its word alone. -/
theorem cwWrite_writable : d.cwWrite w port
    = (if bankWords pid ≤ i then d.reportWrite 8 port 0 0xD0014 false
      else if (pid || i != 0) && (F32.mk w).bad then d.reportWrite 6 port 0 0xD0014 false
      else d.coefStored pid c b i w).cwAdvance := by
  unfold Dev.cwWrite
  rw [sel]
  exact congrArg Dev.cwAdvance ((if_neg (Nat.not_le.mpr hc)).trans ((if_neg (Bool.not_eq_true _ ▸ free)).trans
    (if_neg (Bool.not_eq_true _ ▸ may))))

theorem cwWrite_noWord (hi : bankWords pid ≤ i) : d.cwWrite w port = (d.reportWrite 8 port 0 0xD0014 false).cwAdvance := by
  rw [cwWrite_writable w port sel hc free may, if_pos hi]

theorem cwWrite_notFinite (hi : i < bankWords pid) (bad : ((pid || i != 0) && (F32.mk w).bad) = true) :
    d.cwWrite w port = (d.reportWrite 6 port 0 0xD0014 false).cwAdvance := by
  rw [cwWrite_writable w port sel hc free may, if_neg (by omega), if_pos bad]

theorem cwWrite_stored (hi : i < bankWords pid) (fine : ((pid || i != 0) && (F32.mk w).bad) = false) :
    d.cwWrite w port = (d.coefStored pid c b i w).cwAdvance := by
  rw [cwWrite_writable w port sel hc free may, if_neg (by omega), if_neg (by simp [fine])]

end
end

/-- A report of LOOP_CW_DATA, and the window moved on (R336). -/
theorem reported_cwAdvance (d : Dev) (cause port : Nat) (hc : d.host.causes = none) (h1 : cause < 16) (hp : port < 2) :
    Reported cause port 0 0xD0014 d (d.reportWrite cause port 0 0xD0014 false).cwAdvance ∧
      RegsOnly (0xD0010 :: reportRegs) d (d.reportWrite cause port 0 0xD0014 false).cwAdvance := by
  obtain ⟨told, frame⟩ := reported d cause port 0 0xD0014 hc h1 hp (by decide) (by decide)
  have moved := cwAdvance_only (d.reportWrite cause port 0 0xD0014 false)
  exact ⟨told.of_words (fun _ _ => rfl) (fun x hx => moved.1 x (by rintro h; revert x; decide)),
    (frame.mono fun x hx => List.mem_cons_of_mem _ hx).trans (moved.mono (by simp))⟩

/-- A refusal of LOOP_CW_DATA, and the window moved on (R330, R336). -/
theorem loopRefused_cwAdvance (d : Dev) (cause werr port : Nat) (hc : d.host.causes = none) (hp : port < 2) (h2 : cause < 16)
    (h3 : werr < 16) (e : Dev) (he : e = (d.loopRefuseWrite 0x14 cause werr port).cwAdvance) :
    e.flag Reg.LOOP_STATUS.REFUSED_STICKY = true ∧ e.get Reg.LOOP_REFUSE.OFFSET = 0x14 ∧ e.get Reg.LOOP_REFUSE.CAUSE = cause ∧
      RegsOnly (0xD0000 :: 0xD0004 :: 0xD0010 :: reportRegs) d e := by
  subst he
  obtain ⟨sticky, offset, reason, -, frame⟩ := loopRefused d 0x14 cause werr port hc hp (by decide) h2 h3
  have moved := cwAdvance_only (d.loopRefuseWrite 0x14 cause werr port)
  refine ⟨?_, (moved.get _ (by decide)).trans offset, (moved.get _ (by decide)).trans reason,
    (frame.mono (by decide)).trans (moved.mono (by simp))⟩
  rw [Dev.flag, moved.get _ (by decide)]
  exact sticky

/-- What a stored word leaves of the banks and of the registers, the window moved on. -/
theorem coefStored_says {d : Dev} {pid : Bool} {c b : Nat} (i : Nat) (w : Word) (hb : b < 2)
    (hl : if pid then c < d.loop.pid.length else c < d.loop.bq.length) (e : Dev) (he : e = (d.coefStored pid c b i w).cwAdvance) :
    e.bank pid c b = setAt (d.bank pid c b) i w ∧ e.stat pid c (6 + b) = 0 ∧
      (∀ p k m, (p, k, m % 2) ≠ (pid, c, b) → e.bank p k (m % 2) = d.bank p k (m % 2)) ∧
      RegsOnly [0xD0010, statAt pid c] { d with loop := e.loop } e := by
  subst he
  have moved := cwAdvance_only (d.coefStored pid c b i w)
  have loop : (d.coefStored pid c b i w).cwAdvance.loop = (d.setBank pid c b (setAt (d.bank pid c b) i w)).loop := by
    rw [moved.2]; rfl
  obtain ⟨same, other⟩ := bank_setBank d pid c b (setAt (d.bank pid c b) i w) hb hl
  refine ⟨(bank_congr _ _ loop ..).trans same, ?_, fun p k m hne => (bank_congr _ _ loop ..).trans (other p k m hne), ?_⟩
  · rw [Dev.stat, moved.get _ (by simpa using (stat_addr pid c).1)]
    exact stat_setStat _ pid c (6 + b) 0 (by omega) (by decide)
  · rw [loop]
    have bankOnly : d.setBank pid c b (setAt (d.bank pid c b) i w)
        = { d with loop := (d.setBank pid c b (setAt (d.bank pid c b) i w)).loop } := by cases pid <;> rfl
    rw [← bankOnly]
    exact ((RegsOnly.refl _ _).set ⟨statAt pid c, 6 + b, 1⟩ 0 (by simp)).trans (moved.mono (by simp))

/-- A bank that is not the target of a blend and not the active bank of a closed channel may be written. -/
theorem writable_of_noBlend {d : Dev} {pid : Bool} {c b : Nat} (h2 : d.stat pid c 2 = 0) :
    d.blendTarget pid c b = false ∧
      (d.stat pid c 1 == b && (!d.chanOpen pid c || d.stat pid c 2 == 1)) = (d.stat pid c 1 == b && !d.chanOpen pid c) := by
  simp [Dev.blendTarget, h2]

theorem cwWrite_img (d : Dev) (w : Word) (port : Nat) (hc : d.host.causes = none) (hp : port < 2) : (d.cwWrite w port).img = d.img := by
  have report (cause : Nat) : (d.reportWrite cause port 0 0xD0014 false).img = d.img := img_of (report_only d _ _ _ _ _ hc)
  have refuse (cause werr : Nat) (h2 : cause < 16) (h3 : werr < 16) : (d.loopRefuseWrite 0x14 cause werr port).img = d.img := by
    obtain ⟨-, -, -, -, frame⟩ := loopRefused d 0x14 cause werr port hc hp (by decide) h2 h3
    exact img_of frame
  unfold Dev.cwWrite
  rw [img_of (cwAdvance_only _)]
  refine ite_keeps Dev.img _ (report 8) (ite_keeps Dev.img _ (refuse 2 8 (by decide) (by decide)) (ite_keeps Dev.img _
    (refuse 1 4 (by decide) (by decide)) (ite_keeps Dev.img _ (report 8) (ite_keeps Dev.img _ (report 6) ?_))))
  show (Dev.setBank ..).img = d.img
  unfold Dev.setBank
  split <;> rfl

theorem exec_coefficientWrite {s : State} {t : Nat} {d : Dev} (hd : d = s.dev.advance t) (hu : d.coreUp = true) (w : Word) (port : Nat) :
    exec (.coefficientWrite t w port) s = .next (after s (d.cwWrite w port)) :=
  run_up_after s t _ d _ hd hu rfl

/-- The window's bank is 0 or 1. -/
theorem cwSel_bank_lt {d : Dev} {pid : Bool} {c b i : Nat} (sel : d.cwSel = (pid, c, b, i)) : b < 2 := by
  simp only [Dev.cwSel, Prod.mk.injEq] at sel
  obtain ⟨-, -, rfl, -⟩ := sel
  exact Dev.get_lt d Reg.LOOP_CW_SEL.BANK

/-- Settles O33, one branch of the write for each clause. -/
theorem coefficientWritten : Obligations.CoefficientWritten := by
  intro s t c b i port pid w d hd hu hc hp sel
  refine ⟨d.cwWrite w port, by rw [exec_coefficientWrite hd hu, after_of_img hd (cwWrite_img d w port hc hp)],
    fun absent => ?absent, fun hk blend other => ?target, fun hk idle active closed => ?closed, fun hk idle may => ?writable⟩
  case absent =>
    rw [cwWrite_noChannel w port sel absent]
    exact reported_cwAdvance d 8 port hc (by decide) hp
  case target =>
    exact loopRefused_cwAdvance d 2 8 port hc hp (by decide) (by decide) _
      (cwWrite_blendTarget w port sel hk (by simp [Dev.blendTarget, blend, other]))
  case closed =>
    obtain ⟨free, held⟩ := writable_of_noBlend (pid := pid) (c := c) (b := b) idle
    exact loopRefused_cwAdvance d 1 4 port hc hp (by decide) (by decide) _
      (cwWrite_activeClosed w port sel hk free (by rw [held]; simp [active, closed]))
  case writable =>
    obtain ⟨free, held⟩ := writable_of_noBlend (pid := pid) (c := c) (b := b) idle
    have may : (d.stat pid c 1 == b && (!d.chanOpen pid c || d.stat pid c 2 == 1)) = false := by
      rw [held]
      rcases may with h | h <;> simp [h]
    refine ⟨fun hi => ?_, fun hi bad => ?_, fun hi fine hl => ?_⟩
    · rw [cwWrite_noWord w port sel hk free may hi]
      exact reported_cwAdvance d 8 port hc (by decide) hp
    · rw [cwWrite_notFinite w port sel hk free may hi bad]
      exact reported_cwAdvance d 6 port hc (by decide) hp
    · exact coefStored_says i w (cwSel_bank_lt sel) hl _ (cwWrite_stored w port sel hk free may hi fine)

/-! ## How the commands of the loop engine answer where nothing refuses them -/

/-- In M1 and M7 a channel 3 to 15 that is closed opens, and its manual value takes over from the channel's last output (R319). -/
theorem pidOpen_opens {d n : Dev} {c : Nat} (port : Nat) (h3 : 3 ≤ c) (hm : d.mode = 1 ∨ d.mode = 7) (was : d.chanOpen true c = false)
    (hn : n = (d.setB (Reg.LOOP_PID.CTRL.OPEN c) true).setStat true c 0 1) :
    d.pidOpen c true port = n.setF (Reg.LOOP_PID.PID_MAN.MAN c) (n.pid c).uPrev.to32 := by
  subst hn
  unfold Dev.pidOpen
  rw [if_neg (by omega), if_pos (by rcases hm with h | h <;> simp [h])]
  exact if_pos (by simp [was])

/-- In M1 and M7 a channel 3 to 15 that is open closes, and starts from its manual value (R319). -/
theorem pidOpen_closes {d n : Dev} {c : Nat} (port : Nat) (h3 : 3 ≤ c) (hm : d.mode = 1 ∨ d.mode = 7) (was : d.chanOpen true c = true)
    (hn : n = (d.setB (Reg.LOOP_PID.CTRL.OPEN c) false).setStat true c 0 0) :
    d.pidOpen c false port = n.setPid c fun s => { s with preset := some (n.getF (Reg.LOOP_PID.PID_MAN.MAN c)).to64 } := by
  subst hn
  unfold Dev.pidOpen
  rw [if_neg (by omega), if_pos (by rcases hm with h | h <;> simp [h])]
  exact (if_neg (by simp)).trans (if_pos (by simp [was]))

section
variable {d : Dev} {pid : Bool} {c b i : Nat} (sel : d.cwSel = (pid, c, b, i)) (hc : c < (if pid then 16 else 96))
  (free : d.blendTarget pid c b = false)
include sel hc free

/-- A bank that no blend locks is judged, and its validation told (R329). -/
theorem validateBank_judged : d.validateBank =
    if judgeBank pid (d.pidStep c) (d.bank pid c b) = 1 then
      ((d.set Reg.LOOP_CW_VAL.RESULT 1).setBank pid c b (bankSealed pid (d.bank pid c b))).setStat pid c (6 + b) 1
    else (d.set Reg.LOOP_CW_VAL.RESULT (judgeBank pid (d.pidStep c) (d.bank pid c b))).setStat pid c (6 + b) 0 := by
  unfold Dev.validateBank
  rw [sel]
  dsimp only
  rw [if_neg (Nat.not_le.mpr hc), if_neg (by simp [free])]
  split
  · next valid => rw [valid]
  · rfl

end

/-- Without a blend on the channel a request waits for its next run (R331). -/
theorem bankRequest_waits (d : Dev) (pid : Bool) (c bank len : Nat) (idle : d.stat pid c 2 ≠ 1) :
    d.bankRequest pid c bank len = d.setReq pid c (some ⟨bank, len, d.sched.st, false⟩) none := if_neg idle

section
variable {s : State} {t : Nat} {d : Dev} (hd : d = s.dev.advance t) (hu : d.coreUp = true)
include hd hu

theorem exec_pidOpen {c : Nat} (on : Bool) (port : Nat) (hc : c < 16) :
    exec (.pidOpen t c on port) s = .next (after s (d.pidOpen c on port)) :=
  run_up_after s t _ d _ hd hu (if_pos hc)

theorem exec_coefficientRead :
    exec (.coefficientRead t) s = .next (after s ({ d with host := { d.host with readOut := d.cwData } } : Dev).cwAdvance) :=
  run_up_after s t _ d _ hd hu rfl

theorem exec_bankValidate : exec (.bankValidate t) s = .next (after s d.validateBank) := run_up_after s t _ d _ hd hu rfl

theorem exec_bankRequest {pid : Bool} {c : Nat} (bank lenM1 : Nat) {n : Dev} (hc : c < (if pid then 16 else 96))
    (hn : n = (d.set ⟨statAt pid c - 4, 2, 1⟩ (bank % 2)).set ⟨statAt pid c - 4, 3, 12⟩ (lenM1 % 4096)) (idle : n.stat pid c 2 ≠ 1) :
    exec (.bankRequest t pid c bank lenM1) s
      = .next (after s (n.setReq pid c (some ⟨bank % 2, lenM1 % 4096 + 1, d.sched.st, false⟩) none)) := by
  subst hn
  exact run_up_after s t _ d _ hd hu ((if_pos hc).trans (bankRequest_waits _ pid c _ _ idle))

theorem exec_pathCommit (count : Nat) (hdgMode clear : Bool) {n : Dev}
    (hn : n = (d.set Reg.LOOP_PATH_CTRL.COUNT count).setB Reg.LOOP_PATH_CTRL.HDG_MODE hdgMode) :
    exec (.pathCommit t count hdgMode clear) s = .next (after s ({ (n.setB Reg.LOOP_PATH_STAT.PENDING true) with
      loop := { d.loop with pathReq := some (clear, true, count % 64, hdgMode) } } : Dev)) := by
  subst hn
  exact run_up_after s t _ d _ hd hu rfl

theorem exec_pathClear : exec (.pathClear t) s = .next (after s
    (d.pathWrite true false (d.get Reg.LOOP_PATH_CTRL.COUNT) (d.flag Reg.LOOP_PATH_CTRL.HDG_MODE))) :=
  run_up_after s t _ d _ hd hu rfl

section
variable {u : Nat} (h8 : u < 8)
include h8

theorem exec_traceArm : exec (.traceArm t u) s = .next (after s (d.traceArm u)) := run_up_after s t _ d _ hd hu (if_pos h8)

theorem exec_traceForce (armed : d.get (Reg.LOOP_TR.STAT.STATE u) = 1) :
    exec (.traceForce t u) s = .next (after s (Dev.flushTrace 24 (d.traceTrigger u))) :=
  run_up_after s t _ d _ hd hu ((if_pos h8).trans (if_pos armed))

theorem exec_traceStop (runs : d.get (Reg.LOOP_TR.STAT.STATE u) = 1 ∨ d.get (Reg.LOOP_TR.STAT.STATE u) = 2) :
    exec (.traceStop t u) s = .next (after s (d.set (Reg.LOOP_TR.STAT.STATE u) 3)) :=
  run_up_after s t _ d _ hd hu ((if_pos h8).trans (if_pos (by simpa using runs)))

end
end

/-- Settles O49, by the law of each command. -/
theorem loopCommandsComplete : Obligations.LoopCommandsComplete := by
  refine ⟨fun s t d c on port hd hu hc hm h => ?opens, fun s t d c on port hd hu hc hm h => ?shut,
    fun s t d c on port n hd hu h3 hc hm h was hn => ?pidOpens, fun s t d c on port n hd hu h3 hc hm h was hn => ?pidCloses,
    fun s t d w port pid c b i hd hu sel free may hi fine hc => ?write, fun _ _ _ hd hu => exec_coefficientRead hd hu,
    fun s t d pid c b i hd hu sel hc free invalid => ?invalid, fun s t d pid c b i n w hd hu sel hc free hw valid hn => ?valid,
    fun _ _ _ _ _ bank lenM1 _ hd hu => exec_bankRequest hd hu bank lenM1,
    fun _ _ _ count hdgMode clear _ hd hu => exec_pathCommit hd hu count hdgMode clear, fun _ _ _ hd hu => exec_pathClear hd hu,
    fun _ _ _ _ hd hu => exec_traceArm hd hu, fun _ _ _ _ hd hu => exec_traceForce hd hu, fun _ _ _ _ hd hu => exec_traceStop hd hu⟩
  case opens => subst h; rw [exec_biquadOpen hd hu true port hc, bqOpen_on d c port hm, Dev.bqOpened]
  case shut => subst h; rw [exec_biquadOpen hd hu false port hc, bqOpen_off d c port hm, Dev.bqShut]
  case pidOpens => subst h; rw [exec_pidOpen hd hu true port hc, pidOpen_opens port h3 hm was hn]
  case pidCloses => subst h; rw [exec_pidOpen hd hu false port hc, pidOpen_closes port h3 hm was hn]
  case write => rw [exec_coefficientWrite hd hu, cwWrite_stored w port sel hc free may hi fine, Dev.coefStored]
  case invalid => rw [exec_bankValidate hd hu, validateBank_judged sel hc free, if_neg invalid]
  case valid => subst hw hn; rw [exec_bankValidate hd hu, validateBank_judged sel hc free, if_pos valid]

end Sys2Proof.Machine
end

section
/-! Listen-only operation, and how the commands of the CAN buses answer (R344, R346, R348, R349, R350, R367, R373). -/
namespace Sys2Proof.Machine
open Sys2Proof Sys2Proof.Safety

/-! ## Listen-only operation -/

/-- The end of a transmission writes a counter and the result of the host's buffer, and no other register. -/
theorem txAborted_word (d : Dev) (c : Nat) (b : TxBuf) (a : Nat) (h1 : a ≠ 0xE0114 + 0x40 * c) (h2 : a ≠ 0xE0808 + 0x100 * c) :
    (d.txAborted c b).word a = d.word a := by
  have next (e : Dev) : (e.nextInBuf c b).word a = e.word a := by
    unfold Dev.nextInBuf
    split <;> rfl
  have result (e : Dev) (k : TxKey) (r : Nat) : (e.txResult c k r).word a = e.word a := by
    unfold Dev.txResult
    split
    · exact Dev.word_set_other _ _ _ _ h2
    · rfl
  unfold Dev.txAborted
  split
  · rw [result, Dev.inc, Dev.word_set_other _ _ _ _ h1, next]
  · split
    · rw [Dev.inc, Dev.word_set_other _ _ _ _ h1, next]
    · rfl

/-- The started frames of a controller, which end where it stops transmitting. -/
def Dev.startedBufs (d : Dev) (c : Nat) : List TxBuf := (d.can c).bufs.filter fun b => b.sof.isSome

theorem endStarted_eq (d : Dev) (c : Nat) : d.endStarted c = (d.startedBufs c).foldl (fun d b => d.txAborted c b) d := rfl

theorem startedBufs_nil (d : Dev) (c : Nat) (h : ∀ b ∈ (d.can c).bufs, b.sof = none) : d.startedBufs c = [] := by
  rw [Dev.startedBufs, List.filter_eq_nil_iff]
  intro b hb
  simp [h b hb]

theorem endStarted_word (d : Dev) (c a : Nat) (h1 : a ≠ 0xE0114 + 0x40 * c) (h2 : a ≠ 0xE0808 + 0x100 * c) :
    (d.endStarted c).word a = d.word a := by
  rw [endStarted_eq]
  generalize d.startedBufs c = l
  induction l generalizing d with
  | nil => rfl
  | cons b l ih => rw [List.foldl_cons, ih, txAborted_word d c b a h1 h2]

/-- Where a controller stops transmitting, no frame of its is left started, and the buffers without a started frame stay (R344). -/
theorem endStarted_says (d : Dev) (c : Nat) : CanOnly c d (d.endStarted c) ∧
    (∀ b ∈ ((d.endStarted c).can c).bufs, b.sof = none) ∧
    (∀ b ∈ (d.can c).bufs, (∀ x ∈ (d.can c).bufs, x.key = b.key → x.sof = none) → b ∈ ((d.endStarted c).can c).bufs) := by
  rw [endStarted_eq]
  by_cases hc : c < d.out.can.length
  · obtain ⟨only, ended, kept⟩ := txAborted_fold c d (d.startedBufs c) d hc (CanOnly.refl c d)
    refine ⟨only, fun b hb => ?_, fun b hb pending => kept b hb fun x hx same => ?_⟩
    · rcases ended b hb with waits | ⟨old, others⟩
      · exact waits
      · by_contra started
        exact others b (List.mem_filter.mpr ⟨old, Option.isSome_iff_ne_none.mpr started⟩) rfl
    · obtain ⟨old, started⟩ := List.mem_filter.mp hx
      rw [pending x old same] at started
      cases started
  · have absent : d.can c = default := List.getD_eq_default _ _ (Nat.not_lt.mp hc)
    have empty : (d.can c).bufs = [] := congrArg CanCtl.bufs absent
    rw [startedBufs_nil d c (by simp [empty])]
    exact ⟨CanOnly.refl c d, by simp [empty], by simp [empty]⟩

section
variable (d : Dev) (c : Nat)

/-- A controller with LISTEN written and its status told (R348). -/
def Dev.listening (on : Bool) : Dev := (d.setB (Reg.CAN_CH.CH_CTRL.LISTEN c) on).setB (Reg.CAN_CH.CH_STAT.LISTENING c) on

theorem listenWrite_refused (port : Nat) (hm : d.mode ≠ 7) :
    d.listenWrite c true port = d.reportWrite 3 port 0 (0xE0104 + 0x40 * c) false := if_pos (by simp [hm])

theorem listenWrite_off (port : Nat) : d.listenWrite c false port = d.listening c false := rfl

theorem listenWrite_on (port : Nat) (m7 : d.mode = 7) : d.listenWrite c true port = (d.listening c true).endStarted c :=
  (if_neg (by simp [m7])).trans (if_neg (by simp [m7]))

theorem listening_flag (on : Bool) : (d.listening c on).flag (Reg.CAN_CH.CH_STAT.LISTENING c) = on :=
  Dev.flag_setB_same _ _ _ rfl (by simp)

theorem listening_only (on : Bool) : RegsOnly [0xE0104 + 0x40 * c, 0xE0108 + 0x40 * c] d (d.listening c on) :=
  ((RegsOnly.refl _ d).setB _ _ (by simp)).setB _ _ (by simp)

/-- The end of its started frame leaves a controller listening. -/
theorem endStarted_listening : ((d.listening c true).endStarted c).flag (Reg.CAN_CH.CH_STAT.LISTENING c) = true := by
  rw [Dev.flag, Dev.get_eq_word, endStarted_word _ _ _ (by dsimp only; omega) (by dsimp only; omega), ← Dev.get_eq_word, ← Dev.flag]
  exact listening_flag d c true

/-- A controller that listens sends nothing (R348). -/
theorem canSends_listening (h : d.flag (Reg.CAN_CH.CH_STAT.LISTENING c) = true) : d.canSends c = false := by
  simp [Dev.canSends, h]

/-- What listening changes: the controller, its registers, and nothing of another. -/
theorem endStarted_listening_only : RegsOnly (canRegs c)
    { d with out := { d.out with can := ((d.listening c true).endStarted c).out.can } } ((d.listening c true).endStarted c) := by
  obtain ⟨only, -, -⟩ := endStarted_says (d.listening c true) c
  have h := listening_only d c true
  exact ⟨fun x hx => (only.regs.1 x hx).trans (h.1 x fun k => hx (by simp at k ⊢; tauto)), only.regs.2⟩

end

theorem listenWrite_img (d : Dev) (c : Nat) (on : Bool) (port : Nat) (hc : d.host.causes = none) : (d.listenWrite c on port).img = d.img := by
  by_cases m7 : d.mode = 7
  · cases on with
    | false => rfl
    | true =>
      rw [listenWrite_on d c port m7, img_of (endStarted_listening_only d c)]
  · cases on with
    | false => rfl
    | true => rw [listenWrite_refused d c port m7, img_of (report_only d _ _ _ _ _ hc)]

/-- A write of LISTEN on a controller that exists. -/
theorem exec_canListen {s : State} {t : Nat} {d : Dev} (hd : d = s.dev.advance t) (hu : d.coreUp = true) {c : Nat} (on : Bool) (port : Nat)
    (h6 : c < 6) : exec (.canListen t c on port) s = .next (after s (d.listenWrite c on port)) :=
  run_up_after s t _ d _ hd hu (if_pos h6)

/-- Settles O34: clearing writes two registers, setting in M7 ends the started frames as well, setting elsewhere is reported. -/
theorem listenOnlyInM7 : Obligations.ListenOnlyInM7 := by
  intro s t c port on d hd hu hc hp h6
  refine ⟨d.listenWrite c on port, by rw [exec_canListen hd hu on port h6, after_of_img hd (listenWrite_img d c on port hc)],
    fun may => ?_, fun set hm => ?_⟩
  · cases on with
    | false =>
      rw [listenWrite_off]
      have frame := listening_only d c false
      exact ⟨listening_flag d c false, nofun, fun _ _ => rfl, fun _ => rfl, nofun, fun b hb _ => hb, fun _ => frame,
        frame.mono (by simp +contextual)⟩
    | true =>
      have m7 : d.mode = 7 := by simpa using may
      rw [listenWrite_on d c port m7]
      obtain ⟨only, ended, kept⟩ := endStarted_says (d.listening c true) c
      refine ⟨endStarted_listening d c, fun _ => canSends_listening _ c (endStarted_listening d c), only.other, nofun,
        fun _ => ended, kept, fun idle => ?_, endStarted_listening_only d c⟩
      rw [endStarted_eq, startedBufs_nil (d.listening c true) c idle]
      exact listening_only d c true
  · subst set
    rw [listenWrite_refused d c port hm]
    exact reported d 3 port 0 (0xE0104 + 0x40 * c) hc (by decide) hp (by decide) (by omega)

/-! ## How the commands of the buses answer where nothing refuses them -/

section
variable {d : Dev} {f : TxSof} (sends : d.canSends f.ctrl = true) (held : d.goneAt f = none) {b : TxBuf}
  (onBus : (d.noteSof f).onBus f = some b)
include sends held onBus

/-- A frame that was on its bus, not cancelled, is counted, its buffer freed, and its result told (R344, R346). -/
theorem txComplete_sent (kept : b.cancel = false) : d.txComplete f
    = ((((d.noteSof f).countSent f b.frame).nextInBuf f.ctrl b).txResult f.ctrl f.key 0).judgeCan f.ctrl := by
  unfold Dev.txComplete
  dsimp only
  rw [if_neg (by simp [sends]), held]
  dsimp only
  rw [onBus]
  dsimp only
  rw [if_neg (by simp [kept])]

/-- An error of a frame that was on its bus is shown and counted (R346). -/
theorem txError_counted (code inc : Nat) (dataPhase : Bool) (err : code ≠ 0) (n : Dev) (hn : n = (d.noteSof f).txFailed f.ctrl b) :
    d.txError f code inc dataPhase = (((n.set (Reg.CAN_CH.CH_LASTERR.CODE f.ctrl) code).setB
      (Reg.CAN_CH.CH_LASTERR.DATA_PHASE f.ctrl) dataPhase).setCan f.ctrl fun x => { x with tec := x.tec + inc }).judgeCan f.ctrl := by
  subst hn
  unfold Dev.txError
  dsimp only
  rw [if_neg (by simp [sends]), held, if_neg (by simp), onBus]
  exact if_neg err

end

/-- The device with the host frame of its registers pending in the buffer that BUF names (R373). -/
def Dev.htxTaken (n : Dev) (c : Nat) : Dev :=
  (n.setBuf c ⟨.host (n.get (Reg.CAN_HTX.HTX_CTRL.BUF c)), ⟨n.get (Reg.CAN_HTX.HTX_ID.ID c), n.flag (Reg.CAN_HTX.HTX_ID.XTD c),
    n.flag (Reg.CAN_HTX.HTX_ID.FD c), n.flag (Reg.CAN_HTX.HTX_ID.BRS c), n.get (Reg.CAN_HTX.HTX_CTRL.DLC c),
    ((List.range 16).flatMap fun q => leBytes 4 (n.get (Reg.CAN_HTX.DATA.DATA c q))).take
      (dlcBytes (n.flag (Reg.CAN_HTX.HTX_ID.FD c)) (n.get (Reg.CAN_HTX.HTX_CTRL.DLC c)))⟩, none, false, none, n.sched.st⟩).txResult c
    (.host (n.get (Reg.CAN_HTX.HTX_CTRL.BUF c))) 1

section
variable {n : Dev} {c : Nat} (fits : n.flag (Reg.CAN_HTX.HTX_ID.XTD c) = true ∨ n.get (Reg.CAN_HTX.HTX_ID.ID c) < 2048)
  (allowed : n.idRefused (n.get (Reg.CAN_HTX.HTX_ID.ID c)) (n.flag (Reg.CAN_HTX.HTX_ID.XTD c)) = false)
  (free : n.txBuf c (.host (n.get (Reg.CAN_HTX.HTX_CTRL.BUF c))) = none)
include fits allowed free

/-- A frame whose identifier fits and is allowed goes into a buffer that is free (R352, R373). -/
theorem htxGo_taken : n.htxGo c = (n.htxTaken c, false) :=
  (if_neg (by rcases fits with h | h <;> simp [h])).trans ((if_neg (by simp [allowed])).trans (if_neg (by simp [free])))

theorem htxGoWrite_taken (port : Nat) (sending : n.framesOff = false) : n.htxGoWrite c port = n.htxTaken c := by
  unfold Dev.htxGoWrite
  rw [if_neg (by simp [sending]), htxGo_taken fits allowed free]
  rfl

end

/-- A frame that has not started is dropped by its cancel, and kept in mind until its SOF would show (R350). -/
theorem cancelBuf_waiting {n m : Dev} {c : Nat} {k : TxKey} {b : TxBuf} (hb : n.txBuf c k = some b) (waits : b.sof = none)
    (hm : m = ((n.dropBuf c k).inc (Reg.CAN_CH.CH_TXCNT.CANCELLED c)).txResult c k 2) :
    n.cancelBuf c k = m.setCan c fun x => { x with gone := (b, m.sched.st) :: x.gone.filter fun e => e.1.key != k } := by
  subst hm
  unfold Dev.cancelBuf
  rw [hb]
  dsimp only
  rw [waits]

/-- A feedback that is late for the first time in its episode is counted and told (R367). -/
theorem feedbackLate_first {d n : Dev} {thr a : Nat} (opened : (d.thr thr).since = some a) (fresh : (d.thr thr).episode = false)
    (late : max a ((d.thr thr).fbAt.getD 0) + nsOfMs (d.paramF P.OUT.FB_TIMEOUT) ≤ d.sched.st)
    (hn : n = ((d.setThr thr (fun e => { e with episode := true })).inc (Reg.OUT_THR.TH_CNT.FBTO thr)).setB Reg.OUT_STATUS.FBTO_STICKY true) :
    d.feedbackLate thr = n.raiseSub 75 thr [0xF0000, 0xF010C + 0x20 * thr, 0xF0110 + 0x20 * thr] := by
  subst hn
  unfold Dev.feedbackLate
  dsimp only
  rw [opened]
  exact if_pos (by simp [fresh, late])

/-- A wake source that is enabled starts the device out of M0 (R475). -/
theorem wake_dormant {d : Dev} {src : Nat} (ctrl : Nat) (inp : StartIn) (enabled : d.bitAt Reg.CLK_WAKE_EN.EN src = true)
    (asleep : d.clk.phase = .dormant) : d.wake src ctrl inp
      = ({ d with clk := { d.clk with wakes := d.clk.wakes ||| BitVec.ofNat 5 (2 ^ src), wakeCtrl := ctrl } } : Dev).start 6 0 false inp := by
  unfold Dev.wake
  rw [if_neg (by simp [enabled]), asleep]

section
variable {s : State} {t : Nat} {d : Dev} (hd : d = s.dev.advance t)
include hd

/-- Out of M0 a controller that sees what wakes it starts the device (R349). -/
theorem exec_canWake {c : Nat} (dominant : Nat) (frame : Option (Nat × Word)) (inp : StartIn) (h6 : c < 6)
    (seen : d.canWakes c dominant frame = true) (enabled : d.bitAt Reg.CLK_WAKE_EN.EN 0 = true) (asleep : d.clk.phase = .dormant) :
    exec (.canWake t c dominant frame inp) s = .next (after s (({ d with clk := { d.clk with
      wakes := d.clk.wakes ||| 1, wakeCtrl := if d.get (Reg.CAN_CH.CH_CFG.WAKE c) = 2 then c else 7 } } : Dev).start 6 0 false inp)) := by
  subst hd
  exact run_after s _ _ ((if_pos (by simp [h6, seen])).trans (wake_dormant _ inp enabled asleep))

variable (hu : d.coreUp = true)
include hu

theorem exec_canTxComplete {f : TxSof} {b : TxBuf} (sends : d.canSends f.ctrl = true) (held : d.goneAt f = none)
    (onBus : (d.noteSof f).onBus f = some b) (kept : b.cancel = false) : exec (.canTxComplete t f) s
      = .next (after s (((((d.noteSof f).countSent f b.frame).nextInBuf f.ctrl b).txResult f.ctrl f.key 0).judgeCan f.ctrl)) :=
  run_up_after s t _ d _ hd hu (txComplete_sent sends held onBus kept)

theorem exec_canTxError {f : TxSof} {b : TxBuf} {n : Dev} (code inc : Nat) (dataPhase : Bool) (sends : d.canSends f.ctrl = true)
    (held : d.goneAt f = none) (onBus : (d.noteSof f).onBus f = some b) (err : code % 7 ≠ 0) (hn : n = (d.noteSof f).txFailed f.ctrl b) :
    exec (.canTxError t f code inc dataPhase) s
      = .next (after s ((((n.set (Reg.CAN_CH.CH_LASTERR.CODE f.ctrl) (code % 7)).setB (Reg.CAN_CH.CH_LASTERR.DATA_PHASE f.ctrl)
        dataPhase).setCan f.ctrl (fun x => { x with tec := x.tec + inc })).judgeCan f.ctrl)) :=
  run_up_after s t _ d _ hd hu (txError_counted sends held onBus _ inc dataPhase err n hn)

theorem exec_canRxError {c : Nat} (code inc : Nat) (dataPhase : Bool) (active : d.canActive c = true)
    (speaks : ((d.set (Reg.CAN_CH.CH_LASTERR.CODE c) (code % 7)).setB (Reg.CAN_CH.CH_LASTERR.DATA_PHASE c) dataPhase).flag
      (Reg.CAN_CH.CH_STAT.LISTENING c) = false) :
    exec (.canRxError t c code inc dataPhase) s
      = .next (after s ((((d.set (Reg.CAN_CH.CH_LASTERR.CODE c) (code % 7)).setB (Reg.CAN_CH.CH_LASTERR.DATA_PHASE c)
        dataPhase).setCan c fun x => { x with rxe := x.rxe + inc }).judgeCan c)) :=
  run_up_after s t _ d _ hd hu ((if_neg (by simp [active])).trans (if_neg (by simp [speaks])))

theorem exec_canRecover {c : Nat} (h6 : c < 6) (off : d.get (Reg.CAN_CH.CH_STAT.STATE c) = 2) :
    exec (.canRecover t c) s = .next (after s (d.canState c 3)) :=
  run_up_after s t _ d _ hd hu ((if_pos h6).trans (if_pos off))

theorem exec_canBusoffRecoveryComplete {c : Nat} (h6 : c < 6) (recovering : d.get (Reg.CAN_CH.CH_STAT.STATE c) = 3) :
    exec (.canBusoffRecoveryComplete t c) s
      = .next (after s (((d.setCan c fun x => { x with tec := 0, rxe := 0 }).showCan c).canState c 0)) :=
  run_up_after s t _ d _ hd hu (if_pos (by simp [h6, recovering]))

/-- A write of HTX_CTRL with GO: BUF and DLC are written and the buffer's result shown before GO acts. -/
theorem exec_hostTxGo (port : Nat) {c : Nat} (buf dlc : Nat) {n : Dev} (h6 : c < 6)
    (hn : n = ((d.set (Reg.CAN_HTX.HTX_CTRL.BUF c) buf).set (Reg.CAN_HTX.HTX_CTRL.DLC c) dlc).showHtx c) :
    exec (.hostTxGo t port c buf dlc) s = .next (after s (n.htxGoWrite c port)) := by
  subst hn
  exact run_up_after s t _ d _ hd hu (if_pos h6)

theorem exec_hostTxCancel {c : Nat} (buf : Nat) (sofs : List TxSof) {n m : Dev} {k : TxKey} {b : TxBuf} (h6 : c < 6)
    (hn : n = ((d.noteSofs sofs).set (Reg.CAN_HTX.HTX_CTRL.BUF c) buf).showHtx c)
    (hk : k = TxKey.host (n.get (Reg.CAN_HTX.HTX_CTRL.BUF c))) (hb : n.txBuf c k = some b) (waits : b.sof = none)
    (hm : m = ((n.dropBuf c k).inc (Reg.CAN_CH.CH_TXCNT.CANCELLED c)).txResult c k 2) :
    exec (.hostTxCancel t c buf sofs) s
      = .next (after s (m.setCan c fun x => { x with gone := (b, m.sched.st) :: x.gone.filter fun e => e.1.key != k })) := by
  have cancelled := cancelBuf_waiting hb waits hm
  subst hn hk
  exact run_up_after s t _ d _ hd hu ((if_pos h6).trans cancelled)

theorem exec_feedbackTimeout {thr a : Nat} {n : Dev} (h16 : thr < 16) (opened : (d.thr thr).since = some a)
    (fresh : (d.thr thr).episode = false)
    (late : max a ((d.thr thr).fbAt.getD 0) + nsOfMs (d.paramF P.OUT.FB_TIMEOUT) ≤ d.sched.st)
    (hn : n = ((d.setThr thr (fun e => { e with episode := true })).inc (Reg.OUT_THR.TH_CNT.FBTO thr)).setB Reg.OUT_STATUS.FBTO_STICKY true) :
    exec (.feedbackTimeout t thr) s
      = .next (after s (n.raiseSub 75 thr [0xF0000, 0xF010C + 0x20 * thr, 0xF0110 + 0x20 * thr])) :=
  run_up_after s t _ d _ hd hu ((if_pos h16).trans (feedbackLate_first opened fresh late hn))

end

/-- Settles O50, by the law of each command. -/
theorem busCommandsComplete : Obligations.BusCommandsComplete := by
  refine ⟨fun _ _ _ _ _ hd hu => exec_canTxComplete hd hu, fun _ _ _ _ code inc dataPhase _ _ hd hu => exec_canTxError hd hu code inc dataPhase,
    fun _ _ _ _ code inc dataPhase hd hu => exec_canRxError hd hu code inc dataPhase, fun _ _ _ _ hd hu => exec_canRecover hd hu,
    fun _ _ _ _ hd hu => exec_canBusoffRecoveryComplete hd hu, fun s t d c on port hd hu h6 m7 h => ?on,
    fun s t d c on port hd hu h6 h => ?off, fun s t d port c buf dlc n b id xtd fd hd hu h6 hn sending hb hi hx hf fits allowed free => ?go,
    fun _ _ _ _ buf sofs _ _ _ _ hd hu => exec_hostTxCancel hd hu buf sofs,
    fun _ _ _ _ dominant frame inp hd => exec_canWake hd dominant frame inp, fun _ _ _ _ _ _ hd hu => exec_feedbackTimeout hd hu⟩
  case on => subst h; rw [exec_canListen hd hu true port h6, listenWrite_on d c port m7, Dev.listening]
  case off => subst h; rw [exec_canListen hd hu false port h6, listenWrite_off, Dev.listening]
  case go =>
    subst hb hi hx hf
    rw [exec_hostTxGo hd hu port buf dlc h6 hn, htxGoWrite_taken fits allowed free port sending, Dev.htxTaken]

end Sys2Proof.Machine
end

section
/-! Every command answers (R507, R510), and how the commands of the monitors (R523, R524) and of the redundancy (R381 to R404) answer
where nothing refuses them. -/
namespace Sys2Proof.Machine
open Sys2Proof Sys2Proof.Safety

/-- Settles O2: a command is an effect on the device. -/
theorem everyCommandAnswers : Obligations.EveryCommandAnswers := by
  intro c s
  obtain ⟨f, hf⟩ := exec_apply c s
  exact ⟨s.dev.keep (f s.dev), hf⟩

/-- Settles O60: a measurement acts while CORE is powered, the trip in the boot loader as well. -/
theorem monitorCommandsComplete : Obligations.MonitorCommandsComplete :=
  ⟨fun s t d _ hd hu => run_up_after s t _ d _ hd hu rfl, fun s t d hd hu => run_host_after s t _ d _ hd hu rfl⟩

/-! ## Redundancy -/

/-- The repeat of a synchronous standby is kept beside its own word of the same sequence (R391). -/
theorem shadowRepeat_added {d : Dev} {p m : Mirror} (sync : d.flag Reg.RED_STATUS.SYNC = true) (prev : d.red.mirrorPrev = some p)
    (last : d.red.mirror = some m) : d.shadowRepeat true = d.addWord m.seq d.unit (d.repeatWord p m) := by
  unfold Dev.shadowRepeat
  rw [if_neg (by simp [sync]), prev, last]

/-- A revert that no thruster echoed within 50 ms gives the tally back to the lower unit (R400). -/
theorem revertFailed_silent {d n : Dev} {a : Nat} (reverts : d.red.revertAt = some a) (late : a + 50000000 ≤ d.sched.st)
    (unheard : d.get Reg.RED_ECHO.OWN = 0) (hn : n = { d with red := { d.red with holds := false, revertAt := none } }) :
    d.revertFailed = (((n.setB Reg.RED_EVT.REVERT_FAIL_STICKY true).note 0x03 0x10 82 [n.word 0x100000, n.word 0x100010,
      0]).judgeRole).judgeDwell := by
  subst hn
  unfold Dev.revertFailed
  rw [reverts]
  exact if_pos (by simp [late, unheard])

section
variable {s : State} {t : Nat} {d : Dev} (hd : d = s.dev.advance t) (hu : d.coreUp = true)
include hd hu

theorem exec_coruzLinkTimeout {l a : Nat} (h2 : l < 2) (heard : (d.link l).validAt = some a) (late : a + d.linkTimeout ≤ d.sched.st) :
    exec (.coruzLinkTimeout t l) s = .next (after s (d.linkDown l)) :=
  run_up_after s t _ d _ hd hu (by rw [heard]; exact if_pos (by simp [h2, late]))

theorem exec_drillGo (port : Nat) (idle : d.red.drill = none) (ready : d.drillReady = true) :
    exec (.drillGo t port) s = .next (after s ((((({ d with red := { d.red with drill := some ⟨d.sched.st, 0, [], 0, false⟩ } } : Dev).setB
      Reg.RED_DRILL_RES.BUSY true).set Reg.RED_DRILL_RES.STEP 0).set Reg.RED_DRILL_RES.THR_FAIL 0))) :=
  run_up_after s t _ d _ hd hu ((if_neg (by simp [idle])).trans (if_pos ready))

theorem exec_drillAbort {r : Drill} (runs : d.red.drill = some r) : exec (.drillAbort t) s = .next (after s (d.drillDone 3)) :=
  run_up_after s t _ d _ hd hu (if_pos (by simp [runs]))

end

/-- Settles O51, by the law of each command. -/
theorem redundancyCommandsComplete : Obligations.RedundancyCommandsComplete := by
  refine ⟨fun s t d _ _ hd hu h2 => run_up_after s t _ d _ hd hu (if_pos h2), fun _ _ _ _ _ hd hu => exec_coruzLinkTimeout hd hu,
    fun s t d _ hd hu h2 => run_up_after s t _ d _ hd hu (if_pos h2), fun s t d done p m hd hu sync isDone prev last => ?repeated,
    fun s t d _ _ _ _ hd hu => run_up_after s t _ d _ hd hu rfl, fun s t d hd hu => run_up_after s t _ d _ hd hu rfl,
    fun s t d hd hu => run_up_after s t _ d _ hd hu rfl, fun s t d hd hu => run_up_after s t _ d _ hd hu rfl,
    fun s t d _ _ hd hu reverts late unheard hn => run_up_after s t _ d _ hd hu (revertFailed_silent reverts late unheard hn),
    fun _ _ _ port hd hu _ => exec_drillGo hd hu port, fun s t d _ hd hu _ => run_up_after s t _ d _ hd hu rfl,
    fun _ _ _ _ hd hu => exec_drillAbort hd hu, fun s t d hd hu => run_up_after s t _ d _ hd hu rfl⟩
  case repeated =>
    subst isDone
    exact run_up_after s t _ d _ hd hu (shadowRepeat_added sync prev last)

end Sys2Proof.Machine
end

section
/-! How the commands of the safety functions answer where nothing refuses them (R410, R415, R416, R421, R423, R424, R426 to R428, R430). -/
namespace Sys2Proof.Machine
open Sys2Proof Sys2Proof.Safety

section
variable {d : Dev}

/-- M1 and M7 are the modes in which the outputs are reset and an installation is selected (R410, R426). -/
theorem harbourMode {d : Dev} (h : d.mode = 1 ∨ d.mode = 7) : (d.mode != 1 && d.mode != 7) = false := by
  rcases h with h | h <;> simp [h]

/-- A reset that nothing holds up is not reported (R416). -/
theorem inhReset_accepted (port : Nat) (free : d.stopHolds = false)
    (quiet : (eight.any fun f => d.flag (Reg.SAFE_FN.FN_STAT.ACTIVE f) && d.inhibits f) = false) : d.inhReset port = d.safeReset :=
  if_neg (by rw [free, quiet]; decide)

/-- A load test starts with every pair that has a thruster mask, and all pairs open (R428). -/
theorem loadStart_free (port : Nat) {l : List Nat} (m7 : d.mode = 7) (free : d.safe.load = none)
    (hl : l = eight.filter fun n => d.sealedVal (P.SAFE.OUT_THRMASK n) != 0) :
    d.loadStart port = ({ d with safe := { d.safe with
      load := some ⟨d.sched.st, l, List.replicate l.length 0, List.replicate l.length 0⟩ } } : Dev).openPairs := by
  subst hl
  exact (if_neg (by simp [m7])).trans (if_neg (by simp [free]))

/-- A channel that was ON for its whole window, with no demand in it, passes where both readbacks are right (R426). -/
theorem testPulse_passed {n u : Nat} {chB : Bool} (due : d.testDue n (d.sched.st - 500000) chB = true)
    (undemanded : (d.safeOut n).demandAt = none) (on : (d.safeOut n).onSince = some u) (before : u ≤ d.sched.st - 500000) :
    d.testPulse n chB true true = d.testPassed n chB := by
  unfold Dev.testPulse
  dsimp only
  rw [undemanded, on, due]
  dsimp only
  rw [if_neg (by simp [before])]
  rfl

/-- A violation that has lasted its escalation time escalates (R415). -/
theorem escalate_due {f : Nat} (limiting : d.get (Reg.SAFE_FN.FN_CFG.REACT f) = 2) (timed : nsOfSec (d.sealedF (P.SAFE.FN_ESC f)) ≠ 0)
    (active : d.flag (Reg.SAFE_FN.FN_STAT.ACTIVE f) = true)
    (lasted : heldFor d.sched.st (nsOfSec (d.sealedF (P.SAFE.FN_ESC f))) (d.safeFn f).since = true)
    (fresh : d.flag (Reg.SAFE_FN.FN_STAT.ESCALATED f) = false) :
    d.escalate f = (d.setB (Reg.SAFE_FN.FN_STAT.ESCALATED f) true).inhibit f :=
  if_pos (by simp [limiting, timed, active, lasted, fresh])

/-- A deferral of over 60 s is a fault of the pair (R427). -/
theorem deferCheck_over {n : Nat} {m : Dev} (exceeds : 60000000000 < d.deferNs n)
    (fresh : d.flag (Reg.SAFE_OUT.OUT_STAT.DEFER_FAULT n) = false)
    (hm : m = (d.setB (Reg.SAFE_OUT.OUT_STAT.DEFER_FAULT n) true).openPairs) :
    d.deferCheck n = m.safeEvent 85 n (m.word (0x110300 + 0x10 * n)) := by
  rw [hm, Dev.deferCheck, if_pos (by simp [exceeds, fresh])]

/-- Channels that have differed for longer than SAFE.IN_DISC are a discrepancy of the pair (R424). -/
theorem inDiscrepancy_over {n : Nat} {m : Dev}
    (differ : heldFor d.sched.st (nsOfMs (d.sealedF P.SAFE.IN_DISC)) (d.safeIn n).diffSince = true)
    (fresh : d.flag (Reg.SAFE_IN.IN_STAT.DISC n) = false)
    (hm : m = (d.setB (Reg.SAFE_IN.IN_STAT.DISC n) true).setIn n fun y => { y with bothLow := false }) :
    d.inDiscrepancy n = (m.note 0x08 0x11 6 (m.safeWords n (m.word (0x110200 + 0x10 * n)))).judgeIn n := by
  subst hm
  exact if_pos (by simp [differ, fresh])

end

section
variable {s : State} {t : Nat} {d : Dev} (hd : d = s.dev.advance t)

section
variable (hs : d.safeUp = true)
include hd hs

/-- The monitor die answers while the SAFE domain is up (R15). -/
theorem exec_safeInputChange {n : Nat} (chB level : Bool) (h8 : n < 8) :
    exec (.safeInputChange t n chB level) s = .next (after s (d.inLevel n chB level)) := by
  subst hd
  exact run_after s _ _ (if_pos (by simp [hs, h8]))

theorem exec_safeInputDiscrepancy {n : Nat} {m : Dev} (h8 : n < 8)
    (differ : heldFor d.sched.st (nsOfMs (d.sealedF P.SAFE.IN_DISC)) (d.safeIn n).diffSince = true)
    (fresh : d.flag (Reg.SAFE_IN.IN_STAT.DISC n) = false)
    (hm : m = (d.setB (Reg.SAFE_IN.IN_STAT.DISC n) true).setIn n fun y => { y with bothLow := false }) :
    exec (.safeInputDiscrepancy t n) s
      = .next (after s ((m.note 0x08 0x11 6 (m.safeWords n (m.word (0x110200 + 0x10 * n)))).judgeIn n)) := by
  have exceeds := inDiscrepancy_over differ fresh hm
  subst hd
  exact run_after s _ _ ((if_pos (by simp [hs, h8])).trans exceeds)

theorem exec_safetyWatchdog (sealOk : d.flag Reg.SAFE_STATUS.SEAL_OK = true) (missed : 2 ≤ d.missedBeats) :
    exec (.safetyWatchdog t) s = .next (after s (d.stopLatch 2 0 (d.sealedVal P.SAFE.WD_MASK))) := by
  subst hd
  exact run_after s _ _ (if_pos (by simp [hs, sealOk, missed]))

end

variable (hu : d.coreUp = true)
include hd hu

theorem exec_stopAutoreset (auto : d.sealedVal P.SAFE.STOP_AUTORESET = 1) (due : d.safe.stops.any d.autoresetDue = true) :
    exec (.stopAutoreset t) s = .next (after s (d.keepStops (fun x => !d.autoresetDue x))) :=
  run_up_after s t _ d _ hd hu (if_pos (by rw [auto, due]; decide))

theorem exec_safeEscalation {f : Nat} (h8 : f < 8) (sealOk : d.flag Reg.SAFE_STATUS.SEAL_OK = true)
    (limiting : d.get (Reg.SAFE_FN.FN_CFG.REACT f) = 2) (timed : nsOfSec (d.sealedF (P.SAFE.FN_ESC f)) ≠ 0)
    (active : d.flag (Reg.SAFE_FN.FN_STAT.ACTIVE f) = true)
    (lasted : heldFor d.sched.st (nsOfSec (d.sealedF (P.SAFE.FN_ESC f))) (d.safeFn f).since = true)
    (fresh : d.flag (Reg.SAFE_FN.FN_STAT.ESCALATED f) = false) :
    exec (.safeEscalation t f) s = .next (after s ((d.setB (Reg.SAFE_FN.FN_STAT.ESCALATED f) true).inhibit f)) :=
  run_up_after s t _ d _ hd hu ((if_pos (by simp [h8, sealOk])).trans (escalate_due limiting timed active lasted fresh))

end

/-- Settles O52, by the law of each command. -/
theorem safetyCommandsComplete : Obligations.SafetyCommandsComplete := by
  refine ⟨fun _ _ _ _ chB level hd hs => exec_safeInputChange hd hs chB level, fun _ _ _ _ _ hd hs => exec_safeInputDiscrepancy hd hs,
    fun _ _ _ hd hu => exec_stopAutoreset hd hu,
    fun s t d port hd hu free quiet => run_up_after s t _ d _ hd hu (inhReset_accepted port free quiet),
    fun s t d _ _ hd hu harbour => run_up_after s t _ d _ hd hu (if_neg (by simp [harbourMode harbour])),
    fun s t d port _ hd hu m7 free hl => run_up_after s t _ d _ hd hu (loadStart_free port m7 free hl),
    fun s t d _ hd hu _ _ => run_up_after s t _ d _ hd hu rfl,
    fun s t d _ _ hd hu harbour => run_up_after s t _ d _ hd hu (if_neg (by simp [harbourMode harbour])),
    fun s t d n chB low high u hd hu h8 due undemanded on before hlow hhigh => ?passes, fun _ _ _ hd hs => exec_safetyWatchdog hd hs,
    fun s t d _ _ hd hu => run_up_after s t _ d _ hd hu rfl, fun _ _ _ _ hd hu => exec_safeEscalation hd hu,
    fun s t d _ _ hd hu h8 exceeds fresh hm => run_up_after s t _ d _ hd hu ((if_pos h8).trans (deferCheck_over exceeds fresh hm))⟩
  case passes =>
    subst hlow hhigh
    exact run_up_after s t _ d _ hd hu ((if_pos h8).trans (testPulse_passed due undemanded on before))

end Sys2Proof.Machine
end

section
/-! Freezing the recorder, and how its commands answer where nothing refuses them (R436, R438, R441, R445, R446, R448, R450 to R452, R457,
R458, R462). -/
namespace Sys2Proof.Machine
open Sys2Proof Sys2Proof.Safety

/-! ## Freezing (R448) -/

section
variable (d : Dev)

/-- The recorder frozen now, its registers written and no record made yet. -/
def Dev.frozenNow : Dev := { ((d.set Reg.REC_FREEZE_STAT.RESULT 0).set Reg.REC_FREEZE_STAT.END 0).setB Reg.REC_STATUS.FROZEN true with
  recorder := { d.recorder with freezeAt := d.sched.st } }

/-- A freeze ended with a code of REC_FREEZE_STAT.END, and no record made yet. -/
def Dev.thawed (code : Nat) : Dev :=
  ((d.set Reg.REC_FREEZE_STAT.ELAPSED d.frozenFor).set Reg.REC_FREEZE_STAT.END code).setB Reg.REC_STATUS.FROZEN false

/-- A freeze that is ignored shows RESULT 2 and is reported. -/
def Dev.freezeIgnored (cause port : Nat) : Dev := (d.set Reg.REC_FREEZE_STAT.RESULT 2).reportWrite cause port 0 0x120020 false

theorem frozenNow_told : Told { d with recorder := { d.recorder with freezeAt := d.sched.st } } d.frozenNow :=
  (((Told.refl _).set Reg.REC_FREEZE_STAT.RESULT 0 rfl).set Reg.REC_FREEZE_STAT.END 0 rfl).setB Reg.REC_STATUS.FROZEN true rfl

theorem thawed_told (code : Nat) : Told d (d.thawed code) :=
  (((Told.refl _).set Reg.REC_FREEZE_STAT.ELAPSED _ rfl).set Reg.REC_FREEZE_STAT.END code rfl).setB Reg.REC_STATUS.FROZEN false rfl

/-- A record for which staging has room leaves FROZEN. -/
theorem note_frozen (sub : Nat) (quiet : d.loop.due = []) (room : stagingBytes d.recorder.staging + 52 ≤ stagingSize) :
    (d.note 0x0C 0x12 sub []).flag Reg.REC_STATUS.FROZEN = d.flag Reg.REC_STATUS.FROZEN := by
  rw [note_room d 0x12 sub quiet room rfl, Dev.flag, Dev.flag, Dev.get_eq_word, Dev.get_eq_word, stage_word _ _ _ _ _ (by decide)]

section
variable {d}

theorem freeze_full (port : Nat) (full : d.flag Reg.REC_STATUS.PROFILE = true) (free : d.flag Reg.REC_STATUS.FROZEN = false) :
    d.freeze port = d.frozenNow.note 0x0C 0x12 2 [] :=
  (if_neg (by simp [full])).trans (if_neg (by simp [free]))

theorem freeze_ignored (port : Nat) (h : d.flag Reg.REC_STATUS.PROFILE = false ∨ d.flag Reg.REC_STATUS.FROZEN = true) :
    ∃ cause, d.freeze port = d.freezeIgnored cause port := by
  by_cases full : d.flag Reg.REC_STATUS.PROFILE = true
  · have held : d.flag Reg.REC_STATUS.FROZEN = true := h.resolve_left (by simp [full])
    exact ⟨9, (if_neg (by simp [full])).trans (if_pos held)⟩
  · exact ⟨8, if_pos (by simpa using full)⟩

theorem endFreeze_frozen (code : Nat) (h : d.flag Reg.REC_STATUS.FROZEN = true) : d.endFreeze code = (d.thawed code).note 0x0C 0x12 3 [] := if_pos h

theorem endFreeze_free (code : Nat) (h : d.flag Reg.REC_STATUS.FROZEN = false) : d.endFreeze code = d := if_neg (by simp [h])

end

section
variable (cause port : Nat) (hc : d.host.causes = none)
include hc

theorem freezeIgnored_only : RegsOnly (0x120024 :: reportRegs) d (d.freezeIgnored cause port) :=
  ((RegsOnly.refl _ d).set Reg.REC_FREEZE_STAT.RESULT 2 (by decide)).trans
    ((report_only (d.set Reg.REC_FREEZE_STAT.RESULT 2) cause port 0 0x120020 false hc).mono fun _ => List.mem_cons_of_mem _)

theorem freezeIgnored_result : (d.freezeIgnored cause port).get Reg.REC_FREEZE_STAT.RESULT = 2 := by
  rw [Dev.freezeIgnored, (report_only (d.set Reg.REC_FREEZE_STAT.RESULT 2) cause port 0 0x120020 false hc).get _ (by decide)]
  exact Dev.get_set_same' _ _ _ (by decide) (by decide)

end

end

section
variable {s : State} {t : Nat} {d : Dev} (hd : d = s.dev.advance t) (hu : d.coreUp = true)
include hd hu

theorem exec_freeze (port : Nat) : exec (.freeze t port) s = .next (after s (d.freeze port)) := run_up_after s t _ d _ hd hu rfl

theorem exec_thaw : exec (.thaw t) s = .next (after s (d.endFreeze 1)) := run_up_after s t _ d _ hd hu rfl

end

/-- A freeze in the full profile, with its record (R448). -/
theorem frozenNow_says (d : Dev) :
    (d.loop.due = [] → stagingBytes d.recorder.staging + 52 ≤ stagingSize →
      (d.frozenNow.note 0x0C 0x12 2 []).flag Reg.REC_STATUS.FROZEN = true) ∧
    (d.frozenNow.note 0x0C 0x12 2 []).recorder.freezeAt = d.sched.st ∧
    Recorded 0x0C (recordBody 0xFF 0x12 2 []) d (d.frozenNow.note 0x0C 0x12 2 []) ∧
    ToldOnly [] { d with recorder := { d.recorder with freezeAt := d.sched.st } } (d.frozenNow.note 0x0C 0x12 2 []) := by
  have told := (frozenNow_told d).note 0x0C 0x12 2 []
  refine ⟨fun quiet room => ?_, by rw [told.eq]; rfl, recorded_note d.frozenNow 0x0C 0x12 2 [] (by decide), told.only⟩
  rw [note_frozen d.frozenNow 2 quiet room]
  exact Dev.flag_setB_same ((d.set _ _).set _ _) _ _ rfl (by decide)

theorem thawed_says (d : Dev) :
    (d.loop.due = [] → stagingBytes d.recorder.staging + 52 ≤ stagingSize →
      ((d.thawed 1).note 0x0C 0x12 3 []).flag Reg.REC_STATUS.FROZEN = false) ∧
    Recorded 0x0C (recordBody 0xFF 0x12 3 []) d ((d.thawed 1).note 0x0C 0x12 3 []) ∧
    ToldOnly [] d ((d.thawed 1).note 0x0C 0x12 3 []) := by
  have told := (thawed_told d 1).note 0x0C 0x12 3 []
  refine ⟨fun quiet room => ?_, recorded_note (d.thawed 1) 0x0C 0x12 3 [] (by decide), told.only⟩
  rw [note_frozen (d.thawed 1) 3 quiet room]
  exact Dev.flag_setB_same _ _ _ rfl (by decide)

theorem freeze_img (d : Dev) (port : Nat) (hc : d.host.causes = none) : (d.freeze port).img = d.img := by
  by_cases h : d.flag Reg.REC_STATUS.PROFILE = false ∨ d.flag Reg.REC_STATUS.FROZEN = true
  · obtain ⟨cause, hi⟩ := freeze_ignored port h
    rw [hi, img_of (freezeIgnored_only d cause port hc)]
  · obtain ⟨full, free⟩ := not_or.mp h
    rw [freeze_full port (by simpa using full) (by simpa using free), ((frozenNow_told d).note 0x0C 0x12 2 []).eq]
    rfl

theorem endFreeze_img (d : Dev) (code : Nat) : (d.endFreeze code).img = d.img := by
  cases h : d.flag Reg.REC_STATUS.FROZEN with
  | true =>
    rw [endFreeze_frozen code h, ((thawed_told d code).note 0x0C 0x12 3 []).eq]
    rfl
  | false => rw [endFreeze_free code h]

/-- Settles O35: a record for which staging has room leaves FROZEN as the freeze or the thaw set it. -/
theorem freezeAndThaw : Obligations.FreezeAndThaw := by
  intro s t port d hd hu hc _
  refine ⟨⟨d.freeze port, by rw [exec_freeze hd hu, after_of_img hd (freeze_img d port hc)], fun full free => ?_, fun h => ?_⟩,
    ⟨d.endFreeze 1, by rw [exec_thaw hd hu, after_of_img hd (endFreeze_img d 1)], fun held => ?_, endFreeze_free 1⟩⟩
  · rw [freeze_full port full free]
    exact frozenNow_says d
  · obtain ⟨cause, hi⟩ := freeze_ignored port h
    have only := freezeIgnored_only d cause port hc
    rw [hi]
    exact ⟨freezeIgnored_result d cause port hc, by rw [only.2], only⟩
  · rw [endFreeze_frozen 1 held]
    exact thawed_says d

/-! ## How the commands of the recorder answer where nothing refuses them -/

section
variable {d : Dev}

/-- A response that answers the nonce starts the clear, and spends the nonce (R451). -/
theorem clearSubmit_accepted {n : Dev} {replace : Bool} (port : Nat) (hn : n = d.setB Reg.REC_CLR_CTRL.REPLACE replace)
    (free : d.recorder.clearing = none) (right : n.clearResult = 0) :
    d.clearSubmit replace port = { (({ n with recorder := { n.recorder with nonce := none } } : Dev).set Reg.REC_CLR_RES.RESULT 1) with
      recorder := { n.recorder with
        nonce := none
        clearing := some ((({ n with recorder := { n.recorder with nonce := none } } : Dev).heldRecs.map (fun x => x.seq)).headD 0,
          n.word 0x120004, replace) } } := by
  subst hn
  have idle : ¬ (d.setB Reg.REC_CLR_CTRL.REPLACE replace).recorder.clearing.isSome = true := by
    rw [show (d.setB Reg.REC_CLR_CTRL.REPLACE replace).recorder = d.recorder from rfl, free]
    decide
  exact (if_neg idle).trans (if_neg (by simp [right]))

/-- With no key enrolled M7 takes one (R450). -/
theorem keyEnrol_accepted (port : Nat) (m7 : d.mode = 7) (free : d.recorder.key = none) :
    d.opened.keyEnrol port = { (d.opened.setB Reg.REC_STATUS.KEY true) with recorder := { d.recorder with
      key := some (bytesOf ((List.range 8).map fun i => d.word (0x128000 + 4 * i))) } } := by
  have m7 : d.opened.mode = 7 := m7
  have free : d.opened.recorder.key = none := free
  exact if_pos (by simp [m7, free])

/-- Outside a freeze the NAND's medium can be scrubbed (R458). -/
theorem scrubStart_free (medium : d.onNand = true) (free : d.flag Reg.REC_STATUS.FROZEN = false) :
    d.scrubStart = d.setB Reg.NAND_STATUS.SCRUBBING true :=
  if_pos (by simp [medium, free])

theorem scrubNow_free (port : Nat) (idle : d.flag Reg.NAND_STATUS.SCRUBBING = false) (medium : d.onNand = true)
    (free : d.flag Reg.REC_STATUS.FROZEN = false) : d.scrubNow port = d.setB Reg.NAND_STATUS.SCRUBBING true :=
  (if_neg (by simp [idle])).trans ((if_pos (by simp [medium, free])).trans (scrubStart_free medium free))

/-- A pass that ran to its end, outside a freeze, is counted and told (R458). -/
theorem scrubDone_counted {reads quiet : List BlockRead} {n : Dev} (runs : d.flag Reg.NAND_STATUS.SCRUBBING = true)
    (free : d.flag Reg.REC_STATUS.FROZEN = false)
    (hq : quiet = ((d.blocksWhere fun b => b.holds && !b.grownBad).filter fun i => !reads.any fun r => r.block = i).map (⟨·, 0, []⟩))
    (hn : n = ((((reads ++ quiet).foldl (fun d r => Dev.judgeBlock true (d.blockRead r) r) d).setB Reg.NAND_STATUS.SCRUBBING
      false).incWrap Reg.NAND_SCRUB.PASSES).setBitAt Reg.NAND_STATUS.STICKY 1 true) :
    d.scrubDone reads = ({ n with nand := { n.nand with
      passDt := (if n.flag Reg.TIME_STATUS.DT_VALID then some n.dtSec.toNat else none), passOph := n.oph } } : Dev).raise 92
        [0x130000, 0x13001C] := by
  subst hn hq
  exact if_neg (by simp [runs, free])

end

section
variable {s : State} {t : Nat} {d : Dev} (hd : d = s.dev.advance t) (hu : d.coreUp = true)
include hd hu

theorem exec_hoursCheckpoint (due : d.recorder.hoursAt + 600000 ≤ d.oph) : exec (.hoursCheckpoint t) s
    = .next (after s (({ d with recorder := { d.recorder with hoursAt := d.oph } } : Dev).note 0x0F 0x12 0 [BitVec.ofNat 32 d.oph,
      BitVec.ofNat 32 (d.oph / 4294967296), d.word 0x120014])) :=
  run_up_after s t _ d _ hd hu (if_neg (Nat.not_lt.mpr due))

theorem exec_freezeTimeout (held : d.flag Reg.REC_STATUS.FROZEN = true)
    (due : d.recorder.freezeAt + d.paramNs P.REC.FREEZE_MAX ≤ d.sched.st) :
    exec (.freezeTimeout t) s = .next (after s ((d.thawed 2).note 0x0C 0x12 3 [])) :=
  run_up_after s t _ d _ hd hu ((if_pos due).trans (endFreeze_frozen 2 held))

theorem exec_clearKeyEnrol (port : Nat) (opened : d.flag Reg.SYS_EXPERT.UNLOCKED = true) (m7 : d.mode = 7) (free : d.recorder.key = none) :
    exec (.clearKeyEnrol t port) s = .next (after s (({ (d.opened.setB Reg.REC_STATUS.KEY true) with recorder := { d.recorder with
      key := some (bytesOf ((List.range 8).map fun i => d.word (0x128000 + 4 * i))) } } : Dev))) :=
  run_up_after s t _ d _ hd hu ((expert_unlocked d port _ _ opened).trans (keyEnrol_accepted port m7 free))

end

/-- Settles O53, by the law of each command. -/
theorem recorderCommandsComplete : Obligations.RecorderCommandsComplete := by
  refine ⟨fun s t d _ hd hu free => run_up_after s t _ d _ hd hu (if_neg (by simp [free])),
    fun s t d hd hu _ _ due => run_up_after s t _ d _ hd hu (if_pos due), fun _ _ _ hd hu => exec_hoursCheckpoint hd hu,
    fun s t d _ hd hu idle => run_up_after s t _ d _ hd hu (if_neg (by simp [idle])),
    fun s t d _ hd hu _ => run_up_after s t _ d _ hd hu rfl, fun s t d port n hd hu full free hn => ?frozen,
    fun s t d hd hu held => run_up_after s t _ d _ hd hu (endFreeze_frozen 1 held), fun _ _ _ hd hu => exec_freezeTimeout hd hu,
    fun s t d n hd hu hn => ?challenged,
    fun s t d _ port _ hd hu hn free right => run_up_after s t _ d _ hd hu (clearSubmit_accepted port hn free right),
    fun s t d _ hd hu _ => run_up_after s t _ d _ hd hu rfl, fun _ _ _ port hd hu => exec_clearKeyEnrol hd hu port,
    fun s t d _ _ hd hu m7 opened present => run_up_after s t _ d _ hd hu (if_pos (by simp [m7, opened, present])),
    fun s t d port hd hu idle medium free => run_up_after s t _ d _ hd hu (scrubNow_free port idle medium free),
    fun s t d hd hu due medium free => run_up_after s t _ d _ hd hu ((if_pos due).trans (scrubStart_free medium free)),
    fun s t d _ _ _ hd hu runs free hq hn => run_up_after s t _ d _ hd hu (scrubDone_counted runs free hq hn),
    fun s t d _ _ _ hd hu _ _ => run_up_after s t _ d _ hd hu rfl, fun s t d hd hu _ _ _ => run_up_after s t _ d _ hd hu rfl⟩
  case frozen =>
    subst hn
    exact run_up_after s t _ d _ hd hu (freeze_full port full free)
  case challenged =>
    subst hn
    exact run_up_after s t _ d _ hd hu rfl

end Sys2Proof.Machine
end

section
/-! How the commands of the clocks (R464, R465, R467, R480), of power and of the wakes (R470, R471, R475, R520, R524) answer where nothing
refuses them. -/
namespace Sys2Proof.Machine
open Sys2Proof Sys2Proof.Safety

/-! ## The root reference and the PLL -/

section
variable {d n : Dev}

section
variable {r : Nat} (hn : n = d.refHere r false) (selected : n.get Reg.CLK_STATUS.REF = r)
include hn selected

/-- The selected reference is lost while the other is present (R465). -/
theorem refLost_other (present : n.refPresent (1 - r) = true) : d.refLost r = n.refSwitch (1 - r) := by
  subst hn
  exact (if_neg (by simp [selected])).trans (if_pos present)

/-- The last reference is lost (R467). -/
theorem refLost_last (absent : n.refPresent (1 - r) = false) : d.refLost r = n.pllUnlock := by
  subst hn
  exact (if_neg (by simp [selected])).trans (if_neg (by simp [absent]))

end

section
variable {r : Nat} {ofs : Int}
  (hn : n = (((d.refHere r true).setBitAt ⟨0x10000, 3, 2⟩ r true).setInt Reg.CLK_REF.EXT_OFS ofs))
  (other : n.get Reg.CLK_STATUS.REF ≠ r)
include hn other

/-- A reference that qualifies beside a selected one that is present and preferred stays beside it (R464). -/
theorem refQualified_beside (present : n.refPresent (n.get Reg.CLK_STATUS.REF) = true) (preferred : n.param P.CLK.REF_PRIO ≠ r) :
    d.refQualified r ofs = n := by
  subst hn
  exact (if_neg other).trans (if_neg (by simp [present, preferred]))

/-- A reference that qualifies is selected where the one selected is absent (R465). -/
theorem refQualified_only (absent : n.refPresent (n.get Reg.CLK_STATUS.REF) = false) : d.refQualified r ofs = n.refSwitch r := by
  subst hn
  exact (if_neg other).trans (if_pos (by simp [absent]))

end

/-- Of two qualified references that differ too far the one not selected is disqualified (R464). -/
theorem refDisqualify_far {ofs : Int} (hn : n = d.setInt Reg.CLK_REF.EXT_OFS ofs) (ok0 : n.refOk 0 = true) (ok1 : n.refOk 1 = true)
    (far : (n.paramF P.CLK.REF_TOL).lt ((F64.ofRatio ofs 100).abs) = true) :
    d.refDisqualify ofs = n.setBitAt ⟨0x10000, 3, 2⟩ (1 - n.get Reg.CLK_STATUS.REF) false := by
  subst hn
  exact if_pos (by simp [ok0, ok1, far])

/-- A PLL in lock comes out of it (R467). -/
theorem pllUnlock_locked (locked : d.flag Reg.CLK_STATUS.LOCKED = true)
    (hn : n = ((((({ d with clk := { d.clk with unlockAt := d.sched.st } } : Dev).setB Reg.CLK_STATUS.LOCKED false).setB
      Reg.CLK_STATUS.HOLD true).setB Reg.CLK_STATUS.UNLOCK_STICKY true).raise 11 [0x10000, 0x10008]).uncover 0) :
    d.pllUnlock = ({ n with red := { n.red with clockFault := true } } : Dev).judgeVerdict := by
  subst hn
  exact if_neg (by simp [locked])

/-- An attempt in its time, on a reference that is present, relocks (R467). -/
theorem pllRelock_locks (unlocked : d.flag Reg.CLK_STATUS.LOCKED = false) (present : d.refPresent (d.get Reg.CLK_STATUS.REF) = true)
    (inTime : (d.sched.st - d.clk.unlockAt) % 10000000 = 0) (later : d.sched.st ≠ d.clk.unlockAt) :
    d.pllRelock true = ((d.setB Reg.CLK_STATUS.LOCKED true).setB Reg.CLK_STATUS.HOLD false).recoverCondition 0 := by
  unfold Dev.pllRelock
  rw [if_neg (by simp [unlocked, present, inTime, later])]

/-- A burst of pulses in M7 whose crossing loses none tells how many arrived (R480). -/
theorem pulseGo_kept {count spacing port : Nat} {lens : List Nat} {x : Crossing} (some_ : count % 64 ≠ 0) (apart : spacing % 256 ≠ 0)
    (hn : n = (d.set Reg.CLK_XPULSE.COUNT (count % 64)).set Reg.CLK_XPULSE.SPACING (spacing % 256)) (m7 : n.mode = 7)
    (hx : x = crossBurst (count % 64) (spacing % 256) lens) (kept : x.lost = false) :
    d.pulseGo count spacing lens port = ((n.set Reg.CLK_XPULSE_RES.RECEIVED x.got).setB Reg.CLK_XPULSE_RES.DONE true).note 0x01 0x01 1
      [((n.set Reg.CLK_XPULSE_RES.RECEIVED x.got).setB Reg.CLK_XPULSE_RES.DONE true).word 0x18000,
        ((n.set Reg.CLK_XPULSE_RES.RECEIVED x.got).setB Reg.CLK_XPULSE_RES.DONE true).word 0x18004] := by
  subst hn hx
  exact (if_neg (by simp [m7, some_, apart])).trans (if_neg (by simp [kept]))

/-- A switch to a qualified reference is forced in M7 (R480). -/
theorem forceSwitch_switches {r : Nat} (port : Nat) (m7 : n.mode = 7) (hr : r = 1 - n.get Reg.CLK_STATUS.REF) (ok : n.refOk r = true) :
    n.forceSwitch port = (n.refSwitch r).note 0x01 0x01 2 [n.word 0x10000] := by
  subst hr
  exact if_neg (by simp [m7, ok])

end

/-- Settles O56, by the law of each command. -/
theorem clockCommandsComplete : Obligations.ClockCommandsComplete := by
  refine ⟨fun s t d _ _ hd hu hn selected present => run_up_after s t _ d _ hd hu (refLost_other hn selected present),
    fun s t d _ _ hd hu hn selected absent => run_up_after s t _ d _ hd hu (refLost_last hn selected absent),
    fun s t d _ _ _ hd hu may hn other present preferred =>
      run_up_after s t _ d _ hd hu ((if_pos may).trans (refQualified_beside hn other present preferred)),
    fun s t d _ _ _ hd hu may hn other absent => run_up_after s t _ d _ hd hu ((if_pos may).trans (refQualified_only hn other absent)),
    fun s t d _ _ hd hu hn ok0 ok1 far => run_up_after s t _ d _ hd hu (refDisqualify_far hn ok0 ok1 far),
    fun s t d _ hd hu locked hn => run_up_after s t _ d _ hd hu (pllUnlock_locked locked hn),
    fun s t d ok hd hu isOk unlocked present inTime later => ?relocks,
    fun s t d _ _ _ port _ _ hd hu opened some_ apart hn m7 hx kept =>
      run_up_after s t _ d _ hd hu ((expert_unlocked d port _ _ opened).trans (pulseGo_kept some_ apart hn m7 hx kept)),
    fun s t d port n r hd hu opened hn m7 hr ok => ?forced⟩
  case relocks =>
    subst isOk
    exact run_up_after s t _ d _ hd hu (pllRelock_locks unlocked present inTime later)
  case forced =>
    subst hn
    exact run_up_after s t _ d _ hd hu ((expert_unlocked d port _ _ opened).trans (forceSwitch_switches port m7 hr ok))

/-! ## Power, resets and wakes -/

/-- Power comes to a device that has VAON and is not held in reset (R471). -/
theorem exec_powerOn {s : State} (inp : StartIn) (vaon : s.dev.clk.phase ≠ .aonLost) (free : s.dev.clk.phase ≠ .resetHeld) :
    exec (.powerOn inp) s = .next (after s (s.dev.start (if s.dev.clk.aonGone then 1 else 0) 0 false inp)) := by
  refine run_after s _ _ ?_
  split
  case h_1 lost => exact absurd lost vaon
  case h_2 held => exact absurd held free
  case h_3 => rfl

/-- RESET_N acts while VAON is present; the advance of schedule time leaves the phase of power (R471). -/
theorem exec_resetNAssert {s : State} {t : Nat} {d : Dev} (hd : d = s.dev.advance t) (vaon : d.clk.phase ≠ .aonLost) :
    exec (.resetNAssert t) s = .next (after s (d.down .resetHeld)) := by
  subst hd
  refine run_after s _ _ ?_
  split
  case h_1 lost => exact absurd lost vaon
  case h_2 => rfl

/-- VIN falls below 8.5 V on a device that has VAON and is not held in reset (R520). -/
theorem exec_vinBrownout {s : State} {t : Nat} {n : Dev}
    (hn : n = { (s.dev.advance t).setVin false with clk := { ((s.dev.advance t).setVin false).clk with vinLost := true } })
    (vaon : n.clk.phase ≠ .aonLost) (free : n.clk.phase ≠ .resetHeld) : exec (.vinBrownout t) s = .next (after s (n.down .off)) := by
  subst hn
  refine run_after s _ _ ?_
  extract_lets novin browned
  split
  case h_1 lost => exact absurd lost vaon
  case h_2 held => exact absurd held free
  case h_3 => rfl

section
variable {s : State} {t : Nat} {d : Dev} (hd : d = s.dev.advance t)
include hd

theorem exec_vaonLoss : exec (.vaonLoss t) s = .next (after s ({ (d.down .aonLost) with
    clk := { (d.down .aonLost).clk with clean := false, wakes := 0, wakeCtrl := 7, aonDt := none, aonGone := true } })) := by
  subst hd
  exact run_after s _ _ rfl

theorem exec_wakeNAssert (inp : StartIn) (enabled : d.bitAt Reg.CLK_WAKE_EN.EN 2 = true) (asleep : d.clk.phase = .dormant) :
    exec (.wakeNAssert t inp) s
      = .next (after s (({ d with clk := { d.clk with wakes := d.clk.wakes ||| 4, wakeCtrl := 7 } } : Dev).start 6 0 false inp)) := by
  subst hd
  exact run_after s _ _ (wake_dormant 7 inp enabled asleep)

theorem exec_spiWake (inp : StartIn) (enabled : d.bitAt Reg.CLK_WAKE_EN.EN 3 = true) (asleep : d.clk.phase = .dormant) :
    exec (.spiWake t inp) s
      = .next (after s (({ d with clk := { d.clk with wakes := d.clk.wakes ||| 8, wakeCtrl := 7 } } : Dev).start 6 0 false inp)) := by
  subst hd
  exact run_after s _ _ (wake_dormant 7 inp enabled asleep)

theorem exec_wakeTimerExpiry (inp : StartIn) (set : d.get Reg.CLK_WAKE_TIMER.SECONDS ≠ 0) (enabled : d.bitAt Reg.CLK_WAKE_EN.EN 4 = true)
    (asleep : d.clk.phase = .dormant) (passed : d.clk.stopAt.getD 0 + 1000000000 * d.get Reg.CLK_WAKE_TIMER.SECONDS ≤ d.sched.st) :
    exec (.wakeTimerExpiry t inp) s
      = .next (after s (({ d with clk := { d.clk with wakes := d.clk.wakes ||| 16, wakeCtrl := 7 } } : Dev).start 6 0 false inp)) := by
  subst hd
  exact run_after s _ _ ((if_pos (by simpa only [Bool.and_eq_true, decide_eq_true_eq, bne_iff_ne] using ⟨⟨asleep, set⟩, passed⟩)).trans
    (wake_dormant 7 inp enabled asleep))

end

/-- A device reset with its key is taken while no shutdown runs (R471). -/
theorem resetWrite_taken {d : Dev} {w : Word} (port : Nat) (inp : StartIn) (key : w = 0x8000005A) (running : d.clk.shutdown = none) :
    d.resetWrite w port inp = d.start 3 0 true inp :=
  (if_neg (by simp [key])).trans (if_neg (by simp [running]))

/-- Settles O57, by the law of each command. -/
theorem powerCommandsComplete : Obligations.PowerCommandsComplete := by
  refine ⟨fun s t d _ _ _ hd hu first last => run_up_after s t _ d _ hd hu (if_pos (by simp [first, last])),
    fun _ inp => exec_powerOn inp, fun _ _ _ => exec_vaonLoss,
    fun s inp lost vin => run_after s _ _ ((if_neg (by simp [lost])).trans (if_pos vin)), fun _ _ _ => exec_resetNAssert,
    fun s inp held vin => run_after s _ _ ((if_neg (by simp [held])).trans (if_neg (by simp [vin]))),
    fun s t d _ port inp hd hu key running => run_up_after s t _ d _ hd hu (resetWrite_taken port inp key running),
    fun s t d hd hu => run_up_after s t _ d _ hd hu rfl, fun s t d _ hd hu => run_up_after s t _ d _ hd hu rfl,
    fun _ _ _ inp hd => exec_wakeNAssert hd inp, fun _ _ _ inp hd => exec_spiWake hd inp,
    fun _ _ _ inp hd => exec_wakeTimerExpiry hd inp, fun s _ tripped => run_after s _ _ (if_pos tripped),
    fun _ _ _ => exec_vinBrownout⟩

end Sys2Proof.Machine
end

section
/-! The recovery ladder where it refuses, and how the commands of shutdown, lamp check, ladder and test port answer where nothing refuses
them (R482, R486, R491 to R495). -/
namespace Sys2Proof.Machine
open Sys2Proof Sys2Proof.Safety

/-! ## A rung that is refused -/

/-- A command that asks for a rung below the level reached, or without its key, answers the refusal (R492). -/
theorem refusal_answers {s : State} {t : Nat} {d m : Dev} {c : Instr} {r port : Nat} {keyed : Bool} {f : Dev → Dev}
    (hd : d = s.dev.advance t) (hc : d.host.causes = none) (hp : port < 2) (only : RegsOnly [0x18] d m)
    (runs : exec c s = .next (after s (m.rung r keyed port f))) (bad : r < d.bist.level ∨ keyed = false) :
    ∃ e : Dev, exec c s = .next { s with dev := e } ∧
      e.flag Reg.SYS_RECOVER.REFUSED = true ∧ Reported 8 port 0 0x18 d e ∧ RegsOnly (0x18 :: reportRegs) d e := by
  obtain ⟨shown, told, frame⟩ := rung_refused d m r port keyed f only bad hc hp
  exact ⟨_, by rw [runs, after_of_img hd (img_of frame)], shown, told, frame⟩

/-- What rung 2 does where it is taken: a block reset is asked for (R493). -/
def Dev.askBlockReset (d : Dev) (block port : Nat) : Dev :=
  if !d.blockResettable block then d.rungRefused port
  else if d.clk.shutdown.isSome then d.reportWrite 9 port 0 0x18 false
  else
    let d : Dev := { d with bist := { d.bist with blockReset := some block } }
    if d.bist.level = 2 then d.note 0x01 0x00 0x120 [d.word 0x18] else d.setLevel 2

theorem rungTwo_eq (d : Dev) (block port : Nat) : d.rungTwo block port
    = (d.set Reg.SYS_RECOVER.BLOCK (block % 256)).rung 2 true port fun d => d.askBlockReset (block % 256) port := rfl

/-- Settles O39: each rung command hands its rung a device in which only SYS_RECOVER may have been written. -/
theorem ladderRefused : Obligations.LadderRefused := by
  intro s t port block key n inp d hd hu hc hp
  have same := RegsOnly.refl [0x18] d
  refine ⟨fun low => refusal_answers hd hc hp same (run_up_after s t _ d _ hd hu rfl) (.inl low),
    fun low => refusal_answers hd hc hp (same.set Reg.SYS_RECOVER.BLOCK (block % 256) (by decide))
      (run_up_after s t _ d _ hd hu (rungTwo_eq d block port)) (.inl low),
    fun h => refusal_answers hd hc hp same (run_up_after s t _ d _ hd hu rfl) (h.imp_right decide_eq_false),
    fun h => refusal_answers hd hc hp same (run_up_after s t _ d _ hd hu rfl) (h.imp_right decide_eq_false)⟩

/-! ## Shutdown -/

section
variable {n : Dev}

/-- A shutdown that the host asks for with its key, in M1 or M7 (R482). -/
theorem shutdownWrite_taken {w : Word} (port : Nat) (key : w = 0x800000A5) (mode : n.mode = 1 ∨ n.mode = 7)
    (running : n.clk.shutdown = none) : n.shutdownWrite w port = n.shutDown 0 :=
  (if_neg (by rcases mode with h | h <;> simp [key, h])).trans (if_neg (by simp [running]))

/-- The pin shuts a device down that is not entering Dormant (R482). -/
theorem shutdownPin_taken (awake : n.clk.phase ≠ .enteringDormant) (mode : n.mode ≠ 0) (running : n.clk.shutdown = none) :
    n.shutdownPin = n.shutDown 1 := by
  unfold Dev.shutdownPin
  split
  case h_1 entering => exact absurd entering awake
  case h_2 => exact if_neg (by simp [mode, running])

/-- While Dormant is being entered the pin turns the entry into a power-down (R485). -/
theorem shutdownPin_entering (entering : n.clk.phase = .enteringDormant) :
    n.shutdownPin = { n.holdPower with clk := { n.holdPower.clk with dormantAbandon := true } } := by
  unfold Dev.shutdownPin
  rw [entering]

/-- In M7 the test port opens behind the clearing of the secrets (R491). -/
theorem scanEnable_opens {d : Dev} (port : Nat) (m7 : d.mode = 7)
    (hn : n = ((d.clearSecrets.setB Reg.BIST_XSCAN.SCAN_EN true).setB Reg.BIST_STATUS.SCAN_OPEN true).setB Reg.CLK_CTRL.FULL_NEXT true) :
    d.scanEnable port = ({ n with safe := { n.safe with scanOpen := true }
                                  out := { n.out with can := n.out.can.map (fun c => { c with bufs := [] }) } } : Dev).openPairs := by
  subst hn
  exact if_neg (by simp [m7])

end

/-! ## The rungs -/

section
variable {d n m : Dev}

/-- A rung that the level reached allows, asked for with its key outside M0, is taken (R492). -/
theorem rung_taken {r : Nat} {keyed : Bool} (port : Nat) (f : Dev → Dev) (hn : n = d.set Reg.SYS_RECOVER.RUNG r)
    (reached : n.bist.level ≤ r) (key : keyed = true) (awake : n.mode ≠ 0) :
    d.rung r keyed port f = f (n.setB Reg.SYS_RECOVER.REFUSED false) := by
  subst hn
  exact if_neg (by simpa [key, awake] using decide_eq_false (Nat.not_lt.mpr reached))

/-- A level that changes is shown and told by E18 (R495). -/
theorem setLevel_new {r : Nat} (changes : d.bist.level ≠ r) :
    d.setLevel r = (({ d with bist := { d.bist with level := r } } : Dev).set Reg.SYS_RECOVER.LEVEL r).raise 18 [0x18] := if_neg changes

theorem rungOne_first (port : Nat) (hn : n = d.set Reg.SYS_RECOVER.RUNG 1) (level : n.bist.level = 0) (awake : n.mode ≠ 0) :
    d.rungOne port = (n.setB Reg.SYS_RECOVER.REFUSED false).setLevel 1 := by
  have unreached : ¬ (n.setB Reg.SYS_RECOVER.REFUSED false).bist.level = 1 := by
    rw [show (n.setB Reg.SYS_RECOVER.REFUSED false).bist = n.bist from rfl, level]
    decide
  exact (rung_taken port _ hn (by omega) rfl awake).trans (if_neg unreached)

/-- Rung 2 asks for the block's reset (R493). -/
theorem rungTwo_taken {block : Nat} (port : Nat) (hn : n = (d.set Reg.SYS_RECOVER.BLOCK (block % 256)).set Reg.SYS_RECOVER.RUNG 2)
    (level : n.bist.level ≤ 1) (awake : n.mode ≠ 0) (hm : m = n.setB Reg.SYS_RECOVER.REFUSED false)
    (resettable : m.blockResettable (block % 256) = true) (running : m.clk.shutdown = none) :
    d.rungTwo block port = ({ m with bist := { m.bist with blockReset := some (block % 256) } } : Dev).setLevel 2 := by
  have unreached : ¬ m.bist.level = 2 := by
    rw [hm, show (n.setB Reg.SYS_RECOVER.REFUSED false).bist = n.bist from rfl]
    omega
  have taken := rung_taken (keyed := true) port (fun d => d.askBlockReset (block % 256) port) hn (by omega) rfl awake
  rw [← hm] at taken
  exact (rungTwo_eq d block port).trans (taken.trans ((if_neg (by simp [resettable])).trans ((if_neg (by simp [running])).trans (if_neg unreached))))

theorem rungThree_taken {key : Nat} (port : Nat) (inp : StartIn) (keyed : key = 0x5A) (hn : n = d.set Reg.SYS_RECOVER.RUNG 3)
    (level : n.bist.level ≤ 3) (awake : n.mode ≠ 0) (hm : m = n.setB Reg.SYS_RECOVER.REFUSED false) (running : m.clk.shutdown = none) :
    d.rungThree key port inp = (m.levelAtRestart 3).start 3 0 true inp := by
  subst hm
  exact (rung_taken port _ hn level (decide_eq_true keyed) awake).trans (if_neg (by simpa using running))

theorem rungFour_taken {key count : Nat} {drained : Dev} (port : Nat) (keyed : key = 0x5A) (hn : n = d.set Reg.SYS_RECOVER.RUNG 4)
    (level : n.bist.level ≤ 4) (awake : n.mode ≠ 0) (hm : m = n.setB Reg.SYS_RECOVER.REFUSED false) (running : m.clk.shutdown = none)
    (fresh : m.clk.cycleReq = false)
    (hdr : drained = ((((m.levelAtRestart 4).set Reg.SYS_RECOVER.LEVEL 4).holdPower.endFreeze 0).drain count []).closeBatch) :
    d.rungFour key count port
      = { drained.stopSchedule with clk := { drained.clk with phase := .cycling, cycleReq := true, cycleAt := drained.sched.st } } := by
  subst hm hdr
  exact (rung_taken port _ hn level (decide_eq_true keyed) awake).trans (if_neg (by simpa using ⟨running, fresh⟩))

/-- VIN is still there when the wait of rung 4 ends (R494). -/
theorem cycleFailed_restarts {inp : StartIn} (cycling : d.clk.phase = .cycling) (hn : n = d.start 3 0 true inp)
    (waited : d.clk.cycleAt + d.paramNs P.SYS.CYCLE_WAIT ≤ d.sched.st) :
    d.cycleFailed inp = { n with bist := { n.bist with cycleFail := true } } := by
  subst hn
  exact if_pos (by simp [cycling, waited])

end

/-- Settles O58, by the law of each command. -/
theorem shutdownCommandsComplete : Obligations.ShutdownCommandsComplete := by
  refine ⟨fun s t d _ port _ n hd hu key hn mode running => ?write, fun s t d _ n hd hu hn awake mode running => ?pin,
    fun s t d _ n hd hu hn entering => ?abandon, fun s t d _ _ _ hd hu _ => run_up_after s t _ d _ hd hu rfl,
    fun s t d port _ hd hu hn level awake => run_up_after s t _ d _ hd hu (rungOne_first port hn level awake),
    fun s t d _ port _ _ hd hu hn level awake hm resettable running =>
      run_up_after s t _ d _ hd hu (rungTwo_taken port hn level awake hm resettable running),
    fun s t d _ port inp _ _ hd hu keyed hn level awake hm running =>
      run_up_after s t _ d _ hd hu (rungThree_taken port inp keyed hn level awake hm running),
    fun s t d _ _ port _ _ _ hd hu keyed hn level awake hm running fresh hdr =>
      run_up_after s t _ d _ hd hu (rungFour_taken port keyed hn level awake hm running fresh hdr),
    fun s t d _ _ hd hu cycling hn waited => run_up_after s t _ d _ hd hu (cycleFailed_restarts cycling hn waited),
    fun s t d hd hu level => run_up_after s t _ d _ hd hu (setLevel_new level),
    fun s t d port _ hd hu opened m7 hn =>
      run_up_after s t _ d _ hd hu ((expert_unlocked d port _ _ opened).trans (scanEnable_opens port m7 hn))⟩
  case write =>
    subst hn
    exact run_up_after s t _ d _ hd hu (shutdownWrite_taken port key mode running)
  case pin =>
    subst hn
    exact run_up_after s t _ d _ hd hu (shutdownPin_taken awake mode running)
  case abandon =>
    subst hn
    exact run_up_after s t _ d _ hd hu (shutdownPin_entering entering)

end Sys2Proof.Machine
end

section
/-! Signalling, clearing and forcing events (R508, R511, R512), and the two keys of SYS_EXPERT (R505, R506). -/
namespace Sys2Proof.Machine
open Sys2Proof Sys2Proof.Safety

/-! ## Sending vectors -/

/-- `e` is `d` but for the pending vectors and the count of messages sent (R511). -/
def VectorsOnly (d e : Dev) : Prop :=
  (∀ a, a ≠ 0x151800 → e.word a = d.word a) ∧ e = { d with regs := e.regs, host := { d.host with sent := e.host.sent } }

theorem VectorsOnly.refl (d : Dev) : VectorsOnly d d := ⟨fun _ _ => rfl, rfl⟩

theorem VectorsOnly.trans {a b c : Dev} (h : VectorsOnly a b) (k : VectorsOnly b c) : VectorsOnly a c := by
  refine ⟨fun x hx => (k.1 x hx).trans (h.1 x hx), k.2.trans ?_⟩
  exact congrArg (fun d : Dev => { d with regs := c.regs, host := { d.host with sent := c.host.sent } }) h.2

/-- A vector's message, or its pending bit, leaves everything else. -/
theorem sendVector_only (d : Dev) (v : Nat) : VectorsOnly d (d.sendVector v) := by
  unfold Dev.sendVector
  split
  · exact ⟨fun a ha => Dev.word_set_other _ _ _ _ ha, rfl⟩
  · exact ⟨fun a ha => Dev.word_set_other _ _ _ _ ha, rfl⟩

theorem sendVectors_only (p : Dev → Nat → Bool) (l : List Nat) (d : Dev) :
    VectorsOnly d (l.foldl (fun d v => if p d v then d.sendVector v else d) d) := by
  induction l generalizing d with
  | nil => exact .refl d
  | cons v l ih =>
    refine VectorsOnly.trans ?_ (ih _)
    dsimp only
    split
    · exact sendVector_only d v
    · exact .refl d

theorem deliverFrom_only (before d : Dev) : VectorsOnly d (Dev.deliverFrom before d) :=
  sendVectors_only (fun d v => d.vecPending v && !before.vecPending v) [0, 1, 2, 3] d

/-! ## Status bits -/

/-- A status bit is a bit of its bank's word. -/
theorem eventSet_word (n : Nat) (d : Dev) : eventSet n d = (d.word (0x20000 + 4 * (n / 32))).getLsbD (n % 32) := by
  rw [eventSet_def, Dev.bitAt_eq, decide_eq_true (Nat.mod_lt n (by decide)), Bool.true_and]
  exact congrArg _ (Nat.zero_add _)

/-- A device whose status words are the same has the same events. -/
theorem eventSet_congr {d e : Dev} (n : Nat) (h : e.word (0x20000 + 4 * (n / 32)) = d.word (0x20000 + 4 * (n / 32))) :
    eventSet n e = eventSet n d := by
  rw [eventSet_word, eventSet_word, h]

/-- A status bit set sets no other event's. -/
theorem eventSet_setBitAt (d : Dev) (n m : Nat) :
    eventSet m (d.setBitAt (Reg.EVT_STATUS.STATUS (n / 32)) (n % 32) true) = (decide (m = n) || eventSet m d) := by
  by_cases bank : m / 32 = n / 32
  · rw [eventSet_def, eventSet_def, bank, Dev.bitAt_status _ _ _ _ (Nat.mod_lt n (by decide)) (Nat.mod_lt m (by decide))]
    by_cases same : m = n
    · simp [same]
    · rw [if_neg (by omega), decide_eq_false same, Bool.false_or]
  · rw [decide_eq_false (by omega), Bool.false_or]
    exact eventSet_congr m (Dev.word_set_other _ _ _ _ (by dsimp only; omega))

/-! ## Signalling -/

/-- An event's status bit with the latest event and its time, before anything is delivered (R508). -/
def Dev.marked (d : Dev) (n : Nat) : Dev :=
  ((d.setBitAt (Reg.EVT_STATUS.STATUS (n / 32)) (n % 32) true).set Reg.EVT_LAST.EVENT n).set Reg.EVT_LAST_TS.TS d.ts32.toNat

/-- Delivery, and what waits for the event, leave the registers but for the pending vectors. -/
theorem signal_word (d : Dev) (n a : Nat) (h : a ≠ 0x151800) : (d.signal n).word a = (d.marked n).word a := by
  have delivered := (deliverFrom_only d (d.marked n)).1 a h
  unfold Dev.signal
  extract_lets e f
  split
  · exact delivered
  · exact delivered

theorem signal_get (d : Dev) (n : Nat) (x : Field) (h : x.addr ≠ 0x151800) : (d.signal n).get x = (d.marked n).get x := by
  rw [Dev.get_eq_word, Dev.get_eq_word, signal_word d n _ h]

theorem eventSet_marked (d : Dev) (n m : Nat) (hm : m < 96) : eventSet m (d.marked n) = (decide (m = n) || eventSet m d) := by
  rw [← eventSet_setBitAt]
  refine eventSet_congr m ?_
  rw [Dev.marked, Dev.word_set_other _ _ _ _ (by dsimp only; omega), Dev.word_set_other _ _ _ _ (by dsimp only; omega)]

/-- Settles O16: what delivers the event changes the pending vectors alone. -/
theorem eventSignalled : Obligations.EventSignalled := by
  intro d n hn
  refine ⟨fun m hm => ?_, ?_, ?_⟩
  · rw [← eventSet_marked d n m hm]
    exact eventSet_congr m (signal_word d n _ (by omega))
  · rw [signal_get d n _ (by decide), Dev.marked, Dev.get_set_other _ _ _ _ (by decide)]
    exact Dev.get_set_same' _ _ _ (by decide) (by dsimp only; omega)
  · rw [signal_get d n _ (by decide), Dev.marked, Dev.get_set_same' _ _ _ (by decide) d.ts32.isLt]
    rw [Dev.ts32, ts32Of_natCast]
    exact BitVec.toNat_ofNat d.sched.st 32

/-! ## Clearing -/

/-- A bank of status bits after a clearing write, before the vectors are sent again (R508, R511). -/
def Dev.statusCleared (d : Dev) (b : Nat) (w : Word) : Dev :=
  d.setWord (0x20000 + 4 * b) (d.word (0x20000 + 4 * b) &&& ~~~(w &&& ~~~(d.raisedNow b)))

theorem evtClear_only (d : Dev) (b : Nat) (w : Word) : VectorsOnly (d.statusCleared b w) (d.evtClear b w) :=
  sendVectors_only (fun d v => d.vecPending v) [0, 1, 2, 3] (d.statusCleared b w)

theorem evtClear_rest (d : Dev) (b : Nat) (w : Word) :
    d.evtClear b w = { d with regs := (d.evtClear b w).regs, host := { d.host with sent := (d.evtClear b w).host.sent } } :=
  (evtClear_only d b w).2

/-- Of a bank the bits written with 1 are cleared, but for those raised in the same cycle. -/
theorem eventSet_statusCleared (d : Dev) (b : Nat) (w : Word) (n : Nat) : eventSet n (d.statusCleared b w)
    = (eventSet n d && !(decide (n / 32 = b) && w.getLsbD (n % 32) && !d.host.raised.contains (n, d.ioCycle))) := by
  have h32 : n % 32 < 32 := Nat.mod_lt n (by decide)
  by_cases bank : n / 32 = b
  · subst bank
    rw [eventSet_word, eventSet_word, Dev.statusCleared, Dev.word_setWord_same, BitVec.getLsbD_and, BitVec.getLsbD_not,
      BitVec.getLsbD_and, BitVec.getLsbD_not, raisedNow_bit]
    simp [h32]
  · have other : eventSet n (d.statusCleared b w) = eventSet n d := by
      unfold Dev.statusCleared
      exact eventSet_congr n (Dev.word_setWord_other d _ _ _ (by omega))
    rw [other, decide_eq_false bank, Bool.false_and, Bool.false_and, Bool.not_false, Bool.and_true]

/-- Settles O18: the bank's word is cleared, and the vectors whose sets stay non-empty are sent again. -/
theorem eventStatusCleared : Obligations.EventStatusCleared := by
  intro s t b w d hd hu hb
  have rest := evtClear_rest d b w
  obtain ⟨words, -⟩ := evtClear_only d b w
  refine ⟨d.evtClear b w, by rw [exec_evtStatusClear hd hu b w hb, after_of_img hd (by rw [rest])], fun n hn => ?_, fun x hx hv => ?_, rest⟩
  · rw [← eventSet_statusCleared d b w n]
    exact eventSet_congr n (words _ (by omega))
  · exact (words x hv).trans (Dev.word_setWord_other d _ _ _ hx)

/-! ## Forcing (R512) -/

/-- EVT_FORCE with its event written, in a device whose idle time of the unlock starts anew. -/
def Dev.forceChosen (d : Dev) (n : Nat) : Dev := d.opened.set Reg.EVT_FORCE.EVENT n

theorem forceChosen_mode (d : Dev) (n : Nat) : (d.forceChosen n).mode = d.mode := Dev.get_set_other _ _ _ _ (by decide)

theorem forceChosen_only (d : Dev) (n : Nat) : RegsOnly [0x28000] d.opened (d.forceChosen n) := (RegsOnly.refl _ _).set _ _ (by decide)

/-- Outside M7, and for E31 and what is no event, a forced event is refused. -/
theorem forceEvent_refused (d : Dev) (n port : Nat) (h : d.mode ≠ 7 ∨ 96 ≤ n ∨ n = 31) :
    d.forceEvent n port = d.reportWrite 8 port 0 0x28000 false := by
  refine if_pos ?_
  rcases h with h | h | h
  · simp [h]
  · simp [show 95 < n by omega]
  · simp [h]

/-- A forced event has its status, and its record with the forced mark. -/
theorem forceEvent_says {a d : Dev} {n port : Nat} (only : RegsOnly [0x28000] a d) (m7 : d.mode = 7) (hn : n < 96) (h31 : n ≠ 31) :
    eventSet n (d.forceEvent n port) = true ∧ Recorded (evtType n) (recordBody n (evtBlock n) 0x8000 []) a (d.forceEvent n port) ∧
      ToldOnly [0x28000] a (d.forceEvent n port) := by
  have same : (d.signal n).recorder = a.recorder := by rw [signal_recorder, only.2]
  rw [forceEvent_m7 d n port m7 (by omega) h31]
  refine ⟨?status, ?record, ?frame⟩
  case status => exact (Told.flushTrace 24 _ ((Told.refl (d.signal n)).record _ _ _)).eventSet n hn (eventSet_signal d n hn)
  case record =>
    exact Told.recorded _ _ none (evtType_ne n) (Told.flushTrace 24 _ (Told.refl _)) (congrArg RecState.staging same)
      (congrArg RecState.lastSeq same) (congrArg RecState.openBatch same)
  case frame => exact Told.after only (Told.flushTrace 24 _ (((Told.refl d).signal n hn).record _ _ _))

/-- While UNLOCKED, a write of EVT_FORCE acts. -/
theorem exec_evtForce_unlocked {s : State} {t : Nat} {d : Dev} (hd : d = s.dev.advance t) (hu : d.coreUp = true) {n : Nat} (port : Nat)
    (opened : d.flag Reg.SYS_EXPERT.UNLOCKED = true) (hn : n < 128) :
    exec (.evtForce t n port) s = .next (after s ((d.forceChosen n).forceEvent n port)) := by
  refine run_up_after s t _ d _ hd hu ((expert_unlocked d port _ _ opened).trans ?_)
  rw [Nat.mod_eq_of_lt hn]
  rfl

/-- Settles O17: signalled and recorded in M7, reported elsewhere and for what cannot be forced. -/
theorem eventForced : Obligations.EventForced := by
  intro s t n port d hd hu hc opened hn hp
  have only := forceChosen_only d n
  have runs := exec_evtForce_unlocked hd hu port opened hn
  by_cases bad : d.mode ≠ 7 ∨ 96 ≤ n ∨ n = 31
  · rw [forceEvent_refused (d.forceChosen n) n port (by rwa [forceChosen_mode])] at runs
    have refused := reported_after only (by decide) 8 port 0 0x28000 hc (by decide) hp (by decide) (by decide)
    refine ⟨_, by rw [runs, after_of_img hd ((img_of refused.2).trans rfl)], fun m7 h96 h31 => ?_, fun _ => refused⟩
    exact absurd bad (by simp [m7, h31, h96])
  · simp only [not_or, not_not, not_le] at bad
    obtain ⟨m7, h96, h31⟩ := bad
    obtain ⟨status, record, frame⟩ := forceEvent_says (port := port) only ((forceChosen_mode d n).trans m7) h96 h31
    refine ⟨_, by rw [runs, after_of_img hd (by rw [frame.2]; rfl)], fun _ _ _ => ⟨status, record, frame⟩, fun h => ?_⟩
    exact absurd h (by simp [m7, h31, h96])

/-! ## The two keys of SYS_EXPERT (R505) -/

section
variable (d : Dev) (port : Nat)

/-- The sequence of a port is over. -/
def Dev.keysLeft : Dev := { d with host := { d.host with keyAt := d.host.keyAt.filter (fun e => e.1 != port) } }

/-- The unlock by a port, before it is told. -/
def Dev.unlocked : Dev :=
  (({ d.keysLeft port with host := { (d.keysLeft port).host with expertAt := d.sched.st } } : Dev).setB Reg.SYS_EXPERT.UNLOCKED true).set
    Reg.SYS_EXPERT.PORT port

section
variable {w : Word}

theorem keyWrite_zero (zero : w = 0) : d.keyWrite w port = (d.keysLeft port).lockExpert 0 := if_pos zero

theorem keyWrite_first (one : w = 0xB45C) :
    d.keyWrite w port = { d with host := { d.host with keyAt := (port, d.sched.st) :: (d.keysLeft port).host.keyAt } } :=
  (if_neg (by rw [one]; decide)).trans (if_pos one)

/-- The second key inside 1 ms from the first unlocks. -/
theorem keyWrite_second {t1 : Nat} (two : w = 0xC31E) (first : lookup d.host.keyAt port = some t1) (soon : d.sched.st < t1 + 1000000) :
    d.keyWrite w port = (d.unlocked port).raiseSub 10 port [0x1C] := by
  refine (if_neg (by rw [two]; decide)).trans ((if_neg (by rw [two]; decide)).trans ?_)
  dsimp only
  rw [first]
  exact if_pos (by simp [two, soon])

end

variable {w : Word} (zero : w ≠ 0) (one : w ≠ 0xB45C)
include zero one

/-- Another word, or the second key too late, ends the sequence. -/
theorem keyWrite_other {t1 : Nat} (first : lookup d.host.keyAt port = some t1) (h : w ≠ 0xC31E ∨ t1 + 1000000 ≤ d.sched.st) :
    d.keyWrite w port = d.keysLeft port := by
  refine (if_neg zero).trans ((if_neg one).trans ?_)
  dsimp only
  rw [first]
  refine if_neg fun unlocks => ?_
  simp only [Bool.and_eq_true, decide_eq_true_eq] at unlocks
  obtain ⟨two, soon⟩ := unlocks
  rcases h with other | late
  · exact other two
  · exact absurd soon (Nat.not_lt.mpr late)

/-- Without a first key a word changes nothing. -/
theorem keyWrite_alone (first : lookup d.host.keyAt port = none) : d.keyWrite w port = d := by
  have others : d.host.keyAt.filter (fun e => e.1 != port) = d.host.keyAt := by
    simp only [lookup, Option.map_eq_none_iff, List.find?_eq_none] at first
    exact List.filter_eq_self.mpr fun e he => by simpa using first e he
  refine (if_neg zero).trans ((if_neg one).trans ?_)
  dsimp only
  rw [first, others]

end

/-- UNLOCKED falls, and only SYS_EXPERT and what tells of it change. -/
theorem lockExpert_says (d : Dev) (why : Nat) :
    (d.lockExpert why).flag Reg.SYS_EXPERT.UNLOCKED = false ∧ ToldOnly [0x1C] d (d.lockExpert why) := by
  unfold Dev.lockExpert
  split
  next opened =>
    have told := (Told.refl (d.setB Reg.SYS_EXPERT.UNLOCKED false)).note 0x01 0x00 (0x100 + why) [d.word 0x1C]
    refine ⟨?_, Told.after ((RegsOnly.refl _ d).setB _ _ (by decide)) told⟩
    rw [told.flag _ (by decide)]
    exact Dev.flag_setB_same d _ _ rfl (by decide)
  next locked => exact ⟨by simpa using locked, (RegsOnly.refl [0x1C] d).told⟩

/-- The registers of the unlock. -/
theorem unlocked_regs (d : Dev) (port : Nat) (hp : port < 2) :
    (d.unlocked port).flag Reg.SYS_EXPERT.UNLOCKED = true ∧ (d.unlocked port).get Reg.SYS_EXPERT.PORT = port := by
  constructor
  · rw [Dev.unlocked, Dev.flag_set_apart _ Reg.SYS_EXPERT.PORT Reg.SYS_EXPERT.UNLOCKED port rfl (by decide) (by decide)]
    exact Dev.flag_setB_same _ _ _ rfl (by decide)
  · exact Dev.get_set_same' _ Reg.SYS_EXPERT.PORT port (by decide) hp

theorem unlocked_only (d : Dev) (port : Nat) : RegsOnly [0x1C]
    { d.keysLeft port with host := { (d.keysLeft port).host with expertAt := d.sched.st } } (d.unlocked port) :=
  ((RegsOnly.refl _ _).setB Reg.SYS_EXPERT.UNLOCKED true (by decide)).set Reg.SYS_EXPERT.PORT port (by decide)

/-- The unlock is told by E10. -/
theorem unlocked_told (d : Dev) (port : Nat) : Told (d.unlocked port) ((d.unlocked port).raiseSub 10 port [0x1C]) :=
  (Told.refl _).raiseWith 10 port _ none (by decide)

theorem unlocked_host (d : Dev) (port : Nat) :
    ((d.unlocked port).raiseSub 10 port [0x1C]).host.keyAt = (d.keysLeft port).host.keyAt ∧
      ((d.unlocked port).raiseSub 10 port [0x1C]).host.expertAt = d.sched.st := by
  rw [(unlocked_told d port).eq]
  exact ⟨rfl, rfl⟩

/-- The record of the unlock holds SYS_EXPERT with the port (R436). -/
theorem unlocked_recorded (d : Dev) (port : Nat) :
    Recorded 0x01 (recordBody 10 0x00 port [(d.unlocked port).word 0x1C]) d ((d.unlocked port).raiseSub 10 port [0x1C]) := by
  have record := recorded_raiseWith (d.unlocked port) 10 port [(d.unlocked port).word 0x1C] none
  rw [show evtType 10 = 0x01 from rfl, show evtBlock 10 = 0x00 from rfl] at record
  exact record

/-- What the unlock says and changes. -/
theorem unlocked_says (d : Dev) (port : Nat) (hp : port < 2) {e : Dev} (he : e = (d.unlocked port).raiseSub 10 port [0x1C]) :
    e.flag Reg.SYS_EXPERT.UNLOCKED = true ∧ e.get Reg.SYS_EXPERT.PORT = port ∧ eventSet 10 e = true ∧
      (∃ sub, Recorded 0x01 (recordBody 10 0x00 sub [e.word 0x1C]) d e) ∧
      e.host.keyAt = (d.keysLeft port).host.keyAt ∧ e.host.expertAt = d.sched.st ∧
      ToldOnly [0x1C] { d.keysLeft port with host := { (d.keysLeft port).host with expertAt := e.host.expertAt } } e := by
  subst he
  have told := unlocked_told d port
  obtain ⟨open_, shown⟩ := unlocked_regs d port hp
  obtain ⟨keys, stamp⟩ := unlocked_host d port
  refine ⟨(told.flag _ (by decide)).trans open_, (told.get _ (by decide)).trans shown, eventSet_raiseWith _ 10 port _ none (by decide),
    ⟨port, ?record⟩, keys, stamp, ?frame⟩
  case record =>
    rw [told.word _ (by decide)]
    exact unlocked_recorded d port
  case frame =>
    rw [stamp]
    exact Told.after (unlocked_only d port) told

/-- A key word leaves the images and what belongs to them. -/
theorem keyWrite_img (d : Dev) (w : Word) (port : Nat) : (d.keyWrite w port).img = d.img := by
  by_cases zero : w = 0
  · obtain ⟨-, -, grafted⟩ := lockExpert_says (d.keysLeft port) 0
    rw [keyWrite_zero d port zero, grafted]
    rfl
  by_cases one : w = 0xB45C
  · rw [keyWrite_first d port one]
  cases first : lookup d.host.keyAt port with
  | none => rw [keyWrite_alone d port zero one first]
  | some t1 =>
    by_cases other : w ≠ 0xC31E ∨ t1 + 1000000 ≤ d.sched.st
    · rw [keyWrite_other d port zero one first other]
      rfl
    · simp only [not_or, not_not, not_le] at other
      obtain ⟨two, soon⟩ := other
      rw [keyWrite_second d port two first soon, (unlocked_told d port).eq]
      rfl

/-- A write to SYS_EXPERT on a port. -/
theorem exec_keyWrite {s : State} {t : Nat} {d : Dev} (hd : d = s.dev.advance t) (hu : d.coreUp = true) (w : Word) {port : Nat}
    (hp : port < 2) : exec (.expertKeyWrite t w port) s = .next { s with dev := d.keyWrite w port } := by
  rw [exec_expertKeyWrite hd hu w port, Nat.mod_eq_of_lt hp, after_of_img hd (keyWrite_img d w port)]

/-- Settles O14: a case for each word with the keys held. -/
theorem expertUnlock : Obligations.ExpertUnlock := by
  intro s t port w d k hd hu hp hk
  subst hk
  refine ⟨d.keyWrite w port, exec_keyWrite hd hu w hp, fun one => ?_, fun zero => ?_, fun t1 two first _ soon => ?_,
    fun t1 first zero one other => keyWrite_other d port zero one first other, fun first zero one => keyWrite_alone d port zero one first⟩
  · exact keyWrite_first d port one
  · obtain ⟨-, -, grafted⟩ := lockExpert_says (d.keysLeft port) 0
    rw [keyWrite_zero d port zero, grafted]
    rfl
  · exact unlocked_says d port hp (keyWrite_second d port two first soon)

/-! ## The unlock falls (R506) -/

/-- Settles O15, by what a lock says and changes. -/
theorem expertRelock : Obligations.ExpertRelock := by
  intro s t port d hd hu hp
  refine ⟨⟨d.keyWrite 0 port, exec_keyWrite hd hu 0 hp, ?zero⟩, ?lapse⟩
  case zero =>
    obtain ⟨locked, frame⟩ := lockExpert_says (d.keysLeft port) 0
    have keys : ((d.keysLeft port).lockExpert 0).host.keyAt = (d.keysLeft port).host.keyAt := by
      rw [frame.2]
      rfl
    rw [keyWrite_zero d port rfl, keys]
    exact ⟨locked, frame⟩
  case lapse =>
    have runs : exec (.expertIdleLapse t) s
        = .next (after s (if d.host.expertAt + 1800000000000 ≤ d.sched.st then d.lockExpert 1 else d)) := run_up_after s t _ d _ hd hu rfl
    by_cases due : d.host.expertAt + 1800000000000 ≤ d.sched.st
    · obtain ⟨locked, frame⟩ := lockExpert_says d 1
      exact ⟨d.lockExpert 1, by rw [runs, if_pos due, after_of_img hd (by rw [frame.2]; rfl)], fun _ => ⟨locked, frame⟩,
        fun early => absurd due (Nat.not_le.mpr early)⟩
    · exact ⟨d, by rw [runs, if_neg due, after_of_img hd rfl], fun late => absurd late due, fun _ => rfl⟩

end Sys2Proof.Machine
end

section
/-! What the host's ports answer where no register and no region takes a write, or where the check is wrong (R501, R502, R504, R507), and
what BAR2 stores (R104, R501). -/
namespace Sys2Proof.Machine
open Sys2Proof Sys2Proof.Safety

/-! ## An address with no register (R504) -/

section
variable {d : Dev} {a : Nat} (absent : regRow a = none)
include absent

theorem hostWord_absent : d.hostWord a = 0 := by
  unfold Dev.hostWord
  rw [absent]
  exact ite_self _

/-- SYS_EXPERT, whose writes are key words, is a register. -/
theorem hostWrite_absent (w : Word) (port : Nat) (x : WriteIn) : d.hostWrite a w port x = d.reportWrite 7 port 0 a false := by
  have noKey : a ≠ 0x1C := by
    rintro rfl
    exact absurd absent (by decide)
  unfold Dev.hostWrite
  rw [if_neg noKey, absent]
  exact ite_self _

end

/-- A read leaves the images. -/
theorem hostRead_img (d : Dev) (a : Nat) : (d.hostRead a).img = d.img := by
  cases waits : lookup d.host.latched a with
  | none =>
    obtain ⟨-, img, -⟩ := hostRead_readOut d a waits
    exact img
  | some w => rw [hostRead_latched d a w waits]

/-- Settles O20: without a latched word the read answers 0; the write falls to the report. -/
theorem unmappedRegister : Obligations.UnmappedRegister := by
  intro s t a port w x d hd hu hc aligned ha hp absent
  have report := reported d 7 port 0 a hc (by decide) hp (by decide) ha
  refine ⟨⟨d.hostRead a, by rw [exec_readClearRegisterRead hd hu a, after_of_img hd (hostRead_img d a)], fun free => ?_⟩,
    ⟨d.reportWrite 7 port 0 a false, ?_, report⟩⟩
  · obtain ⟨answer, -⟩ := hostRead_readOut d a free
    rw [answer, hostWord_absent absent]
  · have runs : exec (.registerWrite t port a w x) s = .next (after s (d.hostWrite a w (port % 2) x)) :=
      run_host_after s t _ d _ hd hu (if_pos aligned)
    rw [runs, hostWrite_absent absent, Nat.mod_eq_of_lt hp, after_of_img hd (img_of report.2)]

/-! ## BAR2 (R501) -/

/-- Bytes written one by one from an address upward are a write of them all. -/
theorem bar2Write_bytes (bs : List Byte) (a : Nat) (d : Dev) :
    ((List.range bs.length).zip bs).foldl (fun n e => n.bar2Write (a + e.1) [e.2]) d = d.bar2Write a bs := by
  induction bs generalizing a d with
  | nil => rfl
  | cons b bs ih =>
    rw [List.length_cons, List.range_succ_eq_map, List.zip_cons_cons, List.foldl_cons, List.zip_map_left, List.foldl_map]
    have next := ih (a + 1) (d.bar2Write a [b])
    simp only [Nat.add_assoc, Nat.add_comm 1] at next
    exact next

/-- Staging takes every byte while no racking runs (R99, R104). -/
theorem bar2Cause_staging {d : Dev} {a : Nat} (region : bar2Region a = .staging) (idle : d.img.racking = none) : d.bar2Cause a = 0 := by
  unfold Dev.bar2Cause
  rw [region, idle]
  rfl

/-- Settles O22: the bytes are written one by one, each at its address. -/
theorem bar2StoresBytes : Obligations.Bar2StoresBytes := by
  intro s t port a bs d hd hu _ _ staging idle
  have free : ∀ k < bs.length, d.bar2Cause (a + k) = 0 := fun k hk => bar2Cause_staging (staging k hk) idle
  have img : (d.bar2Write a bs).img = d.img := rfl
  refine ⟨d.bar2Write a bs, by rw [exec_bar2Write hd hu port a bs free, bar2Write_bytes, after_of_img hd img], fun i hi => ?_,
    fun b hb => ?_, rfl⟩
  · exact Memory.read_writeAll_inside d.host.bar2 a i bs hi
  · exact Memory.read_writeAll_other d.host.bar2 a b bs hb

/-- The regions of BAR2 lie below 64 MB. -/
theorem bar2Region_high {a : Nat} (h : 0x04000000 ≤ a) : bar2Region a = .none := by
  unfold bar2Region
  repeat rw [if_neg (by simp only [Bool.and_eq_true, Bool.or_eq_true, decide_eq_true_eq]; omega)]

/-- A read-only region tells of itself while the device runs. -/
theorem bar2Cause_readOnly {d : Dev} {a : Nat} (region : bar2Region a = .readOnly) (hu : d.coreUp = true) : d.bar2Cause a = 1 := by
  have running : d.clk.phase ≠ .halted := by
    intro halted
    rw [Dev.coreUp, halted] at hu
    cases hu
  unfold Dev.bar2Cause
  rw [region]
  exact if_neg running

theorem bar2Cause_none {d : Dev} {a : Nat} (region : bar2Region a = .none) : d.bar2Cause a = 7 := by
  unfold Dev.bar2Cause
  rw [region]

/-- A byte that is refused is not stored, and reported once. -/
theorem bar2HostWrite_refused (d : Dev) (a port : Nat) (b : Byte) {c : Nat} (cause : d.bar2Cause a = c) (hc : c ≠ 0) :
    d.bar2HostWrite a [b] port = d.reportWrite c port 1 a false := by
  unfold Dev.bar2HostWrite
  simp [cause, hc]

/-- A write of one byte that is refused. -/
theorem bar2_refused {s : State} {t a port : Nat} {d : Dev} (b : Byte) {c : Nat} (hd : d = s.dev.advance t) (hu : d.coreUp = true)
    (hn : d.host.causes = none) (hp : port < 2) (cause : d.bar2Cause a = c) (hc : c ≠ 0) (h16 : c < 16) (ha : a < 2 ^ 32) :
    ∃ e : Dev, exec (.bar2Write t port a [b]) s = .next { s with dev := e } ∧ Reported c port 1 a d e ∧ RegsOnly reportRegs d e := by
  have report := reported d c port 1 a hn h16 hp (by decide) ha
  have runs : exec (.bar2Write t port a [b]) s = .next (after s (d.bar2HostWrite a [b] (port % 2))) :=
    run_host_after s t _ d _ hd (by simp [hu]) rfl
  refine ⟨_, ?_, report⟩
  rw [runs, bar2HostWrite_refused d a _ b cause hc, Nat.mod_eq_of_lt hp, after_of_img hd (img_of report.2)]

/-- Settles O23: the cause is that of the byte's region. -/
theorem bar2ReadOnlyRegion : Obligations.Bar2ReadOnlyRegion := by
  intro s t port a b d hd hu hn hp
  refine ⟨fun region => ?_, fun region ha => ?_⟩
  · have low : a < 0x04000000 := by
      by_contra high
      rw [bar2Region_high (Nat.not_lt.mp high)] at region
      cases region
    exact bar2_refused b hd hu hn hp (bar2Cause_readOnly region hu) (by decide) (by decide) (by omega)
  · exact bar2_refused b hd hu hn hp (bar2Cause_none region) (by decide) (by decide) ha

/-! ## An SPI transfer with a wrong check (R502) -/

section
variable {d : Dev} {command a check : Nat} {words : List Word}

/-- A transfer that is dropped for its CRC is counted. -/
def Dev.spiDropped (d : Dev) : Dev := ({ d with host := { d.host with spiOk := false, spiCrc := true } } : Dev).inc Reg.HOST_SPI.CRC_ERR

theorem spiWrite_wrongCrc (f : Dev → Dev) (first : 1 ≤ words.length) (last : words.length ≤ 64)
    (wrong : (crc16 (spiHead command a words)).toNat ≠ check) : d.spiWrite command a words check f = d.spiDropped :=
  (if_neg (by simp [spiCount, first, last])).trans (if_neg wrong)

theorem spiDropped_says (d : Dev) : d.spiDropped.get Reg.HOST_SPI.CRC_ERR = min 65535 (d.get Reg.HOST_SPI.CRC_ERR + 1) ∧
    RegsOnly [0x150030] { d with host := { d.host with spiOk := false, spiCrc := true } } d.spiDropped :=
  ⟨inc_count _ Reg.HOST_SPI.CRC_ERR (by decide), (RegsOnly.refl _ _).set Reg.HOST_SPI.CRC_ERR _ (by decide)⟩

end

/-- Settles O24: both transfers are dropped before they act. -/
theorem spiWrongCrc : Obligations.SpiWrongCrc := by
  intro s t a check words x d hd hu first last
  have img : after s d.spiDropped = { s with dev := d.spiDropped } := after_of_img hd rfl
  refine ⟨fun wrong => ⟨d.spiDropped, ?_, spiDropped_says d⟩, fun wrong => ⟨d.spiDropped, ?_, spiDropped_says d⟩⟩
  · rw [← img]
    exact run_host_after s t _ d _ hd hu (spiWrite_wrongCrc _ first last wrong)
  · rw [← img]
    exact run_host_after s t _ d _ hd hu (spiWrite_wrongCrc _ first last wrong)

end Sys2Proof.Machine
end
